-- ==== Sys2Proof/Word.lean ====
section
/-! DEFINITION. Word.lean: the machine word, the byte, and the plainest arithmetic on them (R8, R15). -/

namespace Sys2Proof

/-- One 32-bit word of register space or of a stored record (R8). -/
abbrev Word := BitVec 32

/-- One byte; multi-byte values are little-endian (R15). -/
abbrev Byte := BitVec 8

end Sys2Proof
end

