-- ==== Sys2Proof/Kinds.lean ====
section
/-! DEFINITION. Kinds.lean: the operands of the commands, as plain data: who acts, and what the outside world presents
to the part (a sample, a frame, a flit, what start finds). -/

namespace Sys2Proof

abbrev Cluster := Fin 8
abbrev Surface := Fin 32
abbrev Die := Fin 2
abbrev CantonNo := Fin 4
abbrev TaskPort := Fin 1024
abbrev Channel := Fin 16
abbrev StreamerNo := Fin 32
abbrev HLane := Fin 20
abbrev LinkPort := Fin 4
abbrev Crossing := Fin 69

/-- The activities of burgee 0, in the order of R88 and of PRM.BSEL.ACTIVITY. -/
inductive Activity where
  | scrub | patrol | cal | reloc | log
  deriving DecidableEq, Repr

/-- Who makes an access, as R456 distinguishes origins. -/
inductive Origin where
  | link (port : Fin 4) (view : Bool) (func : Fin 256) (burgee : Fin 4096)
  | internal (block : Fin 256) (die : Fin 2) (inst : Fin 32)
  | pin (which : Fin 4) (cluster : Fin 8)
  deriving DecidableEq, Repr

/-- What the part measures at a wedge boundary that ends a revolution: the residual timing skews of the lanes that read
(R162), and whether the standby die's spindle digest differs (R350). -/
structure Boundary where
  skew : List (Surface × Fin 4 × BitVec 16)
  differ : Bool
  deriving DecidableEq, Repr


/-- What a stored word belongs to, where its region alone does not say: a copy whose second copy is uncorrectable too
(R370), a lane's packet, a fragment staged for an open stripe, a decoder's memory, a cell of a port's completion queue (its
record and word), a demand read by a Staff core (R371). -/
inductive MemWhat where
  | plain
  | bothCopies
  | laneBuffer (c : Cluster) (f : Surface)
  | staged (c : Cluster) (f : Surface) (slot : BitVec 32)
  | decoder (k : CantonNo) (d : Fin 20)
  | cell (n : TaskPort) (pos : Fin 4096) (word : Fin 64)
  | staffCore (i : Fin 4)
  deriving DecidableEq, Repr

/-- A stored word: its space (0 DRAM, 1 SRAM of D0, 2 SRAM of D1, 3 canton slices) and byte address, what it belongs
to, and the stored bits that upsets have flipped since it was last stored or read. -/
structure MemAt where
  space : Fin 4
  addr : BitVec 35
  what : MemWhat
  flips : BitVec 40
  deriving DecidableEq, Repr

/-- What one lane's demodulator takes from the head around a servo field (R269, R272, R273): the servo bits from a time on,
given in 2^-24 of a ROOT cycle, one to each SV_BITPER, and the signed amplitudes of the four bursts, each measured over its
middle 32 servo bits with the phase taken from PREAMBLE. -/
structure Sample where
  start : BitVec 96
  bits : List Bool
  a : BitVec 16
  b : BitVec 16
  c : BitVec 16
  d : BitVec 16
  deriving DecidableEq, Repr

/-- Operand B of an ALU operation: a register, or IMM where BIMM is 1 (R302). -/
inductive AluB where
  | reg (r : Fin 16)
  | imm (v : BitVec 32)
  deriving DecidableEq, Repr

end Sys2Proof
end

