-- ==== Sys2Proof/Machine/RegMap.lean ====
section
/-! DEFINITION. Machine/RegMap.lean: the register space as the register tables of spec/ lay it out (R9, R10, R11, and
the register table of every chapter): one name per register, its address, its fields with their access codes and reset
values. Index arguments are the manual's own (port n, cluster c, surface s, die d, canton k, Streamer n, lane n, …). -/

namespace Sys2Proof.Machine

/-- The access codes of R12. -/
inductive Acc where
  | ro | rw | wo | w1c | rwp | po | rc
  deriving DecidableEq, Repr

/-- One field of a register table: its lowest bit, its width, its access code and the reset value stated for it. -/
structure FieldDef where
  lo : Nat
  w : Nat
  acc : Acc
  rst : Nat
  deriving DecidableEq, Repr

/-- One field of one register instance: the register's address, the field's lowest bit and its width. -/
structure Fld where
  addr : Nat
  lo : Nat
  w : Nat
  deriving DecidableEq, Repr

/-- The registers of the register tables, one name per table entry (an indexed entry is one name). -/
inductive RegId where
  | TOP_CLKSTAT | TOP_TIME_LO | TOP_TIME_HI | TOP_CDC_STAT | TOP_RSTCAUSE | PRM_STATUS | PRM_WEDGE_TICKS
  | PRM_GEOM | PRM_TERM | PRM_BSEL | PRM_BCMD | PRM_BVAL | PRM_BDEPTH | PRM_BBAL | PRM_BBOR | PRM_BSTAT
  | PRM_CLU_CAP | PRM_CLU_LEND | PRM_CLU_DEFER | PRM_PROMISED | PRM_LATE | PRM_PHASE_ERR_MAX | PRM_REFUSED
  | TP_CMD | TP_LBA_LO | TP_LBA_HI | TP_COUNT | TP_DEADLINE | TP_SLOT | TP_TARGET | TP_HOIST | TP_PSTAT | TP_DROPS
  | TP_CQ_POP | TP_CQ_COUNT | TP_CQ_REC | TP_SLOTCMD | TP_SLOTOP | TP_SLOTRES | TP_FLAGQ | TP_FLAGR | TP_WVIOL
  | TPT_PORT_CFG | TPT_PORT_STAT | TPT_CREDIT | TPT_CAPACITY_LO | TPT_CAPACITY_HI | TPT_RSEL | TPT_RCMD
  | TPT_RBASE_LO | TPT_RBASE_HI | TPT_RCNT_LO | TPT_RCNT_HI | TPT_ROWN | TPT_RSTAT | CQ_DIE_FREE | CQ_DIE_SHARED
  | CQ_DIE_DROPS | WIN_GSEL | WIN_GCMD | WIN_GBASE | WIN_GCNT | WIN_GOWN | WIN_GSTAT | WIN_HOLD | WIN_BREACH
  | WIN_BR | WIN_FLAGS | LAN_STAT | LAN_CTL | LAN_AFE | LAN_ADCOFF | LAN_ADCGAIN | LAN_ADCSKEW | LAN_SKEWEST
  | LAN_ADCSAT | LAN_WCFG | LAN_WRATE | LAN_PRECOMP | LAN_WCLAMP | LAN_WCUT | LAN_FAULT | SRV_PCB_STAT
  | SRV_PCB_CRCERR | SRV_PCB_NAKS | SRV_PCB_NORESP | SRV_PCB_REGA | SRV_PCB_REGD | SRV_PCB_REGCMD
  | SRV_PCB_REGSTAT | SRV_PCB_FAULT | SRV_PCB_FCAUSE | LOOP_MCB_STAT | LOOP_MCB_FAILS | LOOP_MCB_FCODE
  | LOOP_MCB_REG | LOOP_PF_CFG | LOOP_PF_STAT | LOOP_PF_GLITCH | RCH_STAT | RCH_FREQ | RCH_NOISE | RCH_EQTAP
  | RCH_FRAGS | RCH_SYNC_MISS | RCH_RESYNC_MISS | RCH_SYNC_DUAL | RCH_SYNC_EXTRA | RCH_TA_SPANS | RCH_TA_ERASED
  | RCH_NOSLOT | RCH_CUT | RCH_ZTAB | DEC_K_ACTIVE | DEC_K_SPARE | DEC_K_LOST | DEC_K_A | DEC_K_DECODED
  | DEC_K_ITERSUM | DEC_K_PASS2 | DEC_K_ER_DEADLINE | DEC_K_ER_MISCORRECT | DEC_K_ER_FRAMING | DEC_K_ER_DECODER
  | DEC_K_DUAL_SECOND | DEC_K_DUAL_BOTH | DEC_K_PQ_SKIPPED | DEC_K_REDISPATCH | DEC_K_SLOTS_MAX | DEC_TIMING0
  | DEC_TIMING1 | STR_LAYOUT0 | STR_LAYOUT1 | STR_STAT | STR_LOSTSURF | STR_RLIST | STR_RBUF | STR_REMAP
  | STR_DUMPMIN | STR_REBUILT | STR_STRIPES_LOST | STR_CUTS | STR_FAILED | STR_REPAIRED | STR_DEFERS | STR_SKSEL
  | STR_SKENT | STR_SKCTR | SRV_STAT | SRV_POS_LO | SRV_POS_HI | SRV_TGT | SRV_VEL | SRV_BIAS | SRV_WTR | SRV_WTRF
  | SRV_LASTSEEK | SRV_CFG0 | SRV_CFG1 | SRV_CFG2 | SRV_THR0 | SRV_THR1 | SRV_THR2 | SRV_THR3 | SRV_COEF
  | SRV_SEEK_D | SRV_SEEK_W | SRV_PROF_D | SRV_PROF_V | SRV_SAMMISS | SRV_SEEKS | SRV_OVERRUNS | SRV_SHOCKS
  | SRV_REACQS | SRV_WINH | LAN_MATGT | LAN_MAPOS_LO | LAN_MAPOS_HI | LAN_MACODE | LAN_MAGAIN | LAN_MAPHI
  | LAN_MAINT | LAN_MASTAT | LAN_MAMISS | LAN_MAOT | SEQ_STAT | SEQ_CTL | SEQ_FAULT | SEQ_SAFEMAX | SEQ_INTEN
  | SEQ_INTPEND | SEQ_GFLAG | SEQ_GREG | SEQ_CSADDR | SEQ_CSDATA | SEQ_CSPAR | SEQ_CSCMD | SEQ_CSSTAT | SEQ_PATCH
  | SEQ_PATCHSEQ | SEQ_WORDS | SEQ_WAITS | SEQ_INTS | SEQ_ABORTDROP | LOOP_STAT | LOOP_SPCFG | LOOP_SPREF
  | LOOP_SPOFS | LOOP_SPK0 | LOOP_SPERR | LOOP_SPDRIVE | LOOP_SPCOEF0 | LOOP_SPCOEF1 | LOOP_CLCFG | LOOP_SUPCFG0
  | LOOP_SUPCFG1 | LOOP_CLCFG1 | LOOP_TEMP | LOOP_BIAS | LOOP_BCTR | LOOP_BCOEF0 | LOOP_BCOEF1 | LOOP_TRIPS
  | LOOP_CLRLATE | LOOP_SLEWING | LOOP_SPREF_MISS | LAN_CLSTAT | LAN_CLSP | LAN_CLSENSE | LAN_CLHEAT | LAN_CLCTR
  | LAN_CLCOEF0 | LAN_CLCOEF1 | LAN_CLCOEF2 | LAN_CLCOEF3 | LAN_CLTGT0 | LAN_CLTGT1 | LAN_CLMISS | LAN_CLTRIPS
  | MEM_STAT | MEM_CH_STAT | MEM_CH_SWEEP | MEM_CH_CE | MEM_CH_UE | MEM_CH_CFG | MEM_SRAM_CE | MEM_SRAM_UE
  | MEM_SCRUB_CFG | MEM_SCRUB_PASSES | MEM_SYNCFG | MEM_SYNSEL | MEM_SYNADDR_LO | MEM_SYNADDR_HI | MEM_SYNINFO
  | MEM_SYNTIME_LO | MEM_SYNTIME_HI | MEM_SYNCOUNT | MEM_INJ_ADDR_LO | MEM_INJ_ADDR_HI | MEM_INJ_MASK_LO
  | MEM_INJ_MASK_HI | MEM_INJ_CTL | MEM_REPAIR | CCH_CTL | CCH_CMD | CCH_STAT | CCH_LINES | CCH_EVB | CCH_PFCFG
  | CCH_QLBA_LO | CCH_QLBA_HI | CCH_QRES | CCH_HITS | CCH_FILLS | CCH_NOINSTALL | CCH_TOSTAGE | CCH_EVICT_DIRTY
  | CCH_EVB_HITS | CCH_PF_ISSUED | CCH_PF_DROPPED | CCH_PF_USED | STM_KICK_LO | STM_KICK_HI | STM_CTL | STM_CFG
  | STM_STAT | STM_CUR_LO | STM_CUR_HI | STM_SRC_LO | STM_SRC_HI | STM_DST_LO | STM_DST_HI | STM_IDX0 | STM_IDX1
  | STM_EXCESS | STM_BYTES | STM_DESCS | STM_RELINK | LNK_CFG | LNK_PORT_STAT | LNK_PORT_RXMAP | LNK_PORT_TXMAP
  | LNK_PORT_REPLAYS | LNK_PORT_NAKS | LNK_PORT_RETRAINS | LNK_PORT_BADPKT | LNK_PORT_PRIV | LNK_LANE_STAT
  | LNK_LANE_CORR | LNK_LANE_UNCORR | LNK_LANE_SKEW | LNK_LANE_READDS | LNK_DBEN | LNK_EVTDST | LNK_EVTDROP
  | FLT_STAT | FLT_FIRST | FLT_FIRST_TLO | FLT_FIRST_THI | FLT_FIRST_INFO | FLT_FIRST_ORIGIN | FLT_MASKED
  | FLT_PEND | FLT_SRC | LOG_STAT | LOG_CTL | LOG_FRZLOST | LOG_INLOST | LOG_NEXT | LOG_OPSEC | LOG_PCYCLE
  | LOG_CAL_LO | LOG_CAL_HI | LOG_CALCMD | LOG_RSEL | LOG_RSTAT | LOG_RSRC | LOG_REV | LOG_VVCOUNT | LOG_VVSUPP
  | LOG_FLUSH | TOP_ID | TOP_CLSUP | TOP_PERSONA | TOP_UID_LO | TOP_UID_HI | IMG_STAT | IMG_RESULT | IMG_SEQ
  | IMG_IDENT | IMG_IMGFLOOR | IMG_PATCHFLOOR | IMG_OUT | IMG_RECOVER | CAL_CTL | CAL_CMD | CAL_STAT
  | CAL_REFID_CLK | CAL_REFID_V | CAL_TRIM | CAL_SESSIONS | CAL_GEN | CAL_TSEL | CAL_TDATA | TOP_MONSTAT
  | TOP_VMON | TOP_TJ
  deriving DecidableEq, Repr

/-- One row of the register map: base address, index dimensions (count, stride) from the outermost, fields. -/
structure RegDef where
  id : RegId
  base : Nat
  dims : List (Nat × Nat)
  fields : List FieldDef
  deriving DecidableEq, Repr

def TOP_CLKSTAT : Nat := 0x100
def TOP_CLKSTAT_ROOT_LOCK : Fld := ⟨TOP_CLKSTAT, 0, 1⟩
def TOP_CLKSTAT_REF_OK : Fld := ⟨TOP_CLKSTAT, 1, 1⟩
def TOP_CLKSTAT_HOLDOVER : Fld := ⟨TOP_CLKSTAT, 2, 1⟩
def TOP_CLKSTAT_LOCK_LOST : Fld := ⟨TOP_CLKSTAT, 3, 1⟩
def TOP_CLKSTAT_CALREF_PRESENT : Fld := ⟨TOP_CLKSTAT, 4, 1⟩
def TOP_TIME_LO : Nat := 0x110
def TOP_TIME_LO_TIME_LO : Fld := ⟨TOP_TIME_LO, 0, 32⟩
def TOP_TIME_HI : Nat := 0x114
def TOP_TIME_HI_TIME_HI : Fld := ⟨TOP_TIME_HI, 0, 32⟩
def TOP_CDC_STAT (i : Nat) : Nat := 0x800 + 0x4 * i
def TOP_CDC_STAT_OVERRUN (i : Nat) : Fld := ⟨TOP_CDC_STAT i, 0, 1⟩
def TOP_CDC_STAT_CDC_TIMEOUT (i : Nat) : Fld := ⟨TOP_CDC_STAT i, 1, 1⟩
def TOP_CDC_STAT_CDC_PEER_RESET (i : Nat) : Fld := ⟨TOP_CDC_STAT i, 2, 1⟩
def TOP_CDC_STAT_CLOSED (i : Nat) : Fld := ⟨TOP_CDC_STAT i, 3, 1⟩
def TOP_CDC_STAT_CLK_PRESENT (i : Nat) : Fld := ⟨TOP_CDC_STAT i, 4, 1⟩
def TOP_CDC_STAT_PEER_RESETS (i : Nat) : Fld := ⟨TOP_CDC_STAT i, 16, 16⟩
def TOP_RSTCAUSE : Nat := 0x120
def TOP_RSTCAUSE_POR : Fld := ⟨TOP_RSTCAUSE, 0, 1⟩
def TOP_RSTCAUSE_PIN : Fld := ⟨TOP_RSTCAUSE, 1, 1⟩
def TOP_RSTCAUSE_CHIP : Fld := ⟨TOP_RSTCAUSE, 2, 1⟩
def TOP_RSTCAUSE_ROOTSTOP : Fld := ⟨TOP_RSTCAUSE, 3, 1⟩
def PRM_STATUS : Nat := 0x600000
def PRM_STATUS_OPEN : Fld := ⟨PRM_STATUS, 0, 8⟩
def PRM_STATUS_ENGINE_UP : Fld := ⟨PRM_STATUS, 8, 1⟩
def PRM_STATUS_HANDLES : Fld := ⟨PRM_STATUS, 9, 14⟩
def PRM_WEDGE_TICKS : Nat := 0x600010
def PRM_WEDGE_TICKS_WEDGE_TICKS : Fld := ⟨PRM_WEDGE_TICKS, 0, 32⟩
def PRM_GEOM : Nat := 0x600014
def PRM_GEOM_WPR : Fld := ⟨PRM_GEOM, 0, 10⟩
def PRM_GEOM_HORIZON : Fld := ⟨PRM_GEOM, 16, 7⟩
def PRM_TERM (i : Nat) : Nat := 0x600020 + 0x4 * i
def PRM_TERM_VALUE (i : Nat) : Fld := ⟨PRM_TERM i, 0, 16⟩
def PRM_BSEL : Nat := 0x600100
def PRM_BSEL_BURGEE : Fld := ⟨PRM_BSEL, 0, 12⟩
def PRM_BSEL_CLUSTER : Fld := ⟨PRM_BSEL, 12, 3⟩
def PRM_BSEL_ACTIVITY : Fld := ⟨PRM_BSEL, 16, 3⟩
def PRM_BCMD : Nat := 0x600104
def PRM_BCMD_OP : Fld := ⟨PRM_BCMD, 0, 2⟩
def PRM_BVAL : Nat := 0x600108
def PRM_BVAL_SHARE : Fld := ⟨PRM_BVAL, 0, 16⟩
def PRM_BVAL_CEILING : Fld := ⟨PRM_BVAL, 16, 16⟩
def PRM_BDEPTH : Nat := 0x60010c
def PRM_BDEPTH_DEPTH : Fld := ⟨PRM_BDEPTH, 0, 7⟩
def PRM_BBAL : Nat := 0x600110
def PRM_BBAL_BALANCE : Fld := ⟨PRM_BBAL, 0, 32⟩
def PRM_BBOR : Nat := 0x600114
def PRM_BBOR_BORROWED : Fld := ⟨PRM_BBOR, 0, 16⟩
def PRM_BSTAT : Nat := 0x600118
def PRM_BSTAT_BUSY : Fld := ⟨PRM_BSTAT, 0, 1⟩
def PRM_BSTAT_ERR : Fld := ⟨PRM_BSTAT, 1, 3⟩
def PRM_CLU_CAP (i : Nat) : Nat := 0x600200 + 0x20 * i
def PRM_CLU_CAP_CAP (i : Nat) : Fld := ⟨PRM_CLU_CAP i, 0, 16⟩
def PRM_CLU_CAP_SHARED (i : Nat) : Fld := ⟨PRM_CLU_CAP i, 16, 16⟩
def PRM_CLU_LEND (i : Nat) : Nat := 0x600204 + 0x20 * i
def PRM_CLU_LEND_LEND (i : Nat) : Fld := ⟨PRM_CLU_LEND i, 0, 16⟩
def PRM_CLU_LEND_ROWS (i : Nat) : Fld := ⟨PRM_CLU_LEND i, 16, 11⟩
def PRM_CLU_DEFER (i : Nat) : Nat := 0x600208 + 0x20 * i
def PRM_CLU_DEFER_DEFERS (i : Nat) : Fld := ⟨PRM_CLU_DEFER i, 0, 32⟩
def PRM_PROMISED : Nat := 0x600300
def PRM_PROMISED_COUNT : Fld := ⟨PRM_PROMISED, 0, 32⟩
def PRM_LATE : Nat := 0x600304
def PRM_LATE_COUNT : Fld := ⟨PRM_LATE, 0, 32⟩
def PRM_PHASE_ERR_MAX : Nat := 0x600308
def PRM_PHASE_ERR_MAX_TICKS : Fld := ⟨PRM_PHASE_ERR_MAX, 0, 16⟩
def PRM_REFUSED (i : Nat) : Nat := 0x600344 + 0x4 * i
def PRM_REFUSED_COUNT (i : Nat) : Fld := ⟨PRM_REFUSED i, 0, 32⟩
def TP_CMD (i : Nat) : Nat := 0x2000000 + 0x1000 * i
def TP_CMD_OPCODE (i : Nat) : Fld := ⟨TP_CMD i, 0, 8⟩
def TP_CMD_FLAGS (i : Nat) : Fld := ⟨TP_CMD i, 8, 8⟩
def TP_CMD_TAG (i : Nat) : Fld := ⟨TP_CMD i, 16, 16⟩
def TP_LBA_LO (i : Nat) : Nat := 0x2000004 + 0x1000 * i
def TP_LBA_LO_LBA_LO (i : Nat) : Fld := ⟨TP_LBA_LO i, 0, 32⟩
def TP_LBA_HI (i : Nat) : Nat := 0x2000008 + 0x1000 * i
def TP_LBA_HI_LBA_HI (i : Nat) : Fld := ⟨TP_LBA_HI i, 0, 16⟩
def TP_COUNT (i : Nat) : Nat := 0x200000c + 0x1000 * i
def TP_COUNT_COUNT (i : Nat) : Fld := ⟨TP_COUNT i, 0, 13⟩
def TP_DEADLINE (i : Nat) : Nat := 0x2000010 + 0x1000 * i
def TP_DEADLINE_DEADLINE (i : Nat) : Fld := ⟨TP_DEADLINE i, 0, 32⟩
def TP_SLOT (i : Nat) : Nat := 0x2000014 + 0x1000 * i
def TP_SLOT_SLOT (i : Nat) : Fld := ⟨TP_SLOT i, 0, 21⟩
def TP_TARGET (i : Nat) : Nat := 0x2000018 + 0x1000 * i
def TP_TARGET_TARGET (i : Nat) : Fld := ⟨TP_TARGET i, 0, 16⟩
def TP_HOIST (i : Nat) : Nat := 0x2000020 + 0x1000 * i
def TP_HOIST_HOIST (i : Nat) : Fld := ⟨TP_HOIST i, 0, 1⟩
def TP_PSTAT (i : Nat) : Nat := 0x2000024 + 0x1000 * i
def TP_PSTAT_LIVE (i : Nat) : Fld := ⟨TP_PSTAT i, 0, 9⟩
def TP_PSTAT_FULL (i : Nat) : Fld := ⟨TP_PSTAT i, 9, 1⟩
def TP_PSTAT_DRAINING (i : Nat) : Fld := ⟨TP_PSTAT i, 10, 1⟩
def TP_DROPS (i : Nat) : Nat := 0x2000028 + 0x1000 * i
def TP_DROPS_DROPS (i : Nat) : Fld := ⟨TP_DROPS i, 0, 32⟩
def TP_CQ_POP (i : Nat) : Nat := 0x2000040 + 0x1000 * i
def TP_CQ_POP_LENGTH (i : Nat) : Fld := ⟨TP_CQ_POP i, 0, 32⟩
def TP_CQ_COUNT (i : Nat) : Nat := 0x2000044 + 0x1000 * i
def TP_CQ_COUNT_RECORDS (i : Nat) : Fld := ⟨TP_CQ_COUNT i, 0, 18⟩
def TP_CQ_REC (i j : Nat) : Nat := 0x2000100 + 0x1000 * i + 0x4 * j
def TP_CQ_REC_WORD (i j : Nat) : Fld := ⟨TP_CQ_REC i j, 0, 32⟩
def TP_SLOTCMD (i : Nat) : Nat := 0x2000200 + 0x1000 * i
def TP_SLOTCMD_FIRST (i : Nat) : Fld := ⟨TP_SLOTCMD i, 0, 21⟩
def TP_SLOTOP (i : Nat) : Nat := 0x2000204 + 0x1000 * i
def TP_SLOTOP_NUM (i : Nat) : Fld := ⟨TP_SLOTOP i, 0, 22⟩
def TP_SLOTOP_OP (i : Nat) : Fld := ⟨TP_SLOTOP i, 28, 2⟩
def TP_SLOTRES (i : Nat) : Nat := 0x2000208 + 0x1000 * i
def TP_SLOTRES_RESULT (i : Nat) : Fld := ⟨TP_SLOTRES i, 0, 2⟩
def TP_SLOTRES_SKIPPED (i : Nat) : Fld := ⟨TP_SLOTRES i, 2, 22⟩
def TP_SLOTRES_BUSY (i : Nat) : Fld := ⟨TP_SLOTRES i, 31, 1⟩
def TP_FLAGQ (i : Nat) : Nat := 0x2000210 + 0x1000 * i
def TP_FLAGQ_SLOT (i : Nat) : Fld := ⟨TP_FLAGQ i, 0, 21⟩
def TP_FLAGR (i : Nat) : Nat := 0x2000214 + 0x1000 * i
def TP_FLAGR_FLAGS (i : Nat) : Fld := ⟨TP_FLAGR i, 0, 32⟩
def TP_WVIOL (i : Nat) : Nat := 0x2000220 + 0x1000 * i
def TP_WVIOL_COUNT (i : Nat) : Fld := ⟨TP_WVIOL i, 0, 32⟩
def TPT_PORT_CFG (i : Nat) : Nat := 0x700000 + 0x4 * i
def TPT_PORT_CFG_BURGEE (i : Nat) : Fld := ⟨TPT_PORT_CFG i, 0, 12⟩
def TPT_PORT_CFG_DEPTH (i : Nat) : Fld := ⟨TPT_PORT_CFG i, 12, 9⟩
def TPT_PORT_CFG_ENABLE (i : Nat) : Fld := ⟨TPT_PORT_CFG i, 31, 1⟩
def TPT_PORT_STAT (i : Nat) : Nat := 0x701000 + 0x4 * i
def TPT_PORT_STAT_LIVE (i : Nat) : Fld := ⟨TPT_PORT_STAT i, 0, 9⟩
def TPT_PORT_STAT_DRAINING (i : Nat) : Fld := ⟨TPT_PORT_STAT i, 9, 1⟩
def TPT_PORT_STAT_CFG_REJECT (i : Nat) : Fld := ⟨TPT_PORT_STAT i, 10, 1⟩
def TPT_CREDIT (i : Nat) : Nat := 0x702000 + 0x4 * i
def TPT_CREDIT_CREDITED (i : Nat) : Fld := ⟨TPT_CREDIT i, 0, 17⟩
def TPT_CAPACITY_LO : Nat := 0x702010
def TPT_CAPACITY_LO_CAP_LO : Fld := ⟨TPT_CAPACITY_LO, 0, 32⟩
def TPT_CAPACITY_HI : Nat := 0x702014
def TPT_CAPACITY_HI_CAP_HI : Fld := ⟨TPT_CAPACITY_HI, 0, 16⟩
def TPT_RSEL : Nat := 0x703000
def TPT_RSEL_ENTRY : Fld := ⟨TPT_RSEL, 0, 12⟩
def TPT_RCMD : Nat := 0x703004
def TPT_RCMD_OP : Fld := ⟨TPT_RCMD, 0, 2⟩
def TPT_RBASE_LO : Nat := 0x703008
def TPT_RBASE_LO_BASE_LO : Fld := ⟨TPT_RBASE_LO, 0, 32⟩
def TPT_RBASE_HI : Nat := 0x70300c
def TPT_RBASE_HI_BASE_HI : Fld := ⟨TPT_RBASE_HI, 0, 16⟩
def TPT_RCNT_LO : Nat := 0x703010
def TPT_RCNT_LO_CNT_LO : Fld := ⟨TPT_RCNT_LO, 0, 32⟩
def TPT_RCNT_HI : Nat := 0x703014
def TPT_RCNT_HI_CNT_HI : Fld := ⟨TPT_RCNT_HI, 0, 16⟩
def TPT_ROWN : Nat := 0x703018
def TPT_ROWN_BURGEE : Fld := ⟨TPT_ROWN, 0, 12⟩
def TPT_ROWN_READ : Fld := ⟨TPT_ROWN, 16, 1⟩
def TPT_ROWN_WRITE : Fld := ⟨TPT_ROWN, 17, 1⟩
def TPT_RSTAT : Nat := 0x70301c
def TPT_RSTAT_BUSY : Fld := ⟨TPT_RSTAT, 0, 1⟩
def TPT_RSTAT_ERR : Fld := ⟨TPT_RSTAT, 1, 2⟩
def CQ_DIE_FREE (i : Nat) : Nat := 0x800000 + 0x10 * i
def CQ_DIE_FREE_FREE (i : Nat) : Fld := ⟨CQ_DIE_FREE i, 0, 18⟩
def CQ_DIE_SHARED (i : Nat) : Nat := 0x800004 + 0x10 * i
def CQ_DIE_SHARED_SHARED_FREE (i : Nat) : Fld := ⟨CQ_DIE_SHARED i, 0, 18⟩
def CQ_DIE_DROPS (i : Nat) : Nat := 0x800008 + 0x10 * i
def CQ_DIE_DROPS_DROPS (i : Nat) : Fld := ⟨CQ_DIE_DROPS i, 0, 32⟩
def WIN_GSEL : Nat := 0x900000
def WIN_GSEL_ENTRY : Fld := ⟨WIN_GSEL, 0, 12⟩
def WIN_GCMD : Nat := 0x900004
def WIN_GCMD_OP : Fld := ⟨WIN_GCMD, 0, 2⟩
def WIN_GBASE : Nat := 0x900008
def WIN_GBASE_BASE : Fld := ⟨WIN_GBASE, 0, 21⟩
def WIN_GCNT : Nat := 0x90000c
def WIN_GCNT_NUM : Fld := ⟨WIN_GCNT, 0, 22⟩
def WIN_GOWN : Nat := 0x900010
def WIN_GOWN_BURGEE : Fld := ⟨WIN_GOWN, 0, 12⟩
def WIN_GOWN_VALID : Fld := ⟨WIN_GOWN, 31, 1⟩
def WIN_GSTAT : Nat := 0x900014
def WIN_GSTAT_BUSY : Fld := ⟨WIN_GSTAT, 0, 1⟩
def WIN_GSTAT_ERR : Fld := ⟨WIN_GSTAT, 1, 2⟩
def WIN_HOLD : Nat := 0x900020
def WIN_HOLD_LIMIT_MS : Fld := ⟨WIN_HOLD, 0, 16⟩
def WIN_BREACH : Nat := 0x900024
def WIN_BREACH_COUNT : Fld := ⟨WIN_BREACH, 0, 32⟩
def WIN_BR (i : Nat) : Nat := 0x901000 + 0x4 * i
def WIN_BR_BURGEES (i : Nat) : Fld := ⟨WIN_BR i, 0, 32⟩
def WIN_FLAGS (i : Nat) : Nat := 0x980000 + 0x4 * i
def WIN_FLAGS_FLAGS (i : Nat) : Fld := ⟨WIN_FLAGS i, 0, 32⟩
def LAN_STAT (c s : Nat) : Nat := 0x1080000 + 0x100000 * c + 0x4000 * s
def LAN_STAT_MODE (c s : Nat) : Fld := ⟨LAN_STAT c s, 0, 2⟩
def LAN_STAT_LOST (c s : Nat) : Fld := ⟨LAN_STAT c s, 2, 1⟩
def LAN_STAT_WINH (c s : Nat) : Fld := ⟨LAN_STAT c s, 3, 1⟩
def LAN_STAT_WINH_WHY (c s : Nat) : Fld := ⟨LAN_STAT c s, 4, 4⟩
def LAN_CTL (c s : Nat) : Nat := 0x1080004 + 0x100000 * c + 0x4000 * s
def LAN_CTL_HOST_WINH (c s : Nat) : Fld := ⟨LAN_CTL c s, 0, 1⟩
def LAN_CTL_RETIRE (c s : Nat) : Fld := ⟨LAN_CTL c s, 1, 1⟩
def LAN_AFE (c s : Nat) : Nat := 0x1080010 + 0x100000 * c + 0x4000 * s
def LAN_AFE_GAIN (c s : Nat) : Fld := ⟨LAN_AFE c s, 0, 8⟩
def LAN_AFE_BOOST (c s : Nat) : Fld := ⟨LAN_AFE c s, 8, 5⟩
def LAN_AFE_CORNER (c s : Nat) : Fld := ⟨LAN_AFE c s, 13, 4⟩
def LAN_AFE_TERM_EN (c s : Nat) : Fld := ⟨LAN_AFE c s, 17, 1⟩
def LAN_AFE_HPF_FAST (c s : Nat) : Fld := ⟨LAN_AFE c s, 18, 1⟩
def LAN_ADCOFF (c s j : Nat) : Nat := 0x1080020 + 0x100000 * c + 0x4000 * s + 0x4 * j
def LAN_ADCOFF_OFFSET (c s j : Nat) : Fld := ⟨LAN_ADCOFF c s j, 0, 8⟩
def LAN_ADCGAIN (c s j : Nat) : Nat := 0x1080030 + 0x100000 * c + 0x4000 * s + 0x4 * j
def LAN_ADCGAIN_GAIN (c s j : Nat) : Fld := ⟨LAN_ADCGAIN c s j, 0, 13⟩
def LAN_ADCSKEW (c s j : Nat) : Nat := 0x1080040 + 0x100000 * c + 0x4000 * s + 0x4 * j
def LAN_ADCSKEW_SKEW (c s j : Nat) : Fld := ⟨LAN_ADCSKEW c s j, 0, 7⟩
def LAN_SKEWEST (c s j : Nat) : Nat := 0x1080060 + 0x100000 * c + 0x4000 * s + 0x4 * j
def LAN_SKEWEST_EST (c s j : Nat) : Fld := ⟨LAN_SKEWEST c s j, 0, 16⟩
def LAN_ADCSAT (c s : Nat) : Nat := 0x1080070 + 0x100000 * c + 0x4000 * s
def LAN_ADCSAT_COUNT (c s : Nat) : Fld := ⟨LAN_ADCSAT c s, 0, 32⟩
def LAN_WCFG (c s : Nat) : Nat := 0x1080080 + 0x100000 * c + 0x4000 * s
def LAN_WCFG_SWING (c s : Nat) : Fld := ⟨LAN_WCFG c s, 0, 6⟩
def LAN_WCFG_PRECOMP_EN (c s : Nat) : Fld := ⟨LAN_WCFG c s, 6, 1⟩
def LAN_WRATE (c s : Nat) : Nat := 0x1080084 + 0x100000 * c + 0x4000 * s
def LAN_WRATE_WRATE (c s : Nat) : Fld := ⟨LAN_WRATE c s, 0, 32⟩
def LAN_PRECOMP (c s j : Nat) : Nat := 0x1080090 + 0x100000 * c + 0x4000 * s + 0x4 * j
def LAN_PRECOMP_DELAY (c s j : Nat) : Fld := ⟨LAN_PRECOMP c s j, 0, 6⟩
def LAN_WCLAMP (c s : Nat) : Nat := 0x10800b0 + 0x100000 * c + 0x4000 * s
def LAN_WCLAMP_COUNT (c s : Nat) : Fld := ⟨LAN_WCLAMP c s, 0, 32⟩
def LAN_WCUT (c s : Nat) : Nat := 0x10800b4 + 0x100000 * c + 0x4000 * s
def LAN_WCUT_COUNT (c s : Nat) : Fld := ⟨LAN_WCUT c s, 0, 32⟩
def LAN_FAULT (c s : Nat) : Nat := 0x10800c0 + 0x100000 * c + 0x4000 * s
def LAN_FAULT_ADC_STUCK (c s : Nat) : Fld := ⟨LAN_FAULT c s, 0, 1⟩
def LAN_FAULT_PREAMP (c s : Nat) : Fld := ⟨LAN_FAULT c s, 1, 1⟩
def LAN_FAULT_MODE_FAIL (c s : Nat) : Fld := ⟨LAN_FAULT c s, 2, 1⟩
def SRV_PCB_STAT (c : Nat) : Nat := 0x100f004 + 0x100000 * c
def SRV_PCB_STAT_UP (c : Nat) : Fld := ⟨SRV_PCB_STAT c, 0, 1⟩
def SRV_PCB_STAT_LOST (c : Nat) : Fld := ⟨SRV_PCB_STAT c, 1, 1⟩
def SRV_PCB_STAT_PFLT (c : Nat) : Fld := ⟨SRV_PCB_STAT c, 2, 1⟩
def SRV_PCB_CRCERR (c : Nat) : Nat := 0x100f008 + 0x100000 * c
def SRV_PCB_CRCERR_COUNT (c : Nat) : Fld := ⟨SRV_PCB_CRCERR c, 0, 32⟩
def SRV_PCB_NAKS (c : Nat) : Nat := 0x100f00c + 0x100000 * c
def SRV_PCB_NAKS_COUNT (c : Nat) : Fld := ⟨SRV_PCB_NAKS c, 0, 32⟩
def SRV_PCB_NORESP (c : Nat) : Nat := 0x100f010 + 0x100000 * c
def SRV_PCB_NORESP_COUNT (c : Nat) : Fld := ⟨SRV_PCB_NORESP c, 0, 32⟩
def SRV_PCB_REGA (c : Nat) : Nat := 0x100f020 + 0x100000 * c
def SRV_PCB_REGA_ADDR (c : Nat) : Fld := ⟨SRV_PCB_REGA c, 0, 16⟩
def SRV_PCB_REGD (c : Nat) : Nat := 0x100f024 + 0x100000 * c
def SRV_PCB_REGD_DATA (c : Nat) : Fld := ⟨SRV_PCB_REGD c, 0, 16⟩
def SRV_PCB_REGCMD (c : Nat) : Nat := 0x100f028 + 0x100000 * c
def SRV_PCB_REGCMD_OP (c : Nat) : Fld := ⟨SRV_PCB_REGCMD c, 0, 2⟩
def SRV_PCB_REGSTAT (c : Nat) : Nat := 0x100f02c + 0x100000 * c
def SRV_PCB_REGSTAT_BUSY (c : Nat) : Fld := ⟨SRV_PCB_REGSTAT c, 0, 1⟩
def SRV_PCB_REGSTAT_ERR (c : Nat) : Fld := ⟨SRV_PCB_REGSTAT c, 1, 1⟩
def SRV_PCB_FAULT (c i : Nat) : Nat := 0x100f030 + 0x100000 * c + 0x4 * i
def SRV_PCB_FAULT_SURFACES (c i : Nat) : Fld := ⟨SRV_PCB_FAULT c i, 0, 32⟩
def SRV_PCB_FCAUSE (c : Nat) : Nat := 0x100f038 + 0x100000 * c
def SRV_PCB_FCAUSE_CAUSE (c : Nat) : Fld := ⟨SRV_PCB_FCAUSE c, 0, 8⟩
def LOOP_MCB_STAT : Nat := 0xdf0000
def LOOP_MCB_STAT_UP : Fld := ⟨LOOP_MCB_STAT, 0, 1⟩
def LOOP_MCB_STAT_MASTER : Fld := ⟨LOOP_MCB_STAT, 1, 1⟩
def LOOP_MCB_STAT_REG_ERR : Fld := ⟨LOOP_MCB_STAT, 2, 1⟩
def LOOP_MCB_STAT_DRV_FAULT : Fld := ⟨LOOP_MCB_STAT, 3, 1⟩
def LOOP_MCB_FAILS : Nat := 0xdf0004
def LOOP_MCB_FAILS_COUNT : Fld := ⟨LOOP_MCB_FAILS, 0, 32⟩
def LOOP_MCB_FCODE : Nat := 0xdf0008
def LOOP_MCB_FCODE_FAULT : Fld := ⟨LOOP_MCB_FCODE, 0, 24⟩
def LOOP_MCB_REG : Nat := 0xdf0010
def LOOP_MCB_REG_ADDR : Fld := ⟨LOOP_MCB_REG, 0, 8⟩
def LOOP_MCB_REG_DATA : Fld := ⟨LOOP_MCB_REG, 8, 16⟩
def LOOP_MCB_REG_OP : Fld := ⟨LOOP_MCB_REG, 24, 2⟩
def LOOP_MCB_REG_BUSY : Fld := ⟨LOOP_MCB_REG, 31, 1⟩
def LOOP_PF_CFG : Nat := 0xdf0020
def LOOP_PF_CFG_WRITE_MS : Fld := ⟨LOOP_PF_CFG, 0, 5⟩
def LOOP_PF_STAT : Nat := 0xdf0024
def LOOP_PF_STAT_PHASE : Fld := ⟨LOOP_PF_STAT, 0, 3⟩
def LOOP_PF_GLITCH : Nat := 0xdf0028
def LOOP_PF_GLITCH_COUNT : Fld := ⟨LOOP_PF_GLITCH, 0, 32⟩
def RCH_STAT (c s : Nat) : Nat := 0x1082000 + 0x100000 * c + 0x4000 * s
def RCH_STAT_ZONE (c s : Nat) : Fld := ⟨RCH_STAT c s, 0, 6⟩
def RCH_STAT_ACTIVE (c s : Nat) : Fld := ⟨RCH_STAT c s, 6, 1⟩
def RCH_STAT_PHASE (c s : Nat) : Fld := ⟨RCH_STAT c s, 7, 2⟩
def RCH_FREQ (c s : Nat) : Nat := 0x1082004 + 0x100000 * c + 0x4000 * s
def RCH_FREQ_FREQ (c s : Nat) : Fld := ⟨RCH_FREQ c s, 0, 32⟩
def RCH_NOISE (c s : Nat) : Nat := 0x1082008 + 0x100000 * c + 0x4000 * s
def RCH_NOISE_SIGMA2 (c s : Nat) : Fld := ⟨RCH_NOISE c s, 0, 16⟩
def RCH_EQTAP (c s j : Nat) : Nat := 0x1082040 + 0x100000 * c + 0x4000 * s + 0x4 * j
def RCH_EQTAP_TAP (c s j : Nat) : Fld := ⟨RCH_EQTAP c s j, 0, 10⟩
def RCH_FRAGS (c s : Nat) : Nat := 0x1082100 + 0x100000 * c + 0x4000 * s
def RCH_FRAGS_COUNT (c s : Nat) : Fld := ⟨RCH_FRAGS c s, 0, 32⟩
def RCH_SYNC_MISS (c s : Nat) : Nat := 0x1082104 + 0x100000 * c + 0x4000 * s
def RCH_SYNC_MISS_COUNT (c s : Nat) : Fld := ⟨RCH_SYNC_MISS c s, 0, 32⟩
def RCH_RESYNC_MISS (c s : Nat) : Nat := 0x1082108 + 0x100000 * c + 0x4000 * s
def RCH_RESYNC_MISS_COUNT (c s : Nat) : Fld := ⟨RCH_RESYNC_MISS c s, 0, 32⟩
def RCH_SYNC_DUAL (c s : Nat) : Nat := 0x108210c + 0x100000 * c + 0x4000 * s
def RCH_SYNC_DUAL_COUNT (c s : Nat) : Fld := ⟨RCH_SYNC_DUAL c s, 0, 32⟩
def RCH_SYNC_EXTRA (c s : Nat) : Nat := 0x1082110 + 0x100000 * c + 0x4000 * s
def RCH_SYNC_EXTRA_COUNT (c s : Nat) : Fld := ⟨RCH_SYNC_EXTRA c s, 0, 32⟩
def RCH_TA_SPANS (c s : Nat) : Nat := 0x1082114 + 0x100000 * c + 0x4000 * s
def RCH_TA_SPANS_COUNT (c s : Nat) : Fld := ⟨RCH_TA_SPANS c s, 0, 32⟩
def RCH_TA_ERASED (c s : Nat) : Nat := 0x1082118 + 0x100000 * c + 0x4000 * s
def RCH_TA_ERASED_COUNT (c s : Nat) : Fld := ⟨RCH_TA_ERASED c s, 0, 32⟩
def RCH_NOSLOT (c s : Nat) : Nat := 0x108211c + 0x100000 * c + 0x4000 * s
def RCH_NOSLOT_COUNT (c s : Nat) : Fld := ⟨RCH_NOSLOT c s, 0, 32⟩
def RCH_CUT (c s : Nat) : Nat := 0x1082120 + 0x100000 * c + 0x4000 * s
def RCH_CUT_COUNT (c s : Nat) : Fld := ⟨RCH_CUT c s, 0, 32⟩
def RCH_ZTAB (c s j : Nat) : Nat := 0x1083000 + 0x100000 * c + 0x4000 * s + 0x4 * j
def RCH_ZTAB_WORD (c s j : Nat) : Fld := ⟨RCH_ZTAB c s j, 0, 32⟩
def DEC_K_ACTIVE (i : Nat) : Nat := 0xe00000 + 0x1000 * i
def DEC_K_ACTIVE_MASK (i : Nat) : Fld := ⟨DEC_K_ACTIVE i, 0, 20⟩
def DEC_K_SPARE (i : Nat) : Nat := 0xe00004 + 0x1000 * i
def DEC_K_SPARE_MASK (i : Nat) : Fld := ⟨DEC_K_SPARE i, 0, 20⟩
def DEC_K_LOST (i : Nat) : Nat := 0xe00008 + 0x1000 * i
def DEC_K_LOST_MASK (i : Nat) : Fld := ⟨DEC_K_LOST i, 0, 20⟩
def DEC_K_A (i : Nat) : Nat := 0xe0000c + 0x1000 * i
def DEC_K_A_A (i : Nat) : Fld := ⟨DEC_K_A i, 0, 5⟩
def DEC_K_DECODED (i : Nat) : Nat := 0xe00100 + 0x1000 * i
def DEC_K_DECODED_COUNT (i : Nat) : Fld := ⟨DEC_K_DECODED i, 0, 32⟩
def DEC_K_ITERSUM (i : Nat) : Nat := 0xe00104 + 0x1000 * i
def DEC_K_ITERSUM_COUNT (i : Nat) : Fld := ⟨DEC_K_ITERSUM i, 0, 32⟩
def DEC_K_PASS2 (i : Nat) : Nat := 0xe00108 + 0x1000 * i
def DEC_K_PASS2_COUNT (i : Nat) : Fld := ⟨DEC_K_PASS2 i, 0, 32⟩
def DEC_K_ER_DEADLINE (i : Nat) : Nat := 0xe0010c + 0x1000 * i
def DEC_K_ER_DEADLINE_COUNT (i : Nat) : Fld := ⟨DEC_K_ER_DEADLINE i, 0, 32⟩
def DEC_K_ER_MISCORRECT (i : Nat) : Nat := 0xe00110 + 0x1000 * i
def DEC_K_ER_MISCORRECT_COUNT (i : Nat) : Fld := ⟨DEC_K_ER_MISCORRECT i, 0, 32⟩
def DEC_K_ER_FRAMING (i : Nat) : Nat := 0xe00114 + 0x1000 * i
def DEC_K_ER_FRAMING_COUNT (i : Nat) : Fld := ⟨DEC_K_ER_FRAMING i, 0, 32⟩
def DEC_K_ER_DECODER (i : Nat) : Nat := 0xe00118 + 0x1000 * i
def DEC_K_ER_DECODER_COUNT (i : Nat) : Fld := ⟨DEC_K_ER_DECODER i, 0, 32⟩
def DEC_K_DUAL_SECOND (i : Nat) : Nat := 0xe0011c + 0x1000 * i
def DEC_K_DUAL_SECOND_COUNT (i : Nat) : Fld := ⟨DEC_K_DUAL_SECOND i, 0, 32⟩
def DEC_K_DUAL_BOTH (i : Nat) : Nat := 0xe00120 + 0x1000 * i
def DEC_K_DUAL_BOTH_COUNT (i : Nat) : Fld := ⟨DEC_K_DUAL_BOTH i, 0, 32⟩
def DEC_K_PQ_SKIPPED (i : Nat) : Nat := 0xe00124 + 0x1000 * i
def DEC_K_PQ_SKIPPED_COUNT (i : Nat) : Fld := ⟨DEC_K_PQ_SKIPPED i, 0, 32⟩
def DEC_K_REDISPATCH (i : Nat) : Nat := 0xe00128 + 0x1000 * i
def DEC_K_REDISPATCH_COUNT (i : Nat) : Fld := ⟨DEC_K_REDISPATCH i, 0, 32⟩
def DEC_K_SLOTS_MAX (i : Nat) : Nat := 0xe0012c + 0x1000 * i
def DEC_K_SLOTS_MAX_SLOTS (i : Nat) : Fld := ⟨DEC_K_SLOTS_MAX i, 0, 8⟩
def DEC_TIMING0 : Nat := 0xef0000
def DEC_TIMING0_T_FIX : Fld := ⟨DEC_TIMING0, 0, 16⟩
def DEC_TIMING0_T_ITER : Fld := ⟨DEC_TIMING0, 16, 16⟩
def DEC_TIMING1 : Nat := 0xef0004
def DEC_TIMING1_T_REDET : Fld := ⟨DEC_TIMING1, 0, 16⟩
def DEC_TIMING1_MARGIN : Fld := ⟨DEC_TIMING1, 16, 16⟩
def STR_LAYOUT0 (c : Nat) : Nat := 0x1010000 + 0x100000 * c
def STR_LAYOUT0_BASE_TRACK (c : Nat) : Fld := ⟨STR_LAYOUT0 c, 0, 26⟩
def STR_LAYOUT1 (c : Nat) : Nat := 0x1010004 + 0x100000 * c
def STR_LAYOUT1_SYS_TRACKS (c : Nat) : Fld := ⟨STR_LAYOUT1 c, 0, 10⟩
def STR_LAYOUT1_TSKEW (c : Nat) : Fld := ⟨STR_LAYOUT1 c, 10, 4⟩
def STR_STAT (c : Nat) : Nat := 0x1010010 + 0x100000 * c
def STR_STAT_WRITES (c : Nat) : Fld := ⟨STR_STAT c, 0, 1⟩
def STR_STAT_RBUF_HIGH (c : Nat) : Fld := ⟨STR_STAT c, 1, 1⟩
def STR_STAT_RLIST_HIGH (c : Nat) : Fld := ⟨STR_STAT c, 2, 1⟩
def STR_STAT_CLAMPED (c : Nat) : Fld := ⟨STR_STAT c, 3, 1⟩
def STR_STAT_LOSTN (c : Nat) : Fld := ⟨STR_STAT c, 4, 2⟩
def STR_LOSTSURF (c : Nat) : Nat := 0x1010014 + 0x100000 * c
def STR_LOSTSURF_MASK (c : Nat) : Fld := ⟨STR_LOSTSURF c, 0, 32⟩
def STR_RLIST (c : Nat) : Nat := 0x1010020 + 0x100000 * c
def STR_RLIST_USED (c : Nat) : Fld := ⟨STR_RLIST c, 0, 21⟩
def STR_RBUF (c : Nat) : Nat := 0x1010024 + 0x100000 * c
def STR_RBUF_USED (c : Nat) : Fld := ⟨STR_RBUF c, 0, 9⟩
def STR_REMAP (c : Nat) : Nat := 0x1010028 + 0x100000 * c
def STR_REMAP_USED (c : Nat) : Fld := ⟨STR_REMAP c, 0, 15⟩
def STR_DUMPMIN (c : Nat) : Nat := 0x101002c + 0x100000 * c
def STR_DUMPMIN_DUMPMIN_US (c : Nat) : Fld := ⟨STR_DUMPMIN c, 0, 16⟩
def STR_REBUILT (c : Nat) : Nat := 0x1010100 + 0x100000 * c
def STR_REBUILT_COUNT (c : Nat) : Fld := ⟨STR_REBUILT c, 0, 32⟩
def STR_STRIPES_LOST (c : Nat) : Nat := 0x1010104 + 0x100000 * c
def STR_STRIPES_LOST_COUNT (c : Nat) : Fld := ⟨STR_STRIPES_LOST c, 0, 32⟩
def STR_CUTS (c : Nat) : Nat := 0x1010108 + 0x100000 * c
def STR_CUTS_COUNT (c : Nat) : Fld := ⟨STR_CUTS c, 0, 32⟩
def STR_FAILED (c : Nat) : Nat := 0x101010c + 0x100000 * c
def STR_FAILED_COUNT (c : Nat) : Fld := ⟨STR_FAILED c, 0, 32⟩
def STR_REPAIRED (c : Nat) : Nat := 0x1010110 + 0x100000 * c
def STR_REPAIRED_COUNT (c : Nat) : Fld := ⟨STR_REPAIRED c, 0, 32⟩
def STR_DEFERS (c : Nat) : Nat := 0x1010114 + 0x100000 * c
def STR_DEFERS_COUNT (c : Nat) : Fld := ⟨STR_DEFERS c, 0, 32⟩
def STR_SKSEL (c : Nat) : Nat := 0x1010200 + 0x100000 * c
def STR_SKSEL_REGION (c : Nat) : Fld := ⟨STR_SKSEL c, 0, 11⟩
def STR_SKSEL_SURFACE (c : Nat) : Fld := ⟨STR_SKSEL c, 16, 5⟩
def STR_SKENT (c : Nat) : Nat := 0x1010204 + 0x100000 * c
def STR_SKENT_HOFF (c : Nat) : Fld := ⟨STR_SKENT c, 0, 8⟩
def STR_SKENT_PLACE (c : Nat) : Fld := ⟨STR_SKENT c, 8, 8⟩
def STR_SKENT_OUT (c : Nat) : Fld := ⟨STR_SKENT c, 16, 1⟩
def STR_SKENT_MOVING (c : Nat) : Fld := ⟨STR_SKENT c, 17, 1⟩
def STR_SKENT_NEAR (c : Nat) : Fld := ⟨STR_SKENT c, 18, 1⟩
def STR_SKENT_BOUNDARY (c : Nat) : Fld := ⟨STR_SKENT c, 19, 10⟩
def STR_SKCTR (c : Nat) : Nat := 0x1010208 + 0x100000 * c
def STR_SKCTR_C (c : Nat) : Fld := ⟨STR_SKCTR c, 0, 8⟩
def SRV_STAT (c : Nat) : Nat := 0x1000000 + 0x100000 * c
def SRV_STAT_STATE (c : Nat) : Fld := ⟨SRV_STAT c, 0, 3⟩
def SRV_STAT_SETTLED (c : Nat) : Fld := ⟨SRV_STAT c, 3, 1⟩
def SRV_STAT_SHOCK_HOLD (c : Nat) : Fld := ⟨SRV_STAT c, 4, 1⟩
def SRV_STAT_WIDX (c : Nat) : Fld := ⟨SRV_STAT c, 16, 10⟩
def SRV_POS_LO (c : Nat) : Nat := 0x1000004 + 0x100000 * c
def SRV_POS_LO_POS_LO (c : Nat) : Fld := ⟨SRV_POS_LO c, 0, 32⟩
def SRV_POS_HI (c : Nat) : Nat := 0x1000008 + 0x100000 * c
def SRV_POS_HI_POS_HI (c : Nat) : Fld := ⟨SRV_POS_HI c, 0, 4⟩
def SRV_TGT (c : Nat) : Nat := 0x100000c + 0x100000 * c
def SRV_TGT_TARGET (c : Nat) : Fld := ⟨SRV_TGT c, 0, 26⟩
def SRV_VEL (c : Nat) : Nat := 0x1000010 + 0x100000 * c
def SRV_VEL_V (c : Nat) : Fld := ⟨SRV_VEL c, 0, 32⟩
def SRV_BIAS (c : Nat) : Nat := 0x1000014 + 0x100000 * c
def SRV_BIAS_B (c : Nat) : Fld := ⟨SRV_BIAS c, 0, 32⟩
def SRV_WTR (c : Nat) : Nat := 0x1000018 + 0x100000 * c
def SRV_WTR_TIME_LO (c : Nat) : Fld := ⟨SRV_WTR c, 0, 32⟩
def SRV_WTRF (c : Nat) : Nat := 0x100001c + 0x100000 * c
def SRV_WTRF_FRAC (c : Nat) : Fld := ⟨SRV_WTRF c, 0, 4⟩
def SRV_LASTSEEK (c : Nat) : Nat := 0x1000020 + 0x100000 * c
def SRV_LASTSEEK_BOOKED (c : Nat) : Fld := ⟨SRV_LASTSEEK c, 0, 16⟩
def SRV_LASTSEEK_TAKEN (c : Nat) : Fld := ⟨SRV_LASTSEEK c, 16, 16⟩
def SRV_CFG0 (c : Nat) : Nat := 0x1000040 + 0x100000 * c
def SRV_CFG0_SV_BITPER (c : Nat) : Fld := ⟨SRV_CFG0 c, 0, 32⟩
def SRV_CFG1 (c : Nat) : Nat := 0x1000044 + 0x100000 * c
def SRV_CFG1_SAM_PAT (c : Nat) : Fld := ⟨SRV_CFG1 c, 0, 16⟩
def SRV_CFG1_SAM_WIN (c : Nat) : Fld := ⟨SRV_CFG1 c, 16, 5⟩
def SRV_CFG1_SAM_THR (c : Nat) : Fld := ⟨SRV_CFG1 c, 21, 3⟩
def SRV_CFG2 (c : Nat) : Nat := 0x1000048 + 0x100000 * c
def SRV_CFG2_S_MIN (c : Nat) : Fld := ⟨SRV_CFG2 c, 0, 16⟩
def SRV_THR0 (c : Nat) : Nat := 0x1000050 + 0x100000 * c
def SRV_THR0_WR_OT (c : Nat) : Fld := ⟨SRV_THR0 c, 0, 11⟩
def SRV_THR0_ARM_TOL (c : Nat) : Fld := ⟨SRV_THR0 c, 16, 11⟩
def SRV_THR1 (c : Nat) : Nat := 0x1000054 + 0x100000 * c
def SRV_THR1_SHOCK_D (c : Nat) : Fld := ⟨SRV_THR1 c, 0, 11⟩
def SRV_THR1_LANE_PLAUS (c : Nat) : Fld := ⟨SRV_THR1 c, 16, 11⟩
def SRV_THR1_D_SW (c : Nat) : Fld := ⟨SRV_THR1 c, 27, 5⟩
def SRV_THR2 (c : Nat) : Nat := 0x1000058 + 0x100000 * c
def SRV_THR2_WR_CLR (c : Nat) : Fld := ⟨SRV_THR2 c, 0, 4⟩
def SRV_THR2_SETTLE_N (c : Nat) : Fld := ⟨SRV_THR2 c, 4, 4⟩
def SRV_THR2_SHOCK_HOLD (c : Nat) : Fld := ⟨SRV_THR2 c, 8, 4⟩
def SRV_THR2_MA_STEP_W (c : Nat) : Fld := ⟨SRV_THR2 c, 12, 4⟩
def SRV_THR2_CL_MIN (c : Nat) : Fld := ⟨SRV_THR2 c, 16, 5⟩
def SRV_THR2_CL_MISS (c : Nat) : Fld := ⟨SRV_THR2 c, 21, 4⟩
def SRV_THR3 (c : Nat) : Nat := 0x100005c + 0x100000 * c
def SRV_THR3_LANE_MISS (c : Nat) : Fld := ⟨SRV_THR3 c, 0, 8⟩
def SRV_THR3_SEEK_ABORT (c : Nat) : Fld := ⟨SRV_THR3 c, 8, 8⟩
def SRV_THR3_REACQ_REVS (c : Nat) : Fld := ⟨SRV_THR3 c, 16, 4⟩
def SRV_THR3_V_TOL (c : Nat) : Fld := ⟨SRV_THR3 c, 20, 10⟩
def SRV_COEF (c i : Nat) : Nat := 0x1000100 + 0x100000 * c + 0x4 * i
def SRV_COEF_COEF (c i : Nat) : Fld := ⟨SRV_COEF c i, 0, 32⟩
def SRV_SEEK_D (c i : Nat) : Nat := 0x1000200 + 0x100000 * c + 0x8 * i
def SRV_SEEK_D_DMAX (c i : Nat) : Fld := ⟨SRV_SEEK_D c i, 0, 26⟩
def SRV_SEEK_W (c i : Nat) : Nat := 0x1000204 + 0x100000 * c + 0x8 * i
def SRV_SEEK_W_WEDGES (c i : Nat) : Fld := ⟨SRV_SEEK_W c i, 0, 16⟩
def SRV_PROF_D (c i : Nat) : Nat := 0x1000400 + 0x100000 * c + 0x8 * i
def SRV_PROF_D_DTG (c i : Nat) : Fld := ⟨SRV_PROF_D c i, 0, 26⟩
def SRV_PROF_V (c i : Nat) : Nat := 0x1000404 + 0x100000 * c + 0x8 * i
def SRV_PROF_V_VREF (c i : Nat) : Fld := ⟨SRV_PROF_V c i, 0, 20⟩
def SRV_SAMMISS (c : Nat) : Nat := 0x1000800 + 0x100000 * c
def SRV_SAMMISS_COUNT (c : Nat) : Fld := ⟨SRV_SAMMISS c, 0, 32⟩
def SRV_SEEKS (c : Nat) : Nat := 0x1000804 + 0x100000 * c
def SRV_SEEKS_COUNT (c : Nat) : Fld := ⟨SRV_SEEKS c, 0, 32⟩
def SRV_OVERRUNS (c : Nat) : Nat := 0x1000808 + 0x100000 * c
def SRV_OVERRUNS_COUNT (c : Nat) : Fld := ⟨SRV_OVERRUNS c, 0, 32⟩
def SRV_SHOCKS (c : Nat) : Nat := 0x100080c + 0x100000 * c
def SRV_SHOCKS_COUNT (c : Nat) : Fld := ⟨SRV_SHOCKS c, 0, 32⟩
def SRV_REACQS (c : Nat) : Nat := 0x1000810 + 0x100000 * c
def SRV_REACQS_COUNT (c : Nat) : Fld := ⟨SRV_REACQS c, 0, 32⟩
def SRV_WINH (c : Nat) : Nat := 0x1000814 + 0x100000 * c
def SRV_WINH_COUNT (c : Nat) : Fld := ⟨SRV_WINH c, 0, 32⟩
def LAN_MATGT (c s : Nat) : Nat := 0x1080100 + 0x100000 * c + 0x4000 * s
def LAN_MATGT_TARGET (c s : Nat) : Fld := ⟨LAN_MATGT c s, 0, 26⟩
def LAN_MAPOS_LO (c s : Nat) : Nat := 0x1080104 + 0x100000 * c + 0x4000 * s
def LAN_MAPOS_LO_POS_LO (c s : Nat) : Fld := ⟨LAN_MAPOS_LO c s, 0, 32⟩
def LAN_MAPOS_HI (c s : Nat) : Nat := 0x1080108 + 0x100000 * c + 0x4000 * s
def LAN_MAPOS_HI_POS_HI (c s : Nat) : Fld := ⟨LAN_MAPOS_HI c s, 0, 4⟩
def LAN_MACODE (c s : Nat) : Nat := 0x108010c + 0x100000 * c + 0x4000 * s
def LAN_MACODE_CODE (c s : Nat) : Fld := ⟨LAN_MACODE c s, 0, 16⟩
def LAN_MACODE_SAT (c s : Nat) : Fld := ⟨LAN_MACODE c s, 16, 1⟩
def LAN_MAGAIN (c s : Nat) : Nat := 0x1080110 + 0x100000 * c + 0x4000 * s
def LAN_MAGAIN_KMA (c s : Nat) : Fld := ⟨LAN_MAGAIN c s, 0, 16⟩
def LAN_MAGAIN_MA_LIMIT (c s : Nat) : Fld := ⟨LAN_MAGAIN c s, 16, 15⟩
def LAN_MAPHI (c s : Nat) : Nat := 0x1080114 + 0x100000 * c + 0x4000 * s
def LAN_MAPHI_PHI (c s : Nat) : Fld := ⟨LAN_MAPHI c s, 0, 16⟩
def LAN_MAPHI_PHI_AVG (c s : Nat) : Fld := ⟨LAN_MAPHI c s, 16, 16⟩
def LAN_MAINT (c s : Nat) : Nat := 0x1080118 + 0x100000 * c + 0x4000 * s
def LAN_MAINT_I (c s : Nat) : Fld := ⟨LAN_MAINT c s, 0, 16⟩
def LAN_MASTAT (c s : Nat) : Nat := 0x108011c + 0x100000 * c + 0x4000 * s
def LAN_MASTAT_SAMPLE (c s : Nat) : Fld := ⟨LAN_MASTAT c s, 0, 2⟩
def LAN_MASTAT_LANE_SERVO_LOST (c s : Nat) : Fld := ⟨LAN_MASTAT c s, 2, 1⟩
def LAN_MASTAT_SETTLING (c s : Nat) : Fld := ⟨LAN_MASTAT c s, 3, 1⟩
def LAN_MAMISS (c s : Nat) : Nat := 0x1080120 + 0x100000 * c + 0x4000 * s
def LAN_MAMISS_COUNT (c s : Nat) : Fld := ⟨LAN_MAMISS c s, 0, 32⟩
def LAN_MAOT (c s : Nat) : Nat := 0x1080124 + 0x100000 * c + 0x4000 * s
def LAN_MAOT_COUNT (c s : Nat) : Fld := ⟨LAN_MAOT c s, 0, 32⟩
def SEQ_STAT (c : Nat) : Nat := 0x1040000 + 0x100000 * c
def SEQ_STAT_MODE (c : Nat) : Fld := ⟨SEQ_STAT c, 0, 3⟩
def SEQ_STAT_WAITING (c : Nat) : Fld := ⟨SEQ_STAT c, 3, 1⟩
def SEQ_STAT_IN_INT (c : Nat) : Fld := ⟨SEQ_STAT c, 4, 1⟩
def SEQ_STAT_LOCKED (c : Nat) : Fld := ⟨SEQ_STAT c, 5, 1⟩
def SEQ_STAT_DIRTY (c : Nat) : Fld := ⟨SEQ_STAT c, 6, 1⟩
def SEQ_STAT_PC (c : Nat) : Fld := ⟨SEQ_STAT c, 8, 14⟩
def SEQ_STAT_DEPTH (c : Nat) : Fld := ⟨SEQ_STAT c, 22, 3⟩
def SEQ_CTL (c : Nat) : Nat := 0x1040004 + 0x100000 * c
def SEQ_CTL_RESTART (c : Nat) : Fld := ⟨SEQ_CTL c, 0, 1⟩
def SEQ_CTL_TEST (c : Nat) : Fld := ⟨SEQ_CTL c, 1, 1⟩
def SEQ_CTL_HALT (c : Nat) : Fld := ⟨SEQ_CTL c, 2, 1⟩
def SEQ_CTL_STEP (c : Nat) : Fld := ⟨SEQ_CTL c, 3, 1⟩
def SEQ_FAULT (c : Nat) : Nat := 0x1040008 + 0x100000 * c
def SEQ_FAULT_MCHECK (c : Nat) : Fld := ⟨SEQ_FAULT c, 0, 1⟩
def SEQ_FAULT_ILLEGAL (c : Nat) : Fld := ⟨SEQ_FAULT c, 1, 1⟩
def SEQ_FAULT_STACK (c : Nat) : Fld := ⟨SEQ_FAULT c, 2, 1⟩
def SEQ_FAULT_SAFE_LATE (c : Nat) : Fld := ⟨SEQ_FAULT c, 3, 1⟩
def SEQ_FAULT_CS_MISMATCH (c : Nat) : Fld := ⟨SEQ_FAULT c, 4, 1⟩
def SEQ_FAULT_CTL_REJECT (c : Nat) : Fld := ⟨SEQ_FAULT c, 5, 1⟩
def SEQ_FAULT_FADDR (c : Nat) : Fld := ⟨SEQ_FAULT c, 16, 14⟩
def SEQ_SAFEMAX (c : Nat) : Nat := 0x104000c + 0x100000 * c
def SEQ_SAFEMAX_WORDS (c : Nat) : Fld := ⟨SEQ_SAFEMAX c, 0, 9⟩
def SEQ_SAFEMAX_CYCLES (c : Nat) : Fld := ⟨SEQ_SAFEMAX c, 16, 11⟩
def SEQ_INTEN (c : Nat) : Nat := 0x1040010 + 0x100000 * c
def SEQ_INTEN_EN (c : Nat) : Fld := ⟨SEQ_INTEN c, 0, 8⟩
def SEQ_INTPEND (c : Nat) : Nat := 0x1040014 + 0x100000 * c
def SEQ_INTPEND_PEND (c : Nat) : Fld := ⟨SEQ_INTPEND c, 0, 8⟩
def SEQ_GFLAG (c : Nat) : Nat := 0x1040018 + 0x100000 * c
def SEQ_GFLAG_GFLAG (c : Nat) : Fld := ⟨SEQ_GFLAG c, 0, 4⟩
def SEQ_GREG (c i : Nat) : Nat := 0x1040040 + 0x100000 * c + 0x4 * i
def SEQ_GREG_G (c i : Nat) : Fld := ⟨SEQ_GREG c i, 0, 32⟩
def SEQ_CSADDR (c : Nat) : Nat := 0x1040100 + 0x100000 * c
def SEQ_CSADDR_ADDR (c : Nat) : Fld := ⟨SEQ_CSADDR c, 0, 14⟩
def SEQ_CSDATA (c i : Nat) : Nat := 0x1040104 + 0x100000 * c + 0x4 * i
def SEQ_CSDATA_DATA (c i : Nat) : Fld := ⟨SEQ_CSDATA c i, 0, 32⟩
def SEQ_CSPAR (c : Nat) : Nat := 0x1040114 + 0x100000 * c
def SEQ_CSPAR_PAR (c : Nat) : Fld := ⟨SEQ_CSPAR c, 0, 8⟩
def SEQ_CSCMD (c : Nat) : Nat := 0x1040118 + 0x100000 * c
def SEQ_CSCMD_OP (c : Nat) : Fld := ⟨SEQ_CSCMD c, 0, 2⟩
def SEQ_CSSTAT (c : Nat) : Nat := 0x104011c + 0x100000 * c
def SEQ_CSSTAT_BUSY (c : Nat) : Fld := ⟨SEQ_CSSTAT c, 0, 1⟩
def SEQ_CSSTAT_ERR (c : Nat) : Fld := ⟨SEQ_CSSTAT c, 1, 2⟩
def SEQ_CSSTAT_MISADDR (c : Nat) : Fld := ⟨SEQ_CSSTAT c, 3, 14⟩
def SEQ_PATCH (c : Nat) : Nat := 0x1040200 + 0x100000 * c
def SEQ_PATCH_PATCHES (c : Nat) : Fld := ⟨SEQ_PATCH c, 0, 8⟩
def SEQ_PATCH_RUNS (c : Nat) : Fld := ⟨SEQ_PATCH c, 8, 16⟩
def SEQ_PATCHSEQ (c : Nat) : Nat := 0x1040204 + 0x100000 * c
def SEQ_PATCHSEQ_SEQNO (c : Nat) : Fld := ⟨SEQ_PATCHSEQ c, 0, 32⟩
def SEQ_WORDS (c : Nat) : Nat := 0x1040300 + 0x100000 * c
def SEQ_WORDS_COUNT (c : Nat) : Fld := ⟨SEQ_WORDS c, 0, 32⟩
def SEQ_WAITS (c : Nat) : Nat := 0x1040304 + 0x100000 * c
def SEQ_WAITS_COUNT (c : Nat) : Fld := ⟨SEQ_WAITS c, 0, 32⟩
def SEQ_INTS (c : Nat) : Nat := 0x1040308 + 0x100000 * c
def SEQ_INTS_COUNT (c : Nat) : Fld := ⟨SEQ_INTS c, 0, 32⟩
def SEQ_ABORTDROP (c : Nat) : Nat := 0x104030c + 0x100000 * c
def SEQ_ABORTDROP_COUNT (c : Nat) : Fld := ⟨SEQ_ABORTDROP c, 0, 32⟩
def LOOP_STAT : Nat := 0xd00000
def LOOP_STAT_SP_STATE : Fld := ⟨LOOP_STAT, 0, 3⟩
def LOOP_STAT_SPEED_LOCK : Fld := ⟨LOOP_STAT, 3, 1⟩
def LOOP_STAT_SPREF_OK : Fld := ⟨LOOP_STAT, 4, 1⟩
def LOOP_STAT_SPREF_CLAMP : Fld := ⟨LOOP_STAT, 5, 1⟩
def LOOP_STAT_LOCKSTEP_ERR : Fld := ⟨LOOP_STAT, 6, 1⟩
def LOOP_STAT_REFCLU : Fld := ⟨LOOP_STAT, 7, 3⟩
def LOOP_SPCFG : Nat := 0xd00010
def LOOP_SPCFG_SPREF_EN : Fld := ⟨LOOP_SPCFG, 0, 1⟩
def LOOP_SPCFG_POLES : Fld := ⟨LOOP_SPCFG, 4, 4⟩
def LOOP_SPCFG_ALIGN_MS : Fld := ⟨LOOP_SPCFG, 8, 8⟩
def LOOP_SPCFG_SPINUP_MAX_S : Fld := ⟨LOOP_SPCFG, 16, 8⟩
def LOOP_SPREF : Nat := 0xd00014
def LOOP_SPREF_SPREF_TOL : Fld := ⟨LOOP_SPREF, 0, 12⟩
def LOOP_SPREF_PHASE_CLAMP : Fld := ⟨LOOP_SPREF, 12, 10⟩
def LOOP_SPREF_SP_SLEW : Fld := ⟨LOOP_SPREF, 22, 8⟩
def LOOP_SPOFS : Nat := 0xd00018
def LOOP_SPOFS_OFS : Fld := ⟨LOOP_SPOFS, 0, 32⟩
def LOOP_SPK0 : Nat := 0xd0001c
def LOOP_SPK0_K0 : Fld := ⟨LOOP_SPK0, 0, 32⟩
def LOOP_SPERR : Nat := 0xd00020
def LOOP_SPERR_E : Fld := ⟨LOOP_SPERR, 0, 32⟩
def LOOP_SPDRIVE : Nat := 0xd00024
def LOOP_SPDRIVE_DM : Fld := ⟨LOOP_SPDRIVE, 0, 12⟩
def LOOP_SPDRIVE_ANGLE : Fld := ⟨LOOP_SPDRIVE, 12, 12⟩
def LOOP_SPDRIVE_ADVANCE : Fld := ⟨LOOP_SPDRIVE, 24, 8⟩
def LOOP_SPCOEF0 : Nat := 0xd00028
def LOOP_SPCOEF0_SP_B : Fld := ⟨LOOP_SPCOEF0, 0, 12⟩
def LOOP_SPCOEF0_SP_STEP : Fld := ⟨LOOP_SPCOEF0, 12, 8⟩
def LOOP_SPCOEF0_DM_MAX : Fld := ⟨LOOP_SPCOEF0, 20, 12⟩
def LOOP_SPCOEF1 : Nat := 0xd0002c
def LOOP_SPCOEF1_SP_KI : Fld := ⟨LOOP_SPCOEF1, 0, 16⟩
def LOOP_SPCOEF1_SP_CENTER : Fld := ⟨LOOP_SPCOEF1, 16, 16⟩
def LOOP_CLCFG : Nat := 0xd00100
def LOOP_CLCFG_PREHEAT_W : Fld := ⟨LOOP_CLCFG, 0, 4⟩
def LOOP_CLCFG_IDLE_W : Fld := ⟨LOOP_CLCFG, 4, 8⟩
def LOOP_CLCFG_HOLDOFF : Fld := ⟨LOOP_CLCFG, 12, 4⟩
def LOOP_CLCFG_NMAX : Fld := ⟨LOOP_CLCFG, 16, 3⟩
def LOOP_CLCFG_TAU_SH : Fld := ⟨LOOP_CLCFG, 20, 3⟩
def LOOP_CLCFG_T0 : Fld := ⟨LOOP_CLCFG, 24, 8⟩
def LOOP_SUPCFG0 : Nat := 0xd00104
def LOOP_SUPCFG0_N_MIS : Fld := ⟨LOOP_SUPCFG0, 0, 8⟩
def LOOP_SUPCFG0_M_FROZEN : Fld := ⟨LOOP_SUPCFG0, 8, 8⟩
def LOOP_SUPCFG0_N_LOST : Fld := ⟨LOOP_SUPCFG0, 16, 8⟩
def LOOP_SUPCFG0_RETRY_REVS : Fld := ⟨LOOP_SUPCFG0, 24, 8⟩
def LOOP_SUPCFG1 : Nat := 0xd00108
def LOOP_SUPCFG1_SUP_THR : Fld := ⟨LOOP_SUPCFG1, 0, 16⟩
def LOOP_SUPCFG1_OL_MARGIN : Fld := ⟨LOOP_SUPCFG1, 16, 16⟩
def LOOP_CLCFG1 : Nat := 0xd0010c
def LOOP_CLCFG1_WARM_W : Fld := ⟨LOOP_CLCFG1, 0, 8⟩
def LOOP_TEMP (i : Nat) : Nat := 0xd00110 + 0x4 * i
def LOOP_TEMP_T (i : Nat) : Fld := ⟨LOOP_TEMP i, 0, 16⟩
def LOOP_BIAS (i : Nat) : Nat := 0xd00200 + 0x10 * i
def LOOP_BIAS_BTRIM (i : Nat) : Fld := ⟨LOOP_BIAS i, 0, 16⟩
def LOOP_BIAS_SAT (i : Nat) : Fld := ⟨LOOP_BIAS i, 16, 1⟩
def LOOP_BCTR (i : Nat) : Nat := 0xd00204 + 0x10 * i
def LOOP_BCTR_CENTER (i : Nat) : Fld := ⟨LOOP_BCTR i, 0, 32⟩
def LOOP_BCOEF0 (i : Nat) : Nat := 0xd00208 + 0x10 * i
def LOOP_BCOEF0_B (i : Nat) : Fld := ⟨LOOP_BCOEF0 i, 0, 8⟩
def LOOP_BCOEF0_STEP (i : Nat) : Fld := ⟨LOOP_BCOEF0 i, 8, 8⟩
def LOOP_BCOEF0_BT_LIM (i : Nat) : Fld := ⟨LOOP_BCOEF0 i, 16, 16⟩
def LOOP_BCOEF1 (i : Nat) : Nat := 0xd0020c + 0x10 * i
def LOOP_BCOEF1_KI (i : Nat) : Fld := ⟨LOOP_BCOEF1 i, 0, 16⟩
def LOOP_TRIPS : Nat := 0xd00300
def LOOP_TRIPS_COUNT : Fld := ⟨LOOP_TRIPS, 0, 32⟩
def LOOP_CLRLATE : Nat := 0xd00304
def LOOP_CLRLATE_COUNT : Fld := ⟨LOOP_CLRLATE, 0, 32⟩
def LOOP_SLEWING : Nat := 0xd00308
def LOOP_SLEWING_COUNT : Fld := ⟨LOOP_SLEWING, 0, 16⟩
def LOOP_SPREF_MISS : Nat := 0xd0030c
def LOOP_SPREF_MISS_COUNT : Fld := ⟨LOOP_SPREF_MISS, 0, 32⟩
def LAN_CLSTAT (c s : Nat) : Nat := 0x1080140 + 0x100000 * c + 0x4000 * s
def LAN_CLSTAT_STATE (c s : Nat) : Fld := ⟨LAN_CLSTAT c s, 0, 3⟩
def LAN_CLSTAT_CLASS (c s : Nat) : Fld := ⟨LAN_CLSTAT c s, 3, 2⟩
def LAN_CLSTAT_SAT (c s : Nat) : Fld := ⟨LAN_CLSTAT c s, 5, 1⟩
def LAN_CLSTAT_CAUSE (c s : Nat) : Fld := ⟨LAN_CLSTAT c s, 6, 2⟩
def LAN_CLSTAT_RETRIES (c s : Nat) : Fld := ⟨LAN_CLSTAT c s, 8, 2⟩
def LAN_CLSP (c s : Nat) : Nat := 0x1080144 + 0x100000 * c + 0x4000 * s
def LAN_CLSP_SP (c s : Nat) : Fld := ⟨LAN_CLSP c s, 0, 16⟩
def LAN_CLSP_TARGET (c s : Nat) : Fld := ⟨LAN_CLSP c s, 16, 16⟩
def LAN_CLSENSE (c s : Nat) : Nat := 0x1080148 + 0x100000 * c + 0x4000 * s
def LAN_CLSENSE_READING (c s : Nat) : Fld := ⟨LAN_CLSENSE c s, 0, 16⟩
def LAN_CLSENSE_MODEL (c s : Nat) : Fld := ⟨LAN_CLSENSE c s, 16, 16⟩
def LAN_CLHEAT (c s : Nat) : Nat := 0x108014c + 0x100000 * c + 0x4000 * s
def LAN_CLHEAT_CODE (c s : Nat) : Fld := ⟨LAN_CLHEAT c s, 0, 12⟩
def LAN_CLHEAT_OL_CODE (c s : Nat) : Fld := ⟨LAN_CLHEAT c s, 16, 12⟩
def LAN_CLCTR (c s : Nat) : Nat := 0x1080150 + 0x100000 * c + 0x4000 * s
def LAN_CLCTR_CENTER (c s : Nat) : Fld := ⟨LAN_CLCTR c s, 0, 16⟩
def LAN_CLCOEF0 (c s : Nat) : Nat := 0x1080154 + 0x100000 * c + 0x4000 * s
def LAN_CLCOEF0_B (c s : Nat) : Fld := ⟨LAN_CLCOEF0 c s, 0, 8⟩
def LAN_CLCOEF0_STEP (c s : Nat) : Fld := ⟨LAN_CLCOEF0 c s, 8, 8⟩
def LAN_CLCOEF0_RAMP (c s : Nat) : Fld := ⟨LAN_CLCOEF0 c s, 16, 12⟩
def LAN_CLCOEF1 (c s : Nat) : Nat := 0x1080158 + 0x100000 * c + 0x4000 * s
def LAN_CLCOEF1_KI (c s : Nat) : Fld := ⟨LAN_CLCOEF1 c s, 0, 16⟩
def LAN_CLCOEF1_C_LIM (c s : Nat) : Fld := ⟨LAN_CLCOEF1 c s, 16, 16⟩
def LAN_CLCOEF2 (c s : Nat) : Nat := 0x108015c + 0x100000 * c + 0x4000 * s
def LAN_CLCOEF2_HS (c s : Nat) : Fld := ⟨LAN_CLCOEF2 c s, 0, 16⟩
def LAN_CLCOEF2_TS (c s : Nat) : Fld := ⟨LAN_CLCOEF2 c s, 16, 16⟩
def LAN_CLCOEF3 (c s : Nat) : Nat := 0x1080160 + 0x100000 * c + 0x4000 * s
def LAN_CLCOEF3_R0 (c s : Nat) : Fld := ⟨LAN_CLCOEF3 c s, 0, 16⟩
def LAN_CLCOEF3_HMAX (c s : Nat) : Fld := ⟨LAN_CLCOEF3 c s, 16, 12⟩
def LAN_CLTGT0 (c s : Nat) : Nat := 0x1080164 + 0x100000 * c + 0x4000 * s
def LAN_CLTGT0_READ (c s : Nat) : Fld := ⟨LAN_CLTGT0 c s, 0, 16⟩
def LAN_CLTGT0_WRITE (c s : Nat) : Fld := ⟨LAN_CLTGT0 c s, 16, 16⟩
def LAN_CLTGT1 (c s : Nat) : Nat := 0x1080168 + 0x100000 * c + 0x4000 * s
def LAN_CLTGT1_IDLE (c s : Nat) : Fld := ⟨LAN_CLTGT1 c s, 0, 16⟩
def LAN_CLMISS (c s : Nat) : Nat := 0x108016c + 0x100000 * c + 0x4000 * s
def LAN_CLMISS_COUNT (c s : Nat) : Fld := ⟨LAN_CLMISS c s, 0, 32⟩
def LAN_CLTRIPS (c s : Nat) : Nat := 0x1080170 + 0x100000 * c + 0x4000 * s
def LAN_CLTRIPS_COUNT (c s : Nat) : Fld := ⟨LAN_CLTRIPS c s, 0, 32⟩
def MEM_STAT : Nat := 0xa00000
def MEM_STAT_INIT_DONE : Fld := ⟨MEM_STAT, 0, 16⟩
def MEM_STAT_SELFREF_KEPT : Fld := ⟨MEM_STAT, 16, 1⟩
def MEM_CH_STAT (i : Nat) : Nat := 0xa00100 + 0x20 * i
def MEM_CH_STAT_LINE_A (i : Nat) : Fld := ⟨MEM_CH_STAT i, 0, 7⟩
def MEM_CH_STAT_SPARE_A (i : Nat) : Fld := ⟨MEM_CH_STAT i, 7, 1⟩
def MEM_CH_STAT_LINE_B (i : Nat) : Fld := ⟨MEM_CH_STAT i, 8, 7⟩
def MEM_CH_STAT_SPARE_B (i : Nat) : Fld := ⟨MEM_CH_STAT i, 15, 1⟩
def MEM_CH_STAT_SWEEPING (i : Nat) : Fld := ⟨MEM_CH_STAT i, 16, 1⟩
def MEM_CH_STAT_NO_SPARE (i : Nat) : Fld := ⟨MEM_CH_STAT i, 17, 1⟩
def MEM_CH_SWEEP (i : Nat) : Nat := 0xa00104 + 0x20 * i
def MEM_CH_SWEEP_BURST (i : Nat) : Fld := ⟨MEM_CH_SWEEP i, 0, 24⟩
def MEM_CH_CE (i : Nat) : Nat := 0xa00108 + 0x20 * i
def MEM_CH_CE_COUNT (i : Nat) : Fld := ⟨MEM_CH_CE i, 0, 32⟩
def MEM_CH_UE (i : Nat) : Nat := 0xa0010c + 0x20 * i
def MEM_CH_UE_COUNT (i : Nat) : Fld := ⟨MEM_CH_UE i, 0, 32⟩
def MEM_CH_CFG (i : Nat) : Nat := 0xa00110 + 0x20 * i
def MEM_CH_CFG_LINE_THR (i : Nat) : Fld := ⟨MEM_CH_CFG i, 0, 8⟩
def MEM_SRAM_CE (i : Nat) : Nat := 0xa00400 + 0x10 * i
def MEM_SRAM_CE_COUNT (i : Nat) : Fld := ⟨MEM_SRAM_CE i, 0, 32⟩
def MEM_SRAM_UE (i : Nat) : Nat := 0xa00404 + 0x10 * i
def MEM_SRAM_UE_COUNT (i : Nat) : Fld := ⟨MEM_SRAM_UE i, 0, 32⟩
def MEM_SCRUB_CFG : Nat := 0xa01000
def MEM_SCRUB_CFG_DRAM_HOURS : Fld := ⟨MEM_SCRUB_CFG, 0, 8⟩
def MEM_SCRUB_CFG_SRAM_SEC : Fld := ⟨MEM_SCRUB_CFG, 8, 16⟩
def MEM_SCRUB_CFG_EN : Fld := ⟨MEM_SCRUB_CFG, 24, 1⟩
def MEM_SCRUB_PASSES : Nat := 0xa01004
def MEM_SCRUB_PASSES_DRAM : Fld := ⟨MEM_SCRUB_PASSES, 0, 16⟩
def MEM_SCRUB_PASSES_SRAM : Fld := ⟨MEM_SCRUB_PASSES, 16, 16⟩
def MEM_SYNCFG : Nat := 0xa02000
def MEM_SYNCFG_LOG_CE : Fld := ⟨MEM_SYNCFG, 0, 1⟩
def MEM_SYNSEL : Nat := 0xa02004
def MEM_SYNSEL_ENTRY : Fld := ⟨MEM_SYNSEL, 0, 4⟩
def MEM_SYNADDR_LO : Nat := 0xa02008
def MEM_SYNADDR_LO_ADDR_LO : Fld := ⟨MEM_SYNADDR_LO, 0, 32⟩
def MEM_SYNADDR_HI : Nat := 0xa0200c
def MEM_SYNADDR_HI_ADDR_HI : Fld := ⟨MEM_SYNADDR_HI, 0, 3⟩
def MEM_SYNADDR_HI_SPACE : Fld := ⟨MEM_SYNADDR_HI, 30, 2⟩
def MEM_SYNINFO : Nat := 0xa02010
def MEM_SYNINFO_SYNDROME : Fld := ⟨MEM_SYNINFO, 0, 7⟩
def MEM_SYNINFO_EXPECTED : Fld := ⟨MEM_SYNINFO, 7, 7⟩
def MEM_SYNINFO_INJECTED : Fld := ⟨MEM_SYNINFO, 14, 1⟩
def MEM_SYNINFO_CLASS : Fld := ⟨MEM_SYNINFO, 15, 1⟩
def MEM_SYNINFO_FOUND_BY : Fld := ⟨MEM_SYNINFO, 16, 2⟩
def MEM_SYNINFO_REGION : Fld := ⟨MEM_SYNINFO, 18, 4⟩
def MEM_SYNINFO_RESTORED : Fld := ⟨MEM_SYNINFO, 22, 1⟩
def MEM_SYNTIME_LO : Nat := 0xa02014
def MEM_SYNTIME_LO_TIME_LO : Fld := ⟨MEM_SYNTIME_LO, 0, 32⟩
def MEM_SYNTIME_HI : Nat := 0xa02018
def MEM_SYNTIME_HI_TIME_HI : Fld := ⟨MEM_SYNTIME_HI, 0, 32⟩
def MEM_SYNCOUNT : Nat := 0xa0201c
def MEM_SYNCOUNT_COUNT : Fld := ⟨MEM_SYNCOUNT, 0, 32⟩
def MEM_INJ_ADDR_LO : Nat := 0xa03000
def MEM_INJ_ADDR_LO_ADDR_LO : Fld := ⟨MEM_INJ_ADDR_LO, 0, 32⟩
def MEM_INJ_ADDR_HI : Nat := 0xa03004
def MEM_INJ_ADDR_HI_ADDR_HI : Fld := ⟨MEM_INJ_ADDR_HI, 0, 3⟩
def MEM_INJ_ADDR_HI_SPACE : Fld := ⟨MEM_INJ_ADDR_HI, 30, 2⟩
def MEM_INJ_MASK_LO : Nat := 0xa03008
def MEM_INJ_MASK_LO_DATA : Fld := ⟨MEM_INJ_MASK_LO, 0, 32⟩
def MEM_INJ_MASK_HI : Nat := 0xa0300c
def MEM_INJ_MASK_HI_POISON : Fld := ⟨MEM_INJ_MASK_HI, 0, 1⟩
def MEM_INJ_MASK_HI_CHECK : Fld := ⟨MEM_INJ_MASK_HI, 1, 7⟩
def MEM_INJ_CTL : Nat := 0xa03010
def MEM_INJ_CTL_ARM : Fld := ⟨MEM_INJ_CTL, 0, 1⟩
def MEM_INJ_CTL_DONE : Fld := ⟨MEM_INJ_CTL, 1, 1⟩
def MEM_REPAIR : Nat := 0xa04000
def MEM_REPAIR_FUSE_USED : Fld := ⟨MEM_REPAIR, 0, 12⟩
def MEM_REPAIR_IMG_USED : Fld := ⟨MEM_REPAIR, 12, 12⟩
def MEM_REPAIR_SKIPPED : Fld := ⟨MEM_REPAIR, 24, 8⟩
def CCH_CTL (i : Nat) : Nat := 0xb00000 + 0x1000 * i
def CCH_CTL_EN (i : Nat) : Fld := ⟨CCH_CTL i, 0, 1⟩
def CCH_CTL_PF_EN (i : Nat) : Fld := ⟨CCH_CTL i, 1, 1⟩
def CCH_CMD (i : Nat) : Nat := 0xb00004 + 0x1000 * i
def CCH_CMD_INVALIDATE (i : Nat) : Fld := ⟨CCH_CMD i, 0, 1⟩
def CCH_STAT (i : Nat) : Nat := 0xb00008 + 0x1000 * i
def CCH_STAT_ENABLED (i : Nat) : Fld := ⟨CCH_STAT i, 0, 1⟩
def CCH_STAT_DRAINING (i : Nat) : Fld := ⟨CCH_STAT i, 1, 1⟩
def CCH_STAT_INV_DONE (i : Nat) : Fld := ⟨CCH_STAT i, 2, 1⟩
def CCH_STAT_EN_REJECT (i : Nat) : Fld := ⟨CCH_STAT i, 3, 1⟩
def CCH_STAT_CMD_REJECT (i : Nat) : Fld := ⟨CCH_STAT i, 4, 1⟩
def CCH_LINES (i : Nat) : Nat := 0xb0000c + 0x1000 * i
def CCH_LINES_CLEAN (i : Nat) : Fld := ⟨CCH_LINES i, 0, 14⟩
def CCH_LINES_DIRTY (i : Nat) : Fld := ⟨CCH_LINES i, 16, 14⟩
def CCH_EVB (i : Nat) : Nat := 0xb00010 + 0x1000 * i
def CCH_EVB_USED (i : Nat) : Fld := ⟨CCH_EVB i, 0, 5⟩
def CCH_PFCFG (i : Nat) : Nat := 0xb00014 + 0x1000 * i
def CCH_PFCFG_DEPTH (i : Nat) : Fld := ⟨CCH_PFCFG i, 0, 4⟩
def CCH_PFCFG_STRIDE_MAX (i : Nat) : Fld := ⟨CCH_PFCFG i, 16, 16⟩
def CCH_QLBA_LO (i : Nat) : Nat := 0xb00020 + 0x1000 * i
def CCH_QLBA_LO_LBA_LO (i : Nat) : Fld := ⟨CCH_QLBA_LO i, 0, 32⟩
def CCH_QLBA_HI (i : Nat) : Nat := 0xb00024 + 0x1000 * i
def CCH_QLBA_HI_LBA_HI (i : Nat) : Fld := ⟨CCH_QLBA_HI i, 0, 16⟩
def CCH_QRES (i : Nat) : Nat := 0xb00028 + 0x1000 * i
def CCH_QRES_PRESENT (i : Nat) : Fld := ⟨CCH_QRES i, 0, 1⟩
def CCH_QRES_CLEAN (i : Nat) : Fld := ⟨CCH_QRES i, 1, 1⟩
def CCH_QRES_WAY (i : Nat) : Fld := ⟨CCH_QRES i, 2, 4⟩
def CCH_QRES_SET (i : Nat) : Fld := ⟨CCH_QRES i, 6, 10⟩
def CCH_QRES_PINS (i : Nat) : Fld := ⟨CCH_QRES i, 16, 4⟩
def CCH_QRES_MARKED (i : Nat) : Fld := ⟨CCH_QRES i, 20, 1⟩
def CCH_QRES_VERSIONS (i : Nat) : Fld := ⟨CCH_QRES i, 21, 4⟩
def CCH_HITS (i : Nat) : Nat := 0xb00100 + 0x1000 * i
def CCH_HITS_COUNT (i : Nat) : Fld := ⟨CCH_HITS i, 0, 32⟩
def CCH_FILLS (i : Nat) : Nat := 0xb00104 + 0x1000 * i
def CCH_FILLS_COUNT (i : Nat) : Fld := ⟨CCH_FILLS i, 0, 32⟩
def CCH_NOINSTALL (i : Nat) : Nat := 0xb00108 + 0x1000 * i
def CCH_NOINSTALL_COUNT (i : Nat) : Fld := ⟨CCH_NOINSTALL i, 0, 32⟩
def CCH_TOSTAGE (i : Nat) : Nat := 0xb0010c + 0x1000 * i
def CCH_TOSTAGE_COUNT (i : Nat) : Fld := ⟨CCH_TOSTAGE i, 0, 32⟩
def CCH_EVICT_DIRTY (i : Nat) : Nat := 0xb00110 + 0x1000 * i
def CCH_EVICT_DIRTY_COUNT (i : Nat) : Fld := ⟨CCH_EVICT_DIRTY i, 0, 32⟩
def CCH_EVB_HITS (i : Nat) : Nat := 0xb00114 + 0x1000 * i
def CCH_EVB_HITS_COUNT (i : Nat) : Fld := ⟨CCH_EVB_HITS i, 0, 32⟩
def CCH_PF_ISSUED (i : Nat) : Nat := 0xb00118 + 0x1000 * i
def CCH_PF_ISSUED_COUNT (i : Nat) : Fld := ⟨CCH_PF_ISSUED i, 0, 32⟩
def CCH_PF_DROPPED (i : Nat) : Nat := 0xb0011c + 0x1000 * i
def CCH_PF_DROPPED_COUNT (i : Nat) : Fld := ⟨CCH_PF_DROPPED i, 0, 32⟩
def CCH_PF_USED (i : Nat) : Nat := 0xb00120 + 0x1000 * i
def CCH_PF_USED_COUNT (i : Nat) : Fld := ⟨CCH_PF_USED i, 0, 32⟩
def STM_KICK_LO (i : Nat) : Nat := 0xc00000 + 0x100 * i
def STM_KICK_LO_ADDR_LO (i : Nat) : Fld := ⟨STM_KICK_LO i, 6, 26⟩
def STM_KICK_HI (i : Nat) : Nat := 0xc00004 + 0x100 * i
def STM_KICK_HI_ADDR_HI (i : Nat) : Fld := ⟨STM_KICK_HI i, 0, 3⟩
def STM_KICK_HI_GO (i : Nat) : Fld := ⟨STM_KICK_HI i, 31, 1⟩
def STM_CTL (i : Nat) : Nat := 0xc00008 + 0x100 * i
def STM_CTL_PAUSE (i : Nat) : Fld := ⟨STM_CTL i, 0, 1⟩
def STM_CTL_STOP (i : Nat) : Fld := ⟨STM_CTL i, 1, 1⟩
def STM_CFG (i : Nat) : Nat := 0xc0000c + 0x100 * i
def STM_CFG_SHARE (i : Nat) : Fld := ⟨STM_CFG i, 0, 9⟩
def STM_STAT (i : Nat) : Nat := 0xc00010 + 0x100 * i
def STM_STAT_STATE (i : Nat) : Fld := ⟨STM_STAT i, 0, 3⟩
def STM_STAT_CLASS (i : Nat) : Fld := ⟨STM_STAT i, 3, 2⟩
def STM_STAT_REJECT (i : Nat) : Fld := ⟨STM_STAT i, 5, 1⟩
def STM_STAT_RESET_LOST (i : Nat) : Fld := ⟨STM_STAT i, 6, 1⟩
def STM_STAT_CAUSE (i : Nat) : Fld := ⟨STM_STAT i, 7, 4⟩
def STM_STAT_QUEUED (i : Nat) : Fld := ⟨STM_STAT i, 11, 4⟩
def STM_CUR_LO (i : Nat) : Nat := 0xc00014 + 0x100 * i
def STM_CUR_LO_CUR (i : Nat) : Fld := ⟨STM_CUR_LO i, 0, 32⟩
def STM_CUR_HI (i : Nat) : Nat := 0xc00018 + 0x100 * i
def STM_CUR_HI_CUR (i : Nat) : Fld := ⟨STM_CUR_HI i, 0, 3⟩
def STM_SRC_LO (i : Nat) : Nat := 0xc0001c + 0x100 * i
def STM_SRC_LO_SRC (i : Nat) : Fld := ⟨STM_SRC_LO i, 0, 32⟩
def STM_SRC_HI (i : Nat) : Nat := 0xc00020 + 0x100 * i
def STM_SRC_HI_SRC (i : Nat) : Fld := ⟨STM_SRC_HI i, 0, 3⟩
def STM_DST_LO (i : Nat) : Nat := 0xc00024 + 0x100 * i
def STM_DST_LO_DST (i : Nat) : Fld := ⟨STM_DST_LO i, 0, 32⟩
def STM_DST_HI (i : Nat) : Nat := 0xc00028 + 0x100 * i
def STM_DST_HI_DST (i : Nat) : Fld := ⟨STM_DST_HI i, 0, 3⟩
def STM_IDX0 (i : Nat) : Nat := 0xc0002c + 0x100 * i
def STM_IDX0_I0 (i : Nat) : Fld := ⟨STM_IDX0 i, 0, 16⟩
def STM_IDX0_I1 (i : Nat) : Fld := ⟨STM_IDX0 i, 16, 16⟩
def STM_IDX1 (i : Nat) : Nat := 0xc00030 + 0x100 * i
def STM_IDX1_I2 (i : Nat) : Fld := ⟨STM_IDX1 i, 0, 16⟩
def STM_IDX1_OFF (i : Nat) : Fld := ⟨STM_IDX1 i, 16, 13⟩
def STM_EXCESS (i : Nat) : Nat := 0xc00034 + 0x100 * i
def STM_EXCESS_BYTES (i : Nat) : Fld := ⟨STM_EXCESS i, 0, 32⟩
def STM_BYTES (i : Nat) : Nat := 0xc00038 + 0x100 * i
def STM_BYTES_COUNT (i : Nat) : Fld := ⟨STM_BYTES i, 0, 32⟩
def STM_DESCS (i : Nat) : Nat := 0xc0003c + 0x100 * i
def STM_DESCS_COUNT (i : Nat) : Fld := ⟨STM_DESCS i, 0, 32⟩
def STM_RELINK (i : Nat) : Nat := 0xc00040 + 0x100 * i
def STM_RELINK_COUNT (i : Nat) : Fld := ⟨STM_RELINK i, 0, 32⟩
def LNK_CFG : Nat := 0x500000
def LNK_CFG_SPLIT : Fld := ⟨LNK_CFG, 0, 2⟩
def LNK_CFG_AUTO_READD : Fld := ⟨LNK_CFG, 2, 1⟩
def LNK_PORT_STAT (i : Nat) : Nat := 0x500100 + 0x40 * i
def LNK_PORT_STAT_STATE (i : Nat) : Fld := ⟨LNK_PORT_STAT i, 0, 3⟩
def LNK_PORT_STAT_RXW (i : Nat) : Fld := ⟨LNK_PORT_STAT i, 3, 5⟩
def LNK_PORT_STAT_TXW (i : Nat) : Fld := ⟨LNK_PORT_STAT i, 8, 5⟩
def LNK_PORT_RXMAP (i : Nat) : Nat := 0x500104 + 0x40 * i
def LNK_PORT_RXMAP_MAP (i : Nat) : Fld := ⟨LNK_PORT_RXMAP i, 0, 20⟩
def LNK_PORT_TXMAP (i : Nat) : Nat := 0x500108 + 0x40 * i
def LNK_PORT_TXMAP_MAP (i : Nat) : Fld := ⟨LNK_PORT_TXMAP i, 0, 20⟩
def LNK_PORT_REPLAYS (i : Nat) : Nat := 0x50010c + 0x40 * i
def LNK_PORT_REPLAYS_COUNT (i : Nat) : Fld := ⟨LNK_PORT_REPLAYS i, 0, 32⟩
def LNK_PORT_NAKS (i : Nat) : Nat := 0x500110 + 0x40 * i
def LNK_PORT_NAKS_COUNT (i : Nat) : Fld := ⟨LNK_PORT_NAKS i, 0, 32⟩
def LNK_PORT_RETRAINS (i : Nat) : Nat := 0x500114 + 0x40 * i
def LNK_PORT_RETRAINS_COUNT (i : Nat) : Fld := ⟨LNK_PORT_RETRAINS i, 0, 32⟩
def LNK_PORT_BADPKT (i : Nat) : Nat := 0x500118 + 0x40 * i
def LNK_PORT_BADPKT_COUNT (i : Nat) : Fld := ⟨LNK_PORT_BADPKT i, 0, 32⟩
def LNK_PORT_PRIV (i j : Nat) : Nat := 0x500120 + 0x40 * i + 0x4 * j
def LNK_PORT_PRIV_FN (i j : Nat) : Fld := ⟨LNK_PORT_PRIV i j, 0, 32⟩
def LNK_LANE_STAT (i : Nat) : Nat := 0x501000 + 0x20 * i
def LNK_LANE_STAT_STATE (i : Nat) : Fld := ⟨LNK_LANE_STAT i, 0, 2⟩
def LNK_LANE_STAT_RX_LOST (i : Nat) : Fld := ⟨LNK_LANE_STAT i, 2, 1⟩
def LNK_LANE_STAT_TX_LOST (i : Nat) : Fld := ⟨LNK_LANE_STAT i, 3, 1⟩
def LNK_LANE_STAT_CAUSE (i : Nat) : Fld := ⟨LNK_LANE_STAT i, 4, 3⟩
def LNK_LANE_STAT_POLARITY (i : Nat) : Fld := ⟨LNK_LANE_STAT i, 7, 1⟩
def LNK_LANE_CORR (i : Nat) : Nat := 0x501004 + 0x20 * i
def LNK_LANE_CORR_COUNT (i : Nat) : Fld := ⟨LNK_LANE_CORR i, 0, 32⟩
def LNK_LANE_UNCORR (i : Nat) : Nat := 0x501008 + 0x20 * i
def LNK_LANE_UNCORR_COUNT (i : Nat) : Fld := ⟨LNK_LANE_UNCORR i, 0, 32⟩
def LNK_LANE_SKEW (i : Nat) : Nat := 0x50100c + 0x20 * i
def LNK_LANE_SKEW_WORDS (i : Nat) : Fld := ⟨LNK_LANE_SKEW i, 0, 8⟩
def LNK_LANE_READDS (i : Nat) : Nat := 0x501010 + 0x20 * i
def LNK_LANE_READDS_TRIES (i : Nat) : Fld := ⟨LNK_LANE_READDS i, 0, 5⟩
def LNK_DBEN (i : Nat) : Nat := 0x502000 + 0x4 * i
def LNK_DBEN_EN (i : Nat) : Fld := ⟨LNK_DBEN i, 0, 32⟩
def LNK_EVTDST : Nat := 0x503000
def LNK_EVTDST_FUNC : Fld := ⟨LNK_EVTDST, 0, 8⟩
def LNK_EVTDST_PORT : Fld := ⟨LNK_EVTDST, 8, 2⟩
def LNK_EVTDST_EN : Fld := ⟨LNK_EVTDST, 31, 1⟩
def LNK_EVTDROP : Nat := 0x503004
def LNK_EVTDROP_COUNT : Fld := ⟨LNK_EVTDROP, 0, 32⟩
def FLT_STAT : Nat := 0x300000
def FLT_STAT_INT : Fld := ⟨FLT_STAT, 0, 1⟩
def FLT_STAT_ERR : Fld := ⟨FLT_STAT, 1, 1⟩
def FLT_STAT_DIE_LOST : Fld := ⟨FLT_STAT, 2, 2⟩
def FLT_FIRST : Nat := 0x300010
def FLT_FIRST_SOURCE : Fld := ⟨FLT_FIRST, 0, 10⟩
def FLT_FIRST_OVERFLOW : Fld := ⟨FLT_FIRST, 30, 1⟩
def FLT_FIRST_VALID : Fld := ⟨FLT_FIRST, 31, 1⟩
def FLT_FIRST_TLO : Nat := 0x300014
def FLT_FIRST_TLO_TIME_LO : Fld := ⟨FLT_FIRST_TLO, 0, 32⟩
def FLT_FIRST_THI : Nat := 0x300018
def FLT_FIRST_THI_TIME_HI : Fld := ⟨FLT_FIRST_THI, 0, 32⟩
def FLT_FIRST_INFO : Nat := 0x30001c
def FLT_FIRST_INFO_INFO : Fld := ⟨FLT_FIRST_INFO, 0, 32⟩
def FLT_FIRST_ORIGIN : Nat := 0x300020
def FLT_FIRST_ORIGIN_ORIGIN : Fld := ⟨FLT_FIRST_ORIGIN, 0, 32⟩
def FLT_MASKED : Nat := 0x300030
def FLT_MASKED_COUNT : Fld := ⟨FLT_MASKED, 0, 32⟩
def FLT_PEND (i : Nat) : Nat := 0x300100 + 0x4 * i
def FLT_PEND_PEND (i : Nat) : Fld := ⟨FLT_PEND i, 0, 32⟩
def FLT_SRC (i : Nat) : Nat := 0x301000 + 0x4 * i
def FLT_SRC_REACT (i : Nat) : Fld := ⟨FLT_SRC i, 0, 3⟩
def FLT_SRC_COUNT (i : Nat) : Fld := ⟨FLT_SRC i, 16, 16⟩
def LOG_STAT : Nat := 0x400000
def LOG_STAT_FROZEN : Fld := ⟨LOG_STAT, 0, 1⟩
def LOG_STAT_CAL_VALID : Fld := ⟨LOG_STAT, 1, 1⟩
def LOG_STAT_FIRST_DONE : Fld := ⟨LOG_STAT, 2, 1⟩
def LOG_CTL : Nat := 0x400004
def LOG_CTL_FREEZE : Fld := ⟨LOG_CTL, 0, 1⟩
def LOG_FRZLOST : Nat := 0x400008
def LOG_FRZLOST_COUNT : Fld := ⟨LOG_FRZLOST, 0, 32⟩
def LOG_INLOST : Nat := 0x40000c
def LOG_INLOST_COUNT : Fld := ⟨LOG_INLOST, 0, 32⟩
def LOG_NEXT : Nat := 0x400010
def LOG_NEXT_EVSEQ : Fld := ⟨LOG_NEXT, 0, 32⟩
def LOG_OPSEC : Nat := 0x400014
def LOG_OPSEC_OPSEC : Fld := ⟨LOG_OPSEC, 0, 32⟩
def LOG_PCYCLE : Nat := 0x400018
def LOG_PCYCLE_PCYCLE : Fld := ⟨LOG_PCYCLE, 0, 24⟩
def LOG_CAL_LO : Nat := 0x400020
def LOG_CAL_LO_CAL_LO : Fld := ⟨LOG_CAL_LO, 0, 32⟩
def LOG_CAL_HI : Nat := 0x400024
def LOG_CAL_HI_CAL_HI : Fld := ⟨LOG_CAL_HI, 0, 32⟩
def LOG_CALCMD : Nat := 0x400028
def LOG_CALCMD_SET : Fld := ⟨LOG_CALCMD, 0, 1⟩
def LOG_CALCMD_CLEAR : Fld := ⟨LOG_CALCMD, 1, 1⟩
def LOG_RSEL : Nat := 0x400100
def LOG_RSEL_EVSEQ : Fld := ⟨LOG_RSEL, 0, 32⟩
def LOG_RSTAT : Nat := 0x400104
def LOG_RSTAT_BUSY : Fld := ⟨LOG_RSTAT, 0, 1⟩
def LOG_RSTAT_WHERE : Fld := ⟨LOG_RSTAT, 1, 2⟩
def LOG_RSRC : Nat := 0x400108
def LOG_RSRC_AREA : Fld := ⟨LOG_RSRC, 0, 1⟩
def LOG_REV (i : Nat) : Nat := 0x400140 + 0x4 * i
def LOG_REV_WORD (i : Nat) : Fld := ⟨LOG_REV i, 0, 32⟩
def LOG_VVCOUNT : Nat := 0x400200
def LOG_VVCOUNT_COUNT : Fld := ⟨LOG_VVCOUNT, 0, 32⟩
def LOG_VVSUPP : Nat := 0x400204
def LOG_VVSUPP_COUNT : Fld := ⟨LOG_VVSUPP, 0, 32⟩
def LOG_FLUSH (i : Nat) : Nat := 0x400300 + 0x4 * i
def LOG_FLUSH_EVSEQ (i : Nat) : Fld := ⟨LOG_FLUSH i, 0, 32⟩
def TOP_ID : Nat := 0x0
def TOP_ID_FAMILY : Fld := ⟨TOP_ID, 0, 8⟩
def TOP_ID_PART : Fld := ⟨TOP_ID, 8, 16⟩
def TOP_ID_STEPPING : Fld := ⟨TOP_ID, 24, 5⟩
def TOP_CLSUP : Nat := 0x4
def TOP_CLSUP_CL : Fld := ⟨TOP_CLSUP, 1, 31⟩
def TOP_PERSONA : Nat := 0x8
def TOP_PERSONA_STRAPS : Fld := ⟨TOP_PERSONA, 0, 4⟩
def TOP_PERSONA_TEST_MODE : Fld := ⟨TOP_PERSONA, 4, 1⟩
def TOP_PERSONA_CL : Fld := ⟨TOP_PERSONA, 8, 8⟩
def TOP_UID_LO : Nat := 0x10
def TOP_UID_LO_UID_LO : Fld := ⟨TOP_UID_LO, 0, 32⟩
def TOP_UID_HI : Nat := 0x14
def TOP_UID_HI_UID_HI : Fld := ⟨TOP_UID_HI, 0, 32⟩
def IMG_STAT : Nat := 0x100000
def IMG_STAT_STEP : Fld := ⟨IMG_STAT, 0, 4⟩
def IMG_STAT_DONE : Fld := ⟨IMG_STAT, 4, 1⟩
def IMG_STAT_SLOT : Fld := ⟨IMG_STAT, 5, 1⟩
def IMG_STAT_FALLBACK : Fld := ⟨IMG_STAT, 6, 1⟩
def IMG_STAT_NO_IMAGE : Fld := ⟨IMG_STAT, 7, 1⟩
def IMG_RESULT : Nat := 0x100004
def IMG_RESULT_CODE : Fld := ⟨IMG_RESULT, 0, 8⟩
def IMG_RESULT_DETAIL : Fld := ⟨IMG_RESULT, 8, 16⟩
def IMG_SEQ : Nat := 0x100008
def IMG_SEQ_IMGSEQ : Fld := ⟨IMG_SEQ, 0, 32⟩
def IMG_IDENT (i : Nat) : Nat := 0x100010 + 0x4 * i
def IMG_IDENT_IDENT (i : Nat) : Fld := ⟨IMG_IDENT i, 0, 32⟩
def IMG_IMGFLOOR : Nat := 0x100020
def IMG_IMGFLOOR_FLOOR : Fld := ⟨IMG_IMGFLOOR, 0, 32⟩
def IMG_PATCHFLOOR : Nat := 0x100024
def IMG_PATCHFLOOR_FLOOR : Fld := ⟨IMG_PATCHFLOOR, 0, 32⟩
def IMG_OUT : Nat := 0x100028
def IMG_OUT_CLUSTERS : Fld := ⟨IMG_OUT, 0, 8⟩
def IMG_RECOVER : Nat := 0x10002c
def IMG_RECOVER_STRIPES : Fld := ⟨IMG_RECOVER, 0, 16⟩
def CAL_CTL : Nat := 0x200000
def CAL_CTL_KIND : Fld := ⟨CAL_CTL, 0, 4⟩
def CAL_CTL_CLUSTER : Fld := ⟨CAL_CTL, 4, 3⟩
def CAL_CTL_APPLY : Fld := ⟨CAL_CTL, 8, 1⟩
def CAL_CTL_GO : Fld := ⟨CAL_CTL, 31, 1⟩
def CAL_CMD : Nat := 0x200004
def CAL_CMD_STORE : Fld := ⟨CAL_CMD, 0, 1⟩
def CAL_STAT : Nat := 0x200008
def CAL_STAT_BUSY : Fld := ⟨CAL_STAT, 0, 1⟩
def CAL_STAT_CLOSING : Fld := ⟨CAL_STAT, 1, 1⟩
def CAL_STAT_RESULT : Fld := ⟨CAL_STAT, 2, 4⟩
def CAL_STAT_REFDAC_DONE : Fld := ⟨CAL_STAT, 6, 1⟩
def CAL_REFID_CLK : Nat := 0x200010
def CAL_REFID_CLK_ID : Fld := ⟨CAL_REFID_CLK, 0, 32⟩
def CAL_REFID_V : Nat := 0x200014
def CAL_REFID_V_ID : Fld := ⟨CAL_REFID_V, 0, 32⟩
def CAL_TRIM : Nat := 0x200018
def CAL_TRIM_TRIM : Fld := ⟨CAL_TRIM, 0, 32⟩
def CAL_SESSIONS : Nat := 0x20001c
def CAL_SESSIONS_COUNT : Fld := ⟨CAL_SESSIONS, 0, 32⟩
def CAL_GEN : Nat := 0x200020
def CAL_GEN_GEN : Fld := ⟨CAL_GEN, 0, 32⟩
def CAL_TSEL : Nat := 0x200100
def CAL_TSEL_TABLE_ID : Fld := ⟨CAL_TSEL, 0, 16⟩
def CAL_TSEL_ENTRY : Fld := ⟨CAL_TSEL, 16, 5⟩
def CAL_TSEL_WHICH : Fld := ⟨CAL_TSEL, 24, 2⟩
def CAL_TDATA (i : Nat) : Nat := 0x200140 + 0x4 * i
def CAL_TDATA_WORD (i : Nat) : Fld := ⟨CAL_TDATA i, 0, 32⟩
def TOP_MONSTAT : Nat := 0x200
def TOP_MONSTAT_V_OUT : Fld := ⟨TOP_MONSTAT, 0, 5⟩
def TOP_MONSTAT_V_NOW : Fld := ⟨TOP_MONSTAT, 5, 5⟩
def TOP_MONSTAT_TJ_HIGH : Fld := ⟨TOP_MONSTAT, 10, 1⟩
def TOP_MONSTAT_TJ_TRIP : Fld := ⟨TOP_MONSTAT, 11, 1⟩
def TOP_MONSTAT_TJ_ERR : Fld := ⟨TOP_MONSTAT, 12, 1⟩
def TOP_VMON (i : Nat) : Nat := 0x210 + 0x4 * i
def TOP_VMON_MV (i : Nat) : Fld := ⟨TOP_VMON i, 0, 12⟩
def TOP_VMON_MV_MIN (i : Nat) : Fld := ⟨TOP_VMON i, 16, 12⟩
def TOP_TJ (i : Nat) : Nat := 0x240 + 0x4 * i
def TOP_TJ_T (i : Nat) : Fld := ⟨TOP_TJ i, 0, 16⟩
def TOP_TJ_T_MAX (i : Nat) : Fld := ⟨TOP_TJ i, 16, 16⟩

/-- Rows of the register tables, in the spec's order (part 1). -/
def regTable0 : List RegDef := [
  ⟨.TOP_CLKSTAT, 0x100, [], [⟨0, 1, .ro, 0x0⟩, ⟨1, 1, .ro, 0x0⟩, ⟨2, 1, .ro, 0x0⟩, ⟨3, 1, .w1c, 0x0⟩, ⟨4, 1, .ro, 0x0⟩]⟩,
  ⟨.TOP_TIME_LO, 0x110, [], [⟨0, 32, .ro, 0x0⟩]⟩,
  ⟨.TOP_TIME_HI, 0x114, [], [⟨0, 32, .ro, 0x0⟩]⟩,
  ⟨.TOP_CDC_STAT, 0x800, [(69, 0x4)], [⟨0, 1, .w1c, 0x0⟩, ⟨1, 1, .w1c, 0x0⟩, ⟨2, 1, .w1c, 0x0⟩, ⟨3, 1, .ro, 0x0⟩, ⟨4, 1, .ro, 0x0⟩, ⟨16, 16, .ro, 0x0⟩]⟩,
  ⟨.TOP_RSTCAUSE, 0x120, [], [⟨0, 1, .w1c, 0x1⟩, ⟨1, 1, .w1c, 0x0⟩, ⟨2, 1, .w1c, 0x0⟩, ⟨3, 1, .w1c, 0x0⟩]⟩,
  ⟨.PRM_STATUS, 0x600000, [], [⟨0, 8, .ro, 0x0⟩, ⟨8, 1, .ro, 0x0⟩, ⟨9, 14, .ro, 0x0⟩]⟩,
  ⟨.PRM_WEDGE_TICKS, 0x600010, [], [⟨0, 32, .ro, 0x0⟩]⟩,
  ⟨.PRM_GEOM, 0x600014, [], [⟨0, 10, .ro, 0x0⟩, ⟨16, 7, .ro, 0x40⟩]⟩,
  ⟨.PRM_TERM, 0x600020, [(8, 0x4)], [⟨0, 16, .ro, 0x0⟩]⟩,
  ⟨.PRM_BSEL, 0x600100, [], [⟨0, 12, .rw, 0x0⟩, ⟨12, 3, .rw, 0x0⟩, ⟨16, 3, .rw, 0x0⟩]⟩,
  ⟨.PRM_BCMD, 0x600104, [], [⟨0, 2, .wo, 0x0⟩]⟩,
  ⟨.PRM_BVAL, 0x600108, [], [⟨0, 16, .rw, 0x0⟩, ⟨16, 16, .rw, 0x0⟩]⟩,
  ⟨.PRM_BDEPTH, 0x60010c, [], [⟨0, 7, .rw, 0x10⟩]⟩,
  ⟨.PRM_BBAL, 0x600110, [], [⟨0, 32, .ro, 0x0⟩]⟩,
  ⟨.PRM_BBOR, 0x600114, [], [⟨0, 16, .ro, 0x0⟩]⟩,
  ⟨.PRM_BSTAT, 0x600118, [], [⟨0, 1, .ro, 0x0⟩, ⟨1, 3, .ro, 0x0⟩]⟩,
  ⟨.PRM_CLU_CAP, 0x600200, [(8, 0x20)], [⟨0, 16, .ro, 0x0⟩, ⟨16, 16, .ro, 0x0⟩]⟩,
  ⟨.PRM_CLU_LEND, 0x600204, [(8, 0x20)], [⟨0, 16, .ro, 0x0⟩, ⟨16, 11, .ro, 0x0⟩]⟩,
  ⟨.PRM_CLU_DEFER, 0x600208, [(8, 0x20)], [⟨0, 32, .rc, 0x0⟩]⟩,
  ⟨.PRM_PROMISED, 0x600300, [], [⟨0, 32, .rc, 0x0⟩]⟩,
  ⟨.PRM_LATE, 0x600304, [], [⟨0, 32, .rc, 0x0⟩]⟩,
  ⟨.PRM_PHASE_ERR_MAX, 0x600308, [], [⟨0, 16, .rc, 0x0⟩]⟩,
  ⟨.PRM_REFUSED, 0x600344, [(7, 0x4)], [⟨0, 32, .rc, 0x0⟩]⟩,
  ⟨.TP_CMD, 0x2000000, [(1024, 0x1000)], [⟨0, 8, .rw, 0x0⟩, ⟨8, 4, .rw, 0x0⟩, ⟨16, 16, .rw, 0x0⟩]⟩]

/-- Rows of the register tables, in the spec's order (part 2). -/
def regTable1 : List RegDef := [
  ⟨.TP_LBA_LO, 0x2000004, [(1024, 0x1000)], [⟨0, 32, .rw, 0x0⟩]⟩,
  ⟨.TP_LBA_HI, 0x2000008, [(1024, 0x1000)], [⟨0, 16, .rw, 0x0⟩]⟩,
  ⟨.TP_COUNT, 0x200000c, [(1024, 0x1000)], [⟨0, 13, .rw, 0x0⟩]⟩,
  ⟨.TP_DEADLINE, 0x2000010, [(1024, 0x1000)], [⟨0, 32, .rw, 0x0⟩]⟩,
  ⟨.TP_SLOT, 0x2000014, [(1024, 0x1000)], [⟨0, 21, .rw, 0x0⟩]⟩,
  ⟨.TP_TARGET, 0x2000018, [(1024, 0x1000)], [⟨0, 16, .rw, 0x0⟩]⟩,
  ⟨.TP_HOIST, 0x2000020, [(1024, 0x1000)], [⟨0, 1, .rw, 0x0⟩]⟩,
  ⟨.TP_PSTAT, 0x2000024, [(1024, 0x1000)], [⟨0, 9, .ro, 0x0⟩, ⟨9, 1, .ro, 0x0⟩, ⟨10, 1, .ro, 0x0⟩]⟩,
  ⟨.TP_DROPS, 0x2000028, [(1024, 0x1000)], [⟨0, 32, .rc, 0x0⟩]⟩,
  ⟨.TP_CQ_POP, 0x2000040, [(1024, 0x1000)], [⟨0, 32, .rc, 0x0⟩]⟩,
  ⟨.TP_CQ_COUNT, 0x2000044, [(1024, 0x1000)], [⟨0, 18, .ro, 0x0⟩]⟩,
  ⟨.TP_CQ_REC, 0x2000100, [(1024, 0x1000), (64, 0x4)], [⟨0, 32, .ro, 0x0⟩]⟩,
  ⟨.TP_SLOTCMD, 0x2000200, [(1024, 0x1000)], [⟨0, 21, .rw, 0x0⟩]⟩,
  ⟨.TP_SLOTOP, 0x2000204, [(1024, 0x1000)], [⟨0, 22, .wo, 0x0⟩, ⟨28, 2, .wo, 0x0⟩]⟩,
  ⟨.TP_SLOTRES, 0x2000208, [(1024, 0x1000)], [⟨0, 2, .ro, 0x0⟩, ⟨2, 22, .ro, 0x0⟩, ⟨31, 1, .ro, 0x0⟩]⟩,
  ⟨.TP_FLAGQ, 0x2000210, [(1024, 0x1000)], [⟨0, 21, .rw, 0x0⟩]⟩,
  ⟨.TP_FLAGR, 0x2000214, [(1024, 0x1000)], [⟨0, 32, .ro, 0x0⟩]⟩,
  ⟨.TP_WVIOL, 0x2000220, [(1024, 0x1000)], [⟨0, 32, .rc, 0x0⟩]⟩,
  ⟨.TPT_PORT_CFG, 0x700000, [(1024, 0x4)], [⟨0, 12, .rw, 0x0⟩, ⟨12, 9, .rw, 0x10⟩, ⟨31, 1, .rw, 0x0⟩]⟩,
  ⟨.TPT_PORT_STAT, 0x701000, [(1024, 0x4)], [⟨0, 9, .ro, 0x0⟩, ⟨9, 1, .ro, 0x0⟩, ⟨10, 1, .w1c, 0x0⟩]⟩,
  ⟨.TPT_CREDIT, 0x702000, [(2, 0x4)], [⟨0, 17, .ro, 0x0⟩]⟩,
  ⟨.TPT_CAPACITY_LO, 0x702010, [], [⟨0, 32, .ro, 0x0⟩]⟩,
  ⟨.TPT_CAPACITY_HI, 0x702014, [], [⟨0, 16, .ro, 0x0⟩]⟩,
  ⟨.TPT_RSEL, 0x703000, [], [⟨0, 12, .rw, 0x0⟩]⟩]

/-- Rows of the register tables, in the spec's order (part 3). -/
def regTable2 : List RegDef := [
  ⟨.TPT_RCMD, 0x703004, [], [⟨0, 2, .wo, 0x0⟩]⟩,
  ⟨.TPT_RBASE_LO, 0x703008, [], [⟨0, 32, .rw, 0x0⟩]⟩,
  ⟨.TPT_RBASE_HI, 0x70300c, [], [⟨0, 16, .rw, 0x0⟩]⟩,
  ⟨.TPT_RCNT_LO, 0x703010, [], [⟨0, 32, .rw, 0x0⟩]⟩,
  ⟨.TPT_RCNT_HI, 0x703014, [], [⟨0, 16, .rw, 0x0⟩]⟩,
  ⟨.TPT_ROWN, 0x703018, [], [⟨0, 12, .rw, 0x0⟩, ⟨16, 1, .rw, 0x0⟩, ⟨17, 1, .rw, 0x0⟩]⟩,
  ⟨.TPT_RSTAT, 0x70301c, [], [⟨0, 1, .ro, 0x0⟩, ⟨1, 2, .ro, 0x0⟩]⟩,
  ⟨.CQ_DIE_FREE, 0x800000, [(2, 0x10)], [⟨0, 18, .ro, 0x20000⟩]⟩,
  ⟨.CQ_DIE_SHARED, 0x800004, [(2, 0x10)], [⟨0, 18, .ro, 0x20000⟩]⟩,
  ⟨.CQ_DIE_DROPS, 0x800008, [(2, 0x10)], [⟨0, 32, .rc, 0x0⟩]⟩,
  ⟨.WIN_GSEL, 0x900000, [], [⟨0, 12, .rw, 0x0⟩]⟩,
  ⟨.WIN_GCMD, 0x900004, [], [⟨0, 2, .wo, 0x0⟩]⟩,
  ⟨.WIN_GBASE, 0x900008, [], [⟨0, 21, .rw, 0x0⟩]⟩,
  ⟨.WIN_GCNT, 0x90000c, [], [⟨0, 22, .rw, 0x0⟩]⟩,
  ⟨.WIN_GOWN, 0x900010, [], [⟨0, 12, .rw, 0x0⟩, ⟨31, 1, .ro, 0x0⟩]⟩,
  ⟨.WIN_GSTAT, 0x900014, [], [⟨0, 1, .ro, 0x0⟩, ⟨1, 2, .ro, 0x0⟩]⟩,
  ⟨.WIN_HOLD, 0x900020, [], [⟨0, 16, .rw, 0x0⟩]⟩,
  ⟨.WIN_BREACH, 0x900024, [], [⟨0, 32, .rc, 0x0⟩]⟩,
  ⟨.WIN_BR, 0x901000, [(128, 0x4)], [⟨0, 32, .ro, 0x0⟩]⟩,
  ⟨.WIN_FLAGS, 0x980000, [(131072, 0x4)], [⟨0, 32, .ro, 0x0⟩]⟩,
  ⟨.LAN_STAT, 0x1080000, [(8, 0x100000), (32, 0x4000)], [⟨0, 2, .ro, 0x0⟩, ⟨2, 1, .ro, 0x0⟩, ⟨3, 1, .ro, 0x0⟩, ⟨4, 4, .ro, 0x0⟩]⟩,
  ⟨.LAN_CTL, 0x1080004, [(8, 0x100000), (32, 0x4000)], [⟨0, 1, .rw, 0x0⟩, ⟨1, 1, .rw, 0x0⟩]⟩,
  ⟨.LAN_AFE, 0x1080010, [(8, 0x100000), (32, 0x4000)], [⟨0, 8, .ro, 0x30⟩, ⟨8, 5, .ro, 0x0⟩, ⟨13, 4, .ro, 0x0⟩, ⟨17, 1, .rw, 0x1⟩, ⟨18, 1, .rw, 0x1⟩]⟩,
  ⟨.LAN_ADCOFF, 0x1080020, [(8, 0x100000), (32, 0x4000), (4, 0x4)], [⟨0, 8, .ro, 0x0⟩]⟩]

/-- Rows of the register tables, in the spec's order (part 4). -/
def regTable3 : List RegDef := [
  ⟨.LAN_ADCGAIN, 0x1080030, [(8, 0x100000), (32, 0x4000), (4, 0x4)], [⟨0, 13, .ro, 0x1000⟩]⟩,
  ⟨.LAN_ADCSKEW, 0x1080040, [(8, 0x100000), (32, 0x4000), (4, 0x4)], [⟨0, 7, .ro, 0x0⟩]⟩,
  ⟨.LAN_SKEWEST, 0x1080060, [(8, 0x100000), (32, 0x4000), (4, 0x4)], [⟨0, 16, .ro, 0x0⟩]⟩,
  ⟨.LAN_ADCSAT, 0x1080070, [(8, 0x100000), (32, 0x4000)], [⟨0, 32, .rc, 0x0⟩]⟩,
  ⟨.LAN_WCFG, 0x1080080, [(8, 0x100000), (32, 0x4000)], [⟨0, 6, .rw, 0x20⟩, ⟨6, 1, .rw, 0x1⟩]⟩,
  ⟨.LAN_WRATE, 0x1080084, [(8, 0x100000), (32, 0x4000)], [⟨0, 32, .ro, 0x0⟩]⟩,
  ⟨.LAN_PRECOMP, 0x1080090, [(8, 0x100000), (32, 0x4000), (8, 0x4)], [⟨0, 6, .ro, 0x0⟩]⟩,
  ⟨.LAN_WCLAMP, 0x10800b0, [(8, 0x100000), (32, 0x4000)], [⟨0, 32, .rc, 0x0⟩]⟩,
  ⟨.LAN_WCUT, 0x10800b4, [(8, 0x100000), (32, 0x4000)], [⟨0, 32, .rc, 0x0⟩]⟩,
  ⟨.LAN_FAULT, 0x10800c0, [(8, 0x100000), (32, 0x4000)], [⟨0, 1, .w1c, 0x0⟩, ⟨1, 1, .w1c, 0x0⟩, ⟨2, 1, .w1c, 0x0⟩]⟩,
  ⟨.SRV_PCB_STAT, 0x100f004, [(8, 0x100000)], [⟨0, 1, .ro, 0x0⟩, ⟨1, 1, .ro, 0x0⟩, ⟨2, 1, .ro, 0x0⟩]⟩,
  ⟨.SRV_PCB_CRCERR, 0x100f008, [(8, 0x100000)], [⟨0, 32, .rc, 0x0⟩]⟩,
  ⟨.SRV_PCB_NAKS, 0x100f00c, [(8, 0x100000)], [⟨0, 32, .rc, 0x0⟩]⟩,
  ⟨.SRV_PCB_NORESP, 0x100f010, [(8, 0x100000)], [⟨0, 32, .rc, 0x0⟩]⟩,
  ⟨.SRV_PCB_REGA, 0x100f020, [(8, 0x100000)], [⟨0, 16, .rw, 0x0⟩]⟩,
  ⟨.SRV_PCB_REGD, 0x100f024, [(8, 0x100000)], [⟨0, 16, .rw, 0x0⟩]⟩,
  ⟨.SRV_PCB_REGCMD, 0x100f028, [(8, 0x100000)], [⟨0, 2, .wo, 0x0⟩]⟩,
  ⟨.SRV_PCB_REGSTAT, 0x100f02c, [(8, 0x100000)], [⟨0, 1, .ro, 0x0⟩, ⟨1, 1, .ro, 0x0⟩]⟩,
  ⟨.SRV_PCB_FAULT, 0x100f030, [(8, 0x100000), (2, 0x4)], [⟨0, 32, .ro, 0x0⟩]⟩,
  ⟨.SRV_PCB_FCAUSE, 0x100f038, [(8, 0x100000)], [⟨0, 8, .ro, 0x0⟩]⟩,
  ⟨.LOOP_MCB_STAT, 0xdf0000, [], [⟨0, 1, .ro, 0x0⟩, ⟨1, 1, .ro, 0x0⟩, ⟨2, 1, .w1c, 0x0⟩, ⟨3, 1, .w1c, 0x0⟩]⟩,
  ⟨.LOOP_MCB_FAILS, 0xdf0004, [], [⟨0, 32, .rc, 0x0⟩]⟩,
  ⟨.LOOP_MCB_FCODE, 0xdf0008, [], [⟨0, 24, .ro, 0x0⟩]⟩,
  ⟨.LOOP_MCB_REG, 0xdf0010, [], [⟨0, 8, .rw, 0x0⟩, ⟨8, 16, .rw, 0x0⟩, ⟨24, 2, .wo, 0x0⟩, ⟨31, 1, .ro, 0x0⟩]⟩]

/-- Rows of the register tables, in the spec's order (part 5). -/
def regTable4 : List RegDef := [
  ⟨.LOOP_PF_CFG, 0xdf0020, [], [⟨0, 5, .ro, 0x8⟩]⟩,
  ⟨.LOOP_PF_STAT, 0xdf0024, [], [⟨0, 3, .ro, 0x0⟩]⟩,
  ⟨.LOOP_PF_GLITCH, 0xdf0028, [], [⟨0, 32, .rc, 0x0⟩]⟩,
  ⟨.RCH_STAT, 0x1082000, [(8, 0x100000), (32, 0x4000)], [⟨0, 6, .ro, 0x0⟩, ⟨6, 1, .ro, 0x0⟩, ⟨7, 2, .ro, 0x0⟩]⟩,
  ⟨.RCH_FREQ, 0x1082004, [(8, 0x100000), (32, 0x4000)], [⟨0, 32, .ro, 0x0⟩]⟩,
  ⟨.RCH_NOISE, 0x1082008, [(8, 0x100000), (32, 0x4000)], [⟨0, 16, .ro, 0x0⟩]⟩,
  ⟨.RCH_EQTAP, 0x1082040, [(8, 0x100000), (32, 0x4000), (16, 0x4)], [⟨0, 10, .ro, 0x0⟩]⟩,
  ⟨.RCH_FRAGS, 0x1082100, [(8, 0x100000), (32, 0x4000)], [⟨0, 32, .rc, 0x0⟩]⟩,
  ⟨.RCH_SYNC_MISS, 0x1082104, [(8, 0x100000), (32, 0x4000)], [⟨0, 32, .rc, 0x0⟩]⟩,
  ⟨.RCH_RESYNC_MISS, 0x1082108, [(8, 0x100000), (32, 0x4000)], [⟨0, 32, .rc, 0x0⟩]⟩,
  ⟨.RCH_SYNC_DUAL, 0x108210c, [(8, 0x100000), (32, 0x4000)], [⟨0, 32, .rc, 0x0⟩]⟩,
  ⟨.RCH_SYNC_EXTRA, 0x1082110, [(8, 0x100000), (32, 0x4000)], [⟨0, 32, .rc, 0x0⟩]⟩,
  ⟨.RCH_TA_SPANS, 0x1082114, [(8, 0x100000), (32, 0x4000)], [⟨0, 32, .rc, 0x0⟩]⟩,
  ⟨.RCH_TA_ERASED, 0x1082118, [(8, 0x100000), (32, 0x4000)], [⟨0, 32, .rc, 0x0⟩]⟩,
  ⟨.RCH_NOSLOT, 0x108211c, [(8, 0x100000), (32, 0x4000)], [⟨0, 32, .rc, 0x0⟩]⟩,
  ⟨.RCH_CUT, 0x1082120, [(8, 0x100000), (32, 0x4000)], [⟨0, 32, .rc, 0x0⟩]⟩,
  ⟨.RCH_ZTAB, 0x1083000, [(8, 0x100000), (32, 0x4000), (1024, 0x4)], [⟨0, 32, .ro, 0x0⟩]⟩,
  ⟨.DEC_K_ACTIVE, 0xe00000, [(4, 0x1000)], [⟨0, 20, .ro, 0xffff⟩]⟩,
  ⟨.DEC_K_SPARE, 0xe00004, [(4, 0x1000)], [⟨0, 20, .ro, 0xf0000⟩]⟩,
  ⟨.DEC_K_LOST, 0xe00008, [(4, 0x1000)], [⟨0, 20, .ro, 0x0⟩]⟩,
  ⟨.DEC_K_A, 0xe0000c, [(4, 0x1000)], [⟨0, 5, .ro, 0x10⟩]⟩,
  ⟨.DEC_K_DECODED, 0xe00100, [(4, 0x1000)], [⟨0, 32, .rc, 0x0⟩]⟩,
  ⟨.DEC_K_ITERSUM, 0xe00104, [(4, 0x1000)], [⟨0, 32, .rc, 0x0⟩]⟩,
  ⟨.DEC_K_PASS2, 0xe00108, [(4, 0x1000)], [⟨0, 32, .rc, 0x0⟩]⟩]

/-- Rows of the register tables, in the spec's order (part 6). -/
def regTable5 : List RegDef := [
  ⟨.DEC_K_ER_DEADLINE, 0xe0010c, [(4, 0x1000)], [⟨0, 32, .rc, 0x0⟩]⟩,
  ⟨.DEC_K_ER_MISCORRECT, 0xe00110, [(4, 0x1000)], [⟨0, 32, .rc, 0x0⟩]⟩,
  ⟨.DEC_K_ER_FRAMING, 0xe00114, [(4, 0x1000)], [⟨0, 32, .rc, 0x0⟩]⟩,
  ⟨.DEC_K_ER_DECODER, 0xe00118, [(4, 0x1000)], [⟨0, 32, .rc, 0x0⟩]⟩,
  ⟨.DEC_K_DUAL_SECOND, 0xe0011c, [(4, 0x1000)], [⟨0, 32, .rc, 0x0⟩]⟩,
  ⟨.DEC_K_DUAL_BOTH, 0xe00120, [(4, 0x1000)], [⟨0, 32, .rc, 0x0⟩]⟩,
  ⟨.DEC_K_PQ_SKIPPED, 0xe00124, [(4, 0x1000)], [⟨0, 32, .rc, 0x0⟩]⟩,
  ⟨.DEC_K_REDISPATCH, 0xe00128, [(4, 0x1000)], [⟨0, 32, .rc, 0x0⟩]⟩,
  ⟨.DEC_K_SLOTS_MAX, 0xe0012c, [(4, 0x1000)], [⟨0, 8, .rc, 0x0⟩]⟩,
  ⟨.DEC_TIMING0, 0xef0000, [], [⟨0, 16, .ro, 0x30⟩, ⟨16, 16, .ro, 0xf0⟩]⟩,
  ⟨.DEC_TIMING1, 0xef0004, [], [⟨0, 16, .ro, 0x120⟩, ⟨16, 16, .ro, 0x200⟩]⟩,
  ⟨.STR_LAYOUT0, 0x1010000, [(8, 0x100000)], [⟨0, 26, .ro, 0x0⟩]⟩,
  ⟨.STR_LAYOUT1, 0x1010004, [(8, 0x100000)], [⟨0, 10, .ro, 0x0⟩, ⟨10, 4, .ro, 0x0⟩]⟩,
  ⟨.STR_STAT, 0x1010010, [(8, 0x100000)], [⟨0, 1, .ro, 0x0⟩, ⟨1, 1, .ro, 0x0⟩, ⟨2, 1, .ro, 0x0⟩, ⟨3, 1, .w1c, 0x0⟩, ⟨4, 2, .ro, 0x0⟩]⟩,
  ⟨.STR_LOSTSURF, 0x1010014, [(8, 0x100000)], [⟨0, 32, .ro, 0x0⟩]⟩,
  ⟨.STR_RLIST, 0x1010020, [(8, 0x100000)], [⟨0, 21, .ro, 0x0⟩]⟩,
  ⟨.STR_RBUF, 0x1010024, [(8, 0x100000)], [⟨0, 9, .ro, 0x0⟩]⟩,
  ⟨.STR_REMAP, 0x1010028, [(8, 0x100000)], [⟨0, 15, .ro, 0x0⟩]⟩,
  ⟨.STR_DUMPMIN, 0x101002c, [(8, 0x100000)], [⟨0, 16, .ro, 0x0⟩]⟩,
  ⟨.STR_REBUILT, 0x1010100, [(8, 0x100000)], [⟨0, 32, .rc, 0x0⟩]⟩,
  ⟨.STR_STRIPES_LOST, 0x1010104, [(8, 0x100000)], [⟨0, 32, .rc, 0x0⟩]⟩,
  ⟨.STR_CUTS, 0x1010108, [(8, 0x100000)], [⟨0, 32, .rc, 0x0⟩]⟩,
  ⟨.STR_FAILED, 0x101010c, [(8, 0x100000)], [⟨0, 32, .rc, 0x0⟩]⟩,
  ⟨.STR_REPAIRED, 0x1010110, [(8, 0x100000)], [⟨0, 32, .rc, 0x0⟩]⟩]

/-- Rows of the register tables, in the spec's order (part 7). -/
def regTable6 : List RegDef := [
  ⟨.STR_DEFERS, 0x1010114, [(8, 0x100000)], [⟨0, 32, .rc, 0x0⟩]⟩,
  ⟨.STR_SKSEL, 0x1010200, [(8, 0x100000)], [⟨0, 11, .rw, 0x0⟩, ⟨16, 5, .rw, 0x0⟩]⟩,
  ⟨.STR_SKENT, 0x1010204, [(8, 0x100000)], [⟨0, 8, .ro, 0x0⟩, ⟨8, 8, .ro, 0x0⟩, ⟨16, 1, .ro, 0x0⟩, ⟨17, 1, .ro, 0x0⟩, ⟨18, 1, .ro, 0x0⟩, ⟨19, 10, .ro, 0x0⟩]⟩,
  ⟨.STR_SKCTR, 0x1010208, [(8, 0x100000)], [⟨0, 8, .ro, 0x0⟩]⟩,
  ⟨.SRV_STAT, 0x1000000, [(8, 0x100000)], [⟨0, 3, .ro, 0x0⟩, ⟨3, 1, .ro, 0x0⟩, ⟨4, 1, .ro, 0x0⟩, ⟨16, 10, .ro, 0x0⟩]⟩,
  ⟨.SRV_POS_LO, 0x1000004, [(8, 0x100000)], [⟨0, 32, .ro, 0x0⟩]⟩,
  ⟨.SRV_POS_HI, 0x1000008, [(8, 0x100000)], [⟨0, 4, .ro, 0x0⟩]⟩,
  ⟨.SRV_TGT, 0x100000c, [(8, 0x100000)], [⟨0, 26, .ro, 0x0⟩]⟩,
  ⟨.SRV_VEL, 0x1000010, [(8, 0x100000)], [⟨0, 32, .ro, 0x0⟩]⟩,
  ⟨.SRV_BIAS, 0x1000014, [(8, 0x100000)], [⟨0, 32, .ro, 0x0⟩]⟩,
  ⟨.SRV_WTR, 0x1000018, [(8, 0x100000)], [⟨0, 32, .ro, 0x0⟩]⟩,
  ⟨.SRV_WTRF, 0x100001c, [(8, 0x100000)], [⟨0, 4, .ro, 0x0⟩]⟩,
  ⟨.SRV_LASTSEEK, 0x1000020, [(8, 0x100000)], [⟨0, 16, .ro, 0x0⟩, ⟨16, 16, .ro, 0x0⟩]⟩,
  ⟨.SRV_CFG0, 0x1000040, [(8, 0x100000)], [⟨0, 32, .ro, 0x8000000⟩]⟩,
  ⟨.SRV_CFG1, 0x1000044, [(8, 0x100000)], [⟨0, 16, .ro, 0x2f4b⟩, ⟨16, 5, .ro, 0x8⟩, ⟨21, 3, .ro, 0x2⟩]⟩,
  ⟨.SRV_CFG2, 0x1000048, [(8, 0x100000)], [⟨0, 16, .ro, 0x40⟩]⟩,
  ⟨.SRV_THR0, 0x1000050, [(8, 0x100000)], [⟨0, 11, .ro, 0x66⟩, ⟨16, 11, .ro, 0x400⟩]⟩,
  ⟨.SRV_THR1, 0x1000054, [(8, 0x100000)], [⟨0, 11, .ro, 0x200⟩, ⟨16, 11, .ro, 0x100⟩, ⟨27, 5, .ro, 0x8⟩]⟩,
  ⟨.SRV_THR2, 0x1000058, [(8, 0x100000)], [⟨0, 4, .ro, 0x2⟩, ⟨4, 4, .ro, 0x2⟩, ⟨8, 4, .ro, 0x8⟩, ⟨12, 4, .ro, 0x2⟩, ⟨16, 5, .ro, 0x8⟩, ⟨21, 4, .ro, 0x8⟩]⟩,
  ⟨.SRV_THR3, 0x100005c, [(8, 0x100000)], [⟨0, 8, .ro, 0x40⟩, ⟨8, 8, .ro, 0x40⟩, ⟨16, 4, .ro, 0x2⟩, ⟨20, 10, .ro, 0x33⟩]⟩,
  ⟨.SRV_COEF, 0x1000100, [(8, 0x100000), (32, 0x4)], [⟨0, 32, .ro, 0x0⟩]⟩,
  ⟨.SRV_SEEK_D, 0x1000200, [(8, 0x100000), (32, 0x8)], [⟨0, 26, .ro, 0x0⟩]⟩,
  ⟨.SRV_SEEK_W, 0x1000204, [(8, 0x100000), (32, 0x8)], [⟨0, 16, .ro, 0x0⟩]⟩,
  ⟨.SRV_PROF_D, 0x1000400, [(8, 0x100000), (64, 0x8)], [⟨0, 26, .ro, 0x0⟩]⟩]

/-- Rows of the register tables, in the spec's order (part 8). -/
def regTable7 : List RegDef := [
  ⟨.SRV_PROF_V, 0x1000404, [(8, 0x100000), (64, 0x8)], [⟨0, 20, .ro, 0x0⟩]⟩,
  ⟨.SRV_SAMMISS, 0x1000800, [(8, 0x100000)], [⟨0, 32, .rc, 0x0⟩]⟩,
  ⟨.SRV_SEEKS, 0x1000804, [(8, 0x100000)], [⟨0, 32, .rc, 0x0⟩]⟩,
  ⟨.SRV_OVERRUNS, 0x1000808, [(8, 0x100000)], [⟨0, 32, .rc, 0x0⟩]⟩,
  ⟨.SRV_SHOCKS, 0x100080c, [(8, 0x100000)], [⟨0, 32, .rc, 0x0⟩]⟩,
  ⟨.SRV_REACQS, 0x1000810, [(8, 0x100000)], [⟨0, 32, .rc, 0x0⟩]⟩,
  ⟨.SRV_WINH, 0x1000814, [(8, 0x100000)], [⟨0, 32, .rc, 0x0⟩]⟩,
  ⟨.LAN_MATGT, 0x1080100, [(8, 0x100000), (32, 0x4000)], [⟨0, 26, .ro, 0x0⟩]⟩,
  ⟨.LAN_MAPOS_LO, 0x1080104, [(8, 0x100000), (32, 0x4000)], [⟨0, 32, .ro, 0x0⟩]⟩,
  ⟨.LAN_MAPOS_HI, 0x1080108, [(8, 0x100000), (32, 0x4000)], [⟨0, 4, .ro, 0x0⟩]⟩,
  ⟨.LAN_MACODE, 0x108010c, [(8, 0x100000), (32, 0x4000)], [⟨0, 16, .ro, 0x0⟩, ⟨16, 1, .ro, 0x0⟩]⟩,
  ⟨.LAN_MAGAIN, 0x1080110, [(8, 0x100000), (32, 0x4000)], [⟨0, 16, .ro, 0x0⟩, ⟨16, 15, .ro, 0x0⟩]⟩,
  ⟨.LAN_MAPHI, 0x1080114, [(8, 0x100000), (32, 0x4000)], [⟨0, 16, .ro, 0x0⟩, ⟨16, 16, .ro, 0x0⟩]⟩,
  ⟨.LAN_MAINT, 0x1080118, [(8, 0x100000), (32, 0x4000)], [⟨0, 16, .ro, 0x0⟩]⟩,
  ⟨.LAN_MASTAT, 0x108011c, [(8, 0x100000), (32, 0x4000)], [⟨0, 2, .ro, 0x0⟩, ⟨2, 1, .ro, 0x0⟩, ⟨3, 1, .ro, 0x0⟩]⟩,
  ⟨.LAN_MAMISS, 0x1080120, [(8, 0x100000), (32, 0x4000)], [⟨0, 32, .rc, 0x0⟩]⟩,
  ⟨.LAN_MAOT, 0x1080124, [(8, 0x100000), (32, 0x4000)], [⟨0, 32, .rc, 0x0⟩]⟩,
  ⟨.SEQ_STAT, 0x1040000, [(8, 0x100000)], [⟨0, 3, .ro, 0x0⟩, ⟨3, 1, .ro, 0x0⟩, ⟨4, 1, .ro, 0x0⟩, ⟨5, 1, .ro, 0x0⟩, ⟨6, 1, .ro, 0x0⟩, ⟨8, 14, .ro, 0x0⟩, ⟨22, 3, .ro, 0x0⟩]⟩,
  ⟨.SEQ_CTL, 0x1040004, [(8, 0x100000)], [⟨0, 1, .wo, 0x0⟩, ⟨1, 1, .wo, 0x0⟩, ⟨2, 1, .wo, 0x0⟩, ⟨3, 1, .wo, 0x0⟩]⟩,
  ⟨.SEQ_FAULT, 0x1040008, [(8, 0x100000)], [⟨0, 1, .w1c, 0x0⟩, ⟨1, 1, .w1c, 0x0⟩, ⟨2, 1, .w1c, 0x0⟩, ⟨3, 1, .w1c, 0x0⟩, ⟨4, 1, .w1c, 0x0⟩, ⟨5, 1, .w1c, 0x0⟩, ⟨16, 14, .ro, 0x0⟩]⟩,
  ⟨.SEQ_SAFEMAX, 0x104000c, [(8, 0x100000)], [⟨0, 9, .rc, 0x0⟩, ⟨16, 11, .rc, 0x0⟩]⟩,
  ⟨.SEQ_INTEN, 0x1040010, [(8, 0x100000)], [⟨0, 8, .ro, 0x1⟩]⟩,
  ⟨.SEQ_INTPEND, 0x1040014, [(8, 0x100000)], [⟨0, 8, .ro, 0x0⟩]⟩,
  ⟨.SEQ_GFLAG, 0x1040018, [(8, 0x100000)], [⟨0, 4, .rw, 0x0⟩]⟩]

/-- Rows of the register tables, in the spec's order (part 9). -/
def regTable8 : List RegDef := [
  ⟨.SEQ_GREG, 0x1040040, [(8, 0x100000), (16, 0x4)], [⟨0, 32, .ro, 0x0⟩]⟩,
  ⟨.SEQ_CSADDR, 0x1040100, [(8, 0x100000)], [⟨0, 14, .rw, 0x0⟩]⟩,
  ⟨.SEQ_CSDATA, 0x1040104, [(8, 0x100000), (4, 0x4)], [⟨0, 32, .rw, 0x0⟩]⟩,
  ⟨.SEQ_CSPAR, 0x1040114, [(8, 0x100000)], [⟨0, 8, .ro, 0x0⟩]⟩,
  ⟨.SEQ_CSCMD, 0x1040118, [(8, 0x100000)], [⟨0, 2, .wo, 0x0⟩]⟩,
  ⟨.SEQ_CSSTAT, 0x104011c, [(8, 0x100000)], [⟨0, 1, .ro, 0x0⟩, ⟨1, 2, .ro, 0x0⟩, ⟨3, 14, .ro, 0x0⟩]⟩,
  ⟨.SEQ_PATCH, 0x1040200, [(8, 0x100000)], [⟨0, 8, .ro, 0x0⟩, ⟨8, 16, .ro, 0x0⟩]⟩,
  ⟨.SEQ_PATCHSEQ, 0x1040204, [(8, 0x100000)], [⟨0, 32, .ro, 0x0⟩]⟩,
  ⟨.SEQ_WORDS, 0x1040300, [(8, 0x100000)], [⟨0, 32, .rc, 0x0⟩]⟩,
  ⟨.SEQ_WAITS, 0x1040304, [(8, 0x100000)], [⟨0, 32, .rc, 0x0⟩]⟩,
  ⟨.SEQ_INTS, 0x1040308, [(8, 0x100000)], [⟨0, 32, .rc, 0x0⟩]⟩,
  ⟨.SEQ_ABORTDROP, 0x104030c, [(8, 0x100000)], [⟨0, 32, .rc, 0x0⟩]⟩,
  ⟨.LOOP_STAT, 0xd00000, [], [⟨0, 3, .ro, 0x0⟩, ⟨3, 1, .ro, 0x0⟩, ⟨4, 1, .ro, 0x0⟩, ⟨5, 1, .ro, 0x0⟩, ⟨6, 1, .w1c, 0x0⟩, ⟨7, 3, .ro, 0x0⟩]⟩,
  ⟨.LOOP_SPCFG, 0xd00010, [], [⟨0, 1, .rw, 0x0⟩, ⟨4, 4, .ro, 0x4⟩, ⟨8, 8, .ro, 0xc8⟩, ⟨16, 8, .ro, 0x1e⟩]⟩,
  ⟨.LOOP_SPREF, 0xd00014, [], [⟨0, 12, .ro, 0xc8⟩, ⟨12, 10, .ro, 0x12c⟩, ⟨22, 8, .ro, 0x8⟩]⟩,
  ⟨.LOOP_SPOFS, 0xd00018, [], [⟨0, 32, .ro, 0x0⟩]⟩,
  ⟨.LOOP_SPK0, 0xd0001c, [], [⟨0, 32, .ro, 0x0⟩]⟩,
  ⟨.LOOP_SPERR, 0xd00020, [], [⟨0, 32, .ro, 0x0⟩]⟩,
  ⟨.LOOP_SPDRIVE, 0xd00024, [], [⟨0, 12, .ro, 0x0⟩, ⟨12, 12, .ro, 0x0⟩, ⟨24, 8, .ro, 0x10⟩]⟩,
  ⟨.LOOP_SPCOEF0, 0xd00028, [], [⟨0, 12, .ro, 0x14⟩, ⟨12, 8, .ro, 0x2⟩, ⟨20, 12, .ro, 0xf00⟩]⟩,
  ⟨.LOOP_SPCOEF1, 0xd0002c, [], [⟨0, 16, .ro, 0x200⟩, ⟨16, 16, .ro, 0x0⟩]⟩,
  ⟨.LOOP_CLCFG, 0xd00100, [], [⟨0, 4, .ro, 0x4⟩, ⟨4, 8, .ro, 0x40⟩, ⟨12, 4, .ro, 0x3⟩, ⟨16, 3, .ro, 0x4⟩, ⟨20, 3, .ro, 0x1⟩, ⟨24, 8, .ro, 0x3c⟩]⟩,
  ⟨.LOOP_SUPCFG0, 0xd00104, [], [⟨0, 8, .ro, 0x8⟩, ⟨8, 8, .ro, 0x40⟩, ⟨16, 8, .ro, 0x10⟩, ⟨24, 8, .ro, 0x10⟩]⟩,
  ⟨.LOOP_SUPCFG1, 0xd00108, [], [⟨0, 16, .ro, 0x96⟩, ⟨16, 16, .ro, 0x1f4⟩]⟩]

/-- Rows of the register tables, in the spec's order (part 10). -/
def regTable9 : List RegDef := [
  ⟨.LOOP_CLCFG1, 0xd0010c, [], [⟨0, 8, .ro, 0x20⟩]⟩,
  ⟨.LOOP_TEMP, 0xd00110, [(2, 0x4)], [⟨0, 16, .ro, 0x0⟩]⟩,
  ⟨.LOOP_BIAS, 0xd00200, [(8, 0x10)], [⟨0, 16, .ro, 0x0⟩, ⟨16, 1, .ro, 0x0⟩]⟩,
  ⟨.LOOP_BCTR, 0xd00204, [(8, 0x10)], [⟨0, 32, .ro, 0x0⟩]⟩,
  ⟨.LOOP_BCOEF0, 0xd00208, [(8, 0x10)], [⟨0, 8, .ro, 0x8⟩, ⟨8, 8, .ro, 0x4⟩, ⟨16, 16, .ro, 0xccd⟩]⟩,
  ⟨.LOOP_BCOEF1, 0xd0020c, [(8, 0x10)], [⟨0, 16, .ro, 0x100⟩]⟩,
  ⟨.LOOP_TRIPS, 0xd00300, [], [⟨0, 32, .rc, 0x0⟩]⟩,
  ⟨.LOOP_CLRLATE, 0xd00304, [], [⟨0, 32, .rc, 0x0⟩]⟩,
  ⟨.LOOP_SLEWING, 0xd00308, [], [⟨0, 16, .ro, 0x0⟩]⟩,
  ⟨.LOOP_SPREF_MISS, 0xd0030c, [], [⟨0, 32, .rc, 0x0⟩]⟩,
  ⟨.LAN_CLSTAT, 0x1080140, [(8, 0x100000), (32, 0x4000)], [⟨0, 3, .ro, 0x0⟩, ⟨3, 2, .ro, 0x0⟩, ⟨5, 1, .ro, 0x0⟩, ⟨6, 2, .ro, 0x0⟩, ⟨8, 2, .ro, 0x0⟩]⟩,
  ⟨.LAN_CLSP, 0x1080144, [(8, 0x100000), (32, 0x4000)], [⟨0, 16, .ro, 0x0⟩, ⟨16, 16, .ro, 0x0⟩]⟩,
  ⟨.LAN_CLSENSE, 0x1080148, [(8, 0x100000), (32, 0x4000)], [⟨0, 16, .ro, 0x0⟩, ⟨16, 16, .ro, 0x0⟩]⟩,
  ⟨.LAN_CLHEAT, 0x108014c, [(8, 0x100000), (32, 0x4000)], [⟨0, 12, .ro, 0x0⟩, ⟨16, 12, .ro, 0x0⟩]⟩,
  ⟨.LAN_CLCTR, 0x1080150, [(8, 0x100000), (32, 0x4000)], [⟨0, 16, .ro, 0x0⟩]⟩,
  ⟨.LAN_CLCOEF0, 0x1080154, [(8, 0x100000), (32, 0x4000)], [⟨0, 8, .ro, 0x28⟩, ⟨8, 8, .ro, 0x10⟩, ⟨16, 12, .ro, 0x12c⟩]⟩,
  ⟨.LAN_CLCOEF1, 0x1080158, [(8, 0x100000), (32, 0x4000)], [⟨0, 16, .ro, 0x400⟩, ⟨16, 16, .ro, 0xc8⟩]⟩,
  ⟨.LAN_CLCOEF2, 0x108015c, [(8, 0x100000), (32, 0x4000)], [⟨0, 16, .ro, 0x400⟩, ⟨16, 16, .ro, 0xfe00⟩]⟩,
  ⟨.LAN_CLCOEF3, 0x1080160, [(8, 0x100000), (32, 0x4000)], [⟨0, 16, .ro, 0x36b0⟩, ⟨16, 12, .ro, 0xfff⟩]⟩,
  ⟨.LAN_CLTGT0, 0x1080164, [(8, 0x100000), (32, 0x4000)], [⟨0, 16, .ro, 0x5dc⟩, ⟨16, 16, .ro, 0x4b0⟩]⟩,
  ⟨.LAN_CLTGT1, 0x1080168, [(8, 0x100000), (32, 0x4000)], [⟨0, 16, .ro, 0x1f40⟩]⟩,
  ⟨.LAN_CLMISS, 0x108016c, [(8, 0x100000), (32, 0x4000)], [⟨0, 32, .rc, 0x0⟩]⟩,
  ⟨.LAN_CLTRIPS, 0x1080170, [(8, 0x100000), (32, 0x4000)], [⟨0, 32, .rc, 0x0⟩]⟩,
  ⟨.MEM_STAT, 0xa00000, [], [⟨0, 16, .ro, 0x0⟩, ⟨16, 1, .ro, 0x0⟩]⟩]

/-- Rows of the register tables, in the spec's order (part 11). -/
def regTable10 : List RegDef := [
  ⟨.MEM_CH_STAT, 0xa00100, [(16, 0x20)], [⟨0, 7, .ro, 0x7f⟩, ⟨7, 1, .ro, 0x0⟩, ⟨8, 7, .ro, 0x7f⟩, ⟨15, 1, .ro, 0x0⟩, ⟨16, 1, .ro, 0x0⟩, ⟨17, 1, .w1c, 0x0⟩]⟩,
  ⟨.MEM_CH_SWEEP, 0xa00104, [(16, 0x20)], [⟨0, 24, .ro, 0x0⟩]⟩,
  ⟨.MEM_CH_CE, 0xa00108, [(16, 0x20)], [⟨0, 32, .rc, 0x0⟩]⟩,
  ⟨.MEM_CH_UE, 0xa0010c, [(16, 0x20)], [⟨0, 32, .rc, 0x0⟩]⟩,
  ⟨.MEM_CH_CFG, 0xa00110, [(16, 0x20)], [⟨0, 8, .ro, 0x8⟩]⟩,
  ⟨.MEM_SRAM_CE, 0xa00400, [(2, 0x10)], [⟨0, 32, .rc, 0x0⟩]⟩,
  ⟨.MEM_SRAM_UE, 0xa00404, [(2, 0x10)], [⟨0, 32, .rc, 0x0⟩]⟩,
  ⟨.MEM_SCRUB_CFG, 0xa01000, [], [⟨0, 8, .rw, 0x18⟩, ⟨8, 16, .rw, 0xa⟩, ⟨24, 1, .rw, 0x1⟩]⟩,
  ⟨.MEM_SCRUB_PASSES, 0xa01004, [], [⟨0, 16, .rc, 0x0⟩, ⟨16, 16, .rc, 0x0⟩]⟩,
  ⟨.MEM_SYNCFG, 0xa02000, [], [⟨0, 1, .rw, 0x0⟩]⟩,
  ⟨.MEM_SYNSEL, 0xa02004, [], [⟨0, 4, .rw, 0x0⟩]⟩,
  ⟨.MEM_SYNADDR_LO, 0xa02008, [], [⟨0, 32, .ro, 0x0⟩]⟩,
  ⟨.MEM_SYNADDR_HI, 0xa0200c, [], [⟨0, 3, .ro, 0x0⟩, ⟨30, 2, .ro, 0x0⟩]⟩,
  ⟨.MEM_SYNINFO, 0xa02010, [], [⟨0, 7, .ro, 0x0⟩, ⟨7, 7, .ro, 0x0⟩, ⟨14, 1, .ro, 0x0⟩, ⟨15, 1, .ro, 0x0⟩, ⟨16, 2, .ro, 0x0⟩, ⟨18, 4, .ro, 0x0⟩, ⟨22, 1, .ro, 0x0⟩]⟩,
  ⟨.MEM_SYNTIME_LO, 0xa02014, [], [⟨0, 32, .ro, 0x0⟩]⟩,
  ⟨.MEM_SYNTIME_HI, 0xa02018, [], [⟨0, 32, .ro, 0x0⟩]⟩,
  ⟨.MEM_SYNCOUNT, 0xa0201c, [], [⟨0, 32, .rc, 0x0⟩]⟩,
  ⟨.MEM_INJ_ADDR_LO, 0xa03000, [], [⟨0, 32, .rw, 0x0⟩]⟩,
  ⟨.MEM_INJ_ADDR_HI, 0xa03004, [], [⟨0, 3, .rw, 0x0⟩, ⟨30, 2, .rw, 0x0⟩]⟩,
  ⟨.MEM_INJ_MASK_LO, 0xa03008, [], [⟨0, 32, .rw, 0x0⟩]⟩,
  ⟨.MEM_INJ_MASK_HI, 0xa0300c, [], [⟨0, 1, .rw, 0x0⟩, ⟨1, 7, .rw, 0x0⟩]⟩,
  ⟨.MEM_INJ_CTL, 0xa03010, [], [⟨0, 1, .rw, 0x0⟩, ⟨1, 1, .w1c, 0x0⟩]⟩,
  ⟨.MEM_REPAIR, 0xa04000, [], [⟨0, 12, .ro, 0x0⟩, ⟨12, 12, .ro, 0x0⟩, ⟨24, 8, .ro, 0x0⟩]⟩,
  ⟨.CCH_CTL, 0xb00000, [(2, 0x1000)], [⟨0, 1, .rw, 0x0⟩, ⟨1, 1, .rw, 0x0⟩]⟩]

/-- Rows of the register tables, in the spec's order (part 12). -/
def regTable11 : List RegDef := [
  ⟨.CCH_CMD, 0xb00004, [(2, 0x1000)], [⟨0, 1, .wo, 0x0⟩]⟩,
  ⟨.CCH_STAT, 0xb00008, [(2, 0x1000)], [⟨0, 1, .ro, 0x0⟩, ⟨1, 1, .ro, 0x0⟩, ⟨2, 1, .ro, 0x0⟩, ⟨3, 1, .w1c, 0x0⟩, ⟨4, 1, .w1c, 0x0⟩]⟩,
  ⟨.CCH_LINES, 0xb0000c, [(2, 0x1000)], [⟨0, 14, .ro, 0x0⟩, ⟨16, 14, .ro, 0x0⟩]⟩,
  ⟨.CCH_EVB, 0xb00010, [(2, 0x1000)], [⟨0, 5, .ro, 0x0⟩]⟩,
  ⟨.CCH_PFCFG, 0xb00014, [(2, 0x1000)], [⟨0, 4, .rw, 0x4⟩, ⟨16, 16, .rw, 0x100⟩]⟩,
  ⟨.CCH_QLBA_LO, 0xb00020, [(2, 0x1000)], [⟨0, 32, .rw, 0x0⟩]⟩,
  ⟨.CCH_QLBA_HI, 0xb00024, [(2, 0x1000)], [⟨0, 16, .rw, 0x0⟩]⟩,
  ⟨.CCH_QRES, 0xb00028, [(2, 0x1000)], [⟨0, 1, .ro, 0x0⟩, ⟨1, 1, .ro, 0x0⟩, ⟨2, 4, .ro, 0x0⟩, ⟨6, 10, .ro, 0x0⟩, ⟨16, 4, .ro, 0x0⟩, ⟨20, 1, .ro, 0x0⟩, ⟨21, 4, .ro, 0x0⟩]⟩,
  ⟨.CCH_HITS, 0xb00100, [(2, 0x1000)], [⟨0, 32, .rc, 0x0⟩]⟩,
  ⟨.CCH_FILLS, 0xb00104, [(2, 0x1000)], [⟨0, 32, .rc, 0x0⟩]⟩,
  ⟨.CCH_NOINSTALL, 0xb00108, [(2, 0x1000)], [⟨0, 32, .rc, 0x0⟩]⟩,
  ⟨.CCH_TOSTAGE, 0xb0010c, [(2, 0x1000)], [⟨0, 32, .rc, 0x0⟩]⟩,
  ⟨.CCH_EVICT_DIRTY, 0xb00110, [(2, 0x1000)], [⟨0, 32, .rc, 0x0⟩]⟩,
  ⟨.CCH_EVB_HITS, 0xb00114, [(2, 0x1000)], [⟨0, 32, .rc, 0x0⟩]⟩,
  ⟨.CCH_PF_ISSUED, 0xb00118, [(2, 0x1000)], [⟨0, 32, .rc, 0x0⟩]⟩,
  ⟨.CCH_PF_DROPPED, 0xb0011c, [(2, 0x1000)], [⟨0, 32, .rc, 0x0⟩]⟩,
  ⟨.CCH_PF_USED, 0xb00120, [(2, 0x1000)], [⟨0, 32, .rc, 0x0⟩]⟩,
  ⟨.STM_KICK_LO, 0xc00000, [(32, 0x100)], [⟨6, 26, .rw, 0x0⟩]⟩,
  ⟨.STM_KICK_HI, 0xc00004, [(32, 0x100)], [⟨0, 3, .rw, 0x0⟩, ⟨31, 1, .wo, 0x0⟩]⟩,
  ⟨.STM_CTL, 0xc00008, [(32, 0x100)], [⟨0, 1, .rw, 0x0⟩, ⟨1, 1, .wo, 0x0⟩]⟩,
  ⟨.STM_CFG, 0xc0000c, [(32, 0x100)], [⟨0, 9, .rwp, 0x0⟩]⟩,
  ⟨.STM_STAT, 0xc00010, [(32, 0x100)], [⟨0, 3, .ro, 0x0⟩, ⟨3, 2, .ro, 0x0⟩, ⟨5, 1, .w1c, 0x0⟩, ⟨6, 1, .w1c, 0x0⟩, ⟨7, 4, .ro, 0x0⟩, ⟨11, 4, .ro, 0x0⟩]⟩,
  ⟨.STM_CUR_LO, 0xc00014, [(32, 0x100)], [⟨0, 32, .ro, 0x0⟩]⟩,
  ⟨.STM_CUR_HI, 0xc00018, [(32, 0x100)], [⟨0, 3, .ro, 0x0⟩]⟩]

/-- Rows of the register tables, in the spec's order (part 13). -/
def regTable12 : List RegDef := [
  ⟨.STM_SRC_LO, 0xc0001c, [(32, 0x100)], [⟨0, 32, .ro, 0x0⟩]⟩,
  ⟨.STM_SRC_HI, 0xc00020, [(32, 0x100)], [⟨0, 3, .ro, 0x0⟩]⟩,
  ⟨.STM_DST_LO, 0xc00024, [(32, 0x100)], [⟨0, 32, .ro, 0x0⟩]⟩,
  ⟨.STM_DST_HI, 0xc00028, [(32, 0x100)], [⟨0, 3, .ro, 0x0⟩]⟩,
  ⟨.STM_IDX0, 0xc0002c, [(32, 0x100)], [⟨0, 16, .ro, 0x0⟩, ⟨16, 16, .ro, 0x0⟩]⟩,
  ⟨.STM_IDX1, 0xc00030, [(32, 0x100)], [⟨0, 16, .ro, 0x0⟩, ⟨16, 13, .ro, 0x0⟩]⟩,
  ⟨.STM_EXCESS, 0xc00034, [(32, 0x100)], [⟨0, 32, .rc, 0x0⟩]⟩,
  ⟨.STM_BYTES, 0xc00038, [(32, 0x100)], [⟨0, 32, .rc, 0x0⟩]⟩,
  ⟨.STM_DESCS, 0xc0003c, [(32, 0x100)], [⟨0, 32, .rc, 0x0⟩]⟩,
  ⟨.STM_RELINK, 0xc00040, [(32, 0x100)], [⟨0, 32, .rc, 0x0⟩]⟩,
  ⟨.LNK_CFG, 0x500000, [], [⟨0, 2, .ro, 0x0⟩, ⟨2, 1, .rw, 0x1⟩]⟩,
  ⟨.LNK_PORT_STAT, 0x500100, [(4, 0x40)], [⟨0, 3, .ro, 0x0⟩, ⟨3, 5, .ro, 0x0⟩, ⟨8, 5, .ro, 0x0⟩]⟩,
  ⟨.LNK_PORT_RXMAP, 0x500104, [(4, 0x40)], [⟨0, 20, .ro, 0x0⟩]⟩,
  ⟨.LNK_PORT_TXMAP, 0x500108, [(4, 0x40)], [⟨0, 20, .ro, 0x0⟩]⟩,
  ⟨.LNK_PORT_REPLAYS, 0x50010c, [(4, 0x40)], [⟨0, 32, .rc, 0x0⟩]⟩,
  ⟨.LNK_PORT_NAKS, 0x500110, [(4, 0x40)], [⟨0, 32, .rc, 0x0⟩]⟩,
  ⟨.LNK_PORT_RETRAINS, 0x500114, [(4, 0x40)], [⟨0, 32, .rc, 0x0⟩]⟩,
  ⟨.LNK_PORT_BADPKT, 0x500118, [(4, 0x40)], [⟨0, 32, .rc, 0x0⟩]⟩,
  ⟨.LNK_PORT_PRIV, 0x500120, [(4, 0x40), (8, 0x4)], [⟨0, 32, .rw, 0x0⟩]⟩,
  ⟨.LNK_LANE_STAT, 0x501000, [(20, 0x20)], [⟨0, 2, .ro, 0x0⟩, ⟨2, 1, .w1c, 0x0⟩, ⟨3, 1, .w1c, 0x0⟩, ⟨4, 3, .ro, 0x0⟩, ⟨7, 1, .ro, 0x0⟩]⟩,
  ⟨.LNK_LANE_CORR, 0x501004, [(20, 0x20)], [⟨0, 32, .rc, 0x0⟩]⟩,
  ⟨.LNK_LANE_UNCORR, 0x501008, [(20, 0x20)], [⟨0, 32, .rc, 0x0⟩]⟩,
  ⟨.LNK_LANE_SKEW, 0x50100c, [(20, 0x20)], [⟨0, 8, .ro, 0x0⟩]⟩,
  ⟨.LNK_LANE_READDS, 0x501010, [(20, 0x20)], [⟨0, 5, .ro, 0x0⟩]⟩]

/-- Rows of the register tables, in the spec's order (part 14). -/
def regTable13 : List RegDef := [
  ⟨.LNK_DBEN, 0x502000, [(32, 0x4)], [⟨0, 32, .rw, 0x0⟩]⟩,
  ⟨.LNK_EVTDST, 0x503000, [], [⟨0, 8, .rw, 0x0⟩, ⟨8, 2, .rw, 0x0⟩, ⟨31, 1, .rw, 0x0⟩]⟩,
  ⟨.LNK_EVTDROP, 0x503004, [], [⟨0, 32, .rc, 0x0⟩]⟩,
  ⟨.FLT_STAT, 0x300000, [], [⟨0, 1, .ro, 0x0⟩, ⟨1, 1, .ro, 0x0⟩, ⟨2, 2, .ro, 0x0⟩]⟩,
  ⟨.FLT_FIRST, 0x300010, [], [⟨0, 10, .ro, 0x0⟩, ⟨30, 1, .ro, 0x0⟩, ⟨31, 1, .w1c, 0x0⟩]⟩,
  ⟨.FLT_FIRST_TLO, 0x300014, [], [⟨0, 32, .ro, 0x0⟩]⟩,
  ⟨.FLT_FIRST_THI, 0x300018, [], [⟨0, 32, .ro, 0x0⟩]⟩,
  ⟨.FLT_FIRST_INFO, 0x30001c, [], [⟨0, 32, .ro, 0x0⟩]⟩,
  ⟨.FLT_FIRST_ORIGIN, 0x300020, [], [⟨0, 32, .ro, 0x0⟩]⟩,
  ⟨.FLT_MASKED, 0x300030, [], [⟨0, 32, .rc, 0x0⟩]⟩,
  ⟨.FLT_PEND, 0x300100, [(10, 0x4)], [⟨0, 32, .w1c, 0x0⟩]⟩,
  ⟨.FLT_SRC, 0x301000, [(297, 0x4)], [⟨0, 3, .ro, 0x0⟩, ⟨16, 16, .ro, 0x0⟩]⟩,
  ⟨.LOG_STAT, 0x400000, [], [⟨0, 1, .ro, 0x0⟩, ⟨1, 1, .ro, 0x0⟩, ⟨2, 1, .ro, 0x0⟩]⟩,
  ⟨.LOG_CTL, 0x400004, [], [⟨0, 1, .rw, 0x0⟩]⟩,
  ⟨.LOG_FRZLOST, 0x400008, [], [⟨0, 32, .ro, 0x0⟩]⟩,
  ⟨.LOG_INLOST, 0x40000c, [], [⟨0, 32, .rc, 0x0⟩]⟩,
  ⟨.LOG_NEXT, 0x400010, [], [⟨0, 32, .ro, 0x0⟩]⟩,
  ⟨.LOG_OPSEC, 0x400014, [], [⟨0, 32, .ro, 0x0⟩]⟩,
  ⟨.LOG_PCYCLE, 0x400018, [], [⟨0, 24, .ro, 0x0⟩]⟩,
  ⟨.LOG_CAL_LO, 0x400020, [], [⟨0, 32, .rw, 0x0⟩]⟩,
  ⟨.LOG_CAL_HI, 0x400024, [], [⟨0, 32, .rw, 0x0⟩]⟩,
  ⟨.LOG_CALCMD, 0x400028, [], [⟨0, 1, .wo, 0x0⟩, ⟨1, 1, .wo, 0x0⟩]⟩,
  ⟨.LOG_RSEL, 0x400100, [], [⟨0, 32, .rw, 0x0⟩]⟩,
  ⟨.LOG_RSTAT, 0x400104, [], [⟨0, 1, .ro, 0x0⟩, ⟨1, 2, .ro, 0x0⟩]⟩]

/-- Rows of the register tables, in the spec's order (part 15). -/
def regTable14 : List RegDef := [
  ⟨.LOG_RSRC, 0x400108, [], [⟨0, 1, .rw, 0x0⟩]⟩,
  ⟨.LOG_REV, 0x400140, [(16, 0x4)], [⟨0, 32, .ro, 0x0⟩]⟩,
  ⟨.LOG_VVCOUNT, 0x400200, [], [⟨0, 32, .rc, 0x0⟩]⟩,
  ⟨.LOG_VVSUPP, 0x400204, [], [⟨0, 32, .rc, 0x0⟩]⟩,
  ⟨.LOG_FLUSH, 0x400300, [(8, 0x4)], [⟨0, 32, .ro, 0x0⟩]⟩,
  ⟨.TOP_ID, 0x0, [], [⟨0, 8, .ro, 0x53⟩, ⟨8, 16, .ro, 0x8256⟩, ⟨24, 5, .ro, 0x0⟩]⟩,
  ⟨.TOP_CLSUP, 0x4, [], [⟨1, 31, .ro, 0x0⟩]⟩,
  ⟨.TOP_PERSONA, 0x8, [], [⟨0, 4, .ro, 0x0⟩, ⟨4, 1, .ro, 0x0⟩, ⟨8, 8, .ro, 0x0⟩]⟩,
  ⟨.TOP_UID_LO, 0x10, [], [⟨0, 32, .ro, 0x0⟩]⟩,
  ⟨.TOP_UID_HI, 0x14, [], [⟨0, 32, .ro, 0x0⟩]⟩,
  ⟨.IMG_STAT, 0x100000, [], [⟨0, 4, .ro, 0x1⟩, ⟨4, 1, .ro, 0x0⟩, ⟨5, 1, .ro, 0x0⟩, ⟨6, 1, .ro, 0x0⟩, ⟨7, 1, .ro, 0x0⟩]⟩,
  ⟨.IMG_RESULT, 0x100004, [], [⟨0, 8, .ro, 0x0⟩, ⟨8, 16, .ro, 0x0⟩]⟩,
  ⟨.IMG_SEQ, 0x100008, [], [⟨0, 32, .ro, 0x0⟩]⟩,
  ⟨.IMG_IDENT, 0x100010, [(4, 0x4)], [⟨0, 32, .ro, 0x0⟩]⟩,
  ⟨.IMG_IMGFLOOR, 0x100020, [], [⟨0, 32, .ro, 0x0⟩]⟩,
  ⟨.IMG_PATCHFLOOR, 0x100024, [], [⟨0, 32, .ro, 0x0⟩]⟩,
  ⟨.IMG_OUT, 0x100028, [], [⟨0, 8, .ro, 0x0⟩]⟩,
  ⟨.IMG_RECOVER, 0x10002c, [], [⟨0, 16, .ro, 0x0⟩]⟩,
  ⟨.CAL_CTL, 0x200000, [], [⟨0, 4, .rw, 0x0⟩, ⟨4, 3, .rw, 0x0⟩, ⟨8, 1, .rw, 0x0⟩, ⟨31, 1, .wo, 0x0⟩]⟩,
  ⟨.CAL_CMD, 0x200004, [], [⟨0, 1, .wo, 0x0⟩]⟩,
  ⟨.CAL_STAT, 0x200008, [], [⟨0, 1, .ro, 0x0⟩, ⟨1, 1, .ro, 0x0⟩, ⟨2, 4, .ro, 0x0⟩, ⟨6, 1, .ro, 0x0⟩]⟩,
  ⟨.CAL_REFID_CLK, 0x200010, [], [⟨0, 32, .rw, 0x0⟩]⟩,
  ⟨.CAL_REFID_V, 0x200014, [], [⟨0, 32, .rw, 0x0⟩]⟩,
  ⟨.CAL_TRIM, 0x200018, [], [⟨0, 32, .ro, 0x80000000⟩]⟩]

/-- Rows of the register tables, in the spec's order (part 16). -/
def regTable15 : List RegDef := [
  ⟨.CAL_SESSIONS, 0x20001c, [], [⟨0, 32, .ro, 0x0⟩]⟩,
  ⟨.CAL_GEN, 0x200020, [], [⟨0, 32, .ro, 0x0⟩]⟩,
  ⟨.CAL_TSEL, 0x200100, [], [⟨0, 16, .rw, 0x40⟩, ⟨16, 5, .rw, 0x0⟩, ⟨24, 2, .rw, 0x0⟩]⟩,
  ⟨.CAL_TDATA, 0x200140, [(4, 0x4)], [⟨0, 32, .ro, 0x0⟩]⟩,
  ⟨.TOP_MONSTAT, 0x200, [], [⟨0, 5, .w1c, 0x0⟩, ⟨5, 5, .ro, 0x0⟩, ⟨10, 1, .w1c, 0x0⟩, ⟨11, 1, .w1c, 0x0⟩, ⟨12, 1, .ro, 0x0⟩]⟩,
  ⟨.TOP_VMON, 0x210, [(5, 0x4)], [⟨0, 12, .ro, 0x0⟩, ⟨16, 12, .rc, 0xfff⟩]⟩,
  ⟨.TOP_TJ, 0x240, [(9, 0x4)], [⟨0, 16, .ro, 0x0⟩, ⟨16, 16, .rc, 0x8000⟩]⟩]

/-- The whole register map (R9 to R11 and the register tables). -/
def regTable : List RegDef :=
  regTable0 ++ regTable1 ++ regTable2 ++ regTable3 ++ regTable4 ++ regTable5 ++ regTable6 ++ regTable7 ++
  regTable8 ++ regTable9 ++ regTable10 ++ regTable11 ++ regTable12 ++ regTable13 ++ regTable14 ++ regTable15

/-- The indices of an offset in the given dimensions, outermost first: `none` where the offset is no instance. -/
def dimsIdx : List (Nat × Nat) → Nat → Option (List Nat)
  | [], off => if off = 0 then some [] else none
  | (n, st) :: ds, off =>
    if off / st < n then (dimsIdx ds (off % st)).map (fun l => (off / st) :: l) else none

/-- The indices with which a row's register stands at an address. -/
def RegDef.idxAt (r : RegDef) (a : Nat) : Option (List Nat) :=
  if r.base ≤ a then dimsIdx r.dims (a - r.base) else none

/-- The register of the table rows at an address, with its indices. -/
def findIn : List RegDef → Nat → Option (RegDef × List Nat)
  | [], _ => none
  | r :: rs, a =>
    match r.idxAt a with
    | some ix => some (r, ix)
    | none => findIn rs a

/-- The register at an address of the register space (R9 to R11); `none` is a reserved address. -/
def findReg (a : Nat) : Option (RegDef × List Nat) := findIn regTable a

/-- The word a list of fields resets to. -/
def fieldsReset : List FieldDef → Nat
  | [] => 0
  | f :: fs => f.rst * 2 ^ f.lo + fieldsReset fs

end Sys2Proof.Machine
end

