-- ==== Sys2Proof/Machine/Tab.lean ====
section
/-! DEFINITION. Machine/Tab.lean: sparse tables. A table lists (key, value) pairs with strictly rising keys, and lists
no entry equal to what an unlisted key reads as, so that equal tables are equal data. -/

namespace Sys2Proof.Machine

/-- A sparse table: pairs of a key and a value. -/
abbrev Tab (α : Type) := List (Nat × α)

/-- The value at a key; `d` gives what an unlisted key reads as. -/
def Tab.get {α : Type} (d : Nat → α) : Tab α → Nat → α
  | [], k => d k
  | p :: t, k => if k = p.1 then p.2 else Tab.get d t k

/-- Listing a value at a key, in the order of the keys. -/
def Tab.insert {α : Type} : Tab α → Nat → α → Tab α
  | [], k, v => [(k, v)]
  | p :: t, k, v =>
    if k < p.1 then (k, v) :: p :: t else if k = p.1 then (k, v) :: t else p :: Tab.insert t k v

/-- Taking a key out of a table. -/
def Tab.drop {α : Type} : Tab α → Nat → Tab α
  | [], _ => []
  | p :: t, k => if k = p.1 then Tab.drop t k else p :: Tab.drop t k

/-- Writing a key, keeping the canonical form: the value an unlisted key reads as is not listed. -/
def Tab.put {α : Type} [DecidableEq α] (d : Nat → α) (t : Tab α) (k : Nat) (v : α) : Tab α :=
  if v = d k then Tab.drop t k else Tab.insert t k v

/-- Every key of the table is above `b`. -/
def Tab.above {α : Type} (b : Nat) (t : Tab α) : Bool := t.all (fun p => b < p.1)

/-- The canonical form: strictly rising keys and no entry equal to the unlisted value. -/
def Tab.wf {α : Type} [DecidableEq α] (d : Nat → α) : Tab α → Bool
  | [] => true
  | p :: t => decide (p.2 ≠ d p.1) && Tab.above p.1 t && Tab.wf d t

/-- Writing one value at every key of a list. -/
def Tab.putAll {α : Type} [DecidableEq α] (d : Nat → α) (t : Tab α) (v : α) : List Nat → Tab α
  | [] => t
  | k :: ks => Tab.putAll d (Tab.put d t k v) v ks

/-- Keeping only the entries whose key passes the test (the others return to the unlisted value). -/
def Tab.keep {α : Type} (t : Tab α) (f : Nat → Bool) : Tab α := t.filter (fun p => f p.1)

end Sys2Proof.Machine
end

