-- ==== Sys2Proof/Machine/Types.lean ====
section
/-! DEFINITION. Machine/Types.lean: the plain data the machine's state is made of, unit by unit. -/

namespace Sys2Proof.Machine

/-! ### Clocks, power, blocks (chapters 1 and 15) -/

/-- The blocks with a reset of their own (R34). -/
inductive BlockId where
  | lane (c s : Nat) | dec (k d : Nat) | seq (c : Nat) | demod (c : Nat) | parity (c : Nat) | pcs (n : Nat)
  | staff (i : Nat) | stm (n : Nat) | chan (n : Nat) | loop (d : Nat)
  deriving DecidableEq, Repr

/-- TIME and its replicas, the root PLL and the pins of power and reset (R27 to R31, R34, R499). -/
structure Clock where
  /-- TIME of the base die, a 64-bit count (R30). -/
  time : Nat
  /-- TIME has begun to count: ROOT_LOCK has been set once since power-on (R30). -/
  counting : Bool
  /-- The replicas of TIME on D0 and D1 (R31). -/
  rep0 : Nat
  rep1 : Nat
  /-- ROOT has stopped (R29). -/
  rootStopped : Bool
  /-- RESET_N is low (R34, R499). -/
  resetLow : Bool
  /-- Start ended in a HALT of R484. -/
  halted : Bool
  /-- The monitor drives ERR_N low under R29 or R484, until power-on or RESET_N. -/
  monErr : Bool
  /-- The monitor's window in progress holds a REFCLK gap (R27). -/
  refLost : Bool
  /-- A CHIP_RESET reaction is waiting for its FAULT event to be stored (R444). -/
  chipResetReq : Bool
  /-- TIME at which the reset window of a block began, or, of one whose detectors are still masked, ended (R34, R448). -/
  windows : List (BlockId × Nat)
  deriving DecidableEq, Repr

/-! ### Fault collector and event recorder (chapter 13) -/

/-- What an event is when it arrives at the recorder: its stamp, its origin, its code and its payload (R455 to R457). -/
structure Arrival where
  time : Nat
  origin : Nat
  code : Nat
  payload : List Nat
  deriving DecidableEq, Repr

/-- A stored event, field by field as R455 lays it out. -/
structure Event where
  evseq : Nat
  opsec : Nat
  pcycle : Nat
  calValid : Bool
  time : Nat
  cal : Nat
  origin : Nat
  code : Nat
  payload : List Nat
  deriving DecidableEq, Repr

/-- The kinds of a life-record entry (R460). -/
inductive LifeKind where
  | powerOn | periodic | pfail | close
  deriving DecidableEq, Repr

/-- One entry of the life record whose CRC passes (R460). -/
structure LifeEntry where
  evseq : Nat
  opsec : Nat
  pcycle : Nat
  kind : LifeKind
  deriving DecidableEq, Repr

/-- The event recorder: intake, ring, numbering, calendar, life record, first area (R455 to R467, R470). -/
structure Recorder where
  /-- The intake queue, oldest first, at most 256 (R459). -/
  intake : List Arrival
  /-- The ring area, oldest first, at most 16,384 (R463). -/
  ring : List Event
  /-- EVSEQ has wrapped since manufacture, so numbers below 4,096 no longer name the first pass (R462). -/
  wrapped : Bool
  /-- TIME at which OPSEC last counted (R460). -/
  opsecAt : Nat
  /-- The last entry of the life record was a CLOSE entry of this power cycle (R460). -/
  closed : Bool
  /-- Events stored since the last life-record entry (R460). -/
  sinceLife : Nat
  /-- OPSEC at the last life-record entry (R460). -/
  lifeOpsec : Nat
  /-- The life record in the NOR flash, oldest first, at most 16,384 (R460, R472). -/
  life : List LifeEntry
  /-- Calendar value set and the tick it was set at (R461). -/
  calSet : Nat
  calTick : Nat
  /-- TIME at which FROZEN was set (R466). -/
  frozenAt : Nat
  /-- Events numbered below 4,096 in the first pass that wait to be programmed in the first area (R462). -/
  firstWait : List Event
  /-- The first area of the NOR flash, by EVSEQ (R462). -/
  firstArea : List Event
  /-- The interval of 2^20 ticks that the violation counts below belong to (R470). -/
  vvEpoch : Nat
  /-- Violations stored in this interval, by burgee (R470). -/
  vvStored : Tab Nat
  /-- By cluster: the EVSEQ up to which a flush of the ring is placed and not yet committed (R463). -/
  flushTo : Tab Nat
  /-- The selection being looked up: EVSEQ and AREA (R467). -/
  readSel : Option (Nat × Nat)
  deriving DecidableEq, Repr

/-- A Staff core in or out of service (R451). -/
inductive StaffMode where
  | inService | standby | booting | fenced
  deriving DecidableEq, Repr

/-- One Staff core: its mode, the NMIs it was sent, and whether it was lost once since the last package reset. -/
structure StaffCore where
  mode : StaffMode
  nmis : Nat
  lostOnce : Bool
  /-- It carries out the duties of the die's lost core (R451). -/
  takenOver : Bool
  deriving DecidableEq, Repr

/-! ### Commands, ports, window (chapters 2 and 3) -/

/-- What a command in the machine is: a hoisted one, a prefetch of R395, or work of burgee 0 (R88). -/
inductive CmdOp where
  | read | write | abort | prefetch | activity (a : Activity)
  deriving DecidableEq, Repr

/-- How far a command has come. -/
inductive CmdPhase where
  /-- Past the door, waiting in the admission queue (R52). -/
  | queued
  /-- Its PROMISE is written. -/
  | promised
  /-- Its REFUSAL is written and not popped. -/
  | refused
  /-- Its TERMINAL is written. -/
  | ended
  deriving DecidableEq, Repr

/-- How a stripe of a command stands (R128, R143). -/
inductive StripeState where
  | unbegun | begun | done | lost | released
  deriving DecidableEq, Repr

/-- One stripe a command touches: its cluster and stripe index q, nominal track, fragment index, the command's blocks in
it (first ROLE, count, offset of the first within the command), and how it stands. -/
structure CmdStripe where
  cluster : Nat
  q : Nat
  track : Nat
  frag : Nat
  role0 : Nat
  nblk : Nat
  off : Nat
  st : StripeState
  /-- First and last wedge of the first transfer pass and last wedge of the command's last pass, as placed. -/
  w0 : Nat
  w1 : Nat
  wEnd : Nat
  /-- Surfaces whose fragments of the read pass are due one wedge after w1, and two wedges after (R225). -/
  due1 : Nat
  due2 : Nat
  /-- Lanes of the read pass and of the write pass, as placed (R66). -/
  rmask : Nat
  wmask : Nat
  /-- The physical track that a relocation writes its surface on (R261). -/
  dest : Option Int
  deriving DecidableEq, Repr

/-- One command known to the machine, from its latch until nothing of it is left. -/
structure Cmd where
  id : Nat
  op : CmdOp
  /-- The OPCODE as written (R111, R139). -/
  code : Nat
  port : Nat
  die : Nat
  burgee : Nat
  tag : Nat
  flags : Nat
  lba : Nat
  count : Nat
  slot : Nat
  target : Nat
  deadline : Nat
  th : Nat
  phase : CmdPhase
  tp : Nat
  dl : Nat
  tmedia : Nat
  /-- Owner handle of R57; 0 for none. -/
  handle : Nat
  cached : Bool
  clusters : List Nat
  stripes : List CmdStripe
  /-- The flag each slot held before the command took it (R114). -/
  prior : List Nat
  rebuilt : Nat
  /-- Offsets of lost blocks, or of blocks not written (R143). -/
  lost : List Nat
  status : Nat
  /-- The failed assumption found, 0 for none (R140). -/
  assume : Nat
  /-- Predecessors fixed when the command entered step 6, by id (R120). -/
  preds : List Nat
  /-- By cluster: cells taken from BALANCE and lane-wedges borrowed that are not yet returned (R84, R85). -/
  own : Tab Nat
  borrowed : Tab Nat
  /-- The final record has been popped (R116). -/
  popped : Bool
  /-- The media work has ended (R125). -/
  mediaDone : Bool
  /-- ABORT: the command it names at its latch (R127). -/
  victim : Option Nat
  /-- An ABORT that acts on this command's verdict or stripes is waiting (R127, R128). -/
  aborting : Bool
  /-- Descriptor progress of a command served by a DELIVERY Streamer: its first burst was issued (R128). -/
  burst : Bool
  /-- Blocks delivered into their slots (read) or copied by the intake (write); of a prefetch, the LBAs that a WRITE
  latched after it covers (R396). -/
  moved : List Nat
  /-- The DETAIL of its final record: written, or dropped for want of a cell; none where none was asked for (R143). -/
  detail : Option Bool
  deriving DecidableEq, Repr

/-! ### Placements (R60 to R70) -/

/-- One pass of one stripe as a candidate places it. -/
structure Pass where
  item : Nat
  write : Bool
  a : Nat
  b : Nat
  mask : Nat
  track : Nat
  frag : Nat
  /-- The physical track of its one surface, where that is not the track in force (R261). -/
  dest : Option Int
  deriving DecidableEq, Repr

/-- Fragments due in a wedge: their surfaces and their zone entry. -/
structure Due where
  w : Nat
  mask : Nat
  zone : Nat
  deriving DecidableEq, Repr

/-- A candidate placement on one cluster: MOVE wedges and newly HELD wedges with their POS, wedges in which another
command holds the arm, the passes, the fragments due by wedge, the arm's position so far, and the lanes whose cells it
takes in wedges that another command holds. -/
structure Plan where
  moves : List (Nat × Nat)
  holds : List (Nat × Nat)
  through : List Nat
  passes : List Pass
  due : List Due
  cur : Nat
  took : List (Nat × List Nat)
  deriving DecidableEq, Repr

/-- The tentative placement of a command that was refused, as a later one may still meet it (R53, R70, R104): the command
with its tentative times, the tick of its refusal, and by cluster its plan and the amount borrowed. -/
structure Tent where
  cmd : Cmd
  since : Nat
  parts : List (Nat × Plan × Nat)
  deriving DecidableEq, Repr

/-- A record waiting in a completion queue: its words (16 to a cell) and the command whose final record it is. -/
structure Rec where
  words : List Nat
  cells : Nat
  shared : Nat
  owner : Option Nat
  isFinal : Bool
  deriving DecidableEq, Repr

/-- A grant of window slots (R147). -/
structure Grant where
  valid : Bool
  base : Nat
  num : Nat
  burgee : Nat
  deriving DecidableEq, Repr

/-- A rights entry (R154). -/
structure Rights where
  valid : Bool
  base : Nat
  cnt : Nat
  burgee : Nat
  rd : Bool
  wr : Bool
  deriving DecidableEq, Repr

/-- A slot operation that runs (R149): the next slot it reaches, the slots left, and its operation. -/
structure SlotOp where
  claim : Bool
  next : Nat
  left : Nat
  skipped : Nat
  /-- A slot of the range lies outside the grants: RESULT will be RIGHTS. -/
  bad : Bool
  origin : Nat
  deriving DecidableEq, Repr

/-- A privileged command that runs until its completion row: what it was, its result and its origin. -/
structure Running where
  op : Nat
  err : Nat
  origin : Nat
  deriving DecidableEq, Repr

/-- The task ports' hidden state. -/
structure Ports where
  /-- Every command known, oldest latch first. -/
  cmds : List Cmd
  /-- The id the next latched command takes. -/
  nextId : Nat
  /-- The admission queues of D0 and D1, oldest first, by id (R52). -/
  adq0 : List Nat
  adq1 : List Nat
  /-- Ports whose hoist is held because the port was full (R117), with the link port and function it came from. -/
  held : List (Nat × Option (Nat × Nat))
  /-- The completion queue of each port, oldest record first (R134). -/
  recs : Tab (List Rec)
  /-- By port: the sequence number of its next record (R134). -/
  seqNo : Tab Nat
  /-- The slot operation that runs, by port (R149). -/
  slotOps : Tab (Option SlotOp)
  /-- Window violations by burgee, read on every page of the burgee (TPn.WVIOL). -/
  wviol : Tab Nat
  /-- The rights table and the running rights command (R154). -/
  rights : Tab Rights
  rcmd : Option Running
  /-- The running budget command (R89, R108). -/
  bcmd : Option Running
  /-- Tentative placements of refused commands, newest first (R104). -/
  tents : List Tent
  /-- Interruptions that single faults have begun: what they interrupt (bit c: cluster c; bit 8: the path of every command)
  and the tick at which they are over at the latest (R450, R452). -/
  faults : List (Nat × Nat)
  deriving DecidableEq, Repr

/-- The data window's flags, ages and grants (R144, R147, R150). -/
structure Window where
  flags : Tab Nat
  ages : Tab Nat
  grants : Tab Grant
  gcmd : Option Running
  /-- TIME of the last sweep of the hold limit, or of the last write of LIMIT_MS (R150). -/
  sweptAt : Nat
  deriving DecidableEq, Repr

/-! ### Timelines and budgets (chapter 2) -/

/-- ARM of a wedge slot (R55). -/
inductive Arm where
  | free | move | held
  deriving DecidableEq, Repr

/-- KIND of a cell (R55). -/
inductive CellKind where
  | free | move | hold | xfer
  deriving DecidableEq, Repr

/-- One cell of a wedge slot: its KIND, its OWNER handle, whether it transfers a write, and, for an XFER cell, the
physical target and the fragment index it transfers at (R290). -/
structure TCell where
  kind : CellKind
  owner : Nat
  wr : Bool
  tgt : Int
  frag : Nat
  deriving DecidableEq, Repr

/-- One wedge slot of a timeline (R55). -/
structure WSlot where
  arm : Arm
  pos : Nat
  cells : Tab TCell
  /-- DLOAD: the fragments due in the wedge, by the IBUDGET of their zones (R55, R225). -/
  dload : Tab Nat
  deriving DecidableEq, Repr

/-- A budget row (R82), with its accepted change not yet in effect (R90) and what this revolution has used (R92). -/
structure Row where
  used : Bool
  share : Nat
  ceiling : Nat
  depth : Nat
  balance : Int
  borrowed : Nat
  staged : Option (Nat × Nat × Nat)
  /-- Cells used for the row's commands in the current revolution (R92). -/
  spent : Nat
  /-- Cells of the current revolution booked for the row in wedges already retired (R92). -/
  retired : Nat
  /-- A lane operation of the row was withheld: every later one is, until the next revolution boundary (R92). -/
  closed : Bool
  deriving DecidableEq, Repr

/-- The timeline and the budget rows of one cluster. -/
structure Timeline where
  /-- T_A, the TIME of the anchor wedge (R58). -/
  ta : Nat
  /-- The number of the wedge in progress. -/
  now : Nat
  /-- The cluster's wedge index of the anchor wedge (R59, R299). -/
  base : Nat
  /-- POS in force before the first listed slot. -/
  pos0 : Nat
  /-- Wedge slots by wedge number; an unlisted wedge is FREE and holds the POS of the wedge before it (R56). -/
  slots : Tab WSlot
  /-- XFER masks of the last 255 retired wedges, newest first (R68). -/
  hist : List Nat
  /-- By lane: wedge, physical target and fragment index of its last retired XFER cell (R290). -/
  lastX : Tab (Nat × Int × Nat)
  /-- Budget rows by row key (burgee, or 4,096 + activity). -/
  rows : Tab Row
  /-- The lend pool (R84). -/
  lend : Nat
  /-- The wedge, plus 1, of the revolution boundary whose refill a step 6 of its own tick has taken ahead (R103). -/
  filled : Nat
  deriving DecidableEq, Repr

end Sys2Proof.Machine

namespace Sys2Proof.Machine

/-! ### Lanes, preamp bus, motor bus, power failure (chapter 4) -/

/-- What the LANE unit armed on a lane: a read or a write of the fragment of one stripe slot, for one owner (R310). -/
structure LaneArm where
  write : Bool
  slot : Nat
  owner : Nat
  deriving DecidableEq, Repr

/-- A lane's read of a fragment in progress (R208, R215, R219). -/
inductive ReadPhase where
  /-- The gate is open and the sync window has not closed. -/
  | gate
  /-- The sync mark was found. -/
  | synced
  /-- So it was, and the HEAD found no landing slot (R220). -/
  | noSlot
  /-- No sync or RESYNC mark was found: the lane waits for the end of PAD (R216, R218). -/
  | dropped
  deriving DecidableEq, Repr

/-- A lane's read channel while a fragment passes (R207 to R215). Times are in ROOT cycles, amplitudes in sample codes, equalized
samples in the units of R213. -/
structure Chan where
  /-- Raw samples taken in this data region; the last eight corrected ones in quarters of a code, newest first (R160). -/
  count : Nat
  raw : List Int
  /-- The place of the next output sample in 2^−24 of a ROOT cycle, and the bits output since the gate opened (R207). -/
  next : Int
  bit : Nat
  /-- The last 32 resampled samples, newest first. -/
  xs : List Rat
  /-- The equalized samples with the noise variance in force at each, newest first. -/
  ys : List (Rat × Rat)
  /-- The taps, the integral term in bit periods, and the VGA code as they stand (R209 to R211). -/
  taps : List Rat
  integ : Rat
  gain : Nat
  /-- The averaged noise variance (R212). -/
  sigma : Rat
  /-- Path metrics of the eight trellis states before the newest decided bit, and the decided bits, newest first (R209, R212). -/
  alpha : List Rat
  bits : List Bool
  /-- Sync candidates so far: offset from E and distance (R215). -/
  cands : List (Int × Nat)
  /-- It crosses a servo field, or searches for the RESYNC mark after it, and coasts (R209). -/
  coast : Bool
  deriving DecidableEq, Repr

/-- The packet a lane is sending to its canton (R208 to R219). -/
structure ReadFrag where
  slot : Nat
  owner : Nat
  phase : ReadPhase
  /-- The offsets of H0 and, where there are two, of H1 from E (R217). -/
  h0 : Int
  h1 : Option Int
  /-- HEAD has been sent (R219). -/
  sent : Bool
  /-- The channel as it stands (R207 to R213). -/
  ch : Chan
  deriving DecidableEq, Repr

/-- One lane. -/
structure Lane where
  arm : Option LaneArm
  /-- The serializer is writing the armed fragment (R165). -/
  writing : Bool
  /-- The armed fragment has ended or was cut (R308, FRAG_END). -/
  ended : Bool
  /-- PFLTc_N cut the serializer; it stays idle until `resume` and the next wedge boundary (R182). -/
  idle : Bool
  resume : Bool
  /-- The lane's reset window has ended and it resumes at the next wedge boundary (R171). -/
  held : Bool
  read : Option ReadFrag
  /-- While its reset window lasts: the microactuator and heater codes that the preamp bus goes on carrying (R171). -/
  codes : Option (Nat × Nat)
  /-- The integral term and the taps at the end of the lane's last fragment in the zone of RCHs.STAT.ZONE (R208, R211). -/
  keep : Option (Rat × List Rat)
  /-- The averaged noise variance (R212). -/
  sigma : Rat
  /-- The channel bits being written, by data region (R165, R198, R206). -/
  out : List (List Bool)
  deriving DecidableEq, Repr

/-- The forward frames of the preamp control bus (R175). -/
inductive PcbKind where
  | ma | heat | mode | wreg | rreg | ping
  deriving DecidableEq, Repr

/-- A forward frame of the preamp control bus: type, payload, SEQ as sent, and for a MODE its surfaces, mode and ACT. -/
structure PcbFrame where
  kind : PcbKind
  words : List Nat
  seq : Nat
  mask : Nat
  mode : Nat
  act : Nat
  resent : Bool
  deriving DecidableEq, Repr

/-- The preamp bus controller of one cluster (R177 to R182). -/
structure Pcb where
  /-- An MA frame is due; the first MA of the wedge is still to come; the wedge's HEAT frame is due (R177). -/
  maDue : Bool
  heatDue : Bool
  queue : List PcbFrame
  /-- Frames sent whose reply is outstanding, oldest first. -/
  wait : List PcbFrame
  seqNo : Nat
  /-- Consecutive failed exchanges (R181). -/
  fails : Nat
  /-- Wedges since PFLTc_N fell without a FAULT frame (R182). -/
  pflt : Option Nat
  /-- The last frame driven on PCBc_DO, bit by bit (R173). -/
  line : List Bool
  deriving DecidableEq, Repr

/-- The forward frames of the motor command bus (R186). -/
inductive McbKind where
  | nop | vcm | spin | spmode | wreg | rreg
  deriving DecidableEq, Repr

/-- A forward frame of the motor command bus. -/
structure McbFrame where
  kind : McbKind
  target : Nat
  payload : Nat
  /-- The number, modulo 16, of the cycle that carries it (R185). -/
  seq : Nat
  tries : Nat
  /-- The power-fail sequence made it pending (R187). -/
  pf : Bool
  deriving DecidableEq, Repr

/-- The motor-bus master (R184 to R191). -/
structure Mcb where
  /-- Pending VCM frames, oldest first, at most one per cluster. -/
  vcm : List McbFrame
  spmode : Option McbFrame
  reg : Option McbFrame
  /-- Frames sent whose reply is outstanding, oldest first. -/
  flight : List McbFrame
  fails : Nat
  /-- By cluster: the last measured coil current and back-EMF codes (R186). -/
  meas : Tab (Nat × Nat)
  /-- The last back-EMF of a floating phase, the phase, and VBUS, as measured (R186). -/
  spin : Nat × Nat × Nat
  /-- The last frame driven on MCB_DO, bit by bit (R185). -/
  line : List Bool
  deriving DecidableEq, Repr

/-- What a stripe of the power-fail dump of a cluster holds, in the order of R254: the header, the stripe of R464, a stripe of
the repair buffer, or up to 30 blocks, each with its LBA and its burgee. -/
inductive DumpItem where
  | header | logStripe | rbuf (slot : Nat) | dirty (blocks : List (Nat × Nat))
  deriving DecidableEq, Repr

/-- A dump stripe of blocks: its 32 fragments by ROLE, P and Q among them, and the SEED of each data fragment (R254). -/
structure DumpStripe where
  item : DumpItem
  frags : List (List Nat)
  seeds : List Nat
  deriving DecidableEq, Repr

/-- Power failure (R192 to R196, R254): PFAIL_N is low, since when, and when it was accepted. -/
structure PowerFail where
  low : Bool
  lowAt : Nat
  acceptedAt : Nat
  /-- By cluster: what phase A has still to write. -/
  todo : Tab (List DumpStripe)
  deriving DecidableEq, Repr

/-! ### The cluster sequencer (chapter 8) -/

/-- An entry of a return stack: the address, and for an interrupt entry the timeout counter with its unit and whether the
address is that of a WAIT that was holding (R306, R316). -/
structure Ret where
  addr : Nat
  counter : Option (Nat × Bool)
  holding : Option Bool
  deriving DecidableEq, Repr

/-- The sequencer's own state beside its registers (R304 to R318). -/
structure Seq where
  /-- The control store holds the boot ROM's words and the patches listed in `store` (R301, R325). -/
  loaded : Bool
  store : Tab (Option (BitVec 136))
  /-- The die's copy of the store (R301, R326), listed likewise. -/
  copy : Tab (Option (BitVec 136))
  zero : Bool
  neg : Bool
  carry : Bool
  tmo : Nat
  tmoWedges : Bool
  /-- A holding WAIT had a running timeout counter when it was entered (R304). -/
  timed : Bool
  stack : List Ret
  /-- Event conditions that are set, by condition code (R308). -/
  events : Nat
  budgetOk : Bool
  posCmp : Option Nat
  /-- The wedge whose slot the TIMELINE unit was asked for (R310). -/
  tlReq : Option Nat
  /-- Words and QCLK cycles since the last safe point, and SEQ_SAFE_LATE already raised for the stretch (R318). -/
  words : Nat
  cycles : Nat
  late : Bool
  verifying : Bool
  reloading : Bool
  /-- BLOCK_RESET reloads the store when its window ends (R328). -/
  reloadDue : Bool
  /-- The last word that completed was a SAFE word, and the next has not begun (R316). -/
  safe : Bool
  deriving DecidableEq, Repr

/-! ### The stripe engine (chapter 6) -/

/-- What has become of one fragment of an open stripe. -/
inductive FragState where
  | waiting | good | erased | skipped
  deriving DecidableEq, Repr

/-- A stripe open in the stripe engine (R240 to R246). -/
structure OpenStripe where
  slot : Nat
  owner : Nat
  write : Bool
  /-- The write set W, by surface (R244). -/
  wset : Nat
  /-- Surfaces whose fragment was cut or not written in this pass (R245). -/
  cut : Nat
  /-- The 1,024 words of the fragments known, by ROLE (R238, R243). -/
  data : Tab (List Nat)
  /-- The 128 bytes of metadata and CRC that the decoded fragments carried, by ROLE (R199, R228). -/
  metas : Tab (List Nat)
  frags : Tab FragState
  /-- The WSEQ of the write pass (R239). -/
  wseq : Nat
  pq : Bool
  /-- A STRIPE pulse has said that the stripe's blocks are present in memory (R402). -/
  present : Bool
  settled : Bool
  /-- Surfaces whose data block the read pass has lost (R241, R243). -/
  gone : Nat
  /-- A commit test was started (R245). -/
  testing : Bool
  deriving DecidableEq, Repr

/-- An entry of the repair list (R250); keyed by stripe slot. -/
structure Repair where
  stale : Nat
  lost : Nat
  memLost : Bool
  deriving DecidableEq, Repr

/-- A skew-table entry of one surface in one region (R257, R261). -/
structure Skew where
  hoff : Int
  place : Int
  target : Int
  out : Bool
  moving : Bool
  near : Bool
  boundary : Nat
  /-- The target was clamped as it was set (R261, R262). -/
  clamped : Bool
  deriving DecidableEq, Repr

/-- The stripe engine of one cluster. -/
structure Stripes where
  opened : List OpenStripe
  cur : Option Nat
  rlist : Tab Repair
  /-- Stripe slots in the repair buffer, oldest first (R246). -/
  rbuf : List Nat
  /-- Their 32 fragments, by stripe slot × 32 + ROLE. -/
  rbufData : Tab (List Nat)
  remap : Tab (Option Nat)
  /-- Weak counts of fragment slots, by slot × 32 + surface (R267). -/
  weak : Tab Nat
  skew : Tab Skew
  centre : Tab Int
  /-- Regions and the revolution of their last CAL update (R259). -/
  calAt : Tab Nat
  wseq : Nat
  /-- Lost surfaces on the map tracks, and whether the record changed since (R263). -/
  lostMap : Nat
  lostDirty : Bool
  /-- The repair list changed since its last flush to the map tracks (R251). -/
  listDirty : Bool
  /-- Next stripe slot of the patrol (R267). -/
  patrol : Nat
  /-- A stripe that the patrol has found weak, and the spare slot it is to be copied to (R267, R268). -/
  moveTo : Option (Nat × Nat)
  deriving DecidableEq, Repr

end Sys2Proof.Machine

namespace Sys2Proof.Machine

/-! ### Front cache and Streamers (chapter 11) -/

/-- STATE of a cache line (R383). -/
inductive LineState where
  | invalid | clean | dirty
  deriving DecidableEq, Repr

/-- The tag entry of a line (R383). `ver` is the write whose data a DIRTY line holds; `fetched` marks a prefetched
block; `dying` marks a CLEAN line that becomes INVALID once its PINS reach 0 (R385). -/
structure Line where
  st : LineState
  lba : Nat
  handle : Nat
  ver : Nat
  pins : Nat
  filling : Bool
  marked : Bool
  fetched : Bool
  dying : Bool
  deriving DecidableEq, Repr

/-- An entry of the eviction buffer: the block version on its way to its staging copy (R389). -/
structure EvEntry where
  lba : Nat
  ver : Nat
  stage : Nat
  deriving DecidableEq, Repr

/-- A stride-prefetch stream entry (R394); `upd` orders the entries by their last update. -/
structure Stream where
  burgee : Nat
  last : Nat
  stride : Int
  count : Nat
  conf : Nat
  upd : Nat
  busy : Option Nat
  deriving DecidableEq, Repr

/-- The front cache of one die (R382 to R396). -/
structure CacheDie where
  lines : Tab Line
  plru : Tab Nat
  evb : List EvEntry
  invalidating : Bool
  streams : List Stream
  clockUpd : Nat
  deriving DecidableEq, Repr

/-- The record of a BUFFERED write whose TERMINAL came before its stripes committed (R393). -/
structure BufRec where
  cmd : Nat
  burgee : Nat
  lba : Nat
  count : Nat
  deriving DecidableEq, Repr

/-- What a Streamer is given to do: a descriptor chain, the delivery of a cached block, or the intake of a block. -/
inductive Job where
  | chain (addr : Nat) | deliver (cmd block line : Nat) | intake (cmd block line : Nat) | stage (cmd block idx : Nat)
  deriving DecidableEq, Repr

/-- A descriptor (R398). -/
structure Desc where
  srcSpace : Nat
  src : Nat
  dstSpace : Nat
  dst : Nat
  len : Nat
  n0 : Nat
  n1 : Nat
  n2 : Nat
  ss0 : Int
  ds0 : Int
  ss1 : Int
  ds1 : Int
  ss2 : Int
  ds2 : Int
  event : Nat
  nslot : Nat
  arg : Nat
  link : Nat
  deriving DecidableEq, Repr

/-- One Streamer (R405). The position of the next byte stands in its registers. -/
structure Streamer where
  job : Option Job
  desc : Option Desc
  queue : List Job
  /-- Bursts issued and not acknowledged, oldest first: bytes, and the TIME of the issue (R401). -/
  out : List (Nat × Nat)
  /-- Descriptors issued whole whose bursts are not all acknowledged, with that number (DELIVERY, R410). -/
  trail : List (Job × Nat)
  /-- The last element's last burst has been issued. -/
  issued : Bool
  withdrawn : Bool
  /-- It paused in WAIT_LINK (R405). -/
  waited : Bool
  /-- The unit of 256 bytes counted so far in STM.n.BYTES, in bytes. -/
  bytes : Nat
  /-- The job was cut by a block reset and runs again from its start (R409). -/
  rerun : Bool
  /-- The FCLK cycle, 16 to a tick of TIME, before which no burst is issued (R401). -/
  nextAt : Nat
  /-- TIME at which WAIT_LINK was entered (R403). -/
  linkAt : Nat
  deriving DecidableEq, Repr

end Sys2Proof.Machine

namespace Sys2Proof.Machine

/-! ### Decoder pools (chapter 5) -/

/-- How one framing of a packet stands (R217, R226, R227). -/
inductive Framing where
  | absent | waiting
  /-- Decoder `dec` works on it since the FCLK cycle `since` in which it was dispatched, in its second global pass or its first
  (R222, R223). -/
  | running (dec since : Nat) (second : Bool)
  /-- It passed the check of R200: its 4,224 bytes. -/
  | passed (bytes : List Nat)
  | failed
  deriving DecidableEq, Repr

/-- A packet in a landing slot of a canton (R219, R220), in order of arrival. -/
structure Packet where
  cluster : Nat
  surface : Nat
  slot : Nat
  owner : Nat
  role : Nat
  due : Nat
  all : Bool
  /-- The SEED expected (R200), Δ, and whether the earlier framing is H1 (R217, R219). -/
  seed : Nat
  delta : Nat
  h1First : Bool
  /-- The flits received: HEAD, DATA and TAIL (R219). -/
  wire : List Nat
  /-- TAIL has arrived: the wedge of the last sample, and the tick. -/
  last : Option (Nat × Nat)
  h0 : Framing
  h1 : Framing
  /-- It was returned by a lost decoder: while it waits it goes to the head of the waiting fragments (R229). -/
  returned : Bool
  deriving DecidableEq, Repr

/-- The decoder pool of one canton. -/
structure Canton where
  slots : List Packet
  deriving DecidableEq, Repr

/-! ### Servo (chapter 7) -/

/-- The class of a lane's sample (R275). -/
inductive SampleClass where
  | valid | inconsistent | missing | none
  deriving DecidableEq, Repr

/-- A lane's own servo state beside its registers (R277 to R281, R291 to R293). Positions in tracks. -/
structure LaneSrv where
  y : Rat
  phi : Rat
  phiOld : Rat
  pred : Rat
  integ : Rat
  clamped : Bool
  miss : Nat
  settling : Nat
  /-- Consecutive WDs at which no condition of R291 held. -/
  clean : Nat
  /-- Sum and number of the misregistrations of the current revolution (LANs.MAPHI.PHI_AVG). -/
  sum : Rat
  num : Nat
  /-- The lane has a history of misregistrations. -/
  known : Bool
  /-- y_s[35:32] of the WD whose low bits stand in LANs.MAPOS_LO; a read of MAPOS_LO latches it into MAPOS_HI. -/
  posHi : Nat
  /-- The SAM accepted in the last wedge, in 2^-24 of a ROOT cycle (R299). -/
  sam : Option Nat
  deriving DecidableEq, Repr

/-- A MOVE in progress: owner, booked wedges, distance, wedges since it began. -/
structure Move where
  owner : Nat
  booked : Nat
  dist : Nat
  taken : Nat
  overrun : Bool
  deriving DecidableEq, Repr

/-- The servo of one cluster beside its registers (R282 to R299). -/
structure Servo where
  x : Rat
  v : Rat
  b : Rat
  /-- VCM commands with the FCLK cycle each takes force in, oldest first; the first is the one in force at the last WTR. -/
  us : List (Rat × Int)
  notch : List (Rat × Rat)
  lanes : Tab LaneSrv
  /-- Expected wedge index of the next WD. -/
  index : Nat
  lockRun : Nat
  lockIndex : Nat
  disagree : Nat
  invalid : Nat
  settleRun : Nat
  shockRun : Nat
  move : Option Move
  /-- The lock of R299 has been found; the anchor T_A is set once it has left START. -/
  locked : Bool
  anchored : Bool
  /-- Wedges spent in ACQUIRE or REACQUIRE. -/
  lostWedges : Nat
  /-- The shock event this cluster detected is still on (R296). -/
  shockEvent : Bool
  valid : Bool
  /-- The last WTR in FCLK cycles (R276); x and v are of that time. -/
  wtr : Nat
  /-- The observer has been given its first arm estimate. -/
  known : Bool
  /-- The cluster has been in REACQUIRE and not since in FOLLOW with SETTLED = 1 (R295). -/
  astray : Bool
  /-- p̂[35:32] of the WD whose low bits stand in SRV.POS_LO; a read of POS_LO latches it into POS_HI. -/
  posHi : Nat
  deriving DecidableEq, Repr

/-! ### Loop engine (chapter 9) -/

/-- The clearance loop of one lane beside its registers (R333 to R343). -/
structure Clr where
  integ : Int
  model : Rat
  seen : Bool
  /-- Heater code of the last HEAT frame whose SENSE reply was received, and of the one sent after it (R335, R339). -/
  force : Nat
  sent : Nat
  mis : Nat
  same : Nat
  lostRun : Nat
  idleRun : Nat
  hold : Nat
  /-- Revolution boundaries since the trip; samples of the probation revolution. -/
  revs : Nat
  prob : Nat
  /-- PROBATION's opening ramp has ended. -/
  probRun : Bool
  /-- The lane entered OFF through loss or power failure (R343). -/
  dead : Bool
  deriving DecidableEq, Repr

/-- The spindle loop of one die beside its registers (R333, R345 to R350). -/
structure Spin where
  integ : Int
  sat : Bool
  /-- Start has enabled the spindle; the 10 ms watch or ALIGN runs. -/
  watching : Bool
  enabled : Bool
  locked8 : Nat
  off8 : Nat
  everLocked : Bool
  zeros : Nat
  /-- SPREF: last accepted edge, consecutive accepted edges, whether K0 is captured, last periods (newest first); times in
  1/16 tick. -/
  lastEdge : Option Nat
  run : Nat
  captured : Bool
  periods : List Nat
  /-- The tick in which the watch or the present state began, and that in which the loop left OFF (R345, R349). -/
  since : Nat
  left : Nat
  /-- Crossings were valid on 3 consecutive half-periods of the watch (R345). -/
  seen3 : Bool
  /-- A SPIN frame of this ALIGN has been sent: magnitude and angle stay (R345). -/
  aligned : Bool
  /-- The last valid zero crossing and the half-period before it, in 1/16 tick; which half of the electrical turn it began
  (R348). -/
  cross : Option Nat
  half : Nat
  turn : Bool
  /-- The crossing at which the revolution being counted began, and its half-periods so far. -/
  rev : Option Nat
  halves : Nat
  deriving DecidableEq, Repr

/-! ### Memory protection (chapter 10) -/

/-- An entry of the syndrome log (MEM.SYN*). -/
structure SynEntry where
  addr : Nat
  space : Nat
  syndrome : Nat
  expected : Nat
  injected : Bool
  unc : Bool
  foundBy : Nat
  region : Nat
  restored : Bool
  time : Nat
  deriving DecidableEq, Repr

/-- An access of a requester to a stored word: a read, a write of all four bytes, or a merge under a byte mask, with the
requester's origin (R357, R359, R361). -/
inductive MemAccess where
  | read (m : MemAt)
  | write (origin : Nat) (m : MemAt) (v : Nat)
  | merge (origin : Nat) (m : MemAt) (mask v : Nat)
  deriving DecidableEq, Repr

/-- The memory controllers' own state. -/
structure MemUnit where
  syn : List SynEntry
  /-- Injection marks by key: the mask (R379). -/
  marks : Tab Nat
  /-- Correctable errors per line in the current window of 65,536 bursts, by channel × 80 + line; bursts of the window. -/
  lines : Tab Nat
  bursts : Tab Nat
  /-- Channels held after a failed line (R375, step 3). -/
  held : List Nat
  /-- TIME at which a channel was held, or at which its last sweep burst went out (R375, steps 3 and 5). -/
  lineAt : Tab Nat
  /-- Accesses kept while their channel is held, oldest first (R375, step 3). -/
  kept : List MemAccess
  /-- The scrubber's pointer of each channel: words read in the running pass over the DRAM stack (R374). -/
  scrubbed : Tab Nat
  /-- Findings of the running scrub pass, by row: uncorrectable and correctable words (R378). -/
  rows : Tab (Nat × Nat)
  suspects : List Nat
  /-- Origin of the arming write. -/
  armedBy : Nat
  deriving DecidableEq, Repr

/-! ### The Halyard link (chapter 12) -/

/-- A packet the device sends: TYPE, view, function, burgee, tag, STATUS, address or word 2, data words. -/
structure Pkt where
  type : Nat
  view : Bool
  func : Nat
  burgee : Nat
  tag : Nat
  status : Nat
  word2 : Nat
  data : List Nat
  deriving DecidableEq, Repr

/-- One port's link layer. -/
structure LinkPortSt where
  /-- SEQ of the last DATA flit received good and in order, modulo 4,096; NAK is being sent (R420). -/
  rxAck : Nat
  nak : Bool
  /-- Next SEQ to send, and the DATA flits sent and not acknowledged, oldest first: SEQ and the packet that ends in it. -/
  txSeq : Nat
  sent : List (Nat × Option Pkt)
  /-- Packets waiting for room in the replay buffer. -/
  wait : List Pkt
  /-- Resends in a row without an ACK advance (R421); the last ACK that a NAK named. -/
  resends : Nat
  nakAt : Option Nat
  /-- Credits: granted and in use by packets not yet performed (R422). -/
  posted : Nat
  nonPosted : Nat
  /-- Adapter's posted credits: advertised total, and used (R423). -/
  pcred : Nat
  pused : Nat
  /-- Device's released totals for its CTRL flits. -/
  prel : Nat
  nrel : Nat
  /-- The item of the last CTRL flit received, and whether it has been acted on (R418). -/
  item : Option (Nat × Nat × Nat)
  acted : Bool
  /-- Receive map that waits for its CWSEQ (R436), and the transmit map likewise. -/
  rxPend : Option (Nat × Nat)
  txPend : Option Nat
  /-- The item the device repeats in its CTRL flits: ITEM, and the lane or the map. -/
  sending : Option (Nat × Nat)
  /-- The port has been DOWN: when it next reaches UP it sends a doorbell for every port with records (R440). -/
  redbl : Bool
  /-- ALIGN of the RETRAIN has been completed. -/
  reAligned : Bool
  /-- The round being received, by CWSEQ, with the segments of the lanes whose codewords of it have come; segments received and
  not yet taken as flits; words of a packet that goes on in the next DATA flit (R415, R417, R419). -/
  round : Nat
  got : List (Nat × List Nat)
  stream : List (Option Nat)
  part : List Nat
  /-- TIME of the last ACK advance, resend or start of sending (R421), of the port's last change of STATE (R439), and of the
  start of the item in `sending` (R436). -/
  ackAt : Nat
  since : Nat
  itemAt : Nat
  deriving DecidableEq, Repr

/-- One Halyard lane's counters that no register shows (R435, R438). -/
structure HLaneSt where
  /-- The last 64 codewords, newest first: uncorrectable or not. -/
  unc : List Bool
  badHdr : Nat
  /-- The PCS is held in reset under R435. -/
  held : Bool
  /-- TIME of the loss, or of the last retrain (R438). -/
  triedAt : Nat
  deriving DecidableEq, Repr

/-- The link. -/
structure Link where
  ports : Tab LinkPortSt
  lanes : Tab HLaneSt
  /-- Task ports whose doorbell waits to be sent, oldest first (R432). -/
  doorbells : List Nat
  /-- Link port and function of the most recent HOIST write latched on each task port. -/
  dblTo : Tab (Nat × Nat)
  /-- EVT messages waiting on D0 and D1: TIME and source (R434). -/
  evt0 : List (Nat × Nat)
  evt1 : List (Nat × Nat)
  deriving DecidableEq, Repr

/-! ### Crossings, start, calibration, media (chapters 1, 6, 13, 14) -/

/-- The hidden state of a crossing of R38. -/
structure Cross where
  /-- Its timeout has expired and no edge has come since (CLK_PRESENT is 0). -/
  stopped : Bool
  /-- A side is in reset. -/
  reset : Bool
  /-- It waits for 64 destination cycles of its clock (R42). -/
  reopening : Bool
  deriving DecidableEq, Repr

/-- What start reads of a slot at step 3: the 4,576 bytes of its header, the bytes of its REPAIR section, and that section's DRAM
row entries, each with whether a spare row remains for it (R377, R474). -/
structure SlotBytes where
  head : List (BitVec 8)
  repair : List (BitVec 8)
  repairs : List (Nat × Bool)
  deriving DecidableEq, Repr

/-- A slot header (R474): its bytes, the fields that start takes from them, and what step 3 finds of its REPAIR section (R377). -/
structure Header where
  head : List (BitVec 8)
  cl : Nat
  board : Nat
  imgseq : Nat
  ident : List Nat
  split : Nat
  autoReadd : Bool
  evtdst : Nat
  priv : List Nat
  repairOk : Bool
  repairs : List (Nat × Bool)
  deriving DecidableEq, Repr

/-- A budget row of the BUDGET section (R88, R476). -/
structure ImgRow where
  cluster : Nat
  key : Nat
  share : Nat
  ceiling : Nat
  depth : Nat
  deriving DecidableEq, Repr

/-- A patch (R324, R477): the steppings its directory entry names, the fields of its header, whether SIG verifies and the
GCM tag verifies, and its runs, each a START and its control words. -/
structure Patch where
  dirSteppings : Nat
  steppings : Nat
  clMin : Nat
  clusters : Nat
  seqno : Nat
  signed : Bool
  opened : Bool
  runs : List (Nat × List (BitVec 128))
  deriving DecidableEq, Repr

/-- The sections of an image as start reads them (R476): their bytes in the order of the directory, and what those say: the
register loads of its CONFIG, ZONE, LAYOUT, SERVO and LOOP sections, reactions, budget rows, tenants, and the factory skew table
by 65,536 × cluster + 32 × region + surface, with the centres by 2,048 × cluster + region. -/
structure Image where
  sections : List (List (BitVec 8))
  loads : List (Nat × BitVec 32)
  react : List Nat
  rows : List ImgRow
  ports : List (Nat × BitVec 32)
  rights : List (Nat × Rights)
  grants : List (Nat × Grant)
  skew : Tab Skew
  centre : Tab Int
  deriving DecidableEq, Repr

/-- One calibration copy in the flash whose header passes: GEN, the words of its tables by key, its session records by
TABLE_ID, and the tables whose CRC fails (R487). -/
structure CalCopy where
  gen : Nat
  words : Tab Nat
  records : Tab (List Nat)
  bad : List Nat
  deriving DecidableEq, Repr

/-- What the replay of a home stripe finds and leaves (R256): the fragments of its read pass by ROLE, those found erased, and
those that its write pass failed to write. -/
structure HomePass where
  slot : BitVec 32
  data : List (List (BitVec 32))
  erased : BitVec 32
  cut : BitVec 32
  deriving DecidableEq, Repr

/-- What the map tracks and the dump of a cluster let step 10 of start read: the maps can be read, the stripes of the dump, by
number, that have more than two erasures, and the passes over the home stripes (R256). -/
structure MapsFound where
  ok : Bool
  erased : List Nat
  homes : List HomePass
  deriving DecidableEq, Repr

/-- What the work of a step of start finds (R480, R484). Steps 9 to 11 are each cluster's own. -/
inductive Found where
  /-- Step 1: the straps. -/
  | straps (persona : Fin 16) (test : Bool)
  /-- Step 2: the root PLL locked within its bound. -/
  | root (locked : Bool)
  /-- Step 3: the fuse-map entries applied, none where the fuse block check fails; what slots A and B hold. -/
  | headers (fuse : Option (BitVec 12)) (a b : SlotBytes)
  /-- Step 3 again, for the slot that a fallback reached (R481). -/
  | again
  /-- Step 4: the first channel that fails training; the channels found in self-refresh; the clusters whose RLIST, and whose
  RBUF, fails its CRC-64. -/
  | memory (failed : Option (Fin 16)) (kept : BitVec 16) (rlistBad rbufBad : BitVec 8)
  /-- Step 5: the sections of the slot in use. -/
  | image (x : Image)
  /-- Step 6: the calibration copies, where they were programmed while RESET_N was low. -/
  | tables (programmed : Option (Option CalCopy × Option CalCopy))
  /-- Step 7: the preamps that answer, and the motor bus. -/
  | electronics (preamps : BitVec 8) (motor : Bool)
  /-- Step 8. -/
  | spinup
  /-- Step 9 of one cluster. -/
  | locked (c : Cluster)
  /-- Step 10 of one cluster. -/
  | recovered (c : Cluster) (m : MapsFound)
  /-- Step 11 of one cluster. -/
  | opened (c : Cluster)
  deriving DecidableEq, Repr

/-- What a calibration session measures (R489): the edges of CALREF_CLK over 10^9 ticks; CALREF_V against the internal
reference (absent, or its deviation in units of 0.01 %); the entries of the ADC and AFE tables; those of HEAT, MA and VCM. -/
inductive Measured where
  | timebase (n : BitVec 64)
  | refdac (deviation : Option (BitVec 32))
  | analog (adc : List (List (BitVec 32))) (afe : List (List (BitVec 32)))
  | media (heat : List (List (BitVec 32))) (ma : List (BitVec 32)) (ka : BitVec 32)
  deriving DecidableEq, Repr

/-- Start (R480 to R485, R501). -/
structure Start where
  /-- The headers of slots A and B that verify (R475). -/
  hdrA : Option Header
  hdrB : Option Header
  /-- Slots tried: bit 0 A, bit 1 B (R481). -/
  tried : Nat
  /-- The image of the slot in use, once step 5 has accepted it. -/
  image : Option Image
  /-- Step 7 has ended and PFAIL_N holds start (R501). -/
  pfHold : Bool
  /-- Steps 9 to 11 by cluster: the step in progress, 12 once OPEN. -/
  clu : Tab Nat
  /-- PFAIL_N acceptance is armed (R501). -/
  armed : Bool
  /-- DRAM rows already repaired from an image (R377). -/
  repaired : List Nat
  /-- Clusters whose RLIST step 4 found bad (R251). -/
  badLists : Nat
  /-- Step 10 has programmed the gaps of the first area (R462). -/
  firstFilled : Bool
  deriving DecidableEq, Repr

/-- A calibration session (R489 to R493). -/
structure Session where
  kind : Nat
  cluster : Nat
  apply : Bool
  closing : Bool
  /-- TIME of its start (R492). -/
  since : Nat
  deriving DecidableEq, Repr

/-- Calibration (R487 to R493): tables by key (TABLE_ID × 32 + entry) × 4 + word. -/
structure Cal where
  work : Tab Nat
  target : Tab Nat
  staged : Tab Nat
  /-- Session records of the staged tables by TABLE_ID: TIME, CAL, the two reference identities, the session number. -/
  records : Tab (List Nat)
  session : Option Session
  /-- STORE runs, into this copy (R493). -/
  storing : Option Nat
  /-- The two copies in the NOR flash; none where its header fails. -/
  copies : List (Option CalCopy)
  /-- Targets of the loop coefficients that still move, by register address × 32 + lowest bit (R351); an unlisted key reads
  as 2^32, which no target is. -/
  slew : Tab Nat
  deriving DecidableEq, Repr

/-- What one cluster's media keep across power: the map tracks, the log copy and the dump (R251, R254, R263, R463). -/
structure Media where
  rlist : Tab Repair
  lost : Nat
  remap : Tab (Option Nat)
  skew : Tab Skew
  centre : Tab Int
  /-- Events held on the log tracks, and the stripe, among those of the log tracks, that the next flush begins at (R463). -/
  log : List Event
  logAt : Nat
  /-- Weak counts, held with the remap table (R267). -/
  weak : Tab Nat
  /-- The stripes of a dump that no start has replayed completely, and the region whose dump tracks hold them (R254). -/
  dump : List DumpStripe
  dumpRegion : Nat
  /-- The list changes and the lost-surface record in the dump's header (R254, R256). -/
  head : Option (Tab Repair × Nat)
  /-- The stripe of R464. -/
  logStripe : List Event
  /-- What phase A left undumped of the BUFFERED writes whose TERMINAL was written: one record per stripe (R253). -/
  buffered : List BufRec
  deriving DecidableEq, Repr

end Sys2Proof.Machine
end

