-- ==== Sys2Proof/Syntax.lean ====
section
/-! DEFINITION. Syntax.lean: the commands that the part takes, one constructor per row of the command table. Each carries
what the row needs from outside: who acts, which instance, and what was presented or measured. -/

namespace Sys2Proof

open Machine

/-- The commands, in the order of the command table. The rule after each is the one the table gives its row. -/
inductive Instr where
  /-- The power-on detector on VCORE acts, which clears TIME and everything else and begins a power-on reset (R30). -/
  | powerOnDetect
  /-- RESET_N falls, which applies a package reset to everything except the state that named rules keep (R34). -/
  | resetNAssert
  /-- RESET_N rises after synchronisation, which ends the reset and begins step 1 of start (R499). -/
  | resetNRelease
  /-- A CHIP_RESET reaction causes a package reset once its FAULT event is stored, and sets TOP.RSTCAUSE.CHIP (R444).
  -/
  | chipReset
  /-- A step of start finishes its work, and start goes on to the next step (R480). -/
  | startStepDone (f : Found)
  /-- PFAIL_N has been high for 10 ms after step 7 of start, so start goes on to step 8 (R501). -/
  | startPfailHoldEnd
  /-- No REFCLK edge arrives for 50 ns, so REF_OK clears, REFCLK_LOSS is raised and the root PLL enters holdover
  (R27). -/
  | refclkGapTimeout
  /-- A 1 ms frequency window of the monitor ends, and REF_OK is updated or REFCLK_LOSS is raised (R27). -/
  | refclkWindowEnd (inRange : Bool)
  /-- ROOT stops, so the monitor oscillator drives ERR_N low until power-on or RESET_N (R29). -/
  | rootStop
  /-- A die's TIME replica is compared with the base-die counter every 1,024 ticks (R31). -/
  | timeReplicaCompare (d : Die) (rep : BitVec 64)
  /-- A foreign clock is missing for a crossing's timeout, so CDC_TIMEOUT and CLOSED are set and the items in flight
  are discarded (R39). -/
  | cdcClockTimeout (n : Crossing)
  /-- A pulse arrives on a PULSE crossing and is delivered with a toggle handshake (R41). -/
  | cdcPulse (n : Crossing) (busy : Bool)
  /-- Both sides of a crossing are out of reset and the foreign clock has run for 64 destination cycles, so the
  crossing reopens (R42). -/
  | cdcReopen (n : Crossing)
  /-- A block's reset window ends, and the block resumes with its configuration reloaded (R36). -/
  | blockResetEnd (b : BlockId)
  /-- The detector mask of a block reset ends 64 FCLK after its window (R448). -/
  | faultMaskEnd (b : BlockId)
  /-- Writing 1 to FLT.FIRST.VALID clears the first-error latch (R447). -/
  | fltFirstClear (o : Origin)
  /-- A W1C write to a PEND bit clears it and releases INT_N or ERR_N once no pending source of that reaction remains
  (R444). -/
  | fltPendClear (o : Origin) (k : Fin 10) (v : BitVec 32)
  /-- A write to a register that has no row of its own acts according to the access codes of its fields and is logged
  when it is privileged (R12). -/
  | registerWrite (o : Origin) (a : BitVec 48) (v : Word)
  /-- A read of an RC field returns the field and clears it in the same access (R12). -/
  | rcFieldRead (o : Origin) (a : BitVec 48)
  /-- A HOIST of a READ latches the command, checks it at the door, takes its slots and range lock, and queues it for
  admission (R50). -/
  | hoistRead (o : Origin) (n : TaskPort)
  /-- A HOIST of a WRITE latches the command, checks it at the door, takes its slots and range lock, and queues it for
  admission (R50). -/
  | hoistWrite (o : Origin) (n : TaskPort)
  /-- A HOIST of an ABORT is checked and promised without a range lock or cells, and then acts on its target (R126).
  -/
  | hoistAbort (o : Origin) (n : TaskPort)
  /-- A HOIST with an undefined OPCODE is refused as MALFORMED (R113). -/
  | hoistBadOpcode (o : Origin) (n : TaskPort)
  /-- A hoist held on a full port is latched in the cycle after a pop lowers LIVE (R117). -/
  | heldHoistLatch (n : TaskPort)
  /-- An admission unit takes the queued command, places and funds it, commits or releases it, and writes its verdict
  (R52). -/
  | admissionUnitTake (d : Die) (h : Fin 16384) (unit : Fin 4) (met : BitVec 8) (edge : BitVec 8)
  /-- A BUFFERED write's TERMINAL is written at its promise time, while its blocks stay dirty (R253). -/
  | bufferedTerminal (n : TaskPort) (tag : BitVec 16)
  /-- A read of TPn.CQ_POP returns the head record's length word, copies the record into TPn.CQ_RECw and frees its
  cells (R136). -/
  | cqPop (n : TaskPort)
  /-- A TPn.SLOTOP write with OP FREE starts changing HOST and POISONED slots of the range to FREE (R149). -/
  | slotopFree (o : Origin) (n : TaskPort) (num : Fin 4194304)
  /-- A TPn.SLOTOP write with OP CLAIM starts changing FREE slots of the range to HOST (R149). -/
  | slotopClaim (o : Origin) (n : TaskPort) (num : Fin 4194304)
  /-- A slot operation reaches the end of its range, which sets RESULT and SKIPPED and clears BUSY (R149). -/
  | slotopComplete (n : TaskPort)
  /-- A write to TPT.PORTn.CFG enables, disables or reconfigures a port, or is rejected (R153). -/
  | portCfgWrite (o : Origin) (n : TaskPort) (v : Word)
  /-- TPT.RCMD with OP READ reads a rights entry into the staging registers (R154). -/
  | rightsRead (o : Origin)
  /-- TPT.RCMD with OP SET writes a rights entry from the staging registers (R154). -/
  | rightsSet (o : Origin)
  /-- TPT.RCMD with OP CLEAR clears a rights entry (R154). -/
  | rightsClear (o : Origin)
  /-- A rights command completes, and its RIGHTS_CHANGE event is logged (R154). -/
  | rightsCmdComplete
  /-- WIN.GCMD with OP READ reads a grant entry (R147). -/
  | grantRead (o : Origin)
  /-- WIN.GCMD with OP SET creates or replaces a grant entry, revoking the slots that leave it (R147). -/
  | grantSet (o : Origin)
  /-- WIN.GCMD with OP REVOKE revokes a grant entry unless it covers a DEVICE slot (R147). -/
  | grantRevoke (o : Origin)
  /-- A grant operation ends, which clears BUSY and logs GRANT_CHANGE (R147). -/
  | grantCmdComplete
  /-- The hold-limit sweeper visits the slots, and each HOST slot's age increments (R150). -/
  | holdSweep
  /-- A write to WIN.HOLD.LIMIT_MS changes the sweep period, or stops it when the value is 0 (R150). -/
  | winHoldWrite (o : Origin) (v : Word)
  /-- At a cluster's wedge boundary the ended slot retires and reopens at the far end of the timeline (R56). -/
  | wedgeBoundary (c : Cluster) (b : Boundary)
  /-- PRM.BCMD with OP READ reads a budget row into BVAL, BDEPTH, BBAL and BBOR (R89). -/
  | bcmdRead (o : Origin)
  /-- PRM.BCMD with OP WRITE checks the staged row values and accepts or rejects them (R89). -/
  | bcmdWrite (o : Origin)
  /-- A budget command completes, which clears BUSY, sets BSTAT.ERR and logs BUDGET_CHANGE (R89). -/
  | bcmdComplete
  /-- The LANE unit arms read gates for a mask of lanes at a fragment descriptor, charging cells to the owner (R310).
  -/
  | laneArmRead (c : Cluster) (mask : BitVec 32) (slot : BitVec 32)
  /-- The LANE unit arms write gates for a mask of lanes, which starts a write pass on each lane (R314). -/
  | laneArmWrite (c : Cluster) (mask : BitVec 32) (slot : BitVec 32)
  /-- The LANE unit disarms the gates of a mask of lanes (R310). -/
  | laneDisarm (c : Cluster) (mask : BitVec 32)
  /-- A sub-ADC returns the same code for 1,024 samples, so ADC_STUCK is set and the lane is lost (R164). -/
  | adcStuck (c : Cluster) (f : Surface)
  /-- Writing 1 to LANs.CTL.RETIRE loses the lane (R170). -/
  | laneRetire (o : Origin) (c : Cluster) (f : Surface)
  /-- A write to LANs.CTL.HOST_WINH sets or clears the HOST write-inhibit of a lane (R169). -/
  | hostWinhWrite (o : Origin) (c : Cluster) (f : Surface) (b : Bool)
  /-- The preamp bus controller starts the next waiting forward frame, in priority order, when it fits before the next
  MA start (R177). -/
  | pcbFrameSend (c : Cluster) (fits : Bool)
  /-- An ACK return frame confirms a forward frame, such as a MODE change (R175). -/
  | pcbAck (c : Cluster) (seq : Fin 16)
  /-- A NAK return frame fails the exchange of the forward frame it answers (R174). -/
  | pcbNak (c : Cluster) (ma : Bool) (passed : BitVec 12)
  /-- A SENSE return frame delivers the clearance readings of the wedge's HEAT frame (R335). -/
  | pcbSense (c : Cluster) (r : Vector (BitVec 16) 32)
  /-- An RDATA return frame delivers the data of a preamp register read (R175). -/
  | pcbRdata (c : Cluster) (addr : BitVec 16) (data : BitVec 16)
  /-- A FAULT frame names surfaces and a cause, which sets write-inhibits, loses lanes or loses the preamp (R183). -/
  | pcbFaultFrame (c : Cluster) (surfaces : BitVec 32) (cause : BitVec 8)
  /-- A return frame with a bad CRC or length is discarded and counted (R174). -/
  | pcbBadFrame (c : Cluster) (passed : BitVec 12)
  /-- A reply has not ended within its bound after its reply point, so the exchange fails and resends follow the rules
  of R178 and R179 (R176). -/
  | pcbExchangeTimeout (c : Cluster) (passed : BitVec 12)
  /-- CLUc.SRV.PCB_REGCMD with OP RREG reads a preamp register (R178). -/
  | pcbRegRead (o : Origin) (c : Cluster)
  /-- CLUc.SRV.PCB_REGCMD with OP WREG writes a preamp register (R178). -/
  | pcbRegWrite (o : Origin) (c : Cluster)
  /-- PFLTc_N falls, so all 32 serializers of the cluster go idle and their writes are cut (R182). -/
  | pfltFall (c : Cluster)
  /-- No FAULT frame arrives within 4 wedges of PFLTc_N falling, so PREAMP_LOST is raised (R182). -/
  | pfltNoFaultFrame (c : Cluster)
  /-- A 500 ns motor-bus cycle starts, and the master sends the forward frame that the fill rules choose (R187). -/
  | mcbCycle (drive : BitVec 12) (angle : BitVec 12)
  /-- An ACK reply echoes an SPMODE, WREG or NOP frame (R186). -/
  | mcbAck (seq : Fin 16) (echo : BitVec 24)
  /-- A NAK reply fails the exchange, and the frame is resent when its type allows (R189). -/
  | mcbNak (seq : Fin 16)
  /-- A VCM_MEAS reply delivers coil current and back-EMF for the cluster named (R186). -/
  | vcmMeas (c : Cluster) (seq : Fin 16) (cur : BitVec 12) (emf : BitVec 12)
  /-- A SPIN_MEAS reply delivers the back-EMF of the floating phase and VBUS to the spindle loop (R186). -/
  | spinMeas (seq : Fin 16) (emf : BitVec 12) (phase : Fin 3) (vbus : BitVec 10) (zero : Option (Bool × Fin 16))
  /-- An RDATA reply delivers the data of a driver register read (R186). -/
  | mcbRdata (seq : Fin 16) (addr : BitVec 8) (data : BitVec 16)
  /-- A FAULT reply reports a new driver fault in place of the normal reply (R186). -/
  | mcbFault (seq : Fin 16) (payload : BitVec 24)
  /-- LOOP.MCB_REG with OP RREG reads a motor-driver register (R189). -/
  | mcbRegRead (o : Origin) (addr : BitVec 8)
  /-- LOOP.MCB_REG with OP WREG writes a motor-driver register (R189). -/
  | mcbRegWrite (o : Origin) (addr : BitVec 8) (data : BitVec 16)
  /-- After D0 is declared lost, D1 becomes master of the motor bus and continues the spindle without a step (R191).
  -/
  | masterTakeover
  /-- PFAIL_N goes low, which starts the 64-cycle acceptance count (R192). -/
  | pfailNFall
  /-- PFAIL_N rises before 40 ns have passed, so the pulse is ignored and counted (R192). -/
  | pfailGlitch
  /-- PFAIL_N has been low for 64 FCLK, so phase A starts, new media commands are refused and GENERATE is sent (R193).
  -/
  | pfailAccept
  /-- WRITE_MS after acceptance, phase B starts, live media commands end, and the heads are turned off (R193). -/
  | pfPhaseB (wrote : List (Cluster × Nat × Nat))
  /-- The arms are reported parked, or the bound is reached, so SPMODE BRAKE is sent and the phase becomes DONE
  (R193). -/
  | pfBrake
  /-- After the sequence, PFAIL_N has stayed high for 10 ms, so PFAIL_RECOVER causes a chip reset (R195). -/
  | pfailRecover
  /-- A lane's read gate opens at a fragment's preamble, and the lane acquires phase and gain (R208). -/
  | fragmentReadStart (c : Cluster) (f : Surface) (raw : List (BitVec 7))
  /-- The sync window closes, so candidates are ranked and the fragment is sent as HEAD or erased as NO_SYNC (R215).
  -/
  | syncWindowClose (c : Cluster) (f : Surface) (raw : List (BitVec 7))
  /-- A RESYNC mark is searched for after a servo field, and the fragment is erased when none is found (R218). -/
  | resyncSearch (c : Cluster) (f : Surface) (before : List (BitVec 7)) (after : List (BitVec 7))
  /-- A lane ends its fragment, the gate closes and the TAIL is sent (R208). -/
  | fragmentEnd (c : Cluster) (f : Surface) (raw : List (BitVec 7))
  /-- A HEAD flit takes a landing slot, or is dropped as NOSLOT (R220). -/
  | landingHead (c : Cluster) (f : Surface)
  /-- A free decoder is given the waiting fragment with the earliest due wedge (R226). -/
  | decodeDispatch (k : CantonNo) (d : Fin 20)
  /-- A decoder ends a fragment with a zero syndrome and CRC check, or starts a second pass, or erases the fragment
  (R222). -/
  | decodeEnd (k : CantonNo) (d : Fin 20) (checker : Bool)
  /-- A fragment reaches its decode deadline without a result and is erased with DEADLINE (R224). -/
  | decodeDeadline (c : Cluster) (f : Surface)
  /-- A decoder has not ended a fragment 6,400 FCLK after dispatch (R229). -/
  | decoderTimeout (k : CantonNo) (d : Fin 20)
  /-- The last result of a read stripe arrives, and the stripe is settled, rebuilt or declared lost (R241). -/
  | stripeSettle (c : Cluster) (slot : BitVec 32)
  /-- The encoder finishes P and Q of a write stripe, which sets STR_PQ (R244). -/
  | parityEncodeDone (c : Cluster)
  /-- After a write pass the STALE and LOST masks are updated and the stripe is committed or sent to the repair buffer
  (R245). -/
  | commitTestDone (c : Cluster) (log : Bool)
  /-- The CAL activity updates a HOFF or a region centre and reclassifies the surfaces (R259). -/
  | calSkewUpdate (c : Cluster) (r : Fin 2048) (hoff : Option (Surface × Bool)) (h : Fin 16384)
  /-- RELOC copies one stripe track of a drifting surface to its new placement (R261). -/
  | relocTrackCopy (c : Cluster) (r : Fin 2048) (f : Surface) (h : Fin 16384)
  /-- A repair write commits a repair-buffer stripe or rewrites a STALE fragment (R266). -/
  | repairWrite (c : Cluster) (slot : BitVec 32) (cut : BitVec 32) (h : Fin 16384)
  /-- A patrol read of a stripe with ALL set marks erased fragments STALE and counts weak slots (R267). -/
  | patrolRead (c : Cluster) (erased : BitVec 32) (spare : BitVec 32) (cut : BitVec 32) (h : Fin 16384)
  /-- The demodulators post the wedge's samples, and the servo, microactuator, VCM and per-wedge loop updates run
  (R276). -/
  | servoWd (c : Cluster) (xs : Vector (Option Sample) 32) (lane : Surface)
  /-- At mid-wedge the second microactuator and VCM commands are computed and posted (R280). -/
  | servoMidw (c : Cluster)
  /-- No lock within REACQ_REVS revolutions, so the cluster enters LOST, raises SERVO_LOST and retracts (R295). -/
  | reacquireTimeout (c : Cluster)
  /-- A control word with FLOW GO runs its ALU and unit actions and goes to NEXT (R303). -/
  | seqGo (c : Cluster) (flips : BitVec 136)
  /-- A BRANCH word goes to ALT when its condition holds and to NEXT otherwise (R303). -/
  | seqBranch (c : Cluster) (flips : BitVec 136)
  /-- A WAIT word holds until its condition becomes true or its timeout counter reaches 0 (R303). -/
  | seqWait (c : Cluster) (flips : BitVec 136) (held : BitVec 16)
  /-- The timeout counter of a holding WAIT reaches 0, so the sequencer goes to ALT (R303). -/
  | seqWaitTimeout (c : Cluster)
  /-- A CALL word pushes NEXT and goes to ALT (R303). -/
  | seqCall (c : Cluster) (flips : BitVec 136)
  /-- A RETURN word pops its successor from the return stack (R303). -/
  | seqReturn (c : Cluster) (flips : BitVec 136)
  /-- An IRET word pops the address and the timeout counter and clears IN_INT (R303). -/
  | seqIret (c : Cluster) (flips : BitVec 136)
  /-- A JUMPCLR word empties the return stack, clears IN_INT and goes to NEXT (R303). -/
  | seqJumpclr (c : Cluster) (flips : BitVec 136)
  /-- A word with a reserved code or bit raises SEQ_ILLEGAL and stops the sequencer (R320). -/
  | seqIllegalWord (c : Cluster) (flips : BitVec 136)
  /-- The ALU moves operand B to the destination register (R307). -/
  | aluMov (c : Cluster) (dst : Fin 16) (b : AluB)
  /-- The ALU adds A and B and sets the flags (R307). -/
  | aluAdd (c : Cluster) (dst : Fin 16) (a : Fin 16) (b : AluB)
  /-- The ALU subtracts B from A and sets the flags (R307). -/
  | aluSub (c : Cluster) (dst : Fin 16) (a : Fin 16) (b : AluB)
  /-- The ALU forms A AND B and sets the flags (R307). -/
  | aluAnd (c : Cluster) (dst : Fin 16) (a : Fin 16) (b : AluB)
  /-- The ALU forms A OR B and sets the flags (R307). -/
  | aluOr (c : Cluster) (dst : Fin 16) (a : Fin 16) (b : AluB)
  /-- The ALU forms A XOR B and sets the flags (R307). -/
  | aluXor (c : Cluster) (dst : Fin 16) (a : Fin 16) (b : AluB)
  /-- The ALU shifts A left by B[4:0] and sets the flags (R307). -/
  | aluShl (c : Cluster) (dst : Fin 16) (a : Fin 16) (b : AluB)
  /-- The ALU shifts A right by B[4:0] and sets the flags (R307). -/
  | aluShr (c : Cluster) (dst : Fin 16) (a : Fin 16) (b : AluB)
  /-- The ALU counts the set bits of B and sets the flags (R307). -/
  | aluPopcnt (c : Cluster) (dst : Fin 16) (b : AluB)
  /-- The ALU finds the lowest set bit of B, or 32, and sets the flags (R307). -/
  | aluFfs (c : Cluster) (dst : Fin 16) (b : AluB)
  /-- The ALU takes the unsigned minimum of A and B and sets the flags (R307). -/
  | aluMin (c : Cluster) (dst : Fin 16) (a : Fin 16) (b : AluB)
  /-- The TIMELINE unit is asked for the slot of a wedge (R310). -/
  | timelineRead (c : Cluster) (wedge : BitVec 32)
  /-- The slot lands in G8 to G11, which sets TL_READY (R310). -/
  | timelineReadDone (c : Cluster)
  /-- The SERVO unit starts a MOVE of the arm to a track, in SEEK or FOLLOW (R285). -/
  | servoMove (c : Cluster) (track : BitVec 26)
  /-- The SERVO unit holds the arm at its current target (R310). -/
  | servoHold (c : Cluster)
  /-- The PCB unit queues a MODE frame for a surface mask, replacing an unsent MODE frame for the same surfaces
  (R311). -/
  | pcbMode (c : Cluster) (mask : BitVec 32) (mode : Fin 4) (act : BitVec 12)
  /-- The STR unit opens a stripe in the stripe engine (R310). -/
  | strOpen (c : Cluster) (slot : BitVec 32)
  /-- The STR unit sets the write set of the open stripe (R310). -/
  | strWriteset (c : Cluster) (mask : BitVec 32)
  /-- The STR unit starts the commit test of the open write stripe (R245). -/
  | strCommitTest (c : Cluster)
  /-- The STR unit closes the open stripe (R310). -/
  | strClose (c : Cluster)
  /-- The STM unit kicks a descriptor chain to the less loaded of the cluster's two CLUSTER Streamers (R411). -/
  | stmKick (c : Cluster) (addr : BitVec 32)
  /-- The BUDGET unit checks whether the owner's row has room for the cells in IMM (R310). -/
  | budgetCheck (c : Cluster) (cells : BitVec 32) (owner : BitVec 32)
  /-- The PORT unit writes the TERMINAL record of an owner with the given STATUS (R310). -/
  | portTerminal (owner : BitVec 32) (status : BitVec 8)
  /-- The PORT unit writes a DETAIL record for an owner (R310). -/
  | portDetail (owner : BitVec 32)
  /-- The EVENT unit logs an event code with a payload (R310). -/
  | eventLog (c : Cluster) (code : BitVec 16) (payload : BitVec 32)
  /-- The POS unit sets the data-region position compare value (R310). -/
  | posSet (c : Cluster) (v : BitVec 32)
  /-- At a SAFE word a pending enabled interrupt is taken and its vector word is fetched (R316). -/
  | seqInterrupt (c : Cluster)
  /-- The stretch since the last safe point exceeds 256 words or 1,600 QCLK, so SEQ_SAFE_LATE is raised (R318). -/
  | seqSafeLate (c : Cluster)
  /-- SEQ.CTL.RESTART moves a stopped sequencer to RECOVERY, reloading a dirty store first (R322). -/
  | seqRestart (o : Origin) (c : Cluster)
  /-- SEQ.CTL.TEST moves a stopped sequencer of a closed cluster to TEST (R322). -/
  | seqTest (o : Origin) (c : Cluster)
  /-- SEQ.CTL.HALT moves a sequencer from TEST to STOPPED (R322). -/
  | seqHalt (o : Origin) (c : Cluster)
  /-- SEQ.CTL.STEP executes one word of a sequencer held in TEST (R322). -/
  | seqStep (o : Origin) (c : Cluster) (flips : BitVec 136)
  /-- SEQ.CSCMD with OP READ reads a control-store word and its parity (R326). -/
  | csRead (o : Origin) (c : Cluster) (flips : BitVec 136)
  /-- SEQ.CSCMD with OP WRITE writes a control-store word in TEST and sets DIRTY, or is refused as LOCKED (R328). -/
  | csWrite (o : Origin) (c : Cluster)
  /-- SEQ.CSCMD with OP VERIFY starts comparing the store with the die copy (R329). -/
  | csVerify (o : Origin) (c : Cluster)
  /-- A VERIFY completes, raising SEQ_CS_MISMATCH on a difference (R329). -/
  | csVerifyDone (c : Cluster) (flips : List (BitVec 14 × BitVec 136))
  /-- A write of 1 to a SEQ.GFLAG bit sets the condition and requests the SOFT interrupt in TEST or RECOVERY (R317).
  -/
  | gflagWrite (o : Origin) (c : Cluster) (v : Fin 16)
  /-- RETRY_REVS revolutions after a trip, the lane enters PROBATION (R342). -/
  | clrRetry (c : Cluster) (f : Surface)
  /-- The 10 ms back-EMF watch ends, and the spindle goes to SPEED or ALIGN (R345). -/
  | spinWatchEnd
  /-- ALIGN_MS has elapsed, so the spindle starts open-loop RAMP (R345). -/
  | spinAlignEnd
  /-- A SPREF edge is accepted or rejected, and K0 is captured or OFS tracked (R347). -/
  | sprefEdge (frac : Fin 16)
  /-- No SPREF edge is accepted for 3 nominal periods, so SPREF_LOST is raised and OFS is held (R347). -/
  | sprefLost
  /-- No back-EMF zero crossing arrives for 4 expected half-periods, so a spindle fault is declared (R349). -/
  | spinNoZeroCrossing
  /-- SPEED_LOCK is not set within SPINUP_MAX_S, so SPINUP_FAIL is raised (R349). -/
  | spinupTimeout
  /-- A stored word is read and classed as clean, poisoned, correctable or uncorrectable (R357). -/
  | memoryRead (m : MemAt)
  /-- A full-word write stores the word and clears POISON (R359). -/
  | memoryWrite (o : Origin) (m : MemAt) (v : Word)
  /-- A write of fewer than four bytes is done as a read, a merge and a write (R361). -/
  | memoryPartialWrite (o : Origin) (m : MemAt) (mask : BitVec 4) (v : Word)
  /-- The scrubber reads a word, writing back corrections and poisoning uncorrectable words (R374). -/
  | scrubRead (m : MemAt) (row : BitVec 32) (last : Bool)
  /-- The steering sweep reads, corrects and rewrites the next burst and advances SWEEP (R375). -/
  | lineSweepBurst (ch : Channel) (addr : BitVec 35) (flips : List (BitVec 40))
  /-- A marked clean block is refetched from the media as SCRUB-row work (R372). -/
  | scrubRefetch (lba : BitVec 48) (data : List (BitVec 32)) (h : Fin 16384)
  /-- Writing MEM.INJ_CTL.ARM = 1 arms an injection on the target word (R379). -/
  | injectArm (o : Origin)
  /-- Writing ARM = 0 disarms a pending injection without making it (R381). -/
  | injectDisarm (o : Origin)
  /-- CCH.Dd.CMD.INVALIDATE invalidates every tag of the die, or is rejected (R390). -/
  | cacheInvalidate (o : Origin) (d : Die)
  /-- A write of EN = 1 enables the cache, or sets EN_REJECT (R391). -/
  | cacheEnable (o : Origin) (d : Die) (pfEn : Bool)
  /-- A write of EN = 0 disables the cache and starts draining when any dirty line or pin remains (R392). -/
  | cacheDisable (o : Origin) (d : Die) (pfEn : Bool)
  /-- No DIRTY line, eviction entry or pin remains, so DRAINING clears (R392). -/
  | cacheDrainEnd (d : Die)
  /-- A dirty victim's write to its staging copy is acknowledged, and its eviction-buffer entry is freed (R389). -/
  | evictionWriteDone (d : Die)
  /-- A confident stream issues a prefetch when the admission queue is empty (R395). -/
  | prefetchIssue (d : Die) (i : Fin 64) (k : Fin 16) (h : Fin 16384)
  /-- A kick with GO starts a GENERAL Streamer's chain (R405). -/
  | stmGo (o : Origin) (n : StreamerNo) (hi : Fin 8)
  /-- Writing PAUSE = 1 makes a GENERAL Streamer stop issuing reads and pause (R406). -/
  | stmPause (o : Origin) (n : StreamerNo)
  /-- Writing PAUSE = 0 resumes a paused Streamer from the next byte (R405). -/
  | stmResume (o : Origin) (n : StreamerNo)
  /-- STOP withdraws a GENERAL Streamer's descriptor, and it returns to IDLE once its bursts are acknowledged (R407).
  -/
  | stmStop (o : Origin) (n : StreamerNo) (pause : Bool)
  /-- A Streamer issues its next burst no sooner than its share allows (R401). -/
  | stmBurstIssue (n : StreamerNo)
  /-- A burst's write is acknowledged by the DRAM controller (R401). -/
  | stmBurstAck (n : StreamerNo)
  /-- A burst is not acknowledged within 4,096 FCLK, which is a TIMEOUT fault (R401). -/
  | stmBurstTimeout (n : StreamerNo)
  /-- A descriptor ends, its event pulse goes to its consumer, and the link word is read (R402). -/
  | stmDescEnd (n : StreamerNo)
  /-- 64 FCLK into WAIT_LINK, the link word is read once more, so the Streamer runs the next descriptor or ends
  (R403). -/
  | stmLinkReread (n : StreamerNo)
  /-- A privileged read of STM.n.STAT or CUR is served after the origin's earlier writes are visible (R404). -/
  | stmStatusRead (n : StreamerNo)
  /-- A lane's RS codeword is received and FEC-decoded (R414). -/
  | linkCodeword (n : HLane) (info : BitVec 5140) (errs : Fin 545) (skew : BitVec 8)
  /-- A DATA flit is received, checked for CRC and sequence, and its packets are decoded (R420). -/
  | linkDataFlit (p : LinkPort)
  /-- An IDLE flit is received, carrying only its ACK and NAK fields (R417). -/
  | linkIdleFlit (p : LinkPort)
  /-- A CTRL flit delivers credits and a LANEMAP, DROP or ADD item, which is acted on once seen twice (R418). -/
  | linkCtrlFlit (p : LinkPort)
  /-- No ACK has advanced for 4 µs, so every unacknowledged flit is resent, and RETRAIN follows after eight resends
  (R421). -/
  | linkReplayTimer (p : LinkPort)
  /-- An RREG packet reads one register word and an RSP returns it (R428). -/
  | linkRreg (p : LinkPort) (view : Bool) (func : Fin 256) (burgee : Fin 4096) (tag : BitVec 12) (a : BitVec 48)
  /-- A posted WREG packet writes one register word (R428). -/
  | linkWreg (p : LinkPort) (view : Bool) (func : Fin 256) (burgee : Fin 4096) (a : BitVec 32) (v : Word)
  /-- A WRD packet reads words of one window slot and an RSP returns them (R428). -/
  | linkWrd (p : LinkPort) (view : Bool) (func : Fin 256) (burgee : Fin 4096) (tag : BitVec 12) (lenw : Fin 1024) (a
      : BitVec 48)
  /-- A posted WWR packet writes words into one window slot (R428). -/
  | linkWwr (p : LinkPort) (view : Bool) (func : Fin 256) (burgee : Fin 4096) (a : BitVec 48) (data : List Word)
  /-- A doorbell for a task port whose queue rose from 0 is sent once posted credit allows (R432). -/
  | linkDblSend (n : TaskPort)
  /-- An EVT message for an INT reaction is sent once posted credit allows (R434). -/
  | linkEvtSend (d : Die)
  /-- A new lane map applies from the CWSEQ named in its LANEMAP (R436). -/
  | linkMapApply (p : LinkPort) (rx : Bool)
  /-- Every 100 ms a lost lane is retrained, and ADD and LANEMAP follow on success (R438). -/
  | linkLaneRetrain (n : HLane) (passed : Bool)
  /-- The lanes are adapted on PRBS31, and the port enters ALIGN (R439). -/
  | linkEqualizeDone (p : LinkPort) (ok : BitVec 20) (inv : BitVec 20)
  /-- Every lane in the map finds MARK with skew in bound, and the port enters CONFIG (R439). -/
  | linkAlignDone (p : LinkPort)
  /-- LANEMAP and credits have been exchanged, and the port is UP (R439). -/
  | linkConfigDone (p : LinkPort) (pcred : BitVec 16)
  /-- A training state misses its bound, so the port returns to EQUALIZE (R439). -/
  | linkTrainTimeout (p : LinkPort)
  /-- RETRAIN completes ALIGN and CONFIG, and replay resumes (R439). -/
  | linkRetrainDone (p : LinkPort)
  /-- RETRAIN misses its 100 ms bound, so the port goes DOWN and discards its replay buffers and credits (R440). -/
  | linkPortDown (p : LinkPort)
  /-- A Staff core's heartbeat is missing for 16 µs, so STAFF_LOST is raised and the other core takes over (R451). -/
  | staffHeartbeatTimeout (i : Fin 4)
  /-- A lost Staff core finishes its boot from ROM as standby (R451). -/
  | staffBootDone (i : Fin 4)
  /-- A logic die's heartbeat is missing for 1,024 FCLK (R454). -/
  | dieHeartbeatTimeout (d : Die)
  /-- The recorder stores an event from its intake queue with the next EVSEQ (R459). -/
  | eventStore
  /-- OPSEC increments after every 100,000,000 TIME ticks (R460). -/
  | opsecIncrement
  /-- A PERIODIC life-record entry is programmed after 4,096 seconds or 2^20 events (R460). -/
  | lifeRecordPeriodic
  /-- An event numbered below 4,096 is programmed into the first area (R462). -/
  | firstAreaProgram
  /-- LOG.CALCMD.SET sets calendar time and logs CALENDAR_SET (R461). -/
  | calendarSet (o : Origin)
  /-- LOG.CALCMD.CLEAR makes CAL_VALID 0 (R461). -/
  | calendarClear (o : Origin)
  /-- Writing FREEZE = 1 stores LOG_FREEZE and stops the storing of events (R466). -/
  | logFreeze (o : Origin)
  /-- Writing FREEZE = 0 clears FROZEN, and LOG_THAW is stored next (R466). -/
  | logThaw (o : Origin)
  /-- A freeze ends 10 s after it was set (R466). -/
  | logFreezeTimeout
  /-- A write to LOG.RSEL starts a lookup of an event by EVSEQ (R467). -/
  | logReadSelect (o : Origin) (v : Word)
  /-- The selected event lands in LOG.REVw with WHERE set, and BUSY clears (R467). -/
  | logReadDone
  /-- CAL.CTL GO with KIND TIMEBASE starts counting CALREF_CLK edges to measure TRIM (R492). -/
  | calTimebase (o : Origin) (c : Cluster) (apply : Bool)
  /-- CAL.CTL GO with KIND REFDAC measures the calibration DAC against CALREF_V (R489). -/
  | calRefdac (o : Origin) (c : Cluster) (apply : Bool)
  /-- CAL.CTL GO with KIND ANALOG closes a cluster and measures its ADC and AFE tables (R489). -/
  | calAnalog (o : Origin) (c : Cluster) (apply : Bool)
  /-- CAL.CTL GO with KIND MEDIA closes a cluster and measures its HEAT, MA and VCM tables (R489). -/
  | calMedia (o : Origin) (c : Cluster) (apply : Bool)
  /-- No live command has cells on the closing cluster any more, so the session takes control of its lanes (R490). -/
  | calClusterClosed
  /-- A session ends, staging its values on OK and reopening the cluster (R491). -/
  | calSessionEnd (m : Measured)
  /-- CAL.CMD.STORE starts writing the staged tables to the older calibration copy (R493). -/
  | calStore (o : Origin)
  /-- The store's erase, program and readback complete (R493). -/
  | calStoreDone (same : Bool) (left : Option CalCopy)
  /-- Every 10 µs the supplies and junction sensors are sampled and the TOP.MONSTAT flags are updated (R502). -/
  | monitorSample (mv : Vector (BitVec 12) 5) (tj : Vector (BitVec 16) 9)
  /-- An edge of a crossing's foreign clock arrives after its timeout expired, and CLK_PRESENT is set again (R39). -/
  | foreignClockReturn (n : Crossing)
  /-- CALREF_CLK edges appear or cease, so TOP.CLKSTAT.CALREF_PRESENT rises or falls and a running TIMEBASE session
  may end with NO_REF (R489). -/
  | calrefPresentChange (present : Bool)
  /-- PFLTc_N returns high, and CLUc.SRV.PCB_STAT.PFLT clears (R182). -/
  | pfltRise (c : Cluster)
  /-- A motor-bus reply fails its CRC-8 or does not arrive, and the exchange counts as failed toward MOTOR_BUS_LOST
  (R189). -/
  | mcbBadReply
  /-- The reload of a dirty control store from the die copy ends within 32,768 QCLK, DIRTY clears and the sequencer
  enters RECOVERY at word 0x001 (R328). -/
  | storeReloadDone (c : Cluster)
  /-- The cache invalidation sweep of 16 sets per FCLK reaches the last set, and INV_DONE is set (R390). -/
  | invalidateDone (d : Die)
  /-- The 1,024 MCLK hold of a channel after a failed line is declared ends, and the channel is released with the
  spare steered (R375). -/
  | steeringHoldEnd (ch : Channel)
  /-- An armed write lane reaches its fragment's first bit position and its serializer begins writing, provided its
  WRITE mode is confirmed (R180). -/
  | fragmentWriteStart (c : Cluster) (f : Surface) (early : Bool)
  /-- The data-region position counter reaches the POS compare value, and the POS_HIT event condition sets (R308). -/
  | posHit (c : Cluster)
  deriving DecidableEq, Repr

end Sys2Proof
end

