-- ==== Sys2Proof/Config.lean ====
section
/-! DEFINITION. Config.lean: what one part fixes for good (stepping, fuses, boot ROM) and the free values, which the
spec leaves open. A free value is an opaque constant: nothing can be proved of it, so a claim about it holds for every
value. -/

namespace Sys2Proof.Config

/-- TOP.ID.STEPPING, "per stepping" (register table of chapter 14; R494). -/
opaque stepping : BitVec 5
/-- TOP.CLSUP.CL, the compatibility levels the stepping supports (R494). -/
opaque clSup : BitVec 31
/-- TOP.UID, from the fuse block. -/
opaque uid : BitVec 64
/-- The image floor of the fuse block (R475). -/
opaque imageFloor : BitVec 32
/-- The patch floor of the fuse block (R325). -/
opaque patchFloor : BitVec 32
/-- The key digest of the fuse block (R475, R325). -/
opaque keyDigest : BitVec 384
/-- SHA-384, ECDSA P-384 verification of a signature over a message by a key, and AES-256-GCM opening by a fuse key
slot: IV,
authenticated data, ciphertext and tag (R324, R325, R475, R476). The spec names them and takes them from outside. -/
opaque sha384 : List (BitVec 8) → BitVec 384
opaque p384 : List (BitVec 8) → List (BitVec 8) → List (BitVec 8) → Bool
opaque aesGcm : Nat → List (BitVec 8) → List (BitVec 8) → List (BitVec 8) → List (BitVec 8) → Option (List (BitVec 8))
/-- The base microcode of the boot ROM, word by word (R301, R325). -/
opaque romWord : Nat → BitVec 128
/-- What a field reads where the value its rule gives does not fit its width (a counter past its width whose rule does
not
say that it saturates): the spec states no value. Applied to the register address and the field's lowest bit. -/
opaque counterPast : Nat → Nat → Nat
/-- A register field's value in the time for which its rule gives none; applied to the register address and a draw. -/
opaque freeField : Nat → Nat → Nat

/-- The code of the commit test's result in G7 (R308), committed or not: the spec states that it is there and not its
value. -/
opaque commitResult : Bool → Nat

/-- X of R274 when every burst amplitude difference is 0: the spec states no quotient there. -/
opaque emptyBurst : Int

/-- CARRY after the ALU operations 4 to 11 (R307 states a carry for ADD and SUB only), by operation and operands. -/
opaque aluCarry : Nat → BitVec 32 → BitVec 32 → Bool
/-- How TIMELINE READ packs ARM and POS into G8 (R310 names the two and not their places). -/
opaque armPosWord : Nat → Nat → Nat

/-- The direction of a rounding of which the spec states only the grid (or, for a rounding to the nearest, nothing of
a tie):
applied to the number of the rule and the numerator. -/
opaque roundsUp : Nat → Int → Bool

/-- The offset of the decoders' offset min-sum (R222), which the spec does not state. -/
opaque minSumOffset : Nat
/-- The re-detection of R223, of which the spec gives the inputs: the samples of a fragment and the extrinsic LLRs. -/
opaque redetect : List Int → List Int → List Int

/-- Where the arm is at the end of MOVE wedge `i` of a seek, before its last: by start and target (R55 gives the field
and no
value for the way). -/
opaque seekPos : Nat → Nat → Nat → Nat

/-- The electrical angle of the rotor at a back-EMF zero crossing, in 1/4,096 turn, and how long after its cycle's
start a SPIN
frame takes effect, in 1/16 tick (R348): the spec gives neither. -/
opaque crossAngle : Nat
opaque spinApply : Nat

/-- The coefficients of the resampler's polyphase filter, by phase and tap, newest sample first: fixed by the
compatibility level
(R207), and not given. -/
opaque polyphase : Nat → Nat → Rat
/-- The amplitude, in sample codes, of one unit of the equalized samples at a zone's AGC_TGT (R213). -/
opaque sampleUnit : Nat → Rat
/-- Step 2 of R208: the phase, in 2^-24 of a ROOT cycle, from the correlation of 32 samples with the 0011 pattern, and
the VGA
code from AGC_TGT and their mean amplitude. -/
opaque preamblePhase : List Rat → Int
opaque preambleGain : Nat → Rat → Nat
/-- The LLR code of R212 while the averaged noise variance is 0, by the difference of the metrics. -/
opaque llrWithoutNoise : Rat → Int

end Sys2Proof.Config
end

