-- ==== Sys2Proof/Machine/State.lean ====
section
/-! DEFINITION. Machine/State.lean: the state of the part as plain data, what unlisted keys of its tables read as, the
reasons a step can stop, and the state right after reset (R34, R499: power-on reset over, step 1 of start). -/

namespace Sys2Proof.Machine

/-! ### What unlisted entries read as -/

def Row.init : Row := ⟨false, 0, 0, 0, 0, 0, none, 0, 0, false⟩
def TCell.init : TCell := ⟨.free, 0, false, 0, 0⟩
def WSlot.init : WSlot := ⟨.free, 0, [], []⟩
def Timeline.init : Timeline := ⟨0, 0, 0, 0, [], [], [], [], 0, 0⟩
def Lane.init : Lane := ⟨none, false, false, false, false, false, none, none, none, 0, []⟩
def Pcb.init : Pcb := ⟨false, false, [], [], 0, 0, none, []⟩
def Seq.init : Seq := ⟨false, [], [], false, false, false, 0, false, false, [], 0, false, none, none, 0, 0, false,
  false, false, false, false⟩
def Repair.init : Repair := ⟨0, 0, false⟩
def Skew.init : Skew := ⟨0, 0, 0, false, false, false, 0, false⟩
def Stripes.init : Stripes := ⟨[], none, [], [], [], [], [], [], [], [], 0, 0, false, false, 0, none⟩
def Line.init : Line := ⟨.invalid, 0, 0, 0, 0, false, false, false, false⟩
def Stream.init : Stream := ⟨0, 0, 0, 0, 0, 0, none⟩
def CacheDie.init : CacheDie := ⟨[], [], [], false, [], 0⟩
def Streamer.init : Streamer := ⟨none, none, [], [], [], false, false, false, 0, false, 0, 0⟩
def Canton.init : Canton := ⟨[]⟩
def LaneSrv.init : LaneSrv := ⟨0, 0, 0, 0, 0, false, 0, 0, 0, 0, 0, false, 0, none⟩
def Servo.init : Servo := ⟨0, 0, 0, [], [], [], 0, 0, 0, 0, 0, 0, 0, none, false, false, 0, false, false, 0, false, false, 0⟩
def Clr.init : Clr := ⟨0, 0, false, 0, 0, 0, 0, 0, 0, 0, 0, 0, false, false⟩
def Spin.init : Spin :=
  ⟨0, false, false, false, 0, 0, false, 0, none, 0, false, [], 0, 0, false, false, none, 0, false, none, 0⟩
def MemUnit.init : MemUnit := ⟨[], [], [], [], [], [], [], [], [], [], 0⟩
def LinkPortSt.init : LinkPortSt := ⟨4095, false, 0, [], [], 0, none, 0, 0, 0, 0, 0, 0, none, false, none, none, none,
  false, false, 0, [], [], [], 0, 0, 0⟩
def HLaneSt.init : HLaneSt := ⟨[], 0, false, 0⟩
def Link.init : Link := ⟨[], [], [], [], [], []⟩
def Cross.init : Cross := ⟨false, false, false⟩
def Start.init : Start := ⟨none, none, 0, none, false, [], false, [], 0, false⟩
def Cal.init : Cal := ⟨[], [], [], [], none, none, [none, none], []⟩
def Media.init : Media := ⟨[], 0, [], [], [], [], 0, [], [], 0, none, [], []⟩
def Clock.init : Clock := ⟨0, false, 0, 0, false, false, false, false, false, false, []⟩
def Recorder.init : Recorder := ⟨[], [], false, 0, false, 0, 0, [⟨0, 0, 1, .powerOn⟩], 0, 0, 0, [], [], 0, [], [], none⟩
def Ports.init : Ports := ⟨[], 1, [], [], [], [], [], [], [], [], none, none, [], []⟩
def Window.init : Window := ⟨[], [], [], none, 0⟩
def Mcb.init : Mcb := ⟨[], none, none, [], 0, [], (0, 0, 0), []⟩
def PowerFail.init : PowerFail := ⟨false, 0, 0, []⟩
/-- Core 0 and core 2 are in service with core 1 and core 3: both cores of a die serve from start (R22, R451). -/
def StaffCore.init : StaffCore := ⟨.inService, 0, false, false⟩

/-! ### The state -/

/-- The state of the SP8256. -/
structure State where
  /-- Commands that wait to be carried out, first in, first out. -/
  pending : List Instr
  clk : Clock
  /-- Register space: every stored register by byte address, 32 bits each (R8 to R11). -/
  regs : Tab Word
  log : Recorder
  /-- Staff cores 0 to 3 (0, 1 on D0; 2, 3 on D1). -/
  staff : List StaffCore
  /-- Blocks inside their reset window, and blocks whose detectors are masked (R34, R448). -/
  resetting : List BlockId
  masked : List BlockId
  ports : Ports
  win : Window
  /-- The timeline and budget rows of each cluster (R54, R82). -/
  tl : Tab Timeline
  /-- Stored words of DRAM and SRAM: DATA bytes, and the side byte of each word with POISON and CHECK (R355). -/
  mem : List Host.Cell
  memX : List Host.Cell
  memu : MemUnit
  /-- Lanes by 32 × cluster + surface. -/
  lanes : Tab Lane
  pcb : Tab Pcb
  mcb : Mcb
  pf : PowerFail
  cantons : Tab Canton
  str : Tab Stripes
  servo : Tab Servo
  seq : Tab Seq
  /-- Clearance loops by 32 × cluster + surface; bias integrators by cluster; the spindle loop of each die. -/
  clr : Tab Clr
  biasA : Tab Int
  spin : Tab Spin
  cache : Tab CacheDie
  /-- Staging copies in use: block and write, by 524,288 × cluster + index (R366, R385). -/
  staged : Tab (Option (Nat × Nat))
  /-- Records of BUFFERED writes whose TERMINAL was written before their stripes committed (R393); while start runs, what
  of them was lost, one record per stripe. -/
  bufRecs : List BufRec
  streamers : Tab Streamer
  link : Link
  cross : Tab Cross
  start : Start
  cal : Cal
  /-- What the media of each cluster keep across power. -/
  media : Tab Media
  /-- The MODEL's own counter of free values drawn (log 9). -/
  draws : Nat
  deriving DecidableEq, Repr

/-- Why a step stops with a fault. -/
inductive Fault where
  /-- Raised by MEMORY_READ, MEMORY_WRITE, MEMORY_PARTIAL_WRITE and SCRUB_READ at an address outside the memories of R365
  and R368: there is no such word. Safe: the model stops. -/
  | noSuchWord
  deriving DecidableEq, Repr

/-- Why a step refuses. -/
inductive Refusal where
  /-- Raised by Dispatch for a row without a meaning. Safe: the model stops. -/
  | notModelled (mnemonic : String)
  deriving DecidableEq, Repr

/-- The state right after the reset of a power-on, as the part leaves its manufacture (R460: no life record, PCYCLE
starts at 1): step 1 of start (R480), TIME at 0 and not counting (R30). -/
def State.reset : State where
  pending := []
  clk := Clock.init
  regs := [(LOG_PCYCLE, 1)]
  log := Recorder.init
  staff := [StaffCore.init, StaffCore.init, StaffCore.init, StaffCore.init]
  resetting := []
  masked := []
  ports := Ports.init
  win := Window.init
  tl := []
  mem := []
  memX := []
  memu := MemUnit.init
  lanes := []
  pcb := []
  mcb := Mcb.init
  pf := PowerFail.init
  cantons := []
  str := []
  servo := []
  seq := []
  clr := []
  biasA := []
  spin := []
  cache := []
  staged := []
  bufRecs := []
  streamers := []
  link := Link.init
  cross := []
  start := Start.init
  cal := Cal.init
  media := []
  draws := 0

end Sys2Proof.Machine
end

