-- ==== Sys2Proof/Machine/Ops.lean ====
section
/-! DEFINITION. Machine/Ops.lean: the named operations over registers, counters, events, stored words and unit state
that every command is written from. -/

namespace Sys2Proof.Machine

/-- What every step answers. -/
abbrev Res := Host.Outcome State Fault Refusal

/-! ### Registers (R8 to R14) -/

/-- Bits [lo+w-1:lo] of a number. -/
def bitsOf (v lo w : Nat) : Nat := v / 2 ^ lo % 2 ^ w

/-- A number with bits [lo+w-1:lo] replaced by the low `w` bits of `n`. -/
def putBits (v lo w n : Nat) : Nat := v / 2 ^ (lo + w) * 2 ^ (lo + w) + n % 2 ^ w * 2 ^ lo + v % 2 ^ lo

/-- Bit `i` of a number. -/
def bitAt (v i : Nat) : Bool := v / 2 ^ i % 2 = 1

/-- A number with bit `i` set or cleared. -/
def putBit (v i : Nat) (b : Bool) : Nat := putBits v i 1 (if b then 1 else 0)

/-- The signed value of the low `w` bits of a number. -/
def signed (w n : Nat) : Int := if n % 2 ^ w < 2 ^ (w - 1) then (n % 2 ^ w : Nat) else (n % 2 ^ w : Nat) - (2 ^ w : Nat)

/-- A signed value in `w` bits (two's complement). -/
def unsign (w : Nat) (z : Int) : Nat := (z % (2 ^ w : Nat)).toNat

/-- A signed value held within `w` signed bits. -/
def satInt (w : Nat) (z : Int) : Int := max (-(2 ^ (w - 1) : Nat)) (min z ((2 ^ (w - 1) : Nat) - 1))

/-- The number of set bits among the low `n` bits. -/
def popc : Nat → Nat → Nat
  | 0, _ => 0
  | n + 1, v => (if bitAt v n then 1 else 0) + popc n v

/-- The set bit positions below `n`, in ascending order. -/
def setBits (n v : Nat) : List Nat := (List.range n).filter (bitAt v)

/-- The default reaction of a source (R442): 0 INT, 1 NMI, 2 BLOCK_RESET, 3 CHIP_RESET, 4 ERR_N. -/
def defaultReact (n : Nat) : Nat :=
  if n = 54 ∨ n = 57 ∨ n = 58 ∨ n = 151 ∨ n = 152 ∨ n = 153 then 4
  else if n = 56 then 3
  else if 59 ≤ n ∧ n ≤ 62 then 1
  else if n = 117 ∨ n = 118 then 2
  else if 265 ≤ n ∧ n ≤ 280 then 2
  else 0

/-- The CLASS of a Streamer (R397): 0 DELIVERY, 1 INTAKE, 2 CLUSTER, 3 GENERAL. -/
def streamerClass (n : Nat) : Nat :=
  if n % 16 < 4 then 0 else if n % 16 < 6 then 1 else if n % 16 < 14 then 2 else 3

/-- The SHARE a Streamer starts with (R397). -/
def streamerShare (n : Nat) : Nat := [256, 128, 128, 32].getD (streamerClass n) 0

/-- The word a register holds right after the reset that reaches it. -/
def resetWord (a : Nat) : Word :=
  match findReg a with
  | none => 0
  | some (r, ix) =>
    BitVec.ofNat 32 (match r.id, ix with
      | .PRM_TERM, [n] => [0x4B0, 2, 0x78, 0x64, 0x64, 0x64, 0x190, 0xFA0].getD n 0
      | .FLT_SRC, [n] => defaultReact n
      | .STM_CFG, [n] => streamerShare n
      | .STM_STAT, [n] => streamerClass n * 8
      | _, _ => fieldsReset r.fields)

/-- The word stored for the register at an address. -/
def State.rd (s : State) (a : Nat) : Word := Tab.get resetWord s.regs a

/-- Storing a register's word. -/
def State.wr (s : State) (a : Nat) (v : Word) : State := { s with regs := Tab.put resetWord s.regs a v }

/-- A field's value. -/
def State.get (s : State) (x : Fld) : Nat := bitsOf (s.rd x.addr).toNat x.lo x.w

/-- A field is not 0. -/
def State.is (s : State) (x : Fld) : Bool := s.get x != 0

/-- Setting a field; the register's other bits stay. -/
def State.set (s : State) (x : Fld) (n : Nat) : State :=
  s.wr x.addr (BitVec.ofNat 32 (putBits (s.rd x.addr).toNat x.lo x.w n))

/-- A counter whose rule says it saturates. -/
def State.addSat (s : State) (x : Fld) (n : Nat) : State := s.set x (min (s.get x + n) (2 ^ x.w - 1))

/-- One more on a counter whose rule says it saturates. -/
def State.countSat (s : State) (x : Fld) : State := s.addSat x 1

/-- A counter whose rule states no value past its width: the value there is free. -/
def State.addCount (s : State) (x : Fld) (n : Nat) : State :=
  if s.get x + n < 2 ^ x.w then s.set x (s.get x + n) else s.set x (Config.counterPast x.addr x.lo)

/-- One more on such a counter. -/
def State.count (s : State) (x : Fld) : State := s.addCount x 1

/-- Setting a field for every index of a list. -/
def State.setEach (s : State) (f : Nat → Fld) (n : Nat) : List Nat → State
  | [] => s
  | i :: is => State.setEach (s.set (f i) n) f n is

/-- Doing something for every index of a list, in order. -/
def State.each (s : State) (f : Nat → State → State) : List Nat → State
  | [] => s
  | i :: is => State.each (f i s) f is

/-- Doing something only where a condition holds. -/
def State.when (s : State) (b : Bool) (f : State → State) : State := if b then f s else s

/-! ### Is the part running -/

/-- The part carries out commands: RESET_N is high, ROOT runs, and start has not ended in a HALT (R29, R34, R484). -/
def State.live (s : State) : Bool := !s.clk.resetLow && !s.clk.rootStopped && !s.clk.halted

/-- A command's effect on a part that runs; on a part in reset, stopped or halted nothing happens. -/
def State.run (s : State) (f : State → State) : Res := .next (if s.live then f s else s)

/-- A write of, or a pop at, a register of a logic die: on a lost die nothing happens (R454). -/
def State.runOn (s : State) (d : Nat) (f : State → State) : Res :=
  s.run fun s => if bitAt (s.get FLT_STAT_DIE_LOST) d then s else f s

/-- TIME in a record or stamp (R32). -/
def State.now (s : State) : Nat := s.clk.time

/-! ### Origins and events (R455 to R459, R466, R470, R518) -/

/-- ORIGIN of an internal agent (R456, KIND 1). -/
def orgInt (block die inst : Nat) : Nat := 2 ^ 30 + block % 256 + die % 2 * 256 + inst % 32 * 512

/-- ORIGIN of a pin (R456, KIND 2). -/
def orgPin (which cluster : Nat) : Nat := 2 ^ 31 + which % 8 + cluster % 8 * 8

/-- ORIGIN of an access (R456). -/
def orgOf : Origin → Nat
  | .link p v f b => p.val + (if v then 4 else 0) + f.val * 8 + b.val * 2 ^ 11
  | .internal blk d i => orgInt blk.val d.val i.val
  | .pin w c => orgPin w.val c.val

/-- The die on which a cluster lies (R4). -/
def dieOf (c : Nat) : Nat := c / 4

/-- An agent of cluster c's block (R9: blocks 0x10 to 0x17). -/
def orgClu (c inst : Nat) : Nat := orgInt (16 + c) (dieOf c) inst

/-- LOG.NEXT: the EVSEQ the next stored event takes. -/
def State.nextEv (s : State) : Nat := s.get LOG_NEXT_EVSEQ

/-- An event arrives at the recorder: counted while frozen (R466), lost at a full intake (R459), else queued. -/
def State.arrive (s : State) (a : Arrival) : State :=
  if s.is LOG_STAT_FROZEN then s.count LOG_FRZLOST_COUNT
  else if 256 ≤ s.log.intake.length then s.count LOG_INLOST_COUNT
  else { s with log := { s.log with intake := s.log.intake ++ [a] } }

/-- An event of this tick (R32). -/
def State.event (s : State) (origin code : Nat) (payload : List Nat) : State :=
  s.arrive ⟨s.now, origin, code, payload⟩

/-- The low and the high 32 bits of a two-word payload item (R457). -/
def lohi (v : Nat) : List Nat := [v % 2 ^ 32, v / 2 ^ 32 % 2 ^ 32]

/-- A privileged write to register space that no named code logs (R458): 0 accepted, 1 rejected, 2 BUSY. -/
def State.logPriv (s : State) (o : Origin) (a : Nat) (v : Nat) (result : Nat) : State :=
  s.event (orgOf o) 0x20 [a % 2 ^ 32, a / 2 ^ 32, v, result]

/-- The limit of R470: a violation of burgee `b` is stored, counted in VVSUPP, or counted in FRZLOST during a freeze. -/
def State.violation (s : State) (b : Nat) (origin code : Nat) (payload : List Nat) : State :=
  if s.is LOG_STAT_FROZEN then s.count LOG_FRZLOST_COUNT
  else
    let e := s.now / 2 ^ 20
    let st : Tab Nat := if s.log.vvEpoch = e then s.log.vvStored else []
    let s := { s with log := { s.log with vvEpoch := e, vvStored := st } }
    if Tab.get (fun _ => 0) st b < 16 then
      State.event { s with log := { s.log with
        vvStored := Tab.put (fun _ => 0) st b (Tab.get (fun _ => 0) st b + 1) } } origin code payload
    else s.countSat LOG_VVSUPP_COUNT

/-! ### Stored words (R355 to R359) -/

/-- The columns of the data bits and of POISON (R356). -/
def eccColumns : List Nat :=
  [0x07, 0x0B, 0x0D, 0x0E, 0x13, 0x15, 0x16, 0x19, 0x1A, 0x1C, 0x23, 0x25, 0x26, 0x29, 0x2A, 0x2C, 0x31, 0x32, 0x34,
   0x38, 0x43, 0x45, 0x46, 0x49, 0x4A, 0x4C, 0x51, 0x52, 0x54, 0x58, 0x61, 0x62, 0x64]

/-- XOR of `f` over the numbers below `n`. -/
def parityBelow : Nat → (Nat → Bool) → Bool
  | 0, _ => false
  | n + 1, f => xor (f n) (parityBelow n f)

/-- The number whose bit `i`, for each `i` below `n`, is `f i`. -/
def numOfBits : Nat → (Nat → Bool) → Nat
  | 0, _ => 0
  | n + 1, f => (if f n then 2 ^ n else 0) + numOfBits n f

/-- XOR of the low `n` bits of two numbers. -/
def xorBits (n a b : Nat) : Nat := numOfBits n (fun i => xor (bitAt a i) (bitAt b i))

/-- CHECK bit `j` (R356): the parity of the bits of DATA and POISON whose column has bit `j`. -/
def eccBit (data : Nat) (poison : Bool) (j : Nat) : Bool :=
  parityBelow 33 (fun i => (if i = 32 then poison else bitAt data i) && bitAt (eccColumns.getD i 0) j)

/-- CHECK of DATA and POISON (R356). -/
def eccOf (data : Nat) (poison : Bool) : Nat := numOfBits 7 (eccBit data poison)

/-- A stored word of 40 bits (R355): DATA, POISON and CHECK. -/
structure Stored where
  data : Nat
  poison : Bool
  check : Nat
  deriving DecidableEq, Repr

/-- The byte of memory at a key; a byte no entry lists reads as 0 (log 8). -/
def byteAt (m : List Host.Cell) (k : Nat) : Byte := Tab.get (fun _ => 0) m k

/-- Storing one byte, keeping the canonical form. -/
def putByte (m : List Host.Cell) (k : Nat) (v : Byte) : List Host.Cell := Tab.put (fun _ => 0) m k v

/-- The word of memory whose lowest byte is at key `k` (little-endian, R15). -/
def wordAt (m : List Host.Cell) (k : Nat) : Nat :=
  (byteAt m k).toNat + (byteAt m (k + 1)).toNat * 2 ^ 8 + (byteAt m (k + 2)).toNat * 2 ^ 16
    + (byteAt m (k + 3)).toNat * 2 ^ 24

/-- Storing the four bytes of a word. -/
def putWord (m : List Host.Cell) (k v : Nat) : List Host.Cell :=
  putByte (putByte (putByte (putByte m k (BitVec.ofNat 8 v)) (k + 1) (BitVec.ofNat 8 (v / 2 ^ 8)))
    (k + 2) (BitVec.ofNat 8 (v / 2 ^ 16))) (k + 3) (BitVec.ofNat 8 (v / 2 ^ 24))

/-- The key of a byte of a space: 0 DRAM, 1 SRAM of D0, 2 SRAM of D1, 3 canton slice (MEM.SYNADDR, R398). -/
def spaceKey (space addr : Nat) : Nat := space * 2 ^ 36 + addr

/-- A logic die has been declared lost (R454). -/
def State.dieIsLost (s : State) (d : Nat) : Bool := bitAt (s.get FLT_STAT_DIE_LOST) d

/-- The channel of a DRAM address (R365). -/
def channelOf (a : Nat) : Nat :=
  if 0x600000000 ≤ a ∧ a < 0x630000000 then
    let upper := if a < 0x610000000 then decide (0x608000000 ≤ a) else decide (0x620000000 ≤ a)
    (if upper then 8 else 0) + (a / 2 ^ 8 % 8 ^^^ a / 2 ^ 12 % 8)
  else a / 2 ^ 8 % 16 ^^^ a / 2 ^ 12 % 16

/-- A word of a DRAM channel that a lost die drives: it reads as poisoned, and a write to it is dropped (R454). -/
def State.wordLost (s : State) (k : Nat) : Bool := decide (k < spaceKey 1 0) && s.dieIsLost (channelOf k / 8)

/-- The stored word at a key: data bytes, and the side byte with POISON in bit 0 and CHECK in bits [7:1]. -/
def State.stored (s : State) (k : Nat) : Stored :=
  let x := (byteAt s.memX k).toNat
  if s.wordLost k then ⟨wordAt s.mem k, true, eccOf (wordAt s.mem k) true⟩ else ⟨wordAt s.mem k, x % 2 = 1, x / 2⟩

/-- Storing a word with its POISON and CHECK; the mark of an injection clears with any write (R379). -/
def State.putStored (s : State) (k : Nat) (w : Stored) : State :=
  { s with
    mem := if s.wordLost k then s.mem else putWord s.mem k w.data
    memX := if s.wordLost k then s.memX
      else putByte s.memX k (BitVec.ofNat 8 ((if w.poison then 1 else 0) + w.check * 2))
    memu := if s.wordLost k then s.memu else { s.memu with marks := Tab.put (fun _ => 0) s.memu.marks k 0 } }

/-- The word an access names. -/
def MemAccess.at : MemAccess → MemAt
  | .read m => m
  | .write _ m _ => m
  | .merge _ m _ _ => m

/-- The key of the injection target (MEM.INJ_ADDR). -/
def State.injKey (s : State) : Nat :=
  spaceKey (s.get MEM_INJ_ADDR_HI_SPACE) ((s.get MEM_INJ_ADDR_LO_ADDR_LO + s.get MEM_INJ_ADDR_HI_ADDR_HI * 2 ^ 32) / 4 * 4)

/-- The flip mask: DATA in [31:0], POISON in [32], CHECK in [39:33] (R355, R379). -/
def State.injMask (s : State) : Nat :=
  s.get MEM_INJ_MASK_LO_DATA + s.get MEM_INJ_MASK_HI_POISON * 2 ^ 32 + s.get MEM_INJ_MASK_HI_CHECK * 2 ^ 33

/-- A stored word with its bits flipped by a 40-bit mask. -/
def Stored.flip (w : Stored) (m : Nat) : Stored :=
  ⟨xorBits 32 w.data m, xor w.poison (bitAt m 32), xorBits 7 w.check (bitsOf m 33 7)⟩

/-- The payload of an INJECT event (R457). -/
def State.injEvent (s : State) (origin status : Nat) : State :=
  s.event origin 0x25 [(s.rd MEM_INJ_ADDR_LO).toNat, (s.rd MEM_INJ_ADDR_HI).toNat, (s.rd MEM_INJ_MASK_LO).toNat,
    (s.rd MEM_INJ_MASK_HI).toNat, status]

/-- A requester's write of a whole word (R379): an armed injection on the word fires, else the word is stored. -/
def State.putReq (s : State) (origin k : Nat) (w : Stored) : State :=
  if s.is MEM_INJ_CTL_ARM && s.injKey == k && !s.wordLost k then
    let m := s.injMask
    let s := ((s.putStored k (w.flip m)).set MEM_INJ_CTL_ARM 0).set MEM_INJ_CTL_DONE 1
    State.injEvent { s with memu := { s.memu with marks := Tab.put (fun _ => 0) s.memu.marks k m } } origin 1
  else s.putStored k w

/-- A word with freshly computed CHECK. -/
def freshWord (data : Nat) (poison : Bool) : Stored := ⟨data % 2 ^ 32, poison, eccOf data poison⟩

/-- The syndrome of a stored word (R357). -/
def Stored.syndrome (w : Stored) : Nat := numOfBits 7 (fun j => xor (eccBit w.data w.poison j) (bitAt w.check j))

/-- The class of a stored word (R357): the word as a requester receives it, and whether it was clean, correctable or
uncorrectable. -/
inductive WordClass where
  | clean | corrected (w : Stored) | uncorrectable
  deriving DecidableEq, Repr

/-- Classing a stored word by its syndrome (R357). -/
def Stored.classOf (w : Stored) : WordClass :=
  let y := w.syndrome
  if y = 0 then .clean
  else match eccColumns.findIdx? (· == y) with
    | some i =>
      if i = 32 then .corrected ⟨w.data, !w.poison, w.check⟩ else .corrected ⟨xorBits 32 w.data (2 ^ i), w.poison, w.check⟩
    | none => if popc 7 y = 1 then .corrected (freshWord w.data w.poison) else .uncorrectable

/-- What a reader is given of a stored word: its data, or `none` for a poisoned or uncorrectable word (R357, R359). -/
def Stored.view (w : Stored) : Option Nat :=
  match w.classOf with
  | .clean => if w.poison then none else some w.data
  | .corrected v => if v.poison then none else some v.data
  | .uncorrectable => none

/-- The poison pattern of R146. -/
def poisonPattern : Nat := 0xF1A9F1A9

/-- The DRAM byte address of window slot m (R366). -/
def slotAddr (m : Nat) : Nat := 0x1000 * m

/-- A slot holds a poisoned word. -/
def State.slotPoisoned (s : State) (m : Nat) : Bool :=
  (List.range 1024).any (fun i => (s.stored (slotAddr m + 4 * i)).view.isNone)

/-! ### Unit state by index -/

/-- Setting one entry of a table with a constant unlisted value. -/
def tset {α : Type} [DecidableEq α] (d : α) (t : Tab α) (k : Nat) (v : α) : Tab α := Tab.put (fun _ => d) t k v

/-- Reading one entry of a table with a constant unlisted value. -/
def tget {α : Type} (d : α) (t : Tab α) (k : Nat) : α := Tab.get (fun _ => d) t k

def State.lane (s : State) (c f : Nat) : Lane := tget Lane.init s.lanes (32 * c + f)
def State.setLane (s : State) (c f : Nat) (l : Lane) : State := { s with lanes := tset Lane.init s.lanes (32 * c + f) l }
def State.pcbOf (s : State) (c : Nat) : Pcb := tget Pcb.init s.pcb c
def State.setPcb (s : State) (c : Nat) (p : Pcb) : State := { s with pcb := tset Pcb.init s.pcb c p }
def State.seqOf (s : State) (c : Nat) : Seq := tget Seq.init s.seq c
def State.setSeq (s : State) (c : Nat) (q : Seq) : State := { s with seq := tset Seq.init s.seq c q }
def State.strOf (s : State) (c : Nat) : Stripes := tget Stripes.init s.str c
def State.setStr (s : State) (c : Nat) (x : Stripes) : State := { s with str := tset Stripes.init s.str c x }
def State.tlOf (s : State) (c : Nat) : Timeline := tget Timeline.init s.tl c
def State.setTl (s : State) (c : Nat) (t : Timeline) : State := { s with tl := tset Timeline.init s.tl c t }

/-- An event condition of the sequencer sets (R308). -/
def State.seqEvent (s : State) (c code : Nat) : State :=
  s.setSeq c { s.seqOf c with events := putBit (s.seqOf c).events code true }

/-- A sequencer interrupt is requested (R317). -/
def State.seqIrq (s : State) (c i : Nat) : State :=
  s.set (SEQ_INTPEND_PEND c) (putBit (s.get (SEQ_INTPEND_PEND c)) i true)

/-- The sequencer changes mode, which clears its pending interrupts (R322, R330). -/
def State.seqMode (s : State) (c m : Nat) : State := (s.set (SEQ_STAT_MODE c) m).set (SEQ_INTPEND_PEND c) 0

/-- Cluster c admits commands: its bit in PRM.STATUS.OPEN. -/
def State.isOpen (s : State) (c : Nat) : Bool := bitAt (s.get PRM_STATUS_OPEN) c

/-- Setting or clearing a cluster's OPEN bit. -/
def State.setOpen (s : State) (c : Nat) (b : Bool) : State :=
  s.set PRM_STATUS_OPEN (putBit (s.get PRM_STATUS_OPEN) c b)

/-- A lane is lost (R170). -/
def State.laneIsLost (s : State) (c f : Nat) : Bool := s.is (LAN_STAT_LOST c f)

/-- The lost-surface mask of a cluster (R263). -/
def State.lostMask (s : State) (c : Nat) : Nat := s.get (STR_LOSTSURF_MASK c)

/-- A block's window begins, or its mask runs on after it, from now (R34, R448). -/
def State.markWindow (s : State) (b : BlockId) : State :=
  { s with clk := { s.clk with windows := (b, s.now) :: s.clk.windows.filter (fun p => p.1 != b) } }

/-- TIME since which the window of a block, or its mask after it, has run. -/
def State.windowAt (s : State) (b : BlockId) : Nat := ((s.clk.windows.find? (fun p => p.1 == b)).map Prod.snd).getD 0

/-- A block leaves its reset window; its detectors stay masked for a while (R34, R448). -/
def State.endWindow (s : State) (b : BlockId) : State :=
  State.markWindow { s with resetting := s.resetting.filter (· != b) } b

def State.stmOf (s : State) (n : Nat) : Streamer := tget Streamer.init s.streamers n
def State.setStm (s : State) (n : Nat) (x : Streamer) : State :=
  { s with streamers := tset Streamer.init s.streamers n x }
def State.cantonOf (s : State) (k : Nat) : Canton := tget Canton.init s.cantons k
def State.setCanton (s : State) (k : Nat) (x : Canton) : State := { s with cantons := tset Canton.init s.cantons k x }
def State.servoOf (s : State) (c : Nat) : Servo := tget Servo.init s.servo c
def State.setServo (s : State) (c : Nat) (x : Servo) : State := { s with servo := tset Servo.init s.servo c x }
def State.clrOf (s : State) (c f : Nat) : Clr := tget Clr.init s.clr (32 * c + f)
def State.setClr (s : State) (c f : Nat) (x : Clr) : State := { s with clr := tset Clr.init s.clr (32 * c + f) x }
def State.spinOf (s : State) (d : Nat) : Spin := tget Spin.init s.spin d
def State.setSpin (s : State) (d : Nat) (x : Spin) : State := { s with spin := tset Spin.init s.spin d x }
def State.crossOf (s : State) (n : Nat) : Cross := tget Cross.init s.cross n
def State.setCross (s : State) (n : Nat) (x : Cross) : State := { s with cross := tset Cross.init s.cross n x }
def State.linkOf (s : State) (p : Nat) : LinkPortSt := tget LinkPortSt.init s.link.ports p
def State.setLink (s : State) (p : Nat) (x : LinkPortSt) : State :=
  { s with link := { s.link with ports := tset LinkPortSt.init s.link.ports p x } }
def State.hlaneOf (s : State) (n : Nat) : HLaneSt := tget HLaneSt.init s.link.lanes n
def State.setHlane (s : State) (n : Nat) (x : HLaneSt) : State :=
  { s with link := { s.link with lanes := tset HLaneSt.init s.link.lanes n x } }
def State.mediaOf (s : State) (c : Nat) : Media := tget Media.init s.media c
def State.setMedia (s : State) (c : Nat) (x : Media) : State := { s with media := tset Media.init s.media c x }

/-- STATE of a Streamer (R405): 0 IDLE, 1 RUNNING, 2 WAIT_LINK, 3 ENDED, 4 PAUSING, 5 PAUSED, 6 ERROR. -/
def State.stmState (s : State) (n : Nat) : Nat := s.get (STM_STAT_STATE n)

/-- Withdrawal of a Streamer's descriptor and of the chains queued behind it: no new burst is issued, and it is IDLE
once its issued bursts are acknowledged (R405, R407). -/
def State.withdraw (s : State) (n : Nat) : State :=
  let x := s.stmOf n
  let st := s.stmState n
  let s := s.set (STM_STAT_QUEUED n) 0
  if st = 1 ∨ st = 2 ∨ st = 4 ∨ st = 5 then
    if x.out.isEmpty then
      (s.setStm n { x with job := none, desc := none, queue := [], issued := false, withdrawn := false }).set
        (STM_STAT_STATE n) 0
    else s.setStm n { x with queue := [], withdrawn := true }
  else s.setStm n { x with queue := [] }

/-- A free value of the spec's own making: the next draw for a register field (log 9). -/
def State.draw (s : State) (addr : Nat) : State × Nat := ({ s with draws := s.draws + 1 }, Config.freeField addr s.draws)

/-- Wedges per revolution. -/
def State.wpr (s : State) : Nat := s.get PRM_GEOM_WPR

/-- A term of R73 by its number. -/
def State.term (s : State) (n : Nat) : Nat := s.get (PRM_TERM_VALUE n)

end Sys2Proof.Machine
end

