-- ==== Sys2Proof/Machine/Records.lean ====
section
/-! DEFINITION. Machine/Records.lean: commands, their records, their window slots and their cells: what every path that
ends, refuses or shortens a command is written from (R84, R105, R112 to R144, R515). -/

namespace Sys2Proof.Machine

/-! ### Commands -/

/-- The command with an id. -/
def State.cmd? (s : State) (id : Nat) : Option Cmd := s.ports.cmds.find? (fun c => c.id == id)

/-- Replacing the command with the same id. -/
def State.setCmd (s : State) (c : Cmd) : State :=
  { s with ports := { s.ports with cmds := s.ports.cmds.map (fun d => if d.id = c.id then c else d) } }

/-- Adding a command at its latch. -/
def State.addCmd (s : State) (c : Cmd) : State :=
  { s with ports := { s.ports with cmds := s.ports.cmds ++ [c], nextId := s.ports.nextId + 1 } }

/-- A command hoisted at a port, as against a prefetch or work of burgee 0. -/
def Cmd.hoisted (c : Cmd) : Bool :=
  match c.op with
  | .read | .write | .abort => true
  | _ => false

/-- A command that takes slots and a range lock. -/
def Cmd.transfers (c : Cmd) : Bool :=
  match c.op with
  | .abort => false
  | _ => true

/-- A command that writes media. -/
def Cmd.writes (c : Cmd) : Bool := match c.op with | .write => true | _ => false

def Cmd.ordered (c : Cmd) : Bool := bitAt c.flags 0
def Cmd.buffered (c : Cmd) : Bool := bitAt c.flags 2
def Cmd.nocache (c : Cmd) : Bool := bitAt c.flags 3

/-- A command of a port is live from its latch until its final record is popped (R116). -/
def Cmd.isLive (c : Cmd) : Bool := c.hoisted && !c.popped

/-- The live commands of a port. -/
def State.liveOf (s : State) (n : Nat) : List Cmd := s.ports.cmds.filter (fun c => c.isLive && c.port == n)

/-- LIVE of a port (R116). -/
def State.liveCount (s : State) (n : Nat) : Nat := (s.liveOf n).length

/-- Work of burgee 0 (R88). -/
def Cmd.isActivity (c : Cmd) : Bool :=
  match c.op with
  | .activity _ => true
  | _ => false

/-- The key order of R119: latch tick, die, latch order. -/
def Cmd.before (a b : Cmd) : Bool :=
  a.th < b.th || (a.th == b.th && (a.die < b.die || (a.die == b.die && a.id < b.id)))

/-- A copy of a stripe track, which holds range locks on the LBAs of its stripes (R261). -/
def Cmd.isCopy (c : Cmd) : Bool := c.isActivity && c.stripes.any (fun x => x.dest.isSome)

/-- Two commands' block ranges overlap. -/
def Cmd.overlaps (a b : Cmd) : Bool := a.lba < b.lba + b.count && b.lba < a.lba + a.count

/-- The command has an entry in its die's range-lock table (R118, R125): a prefetch takes none (R395), and of the work of
burgee 0 only a copy does (R261). -/
def Cmd.locked (c : Cmd) : Bool :=
  match c.op with
  | .read => c.phase = .queued || c.phase = .promised
  | .write => if c.buffered && (c.phase = .promised || c.phase = .ended) then !c.mediaDone
      else c.phase = .queued || c.phase = .promised
  | .activity _ => c.isCopy && c.phase = .promised
  | _ => false

/-- The budget row a command's cells are charged to (R82, R88). -/
def Cmd.rowKey (c : Cmd) : Nat :=
  match c.op with
  | .activity .scrub => 4096
  | .activity .patrol => 4097
  | .activity .cal => 4098
  | .activity .reloc => 4099
  | .activity .log => 4100
  | _ => c.burgee

/-- The command that owns a handle; 0 is no handle (R57). -/
def State.cmdByHandle? (s : State) (h : Nat) : Option Cmd :=
  if h = 0 then none else s.ports.cmds.find? (fun c => c.handle == h)

/-- Owner handles in use (PRM.STATUS.HANDLES, R57). -/
def State.handlesUsed (s : State) : Nat := (s.ports.cmds.filter (fun c => c.handle != 0)).length

/-! ### Window slots (R144) -/

def slotFREE : Nat := 0
def slotHOST : Nat := 1
def slotDEVICE : Nat := 2
def slotPOISONED : Nat := 3

/-- The owner flag of a slot. -/
def State.flag (s : State) (m : Nat) : Nat := tget 0 s.win.flags m

/-- A flag change; a slot's age returns to 0 at every change (R150). -/
def State.setFlag (s : State) (m f : Nat) : State :=
  if s.flag m = f then s
  else { s with win := { s.win with flags := tset 0 s.win.flags m f, ages := tset 0 s.win.ages m 0 } }

/-- The grant that holds a slot, if any. -/
def State.grantOf? (s : State) (m : Nat) : Option Grant :=
  (s.win.grants.find? (fun p => p.2.valid && p.2.base ≤ m && m < p.2.base + p.2.num)).map Prod.snd

/-- A slot lies in a grant of a burgee. -/
def State.granted (s : State) (b m : Nat) : Bool :=
  match s.grantOf? m with
  | some g => g.burgee == b
  | none => false

/-- A burgee has a slot in breach of the hold limit: a slot of its grants whose age has reached 3 (R150, R151). -/
def State.inBreach (s : State) (b : Nat) : Bool := s.win.ages.any (fun p => p.2 == 3 && s.granted b p.1)

/-! ### Records (R131 to R143) -/

/-- The length word (R137). -/
def lengthWord (cells kind seq : Nat) : Nat := 1 + (cells - 1) * 2 + kind * 8 + seq % 2 ^ 16 * 2 ^ 16

/-- The records waiting at a port. -/
def State.queueOf (s : State) (n : Nat) : List Rec := tget [] s.ports.recs n

/-- The die that fronts a port (R109). -/
def portDie (n : Nat) : Nat := n / 512

/-- Appending a record with the port's next sequence number; a queue that rises from 0 asks for a doorbell (R432). -/
def State.append (s : State) (n kind cells shared : Nat) (words : List Nat) (owner : Option Nat) (fin : Bool) : State :=
  let sq := tget 0 s.ports.seqNo n
  let r : Rec := ⟨lengthWord cells kind sq :: words, cells, shared, owner, fin⟩
  let rose := (s.queueOf n).isEmpty && bitAt (s.get (LNK_DBEN_EN (n / 32))) (n % 32) && !s.link.doorbells.contains n
  let s := { s with ports := { s.ports with
    recs := tset [] s.ports.recs n (s.queueOf n ++ [r])
    seqNo := tset 0 s.ports.seqNo n ((sq + 1) % 2 ^ 16) } }
  if rose then { s with link := { s.link with doorbells := s.link.doorbells ++ [n] } } else s

/-- Word 1 of every record. -/
def Cmd.word1 (c : Cmd) : Nat := c.tag + c.burgee * 2 ^ 16

/-- The mask of the clusters of a list. -/
def maskOf : List Nat → Nat
  | [] => 0
  | c :: cs => putBit (maskOf cs) c true

/-- KIND of a DEADLINE (R76). -/
def dlKind (d : Nat) : Nat := d / 2 ^ 28

/-- The PROMISE record of a command (R138, R139, R516). -/
def State.promiseRec (s : State) (c : Cmd) : State :=
  let isAbort := match c.op with | .abort => true | _ => false
  (s.append c.port 0 1 0
    ([c.word1, c.code + c.flags * 2 ^ 8 + (if c.cached then 2 ^ 16 else 0),
      (if isAbort then 0 else maskOf c.clusters + dlKind c.deadline * 2 ^ 8)]
      ++ lohi c.th ++ lohi c.tp ++ lohi c.dl ++ [c.count, c.slot, 0, 0, 0, 0]) (some c.id) false).countSat PRM_PROMISED_COUNT

/-- Returning the slots a command took to the flags they held (R114). -/
def State.giveBack (s : State) (slot : Nat) : List Nat → State
  | [] => s
  | f :: fs => State.giveBack (s.setFlag slot f) (slot + 1) fs

/-- Taking a command out of the admission queues. -/
def State.unqueue (s : State) (id : Nat) : State :=
  { s with ports := { s.ports with adq0 := s.ports.adq0.filter (· != id), adq1 := s.ports.adq1.filter (· != id) } }

/-- Cells of the pool: taken at a latch, given back at a refusal and at a pop (R131, R132). -/
def State.freeCells (s : State) (d n : Nat) : State := s.set (CQ_DIE_FREE_FREE d) (s.get (CQ_DIE_FREE_FREE d) + n)
def State.takeCells (s : State) (d n : Nat) : State := s.set (CQ_DIE_FREE_FREE d) (s.get (CQ_DIE_FREE_FREE d) - n)

/-- The TERMINAL of an ABORT (R126, R127, R129). -/
def State.abortRec (s : State) (a : Cmd) (status : Nat) : State :=
  let late := a.tp < s.now
  let s := s.setCmd { a with phase := .ended, status := status, mediaDone := true }
  let s := s.append a.port 2 1 0
    ([a.word1, 3 + status * 2 ^ 8 + (if late then 2 ^ 16 + a.assume * 2 ^ 17 else 0), 0] ++ lohi a.th ++ lohi a.tp ++ lohi s.now
      ++ [0, a.slot, 0, 0, 0, 0]) (some a.id) true
  s.when late (fun s => s.count PRM_LATE_COUNT)

/-- The ABORTs that waited for the final record of a command end after it, and then those that waited for them (R130). -/
def State.endWaiters (s : State) : Nat → Nat → State
  | 0, _ => s
  | k + 1, id =>
    State.each s (fun i s => match s.cmd? i with
      | some a => State.endWaiters (s.abortRec a a.status) k i
      | none => s) ((s.ports.cmds.filter (fun a => a.victim == some id && a.phase = .promised)).map Cmd.id)

/-- Ending an ABORT, and whatever waited for it. -/
def State.endAbort (s : State) (a : Cmd) (status : Nat) : State :=
  (s.abortRec a status).endWaiters s.ports.cmds.length a.id

/-- The REFUSAL of a command: its slots, its handle and its second cell return, then the record is written, and an
ABORT that waited for the verdict ends with ALREADY_DONE (R79, R114, R127, R132, R138, R139, R516). -/
def State.refuse (s : State) (c : Cmd) (reason sub cluster earliest dl : Nat) : State :=
  let s := if c.transfers then s.giveBack c.slot c.prior else s
  let s := s.unqueue c.id
  let s := s.setCmd { c with phase := .refused, handle := 0, mediaDone := true, prior := [], dl := dl }
  let s := if c.hoisted then
      ((s.freeCells c.die 1).append c.port 1 1 0
        ([c.word1, c.code + reason * 2 ^ 8 + sub * 2 ^ 16, cluster] ++ lohi c.th ++ lohi earliest ++ lohi dl
          ++ [c.count, c.slot, 0, 0, 0, 0]) (some c.id) true).countSat (PRM_REFUSED_COUNT (reason - 1))
    else s
  State.each s (fun id s => match s.cmd? id with
    | some a => s.endAbort a 2
    | none => s) ((s.ports.cmds.filter (fun a => a.victim == some c.id && a.phase != .ended)).map Cmd.id)

/-- Sixteen-bit entries packed two per word, 30 entries and a link word to a cell (R135, R143). -/
def packCell (l : List Nat) : List Nat :=
  (List.range 15).map (fun i => l.getD (2 * i) 0xFFFF + l.getD (2 * i + 1) 0xFFFF * 2 ^ 16) ++ [0]

/-- Cells 1 to 3 of a DETAIL record. -/
def packCells : Nat → List Nat → List Nat
  | 0, _ => []
  | n + 1, l => packCell (l.take 30) ++ packCells n (l.drop 30)

/-- STRIPE_DONE of R143: bit i is 1 when stripe i was done whole. -/
def stripeDone : List CmdStripe → Nat
  | [] => 0
  | x :: xs => (if x.st = .done then 1 else 0) + 2 * stripeDone xs

/-- The status with which a command ends: the larger of two (R142). -/
def worse (a b : Nat) : Nat := max a b

/-- The time of a command from its T_h to its T_p (R97). -/
def State.within (s : State) (c : Cmd) : Bool := c.phase = .queued || (c.phase = .promised && decide (s.now ≤ c.tp))

/-- An assumption has failed for the live commands that a test picks out, at a moment between their T_h and their T_p; the
first in table order counts (R97, R98, R140). -/
def State.failAssumption (s : State) (n : Nat) (p : Cmd → Bool) : State :=
  { s with ports := { s.ports with cmds := s.ports.cmds.map (fun c =>
      if (s.within c && p c) && (c.assume = 0 || n < c.assume) then { c with assume := n } else c) } }

/-- A1 is found failed (R97): holdover, or CAL.TRIM past 20,000 ppb. -/
def State.offFrequency (s : State) : Bool :=
  s.is TOP_CLKSTAT_HOLDOVER || (s.get CAL_TRIM_TRIM != 0x80000000 && 20000 < (signed 32 (s.get CAL_TRIM_TRIM)).natAbs)

/-- A6 is found failed: a supply or a junction is out of its range now (R502). -/
def State.outOfRange (s : State) : Bool :=
  s.is TOP_MONSTAT_V_NOW || (List.range 9).any (fun i => decide (105 * 16 < signed 16 (s.get (TOP_TJ_T i))))

/-- The first assumption of R97 that stands failed as a command of a burgee is latched; 0 for none. -/
def State.assumeAt (s : State) (b : Nat) : Nat :=
  if s.offFrequency then 1 else if s.outOfRange then 6 else if s.inBreach b then 8 else 0

/-- What a command's way crosses: its clusters, and the path of every command (bit 8). -/
def Cmd.pathMask (c : Cmd) : Nat := maskOf (8 :: c.clusters)

/-- A single fault of R2 begins to interrupt a path for at most `ticks` (R450): where it begins during the interruption of
another, A4 has failed for the commands whose way both interrupt (R452). -/
def State.interruption (s : State) (mask ticks : Nat) : State :=
  let up := s.ports.faults.filter (fun f => decide (s.now < f.2))
  let s := s.failAssumption 4 (fun x => x.pathMask &&& mask != 0 && up.any (fun f => x.pathMask &&& f.1 != 0))
  { s with ports := { s.ports with faults := up ++ [(mask, s.now + ticks)] } }

/-- The flag a slot takes at its command's TERMINAL (R144). -/
def State.flipTo (s : State) (c : Cmd) (i : Nat) : Nat :=
  let notDone := c.stripes.any (fun x => x.off ≤ i && i < x.off + x.nblk && x.st = .released)
  if notDone then slotHOST
  else if !c.writes && c.lost.contains i then slotPOISONED
  else if s.slotPoisoned (c.slot + i) then slotPOISONED else slotHOST

/-- Flipping the slots of a command that are still DEVICE. -/
def State.flipSlots (s : State) (c : Cmd) : List Nat → State
  | [] => s
  | i :: is =>
    State.flipSlots (if s.flag (c.slot + i) = slotDEVICE then s.setFlag (c.slot + i) (s.flipTo c i) else s) c is

/-- Cells of a die's pool that no credit covers any more: those of ports that are disabled and still hold a record, a live
command's next one, or its verdict's and its TERMINAL's (R131, R132, R153). -/
def State.drainCells (s : State) (d : Nat) : Nat :=
  let off (n : Nat) : Bool := portDie n == d && !s.is (TPT_PORT_CFG_ENABLE n)
  (s.ports.recs.filter (fun p => off p.1)).foldl (fun n p => n + (p.2.map (fun r => r.cells - r.shared)).sum) 0 +
    (s.ports.cmds.filter (fun c => c.hoisted && off c.port)).foldl (fun n c =>
      n + (if c.phase = .queued then 2 else if c.phase = .promised then 1 else 0)) 0

/-- SHARED_FREE of a die (R131, R133): what credits, draining ports and DETAIL records leave of the pool's 131,072 cells. -/
def State.sharedFree (s : State) (d : Nat) : Nat :=
  131072 - s.get (TPT_CREDIT_CREDITED d) - s.drainCells d -
    (s.ports.recs.filter (fun p => portDie p.1 == d)).foldl (fun n p => n + (p.2.map Rec.shared).sum) 0

/-- The DETAIL of a command (R133, R143): its cells taken from the shared area, or dropped where that does not suffice. -/
def State.writeDetail (s : State) (id : Nat) : State :=
  match s.cmd? id with
  | none => s
  | some c =>
    let entries := c.lost.take 90
    let need := 1 + (entries.length + 29) / 30
    let fits := decide (need ≤ s.sharedFree c.die)
    let sd := stripeDone c.stripes
    let s := s.setCmd { c with detail := some fits }
    if fits then
      (s.takeCells c.die need).append c.port 3 need need
        ([c.word1, c.code + (if 90 < c.lost.length then 2 ^ 16 else 0), entries.length]
          ++ (List.range 8).map (fun i => sd / 2 ^ (32 * i) % 2 ^ 32) ++ [bitsOf sd 256 1, 0, 0, 0]
          ++ packCells (need - 1) entries) (some c.id) false
    else s.count (CQ_DIE_DROPS_DROPS c.die)

/-- The TERMINAL of a command, with its DETAIL in the same step immediately before it where one is due, by the status or by
a PORT DETAIL (R133, R134, R138 to R143), and the flip of its slots (R144). Whatever still waited on it as an abort's target
ends next (R130). -/
def State.endCmd (s : State) (id : Nat) : State :=
  match s.cmd? id with
  | none => s
  | some c =>
    if c.phase != .promised then s
    else
      let late := c.tp < s.now
      let asm := if late then c.assume else 0
      let s := s.flipSlots c (List.range (if c.hoisted && c.transfers then c.count else 0))
      let s := s.setCmd { c with phase := .ended, prior := [] }
      if !c.hoisted then s else
      let s := if c.status != 0 || c.detail.isSome then s.writeDetail id else s
      let detail := ((s.cmd? id).map Cmd.detail).getD none
      let done := (c.stripes.filter (fun x => x.st = .done)).length
      let s := s.append c.port 2 1 0
        ([c.word1, c.code + c.status * 2 ^ 8 + (if late then 2 ^ 16 else 0) + asm * 2 ^ 17
            + (if detail == some true then 2 ^ 21 else 0) + (if detail == some false then 2 ^ 22 else 0),
          c.stripes.length + done * 2 ^ 16] ++ lohi c.th ++ lohi c.tp ++ lohi s.now
          ++ [min c.rebuilt 0xFFFF, c.slot, 0, 0, 0, 0]) (some c.id) true
      let s := s.when late (fun s => s.count PRM_LATE_COUNT)
      s.endWaiters s.ports.cmds.length id

/-- The command has nothing left to do: every stripe done, lost, or released. -/
def Cmd.settled (c : Cmd) : Bool := c.stripes.all (fun x => x.st != .unbegun && x.st != .begun)

/-- A BUFFERED write's TERMINAL waits for its T_p row; every other command ends once its stripes are settled. -/
def State.endIfSettled (s : State) (id : Nat) : State :=
  match s.cmd? id with
  | none => s
  | some c =>
    let s := if c.settled then s.setCmd { c with mediaDone := true } else s
    if c.settled && c.phase = .promised && (c.status != 0 || !(c.buffered && c.writes)) then s.endCmd id else s

/-! ### Cells, refunds (R84, R105, R515) -/

/-- POS at the end of wedge `n`: that of the last slot up to it whose ARM is not FREE (R56), or `p`. -/
def posAtEnd : Tab WSlot → Nat → Nat → Nat
  | [], _, p => p
  | x :: t, n, p => if x.1 ≤ n then posAtEnd t n (if x.2.arm = .free then p else x.2.pos) else p

/-- POS at the end of a wedge. -/
def Timeline.posAt (t : Timeline) (n : Nat) : Nat := posAtEnd t.slots n t.pos0

/-- The slot of a wedge: a FREE one holds the POS of the wedge before it (R56). -/
def Timeline.slotAt (t : Timeline) (n : Nat) : WSlot :=
  match t.slots.find? (fun p => p.1 == n) with
  | some p => if p.2.arm = .free then { p.2 with pos := t.posAt n } else p.2
  | none => { WSlot.init with pos := t.posAt n }

/-- A cell of a wedge. -/
def Timeline.cellAt (t : Timeline) (n f : Nat) : TCell := tget TCell.init (t.slotAt n).cells f

/-- Cells of a wedge owned by a handle. -/
def ownedIn (h : Nat) (w : WSlot) : Nat := (w.cells.filter (fun p => p.2.owner == h && p.2.kind != .free)).length

/-- A handle owns a cell of the timeline in a wedge that has not retired. -/
def Timeline.owns (t : Timeline) (h : Nat) : Bool := t.slots.any (fun p => ownedIn h p.2 != 0)

/-- Freeing those cells of a handle, in wedges from `n0` on, that `keep` does not keep: ARM and POS stay (R515). The
answer's second part counts the cells freed. -/
def freeCellsOf (h n0 : Nat) (keep : Nat → Nat → CellKind → Bool) : Tab WSlot → Tab WSlot × Nat
  | [] => ([], 0)
  | x :: t =>
    let r := freeCellsOf h n0 keep t
    if x.1 < n0 then (x :: r.1, r.2)
    else
      let kept := x.2.cells.filter (fun p => !(p.2.owner == h && p.2.kind != .free && !keep x.1 p.1 p.2.kind))
      ((x.1, { x.2 with cells := kept }) :: r.1, r.2 + (x.2.cells.length - kept.length))

/-- CAP of a cluster (R84). -/
def State.capOf (s : State) : Nat := 32 * s.wpr

/-- The refund of `r` lane-wedges of command `c` on cluster `k` (R84). -/
def State.refund (s : State) (c : Cmd) (k r : Nat) : State :=
  let t := s.tlOf k
  let row := tget Row.init t.rows c.rowKey
  let b := min r (tget 0 c.borrowed k)
  let rest := r - b
  let cap : Int := (row.depth * row.share : Nat)
  let bal := max row.balance (min (row.balance + (rest : Nat)) cap)
  let excess := rest - (bal - row.balance).toNat
  let row' := { row with balance := bal, borrowed := row.borrowed - b }
  let s := s.setTl k { t with
    lend := min (min (t.lend + b) s.capOf + excess) s.capOf
    rows := if row.used then tset Row.init t.rows c.rowKey row' else t.rows }
  s.setCmd { c with borrowed := tset 0 c.borrowed k (tget 0 c.borrowed k - b)
                    own := tset 0 c.own k (tget 0 c.own k - rest) }

/-- Releasing cells of a command on one cluster, with their refund (R105). -/
def State.releaseOn (s : State) (id k n0 : Nat) (keep : Nat → Nat → CellKind → Bool) : State :=
  match s.cmd? id with
  | none => s
  | some c =>
    if c.handle = 0 then s
    else
      let t := s.tlOf k
      let r := freeCellsOf c.handle n0 keep t.slots
      (s.setTl k { t with slots := r.1 }).refund c k r.2

/-- A live command is charged to row `k` of a cluster. -/
def State.rowLive (s : State) (c k : Nat) : Bool :=
  s.ports.cmds.any (fun x => x.rowKey == k && x.handle != 0 && (s.tlOf c).owns x.handle)

/-- The rows of a cluster without those of tenants that are freed: SHARE and CEILING are 0, no change is accepted, and no
live command has cells (R91). -/
def State.keptRows (s : State) (c : Nat) (rows : Tab Row) : Tab Row :=
  rows.filter (fun p => decide (4096 ≤ p.1) || p.2.share != 0 || p.2.ceiling != 0 || p.2.staged.isSome || s.rowLive c p.1)

/-- A handle returns once its command's final record is written and none of its cells is left; a command of which
nothing is left is forgotten (R57, R116, R125); a row that nothing uses any more is freed (R91). -/
def State.tidy (s : State) : State :=
  let s : State := { s with tl := s.tl.map (fun p => (p.1, { p.2 with rows := s.keptRows p.1 p.2.rows })) }
  let owns (h : Nat) : Bool := s.tl.any (fun p => p.2.owns h)
  let cs := s.ports.cmds.map (fun c =>
    if c.phase = .ended && c.handle != 0 && !owns c.handle then { c with handle := 0 } else c)
  { s with ports := { s.ports with
      cmds := cs.filter (fun c => !((c.popped || !c.hoisted) && (c.phase = .ended || c.phase = .refused)
        && c.mediaDone && c.handle = 0)) } }

/-- The fragments due in a wedge, of any IBUDGET (DLOAD of R55), and the largest IBUDGET among them (IB_w of R225). -/
def loadSum (t : Tab Nat) : Nat := t.foldl (fun n p => n + p.2) 0
def loadIb (t : Tab Nat) : Nat := t.foldl (fun n p => max n p.1) 0

/-- One fragment more, and one fewer, of an IBUDGET in a wedge's load. -/
def loadMore (t : Tab Nat) (b : Nat) : Tab Nat := tset 0 t b (tget 0 t b + 1)
def loadLess (t : Tab Nat) (b : Nat) : Tab Nat := tset 0 t b (tget 0 t b - 1)

/-- Changing the load of a wedge; a wedge that has retired has none. -/
def Timeline.reload (t : Timeline) (w : Nat) (g : Tab Nat → Tab Nat) : Timeline :=
  let x := t.slotAt w
  if w < t.now ∨ g x.dload = x.dload then t else { t with slots := tset WSlot.init t.slots w { x with dload := g x.dload } }

end Sys2Proof.Machine
end

