-- ==== Sys2Proof/Machine/Losses.lean ====
section
/-! DEFINITION. Machine/Losses.lean: what leaving service does to lanes, sequencers, clusters, the spindle and the live
commands (R96, R168, R171, R321, R323, R407, R453). None of it raises a fault source of its own. -/

namespace Sys2Proof.Machine

/-! ### Lanes (R168, R169) -/

/-- Marking a fragment of the open write stripes cut (R168, R245). -/
def markCut (slot f : Nat) (l : List OpenStripe) : List OpenStripe :=
  l.map (fun o => if o.slot = slot && o.write then { o with cut := putBit o.cut f true } else o)

/-- Every lane that the LANE unit armed has ended its fragment or been cut: FRAG_END (R308). -/
def State.fragEnd (s : State) (c : Nat) : State :=
  let armed := (List.range 32).filter (fun f => (s.lane c f).arm.isSome)
  if !armed.isEmpty && armed.all (fun f => (s.lane c f).ended) then s.seqEvent c 11 else s

/-- A fragment being written is cut: the output goes idle, WCUT rises, the sequencer records the fragment as not
written (R168). -/
def State.cutWrite (s : State) (c f : Nat) : State :=
  let l := s.lane c f
  if l.writing then
    let x := s.strOf c
    let slot := (l.arm.map LaneArm.slot).getD 0
    let s := s.setStr c { x with opened := markCut slot f x.opened }
    -- How many edges had been moved when the output went idle is open (R167, R168).
    let r := s.draw (LAN_WCLAMP_COUNT c f).addr
    let s := r.1.addCount (LAN_WCLAMP_COUNT c f) r.2
    ((s.setLane c f { l with writing := false, ended := true, out := [] }).count (LAN_WCUT_COUNT c f)).fragEnd c
  else s

/-- Setting or clearing one bit of WINH_WHY (0 LOOP, 1 SERVO, 2 PREAMP, 3 HOST); a lane that becomes inhibited while
it writes is cut (R168, R169). -/
def State.setWhy (s : State) (c f bit : Nat) (b : Bool) : State :=
  let why := putBit (s.get (LAN_STAT_WINH_WHY c f)) bit b
  let s := (s.set (LAN_STAT_WINH_WHY c f) why).set (LAN_STAT_WINH c f) (if why = 0 then 0 else 1)
  if why = 0 then s else s.cutWrite c f

/-- A fragment of an open stripe gets a result, unless it has one. -/
def setFrag (slot f : Nat) (st : FragState) (l : List OpenStripe) : List OpenStripe :=
  l.map (fun o => if o.slot = slot && !o.write && tget .waiting o.frags f = .waiting then
    { o with frags := tset .waiting o.frags f st } else o)

/-- A read fragment of lane (c, f) ends as an erasure or GOOD in the stripe engine (R228). -/
def State.fragResult (s : State) (c slot f : Nat) (st : FragState) : State :=
  let x := s.strOf c
  s.setStr c { x with opened := setFrag slot f st x.opened }

/-- A lane's read in progress ends without a TAIL (R170, R221, R310): its landing slot is freed and the fragment is erased. How
many of the samples not presented were saturated is open (R164). -/
def State.dropRead (s : State) (c f : Nat) : State :=
  let l := s.lane c f
  match l.read with
  | none => s
  | some r =>
    let k := c / 2
    let s := s.setCanton k { s.cantonOf k with slots := (s.cantonOf k).slots.filter (fun p =>
      !(p.cluster == c && p.surface == f && p.slot == r.slot && p.last.isNone)) }
    let s := s.fragResult c r.slot f .erased
    let s := (s.set (RCH_STAT_ACTIVE c f) 0).set (RCH_STAT_PHASE c f) 0
    let r := s.draw (LAN_ADCSAT_COUNT c f).addr
    ((r.1.addSat (LAN_ADCSAT_COUNT c f) r.2).setLane c f { l with read := none, ended := true }).fragEnd c

/-- Disarming a lane's gates; a read or a write in progress ends there (R310, R321). -/
def State.disarm (s : State) (c f : Nat) : State :=
  let s := s.cutWrite c f
  let s := (s.setLane c f { s.lane c f with arm := none }).dropRead c f
  s.setLane c f { s.lane c f with ended := false }

/-- A MODE frame for a surface mask is queued; it replaces an unsent one for the same surfaces (R311). -/
def State.queueMode (s : State) (c mask mode act : Nat) : State :=
  let p := s.pcbOf c
  let fr : PcbFrame := ⟨.mode, [], 0, mask, mode, act, false⟩
  let hit (q : PcbFrame) : Bool := (match q.kind with | .mode => true | _ => false) && q.mask &&& mask != 0
  if p.queue.any hit then s.setPcb c { p with queue := p.queue.map (fun q => if hit q then fr else q) }
  else s.setPcb c { p with queue := p.queue ++ [fr] }

/-! ### The sequencer stops (R321) -/

/-- The least ACT a MODE frame can carry, in bit times (log 30; R179). -/
def actMin : Nat := 64

/-- The stop of a sequencer: STOPPED, every lane disarmed, MODE IDLE queued for all 32 surfaces, its Streamers'
descriptors withdrawn (R321, R407). -/
def State.seqHalt (s : State) (c : Nat) : State :=
  let s := (s.seqMode c 0).set (SEQ_STAT_WAITING c) 0
  let s := State.each s (fun f s => s.disarm c f) (List.range 32)
  let s := s.queueMode c (2 ^ 32 - 1) 1 actMin
  State.each s (fun n s => s.withdraw n) [16 * dieOf c + 6 + 2 * (c % 4), 16 * dieOf c + 7 + 2 * (c % 4)]

/-! ### Commands lose stripes -/

/-- The offsets of a stripe's blocks within its command. -/
def CmdStripe.offs (x : CmdStripe) : List Nat := (List.range x.nblk).map (· + x.off)

/-- The stripes of a command that a test picks out and that are not done are lost, with a status (R141, R453). -/
def Cmd.loseStripes (c : Cmd) (p : CmdStripe → Bool) (status : Nat) : Cmd :=
  let hit (x : CmdStripe) : Bool := p x && (x.st = .unbegun || x.st = .begun)
  if c.stripes.any hit then
    { c with stripes := c.stripes.map (fun x => if hit x then { x with st := .lost } else x)
             lost := c.lost ++ ((c.stripes.filter hit).map CmdStripe.offs).flatten
             status := worse c.status status }
  else c

/-- A command with cells on a cluster: it was placed there and its media work has not ended. -/
def Cmd.usesCluster (c : Cmd) (k : Nat) : Bool := c.clusters.contains k && !c.cached && !c.mediaDone

/-- The records of R393 when stripes of a BUFFERED write on cluster `k` are lost after its TERMINAL: a record of its own
(of no command) for each of them; the write's record stays while other stripes of it are to be written. -/
def State.bufLose (s : State) (c : Cmd) (k : Nat) : State :=
  if c.phase = .ended && c.buffered && c.writes then
    let open? (x : CmdStripe) : Bool := x.st = .unbegun || x.st = .begun
    let gone := (c.stripes.filter (fun x => x.cluster == k && open? x)).map (fun x =>
      (⟨0, c.burgee, c.lba + x.off, x.nblk⟩ : BufRec))
    let left := c.stripes.any (fun x => x.cluster != k && open? x)
    { s with bufRecs := (if left then s.bufRecs else s.bufRecs.filter (fun b => b.cmd != c.id)) ++ gone }
  else s

/-- The live media commands lose their stripes on cluster `k` with a status, and end where nothing else is left. -/
def State.loseOn (s : State) (k status : Nat) : State :=
  let ids := (s.ports.cmds.filter (fun c => c.usesCluster k && (c.phase = .promised || c.phase = .ended))).map Cmd.id
  State.each s (fun id s => match s.cmd? id with
    | some c => ((s.bufLose c k).setCmd (c.loseStripes (fun x => x.cluster == k) status)).endIfSettled id
    | none => s) ids

/-- A calibration session ends with a RESULT (R491). -/
def State.calEnd (s : State) (result : Nat) : State :=
  State.set (((State.set { s with cal := { s.cal with session := none } } CAL_STAT_BUSY 0).set CAL_STAT_CLOSING 0))
    CAL_STAT_RESULT result

/-- A session on cluster `k` ends ABORTED with the cluster (R491). -/
def State.calLose (s : State) (k : Nat) : State :=
  match s.cal.session with
  | some x => if x.cluster = k ∧ 3 ≤ x.kind then s.calEnd 5 else s
  | none => s

/-- Cluster `k` leaves service (R96, R323): OPEN clears, its sequencer leaves RUN, its cells and rows are released, its
lend pool is 0, and its live commands end with the status. `lost` says that its servo enters LOST too (R298). -/
def State.leaveService (s : State) (k status : Nat) (lost : Bool) : State :=
  let s := (s.setOpen k false).calLose k
  let s := if lost then s.set (SRV_STAT_STATE k) 6 else s
  let s := if s.get (SEQ_STAT_MODE k) = 2 then s.seqHalt k else s
  let t := s.tlOf k
  let s := s.setTl k { t with
    slots := t.slots.map (fun p => (p.1, { p.2 with cells := [], dload := [] })), rows := [], lend := 0 }
  let s := State.each s (fun id s => match s.cmd? id with
    | some c => s.setCmd { c with own := tset 0 c.own k 0, borrowed := tset 0 c.borrowed k 0 }
    | none => s) (s.ports.cmds.map Cmd.id)
  let s := s.failAssumption 5 (fun c => c.usesCluster k)
  (s.loseOn k status).tidy

/-- Loss of the actuator of cluster `k` (R96, R453). -/
def State.loseCluster (s : State) (k : Nat) : State := s.leaveService k 7 true

/-- Loss of the spindle: every live media command ends with SPINDLE_LOST and every servo enters LOST (R96, R298). -/
def State.loseSpindle (s : State) : State := State.each s (fun k s => s.leaveService k 8 true) (List.range 8)

/-- Loss of a logic die: its clusters are lost, the surviving die takes its own out of service, and every live command
of the package ends with a defined status (R96, R453, R454). -/
def State.loseDie (s : State) (d : Nat) : State :=
  let s := State.each s (fun k s => s.leaveService k 7 true) ((List.range 4).map (· + 4 * d))
  let s := State.each s (fun k s => s.leaveService k 7 true) ((List.range 4).map (· + 4 * (1 - d)))
  let s := State.each s (fun id s => match s.cmd? id with
    | some c =>
      if c.cached && c.phase = .promised then
        (s.setCmd { c with status := worse c.status 5, mediaDone := true,
                           lost := (List.range c.count).filter (fun i => !c.moved.contains i),
                           stripes := c.stripes.map (fun x => { x with st := .lost }) }).endCmd id
      else s
    | none => s) (s.ports.cmds.map Cmd.id)
  s.tidy

end Sys2Proof.Machine
end

