-- ==== Sys2Proof/Machine/Geometry.lean ====
section
/-! DEFINITION. Machine/Geometry.lean: where a stripe lies (R204 to R206, R231 to R236), the skew table (R257, R258,
R261), the seek table (R287) and the wedge grid (R58). -/

namespace Sys2Proof.Machine

/-! ### The zone table (R205) -/

/-- A field of word `w` of zone entry `z` of a surface. -/
def State.zfs (s : State) (c f z w lo width : Nat) : Nat := bitsOf (s.get (RCH_ZTAB_WORD c f (16 * z + w))) lo width

/-- A field that R204 makes equal on all surfaces. -/
def State.zf (s : State) (c z w lo width : Nat) : Nat := s.zfs c 0 z w lo width

/-- The servo bits of the fields of a servo wedge (R269): RECOVERY, PREAMBLE, SAM, WEDGE, TRACK, the four bursts and PAD. -/
def servoFields : List Nat := [64, 64, 16, 20, 52, 40, 40, 40, 40, 16]

def State.zStart (s : State) (c z : Nat) : Nat := s.zf c z 0 0 26
def State.zEnd (s : State) (c z : Nat) : Nat := s.zf c z 1 0 26
def State.zFrags (s : State) (c z : Nat) : Nat := s.zf c z 3 0 11
/-- IBUDGET of a surface's entry. -/
def State.zBudget (s : State) (c f z : Nat) : Nat := s.zfs c f z 3 20 4
def State.zPre (s : State) (c z : Nat) : Nat := s.zf c z 4 0 8
def State.zData (s : State) (c z : Nat) : Nat := s.zf c z 9 0 17

/-- NT[z], the stripe tracks of a zone (R234). -/
def State.zTracks (s : State) (c z : Nat) : Nat := 992 * (s.zEnd c z - s.zStart c z + 1) / 1024

/-- The length of a fragment in bit times (R198): preamble, sync, body and pad. -/
def State.fragLen (s : State) (c z : Nat) : Nat := 16 * s.zPre c z + 32 + 37440 + 64

/-- Where a stripe lies: its zone, nominal track and fragment index, and the wedge indices of its first and last bit. -/
structure Spot where
  zone : Nat
  track : Nat
  frag : Nat
  i0 : Nat
  i1 : Nat
  deriving DecidableEq, Repr

/-- The spot of fragment index `f` on a track of zone `z` (R206). -/
def State.spotAt (s : State) (c z track f : Nat) : Spot :=
  let d := s.zData c z
  let start := f * s.wpr * d / s.zFrags c z
  let len := s.fragLen c z
  let last := if start % d + len ≤ d then start + len - 1 else start + len + 64 - 1
  ⟨z, track, f, start / d, last / d⟩

/-- The walk of R234 from zone `z` on, over at most `n` zones. -/
def State.walk (s : State) (c u : Nat) : Nat → Nat → Option Spot
  | 0, _ => none
  | n + 1, z =>
    let f := s.zFrags c z
    if f = 0 then none
    else if s.zTracks c z * f ≤ u then State.walk s c (u - s.zTracks c z * f) n (z + 1)
    else
      let i := u / f
      let j := u % f
      some (s.spotAt c z (s.zStart c z + 1024 * (i / 992) + i % 992) ((j + s.get (STR_LAYOUT1_TSKEW c) * i) % f))

/-- Where the stripe with cluster stripe index `q` lies: its own place or the spare slot it was remapped to (R234, R235,
R268). -/
def State.locate (s : State) (c q : Nat) : Option Spot :=
  let f0 := s.zFrags c 0
  match tget none (s.strOf c).remap q with
  | some v => s.walk c (v + 16 * f0) 64 0
  | none => s.walk c (q + s.get (STR_LAYOUT1_SYS_TRACKS c) * f0) 64 0

/-- The stripe slot number that the repair list uses (R250): q, or 2^31 + v for a spare slot. -/
def State.slotNo (s : State) (c q : Nat) : Nat :=
  match tget none (s.strOf c).remap q with
  | some v => 2 ^ 31 + v
  | none => q

/-- The surface of ROLE `r` of stripe `q` (R232), and the ROLE of a surface. -/
def surfOf (q r : Nat) : Nat := (r + q) % 32
def roleOf (q f : Nat) : Nat := (f + 32 - q % 32) % 32

/-- The LBA of a ROLE of stripe q of cluster c (R231). -/
def lbaOf (c q r : Nat) : Nat := 30 * (8 * q + c) + r

/-- The SEED of a fragment (R199): its LBA, or, of P and Q, that of the stripe's first block. -/
def seedOf (c q r : Nat) : Nat := lbaOf c q (if r < 30 then r else 0)

/-- The skew region of a nominal track (R233), and the track's place in it. -/
def State.region (s : State) (c t : Nat) : Nat := (t - s.get (STR_LAYOUT0_BASE_TRACK c)) / 1024
def State.relTrack (s : State) (c t : Nat) : Nat := (t - s.get (STR_LAYOUT0_BASE_TRACK c)) % 1024

/-! ### Where a stripe slot lies -/

/-- The place of a stripe slot number in the walk of R234: a cluster stripe index, 2^31 + v for a spare slot (R250), or,
from 2^32 on, a stripe of the log and map tracks (R235). -/
def State.slotIndex (s : State) (c slot : Nat) : Nat :=
  let f0 := s.zFrags c 0
  if slot < 2 ^ 31 then slot + s.get (STR_LAYOUT1_SYS_TRACKS c) * f0
  else if slot < 2 ^ 32 then slot - 2 ^ 31 + 16 * f0
  else slot - 2 ^ 32

/-- The stripe slot number of a place in the walk. -/
def State.indexSlot (s : State) (c u : Nat) : Nat :=
  let f0 := s.zFrags c 0
  if s.get (STR_LAYOUT1_SYS_TRACKS c) * f0 ≤ u then u - s.get (STR_LAYOUT1_SYS_TRACKS c) * f0
  else if 16 * f0 ≤ u then 2 ^ 31 + (u - 16 * f0) else 2 ^ 32 + u

/-- The spot of a stripe slot number. -/
def State.slotSpot (s : State) (c slot : Nat) : Option Spot := s.walk c (s.slotIndex c slot) 64 0

/-- The places in the walk of the stripes of a track, from zone `z` on over at most `n` zones; `base` is the first of the zone. -/
def State.trackFrom (s : State) (c t base : Nat) : Nat → Nat → List Nat
  | 0, _ => []
  | n + 1, z =>
    let f := s.zFrags c z
    if f = 0 then []
    else if s.zEnd c z < t then State.trackFrom s c t (base + s.zTracks c z * f) n (z + 1)
    else
      let d := t - s.zStart c z
      if t < s.zStart c z ∨ 992 ≤ d % 1024 then []
      else (List.range f).map (· + (base + (992 * (d / 1024) + d % 1024) * f))

/-- The stripe slots of a track (R234, R235). -/
def State.trackSlots (s : State) (c t : Nat) : List Nat := (s.trackFrom c t 0 64 0).map (s.indexSlot c)

/-- The cluster stripe index that a stripe slot holds: its own, or that of the stripe remapped to it (R268). -/
def State.slotQ (s : State) (c slot : Nat) : Nat :=
  if slot < 2 ^ 31 ∨ 2 ^ 32 ≤ slot then slot
  else (((s.strOf c).remap.find? (fun p => p.2 == some (slot - 2 ^ 31))).map Prod.fst).getD (slot - 2 ^ 31)

/-- The stripe slot that a stripe of a command names: its own or the one it is remapped to; work of burgee 0 names slots. -/
def State.cmdSlot (s : State) (x : Cmd) (y : CmdStripe) : Nat := if x.isActivity then y.q else s.slotNo y.cluster y.q

/-- The zone entry a fragment of a stripe slot uses (R204). -/
def State.slotZone (s : State) (c slot : Nat) : Nat := ((s.slotSpot c slot).map Spot.zone).getD 0

/-- The bits of a fragment of a stripe slot before the end of its data region, where it crosses one (R206). -/
def State.splitOf (s : State) (c slot : Nat) : Option Nat :=
  match s.slotSpot c slot with
  | none => none
  | some p =>
    let d := s.zData c p.zone
    let start := p.frag * s.wpr * d / s.zFrags c p.zone % d
    if start + s.fragLen c p.zone ≤ d then none else some (d - start)

/-! ### The skew table -/

/-- The skew entry of a surface in a region. -/
def State.skewOf (s : State) (c r f : Nat) : Skew := tget Skew.init (s.strOf c).skew (32 * r + f)
def State.setSkew (s : State) (c r f : Nat) (x : Skew) : State :=
  s.setStr c { s.strOf c with skew := tset Skew.init (s.strOf c).skew (32 * r + f) x }

/-- The centre of a region. -/
def State.centreOf (s : State) (c r : Nat) : Int := tget 0 (s.strOf c).centre r

/-- The PLACE in force for a stripe track of a region: tracks a running relocation has copied use its target (R261). -/
def Skew.placeAt (x : Skew) (rel : Nat) : Int :=
  if x.moving && (if x.place < x.target then decide (x.boundary < rel) else decide (rel < x.boundary)) then x.target
  else x.place

/-- K(s, t) of R257. -/
def State.kOf (s : State) (c t f : Nat) : Int :=
  let x := s.skewOf c (s.region c t) f
  x.placeAt (s.relTrack c t) - x.hoff

/-- The physical track of a surface for a nominal track (R257). -/
def State.physOf (s : State) (c t f : Nat) : Int := (t : Int) + (s.skewOf c (s.region c t) f).placeAt (s.relTrack c t)

/-- Surfaces OUT for a region. -/
def State.outMask (s : State) (c r : Nat) : Nat :=
  (List.range 32).foldl (fun m f => if (s.skewOf c r f).out then putBit m f true else m) 0

/-- Surfaces that transfer nothing in a region: lost or OUT (R240, R244, R258). -/
def State.shutMask (s : State) (c r : Nat) : Nat := s.lostMask c ||| s.outMask c r

/-- The least and greatest of t + K over the surfaces that transfer (R62); `none` when none does. -/
def State.reach (s : State) (c t : Nat) : Option (Int × Int) :=
  let shut := s.shutMask c (s.region c t)
  ((List.range 32).filter (fun f => !bitAt shut f)).foldl (fun o f =>
    let k := (t : Int) + s.kOf c t f
    match o with
    | none => some (k, k)
    | some (lo, hi) => some (min lo k, max hi k)) none

/-- A surface of a region lies outside the stroke and could not be made OUT: the region's placements fail (R260). -/
def State.strokeLimited (s : State) (c r : Nat) : Bool :=
  (setBits 32 ((2 ^ 32 - 1) ^^^ s.shutMask c r)).any (fun f =>
    decide (14 < ((s.skewOf c r f).place - (s.skewOf c r f).hoff - s.centreOf c r).natAbs))

/-- The stroke check of R62 for one stripe track at arm position `p`. -/
def State.strokeOk (s : State) (c t : Nat) (p : Int) : Bool :=
  !s.strokeLimited c (s.region c t) &&
  match s.reach c t with
  | some (lo, hi) => decide (hi - p ≤ 16 ∧ p - lo ≤ 16)
  | none => true

/-- The arm position for a track (R258): t + C(r). -/
def State.armFor (s : State) (c t : Nat) : Nat := ((t : Int) + s.centreOf c (s.region c t)).toNat

/-! ### Seeks and wedges -/

/-- The first row of the seek table whose bound reaches `d`, from row `i` on (R287). -/
def State.seekRow (s : State) (c d : Nat) : Nat → Nat → Nat
  | 0, _ => 0
  | n + 1, i =>
    if d ≤ s.get (SRV_SEEK_D_DMAX c i) then s.get (SRV_SEEK_W_WEDGES c i) else State.seekRow s c d n (i + 1)

/-- SEEK(d) of R63 and R287. -/
def State.seek (s : State) (c d : Nat) : Nat := if d = 0 then 0 else s.seekRow c d 32 0

/-- WEDGE_TICKS, 16.16 fixed point. -/
def State.wt (s : State) : Nat := s.get PRM_WEDGE_TICKS_WEDGE_TICKS

/-- T(n) of R58. -/
def State.tick (s : State) (c n : Nat) : Nat := (s.tlOf c).ta + n * s.wt / 2 ^ 16

/-- The first wedge that begins at or after a tick. -/
def State.wedgeFrom (s : State) (c x : Nat) : Nat :=
  if x ≤ (s.tlOf c).ta then 0 else ((x - (s.tlOf c).ta) * 2 ^ 16 + s.wt - 1) / s.wt

/-- The wedge in progress at a tick: the last one that begins at or before it. -/
def State.wedgeAt (s : State) (c x : Nat) : Nat := ((x - (s.tlOf c).ta + 1) * 2 ^ 16 - 1) / s.wt

/-- The wedge index of a wedge number. -/
def State.indexOf (s : State) (c n : Nat) : Nat := ((s.tlOf c).base + n) % s.wpr

/-- The number of wedge slots of a timeline (R54). -/
def State.span (s : State) : Nat := 64 * s.wpr

end Sys2Proof.Machine
end

