-- ==== Sys2Proof/Machine/Raise.lean ====
section
/-! DEFINITION. Machine/Raise.lean: raising a fault source: its scope, its latch, its event and its reaction, and what a
block reset does to the block (R34 to R37, R42, R442 to R448). -/

namespace Sys2Proof.Machine

/-! ### Source numbers (R442) -/

def srcREFCLK : Nat := 0
def srcTIME (d : Nat) : Nat := 1 + d
def srcCDC (n : Nat) : Nat := 3 + n
def srcTABLE : Nat := 54
def srcPFAIL : Nat := 55
def srcPFREC : Nat := 56
def srcDIE (d : Nat) : Nat := 57 + d
def srcSTAFF (i : Nat) : Nat := 59 + i
def srcMEMUE (ch : Nat) : Nat := 63 + ch
def srcSRAMUE (d : Nat) : Nat := 79 + d
def srcLINE (ch : Nat) : Nat := 81 + ch
def srcNOSPARE (ch : Nat) : Nat := 97 + ch
def srcPOISON (d : Nat) : Nat := 113 + d
def srcKICK (d : Nat) : Nat := 115 + d
def srcSTMTO (d : Nat) : Nat := 117 + d
def srcHLANE (n : Nat) : Nat := 119 + n
def srcBADPKT (p : Nat) : Nat := 139 + p
def srcCREDIT (p : Nat) : Nat := 143 + p
def srcPORTDOWN (p : Nat) : Nat := 147 + p
def srcMOTOR : Nat := 151
def srcSPINDLE : Nat := 152
def srcSPINUP : Nat := 153
def srcLOCKSTEP : Nat := 154
def srcSPREFLOST : Nat := 155
def srcSPREFCLAMP : Nat := 156
def srcDEC (k : Nat) : Nat := 157 + k
/-- Kind i of cluster c: 161 + 8i + c. -/
def srcClu (i c : Nat) : Nat := 161 + 8 * i + c

def kLANE_LOST : Nat := 0
def kPREAMP_FAULT : Nat := 1
def kPREAMP_LOST : Nat := 2
def kLANE_SERVO : Nat := 3
def kSERVO_LOST : Nat := 4
def kSEEK_OVERRUN : Nat := 5
def kSHOCK : Nat := 6
def kPHASE_DRIFT : Nat := 7
def kSTROKE : Nat := 8
def kBUDGET : Nat := 9
def kCLR_TRIP : Nat := 10
def kBIAS_SAT : Nat := 11
def kMCHECK : Nat := 12
def kILLEGAL : Nat := 13
def kSTACK : Nat := 14
def kSAFE_LATE : Nat := 15
def kCS_MISMATCH : Nat := 16

/-- The home die of a link port under the split in force (R412). -/
def State.portHome (s : State) (p : Nat) : Nat :=
  match s.get LNK_CFG_SPLIT with
  | 1 => if p = 0 then 0 else 1
  | 2 => if p < 2 then 0 else 1
  | _ => 0

/-- The dies whose Staff cores an NMI of a source reaches (R444): both for a source held on the base die. -/
def State.nmiDies (s : State) (n : Nat) : List Nat :=
  if n = 0 ∨ (54 ≤ n ∧ n ≤ 58) ∨ (151 ≤ n ∧ n ≤ 156) ∨ n = 53 then [0, 1]
  else if n < 3 then [n - 1]
  else if n < 43 then [(n - 3) % 20 / 10]
  else if n < 51 then [dieOf (n - 43)]
  else if n < 53 then [n - 51]
  else if n < 63 then [(n - 59) / 2]
  else if n < 79 then [(n - 63) / 8]
  else if n < 81 then [n - 79]
  else if n < 97 then [(n - 81) / 8]
  else if n < 113 then [(n - 97) / 8]
  else if n < 119 then [(n - 113) % 2]
  else if n < 139 then [(n - 119) / 10]
  else if n < 151 then [s.portHome ((n - 139) % 4)]
  else if n < 161 then [(n - 157) / 2]
  else [dieOf ((n - 161) % 8)]

/-- The block a source names for BLOCK_RESET (R442), from its number and INFO; none where its row names none. -/
def blockOf (n info : Nat) : Option BlockId :=
  if 3 ≤ n ∧ n < 43 then some (.pcs ((n - 3) % 20))
  else if 59 ≤ n ∧ n < 63 then some (.staff (n - 59))
  else if 113 ≤ n ∧ n < 115 then some (.stm (info % 32))
  else if 117 ≤ n ∧ n < 119 then some (.stm (info % 32))
  else if 119 ≤ n ∧ n < 139 then some (.pcs (n - 119))
  else if n = 154 then some (.loop 1)
  else if 157 ≤ n ∧ n < 161 then some (.dec (n - 157) (info % 32))
  else if 161 ≤ n then
    let i := (n - 161) / 8
    let c := (n - 161) % 8
    if i = 0 ∨ i = 10 then some (.lane c (info % 32))
    else if i = 3 then some (.demod c)
    else if i = 12 ∨ i = 13 ∨ i = 14 ∨ i = 16 then some (.seq c)
    else none
  else none

/-- A raise of source `n` with `info` lies in the scope of a reset of block `b` (R448). -/
def inScope (n info : Nat) : BlockId → Bool
  | .lane c f => n == srcClu kLANE_LOST c && info % 32 == f || n == srcClu kLANE_SERVO c && info % 32 == f
      || n == srcClu kCLR_TRIP c && info % 32 == f
  | .dec k d => n == srcDEC k && info == d
  | .seq c => n == srcClu kMCHECK c || n == srcClu kILLEGAL c || n == srcClu kSTACK c || n == srcClu kSAFE_LATE c
      || n == srcClu kCS_MISMATCH c
  | .demod c => (List.range 5).any (fun i => n == srcClu (3 + i) c)
  | .parity _ => false
  | .pcs l => n == srcHLANE l || n == srcCDC l || n == srcCDC (20 + l)
  | .staff i => n == srcSTAFF i
  | .stm m => (n == srcPOISON (m / 16) || n == srcSTMTO (m / 16)) && info == m
  | .chan ch => n == srcMEMUE ch || n == srcLINE ch || n == srcNOSPARE ch
  | .loop d => n == srcLOCKSTEP && d == 1

/-- The raise is masked (R448). -/
def State.isMasked (s : State) (n info : Nat) : Bool := s.masked.any (inScope n info)

/-! ### Peer resets (R40, R42, R44) -/

/-- One side of crossing n enters reset and the other does not: flags and count; a closed crossing sets neither, and a side
already in reset does not enter it again. -/
def State.peerReset (s : State) (n : Nat) : State :=
  if (s.crossOf n).reset then s
  else
    let s := s.setCross n { s.crossOf n with reset := true, reopening := false }
    if s.is (TOP_CDC_STAT_CLOSED n) then s
    else (s.set (TOP_CDC_STAT_CDC_PEER_RESET n) 1).countSat (TOP_CDC_STAT_PEER_RESETS n)

/-- The reset of a crossing's side ends: CLOSED clears in this cycle, and the crossing waits to reopen (R40, R42). -/
def State.peerBack (s : State) (n : Nat) : State :=
  (s.setCross n { s.crossOf n with reset := false, reopening := true }).set (TOP_CDC_STAT_CLOSED n) 0

/-! ### Block resets (R34, R36, R37) -/

/-- A decoder is working on a framing. -/
def Framing.on (d : Nat) : Framing → Bool
  | .running e _ _ => e == d
  | _ => false

/-- A decoder of the canton is working on a packet. -/
def Packet.on (p : Packet) (d : Nat) : Bool := p.h0.on d || p.h1.on d

/-- A framing that a decoder was working on waits again (R229, step 2). -/
def Framing.giveBack (d : Nat) (x : Framing) : Framing := if x.on d then .waiting else x

/-- Every packet a decoder held returns to the head of the waiting fragments. -/
def Canton.returnOf (x : Canton) (d : Nat) : Canton :=
  { slots := x.slots.map (fun p =>
      if p.on d then { p with h0 := p.h0.giveBack d, h1 := p.h1.giveBack d, returned := true } else p) }


/-- A lane reset cuts a packet (R221, R228): it is counted. -/
def State.cutRead (s : State) (c f : Nat) : State :=
  if (s.lane c f).read.isSome then (s.dropRead c f).countSat (RCH_CUT_COUNT c f) else s

/-- The counters of a lane, which its reset returns to 0 (the LAN, RCH, microactuator and clearance registers). -/
def laneCounters (c f : Nat) : List Fld :=
  [LAN_WCLAMP_COUNT c f, LAN_WCUT_COUNT c f, LAN_ADCSAT_COUNT c f, RCH_FRAGS_COUNT c f, RCH_SYNC_MISS_COUNT c f,
    RCH_RESYNC_MISS_COUNT c f, RCH_SYNC_DUAL_COUNT c f, RCH_SYNC_EXTRA_COUNT c f, RCH_TA_SPANS_COUNT c f,
    RCH_TA_ERASED_COUNT c f, RCH_NOSLOT_COUNT c f, RCH_CUT_COUNT c f, LAN_MAMISS_COUNT c f, LAN_MAOT_COUNT c f,
    LAN_CLMISS_COUNT c f, LAN_CLTRIPS_COUNT c f]

/-- Numbers and flags of a Streamer that a reset returns: EXCESS, BYTES, DESCS and RELINK, STATE, REJECT, RESET_LOST and CAUSE
(R36, R409). -/
def stmStatus (n : Nat) : List Fld :=
  [STM_EXCESS_BYTES n, STM_BYTES_COUNT n, STM_DESCS_COUNT n, STM_RELINK_COUNT n, STM_STAT_STATE n, STM_STAT_REJECT n,
    STM_STAT_RESET_LOST n, STM_STAT_CAUSE n, STM_SRC_LO_SRC n, STM_SRC_HI_SRC n, STM_DST_LO_DST n, STM_DST_HI_DST n,
    STM_IDX0_I0 n, STM_IDX0_I1 n, STM_IDX1_I2 n, STM_IDX1_OFF n]

/-- A Streamer enters its reset window (R36, R409): its bursts are gone, and every descriptor it held, tracked or in hand, stands
in front of what is queued, to run again from its start. A GENERAL Streamer keeps in CUR what was cut. -/
def State.stmCut (s : State) (n : Nat) : State :=
  let x := s.stmOf n
  let st := s.stmState n
  let ended := st == 2 || (st == 5 && x.waited)
  let cut := x.job.isSome && (streamerClass n = 3 || !ended)
  let again := if streamerClass n = 3 then [] else x.trail.map Prod.fst ++ (if ended then [] else x.job.toList)
  let s := (stmStatus n).foldl (fun s f => s.set f 0) s
  let s := if cut && streamerClass n = 3 then s else (s.set (STM_CUR_LO_CUR n) 0).set (STM_CUR_HI_CUR n) 0
  (s.setStm n { Streamer.init with queue := again ++ x.queue, rerun := cut }).set (STM_STAT_QUEUED n)
    (again.length + x.queue.length)

/-- A sequencer stops; in RUN the cluster leaves service as at the loss of its actuator (R321, R323). -/
def State.seqStop (s : State) (c : Nat) : State :=
  if s.get (SEQ_STAT_MODE c) = 2 then s.leaveService c 7 false else s.seqHalt c

/-- What a BLOCK_RESET returns of a sequencer: MODE, WAITING, IN_INT, PC, DEPTH, INTPEND, the G registers and the
counters (SEQ registers), with the state behind them; the store is reloaded when the window ends (R36, R328). -/
def State.seqRegs (s : State) (c : Nat) : State :=
  let s := [SEQ_STAT_MODE c, SEQ_STAT_WAITING c, SEQ_STAT_IN_INT c, SEQ_STAT_PC c, SEQ_STAT_DEPTH c, SEQ_INTPEND_PEND c,
    SEQ_SAFEMAX_WORDS c, SEQ_SAFEMAX_CYCLES c, SEQ_WORDS_COUNT c, SEQ_WAITS_COUNT c, SEQ_INTS_COUNT c,
    SEQ_ABORTDROP_COUNT c].foldl (fun s x => s.set x 0) s
  let s := State.setEach s (fun i => SEQ_GREG_G c i) 0 (List.range 16)
  let q := s.seqOf c
  s.setSeq c { Seq.init with loaded := q.loaded, store := q.store, copy := q.copy, reloadDue := true }

/-- What the reset of a block does to the block itself. -/
def State.blockEffect (s : State) : BlockId → State
  | .lane c f =>
    -- The counters return to 0 and then count what the reset itself cuts (log 69).
    let s := (laneCounters c f).foldl (fun s x => s.set x 0) s
    let s := (s.cutWrite c f).cutRead c f
    let l := s.lane c f
    let last := l.codes.getD (s.get (LAN_MACODE_CODE c f), s.get (LAN_CLHEAT_CODE c f))
    s.setLane c f { Lane.init with held := true, codes := some last, keep := l.keep, sigma := l.sigma }
  | .dec k d => s.setCanton k ((s.cantonOf k).returnOf d)
  | .seq c => (s.seqStop c).seqRegs c
  | .demod c => s.setServo c { s.servoOf c with valid := false }
  | .parity c =>
    let x := s.strOf c
    s.setStr c { x with opened := x.opened.map (fun o => { o with pq := false }) }
  | .pcs n => (((s.peerReset n).peerReset (20 + n)).set (LNK_LANE_CORR_COUNT n) 0).set (LNK_LANE_UNCORR_COUNT n) 0
  | .staff i => { s with staff := s.staff.modify i (fun c => { c with mode := .booting, nmis := 0 }) }
  | .stm n => s.stmCut n
  | .chan n =>
    -- The hold and the kept accesses are in-flight work; the steering map and SWEEP are configuration (R375).
    let mine (x : MemAccess) : Bool := x.at.space == 0 && channelOf (x.at.addr.toNat / 4 * 4) == n
    let s := { s with memu := { s.memu with
      held := s.memu.held.filter (· != n)
      kept := s.memu.kept.filter (fun x => !mine x)
      bursts := tset 0 s.memu.bursts n 0
      lines := s.memu.lines.keep (fun k => k / 80 != n) } }
    ((s.set (MEM_CH_CE_COUNT n) 0).set (MEM_CH_UE_COUNT n) 0).set (MEM_CH_STAT_NO_SPARE n) 0
  | .loop _ => s

/-- A block enters its reset window, and the detectors in its scope are masked from this cycle (R34, R448). -/
def State.blockReset (s : State) (b : BlockId) : State :=
  State.blockEffect (State.markWindow { s with
    resetting := if s.resetting.contains b then s.resetting else s.resetting ++ [b]
    masked := if s.masked.contains b then s.masked else s.masked ++ [b] } b) b

/-! ### The raise (R443 to R447) -/

/-- The EVT of an INT reaction: queued on the home die of LNK.EVTDST's port, at most 64 (R434). -/
def State.queueEvt (s : State) (src : Nat) : State :=
  if s.is LNK_EVTDST_EN then
    if s.portHome (s.get LNK_EVTDST_PORT) = 0 then
      if 64 ≤ s.link.evt0.length then s.countSat LNK_EVTDROP_COUNT
      else { s with link := { s.link with evt0 := s.link.evt0 ++ [(s.now, src)] } }
    else
      if 64 ≤ s.link.evt1.length then s.countSat LNK_EVTDROP_COUNT
      else { s with link := { s.link with evt1 := s.link.evt1 ++ [(s.now, src)] } }
  else s

/-- An NMI reaches every Staff core in service on a die. -/
def State.nmi (s : State) (dies : List Nat) : State :=
  { s with staff := s.staff.mapIdx (fun i c =>
      if dies.contains (i / 2) && (c.mode = .inService || c.mode = .standby) then { c with nmis := c.nmis + 1 } else c) }

/-- The first-error latch (R446). -/
def State.latchFirst (s : State) (src info origin : Nat) : State :=
  if s.is FLT_FIRST_VALID then s.set FLT_FIRST_OVERFLOW 1
  else (((((s.set FLT_FIRST_SOURCE src).set FLT_FIRST_VALID 1).set FLT_FIRST_TLO_TIME_LO s.now).set
    FLT_FIRST_THI_TIME_HI (s.now / 2 ^ 32)).set FLT_FIRST_INFO_INFO info).set FLT_FIRST_ORIGIN_ORIGIN origin

/-- A PEND bit. -/
def State.pend (s : State) (n : Nat) : Bool := bitAt (s.get (FLT_PEND_PEND (n / 32))) (n % 32)

/-- Carrying out a reaction (R444). INT_N and ERR_N follow the PEND bits. -/
def State.react (s : State) (src info : Nat) : State :=
  match s.get (FLT_SRC_REACT src) with
  | 0 => s.queueEvt src
  | 1 => s.nmi (s.nmiDies src)
  | 2 => (match blockOf src info with
    | some b => s.blockReset b
    | none => s)
  | 3 => { s with clk := { s.clk with chipResetReq := true } }
  | _ => s

/-- A fault source is raised (R443), or, inside the scope of a block reset, only counted as masked (R448). -/
def State.raise (s : State) (src info origin : Nat) : State :=
  if s.isMasked src info then (s.set FLT_FIRST_OVERFLOW 1).countSat FLT_MASKED_COUNT
  else
    let k := src / 32
    let s := (s.set (FLT_PEND_PEND k) (putBit (s.get (FLT_PEND_PEND k)) (src % 32) true)).countSat (FLT_SRC_COUNT src)
    let s := s.event origin 0x10 [src, info % 2 ^ 32, s.get (FLT_SRC_REACT src)]
    (s.latchFirst src info origin).react src info

/-- A source of a cluster, found by an agent of the cluster. -/
def State.raiseC (s : State) (kind c info : Nat) : State := s.raise (srcClu kind c) info (orgClu c 0)

/-- INT_N is low (R444). -/
def State.intLow (s : State) : Bool := (List.range 297).any (fun n => s.pend n && s.get (FLT_SRC_REACT n) == 0)

/-- The collector drives ERR_N low (R444). -/
def State.errLow (s : State) : Bool := (List.range 297).any (fun n => s.pend n && s.get (FLT_SRC_REACT n) == 4)

end Sys2Proof.Machine
end

