-- ==== Sys2Proof/Machine/Budget.lean ====
section
/-! DEFINITION. Machine/Budget.lean: what a wedge boundary and a revolution boundary do to rows, stripes and maps
(R56, R84, R90 to R92, R247, R251, R263, R463) and the budget commands (R89, R91, R108). -/

namespace Sys2Proof.Machine

/-! ### Rows -/

/-- SHARE and CEILING of a row with an accepted change counted (R89). -/
def Row.stagedShare (r : Row) : Nat := match r.staged with | some x => x.1 | none => r.share
def Row.stagedCeiling (r : Row) : Nat := match r.staged with | some x => x.2.1 | none => r.ceiling

/-- The sum of SHARE over a cluster's rows, in force and with staged changes counted. -/
def Timeline.shares (t : Timeline) : Nat := t.rows.foldl (fun n p => n + p.2.share) 0
def Timeline.stagedShares (t : Timeline) : Nat := t.rows.foldl (fun n p => n + p.2.stagedShare) 0

/-- Tenant rows in use (PRM.CLUc.LEND.ROWS). -/
def Timeline.tenantRows (t : Timeline) : Nat := (t.rows.filter (fun p => p.1 < 4096)).length

/-- An accepted change takes effect, BALANCE clamped (R90). -/
def Row.effect (r : Row) : Row :=
  match r.staged with
  | none => r
  | some x => { r with share := x.1, ceiling := x.2.1, depth := x.2.2, staged := none,
                       balance := min r.balance ((x.1 * x.2.2 : Nat) : Int) }

/-- The refill of a row and its excess over the cap (R84). -/
def Row.refill (r : Row) : Row × Nat :=
  let cap : Int := (r.depth * r.share : Nat)
  let b := r.balance + (r.share : Nat)
  ({ r with balance := min b cap, borrowed := 0, spent := 0, retired := 0, closed := false }, (b - cap).toNat)


/-- Staged changes, the freeing of empty rows (R91), the refill and the lend pool (R84, R90). -/
def State.refill (s : State) (c : Nat) : State :=
  let t := s.tlOf c
  let rows := s.keptRows c (t.rows.map (fun p => (p.1, p.2.effect)))
  let filled := rows.map (fun p => (p.1, p.2.refill))
  let excess := filled.foldl (fun n p => n + p.2.2) 0
  let rows := filled.map (fun p => (p.1, p.2.1))
  let shares := rows.foldl (fun n p => n + p.2.share) 0
  s.setTl c { t with rows := rows, lend := min (t.lend + (s.capOf - shares) + excess) s.capOf }

/-! ### Cells counted per row (R92, R312) -/

/-- Adding to the counts of the row a handle's command is charged to. -/
def State.bookRow (s : State) (c h spent retired : Nat) : State :=
  match s.cmdByHandle? h with
  | none => s
  | some x =>
    let t := s.tlOf c
    let r := tget Row.init t.rows x.rowKey
    if r.used then
      let r := { r with spent := r.spent + spent, retired := r.retired + retired }
      s.setTl c { t with rows := tset Row.init t.rows x.rowKey r }
    else s

/-- The wedge in progress retires (R56): its booked cells count for the rows, its XFER mask enters the history (R68). -/
def State.retire (s : State) (c : Nat) : State :=
  let t := s.tlOf c
  let n := t.now
  let w := t.slotAt n
  let s := w.cells.foldl (fun s p => if p.2.kind = .free then s else s.bookRow c p.2.owner 0 1) s
  let t := s.tlOf c
  let xs := w.cells.filter (fun p => p.2.kind = .xfer)
  s.setTl c { t with
    now := n + 1
    pos0 := w.pos
    slots := t.slots.filter (fun p => decide (n < p.1))
    hist := (maskOf (xs.map Prod.fst) :: t.hist).take 255
    lastX := xs.foldl (fun l p => tset (0, 0, 0) l p.1 (n + 1, p.2.tgt, p.2.frag)) t.lastX }

/-- The wedge that starts: MOVE and HOLD cells are used as booked (R312). -/
def State.beginCells (s : State) (c : Nat) : State :=
  let t := s.tlOf c
  ((t.slotAt t.now).cells).foldl (fun s p => match p.2.kind with
    | .move => s.bookRow c p.2.owner 1 0
    | .hold => s.bookRow c p.2.owner 1 0
    | _ => s) s

/-- A placed stripe whose first XFER wedge begins has begun (R128). -/
def beginStripe (c now : Nat) (x : CmdStripe) : CmdStripe :=
  if x.cluster = c ∧ x.st = .unbegun ∧ 0 < x.wEnd ∧ x.w0 ≤ now then { x with st := .begun } else x

/-- Write passes that would begin in the wedge while the repair buffer is full are put off by one wedge (R247). -/
def deferStripe (c now : Nat) (x : CmdStripe) : CmdStripe :=
  if x.cluster = c ∧ (x.st = .unbegun ∨ x.st = .begun) ∧ x.wEnd - (x.w1 - x.w0) = now then
    (if x.wEnd = x.w1 then { x with w0 := x.w0 + 1, w1 := x.w1 + 1, wEnd := x.wEnd + 1 }
     else { x with wEnd := x.wEnd + 1 })
  else x

/-- The deferral of write passes (R247); assumption A9 fails for their commands. -/
def State.deferWrites (s : State) (c : Nat) : State :=
  if (s.strOf c).rbuf.length < 256 then s
  else
    let now := (s.tlOf c).now
    let hit (x : Cmd) : Bool := x.writes && x.phase != .queued && x.stripes.any (fun y => deferStripe c now y != y)
    let n := ((s.ports.cmds.filter hit).map (fun x =>
      (x.stripes.filter (fun y => deferStripe c now y != y)).length)).foldl (· + ·) 0
    let s := s.failAssumption 9 hit
    let go (x : Cmd) : Cmd := if hit x then { x with stripes := x.stripes.map (deferStripe c now) } else x
    State.addSat { s with ports := { s.ports with cmds := s.ports.cmds.map go } } (STR_DEFERS_COUNT c) n

/-! ### The revolution boundary -/

/-- The reference cluster (R346): the lowest-numbered one in FOLLOW or SEEK with a valid cluster sample. -/
def State.refCluster (s : State) : Option Nat :=
  (List.range 8).find? (fun c => (s.get (SRV_STAT_STATE c) == 2 || s.get (SRV_STAT_STATE c) == 3) && (s.servoOf c).valid)

/-- What the map tracks take at a revolution boundary: the lost-surface record (R263), and the tables of which the spec states
no other moment (log 75). -/
def State.flushMaps (s : State) (c : Nat) : State :=
  let x := s.strOf c
  let m := s.mediaOf c
  let s := s.setMedia c { m with
    lost := if x.lostDirty then s.lostMask c else m.lost
    remap := x.remap, weak := x.weak, skew := x.skew, centre := x.centre }
  s.setStr c { x with lostDirty := false }

/-! ### Budget commands (R89, R91, R108) -/

/-- The row PRM.BSEL names; none for an activity number of 5 to 7. -/
def State.selRow (s : State) : Option Nat :=
  if s.get PRM_BSEL_BURGEE ≠ 0 then some (s.get PRM_BSEL_BURGEE)
  else if s.get PRM_BSEL_ACTIVITY < 5 then some (4096 + s.get PRM_BSEL_ACTIVITY) else none

/-- The payload of BUDGET_CHANGE (R457). -/
def State.budgetEvent (s : State) (origin result : Nat) : State :=
  s.event origin 0x21 [(s.rd PRM_BSEL).toNat, (s.rd PRM_BVAL).toNat, (s.rd PRM_BDEPTH).toNat, result]

/-- A write of PRM.BCMD. -/
def State.budgetCmd (s : State) (o : Origin) (op : Nat) : State :=
  if s.is PRM_BSTAT_BUSY then s.budgetEvent (orgOf o) 5
  else if op = 0 ∨ op = 3 then s.logPriv o PRM_BCMD op 0
  else
    let s := State.set { s with ports := { s.ports with bcmd := some ⟨op, 0, orgOf o⟩ } } PRM_BSTAT_BUSY 1
    if op = 1 then s.logPriv o PRM_BCMD 1 0 else s

def execBcmdRead (o : Origin) (s : State) : Res := s.run fun s => s.budgetCmd o 1
def execBcmdWrite (o : Origin) (s : State) : Res := s.run fun s => s.budgetCmd o 2

/-- The error of a row write (R89, R91): ACTIVITY first, then the order of the codes. -/
def State.rowError (s : State) (t : Timeline) (k : Option Nat) : Nat :=
  let sh := s.get PRM_BVAL_SHARE
  let ce := s.get PRM_BVAL_CEILING
  let de := s.get PRM_BDEPTH_DEPTH
  match k with
  | none => 4
  | some k =>
    let r := tget Row.init t.rows k
    if !r.used && decide (k < 4096) && decide (1024 ≤ t.tenantRows) then 1
    else if s.capOf < t.stagedShares - r.stagedShare + sh then 2
    else if ce < sh ∨ s.capOf < ce ∨ de = 0 ∨ 64 < de then 3
    else 0

/-- BCMD_COMPLETE (R89). -/
def execBcmdComplete (s : State) : Res := s.run fun s =>
  match s.ports.bcmd with
  | none => s
  | some q =>
    let s := State.set { s with ports := { s.ports with bcmd := none } } PRM_BSTAT_BUSY 0
    let c := s.get PRM_BSEL_CLUSTER
    let t := s.tlOf c
    let k := s.selRow
    if q.op = 1 then
      match k with
      | none => s.set PRM_BSTAT_ERR 4
      | some k =>
        let r := tget Row.init t.rows k
        ((((s.set PRM_BVAL_SHARE r.share).set PRM_BVAL_CEILING r.ceiling).set PRM_BDEPTH_DEPTH r.depth).set
          PRM_BBAL_BALANCE (unsign 32 r.balance)).set PRM_BBOR_BORROWED r.borrowed |>.set PRM_BSTAT_ERR 0
    else
      let err := s.rowError t k
      let s := if err = 0 then
          let key := k.getD 0
          let r := tget Row.init t.rows key
          let v := (s.get PRM_BVAL_SHARE, s.get PRM_BVAL_CEILING, s.get PRM_BDEPTH_DEPTH)
          s.setTl c { t with rows := tset Row.init t.rows key { r with used := true, staged := some v } }
        else s
      (s.set PRM_BSTAT_ERR err).budgetEvent q.origin err

end Sys2Proof.Machine
end

