-- ==== Sys2Proof/Machine/Operands.lean ====
section
/-! DEFINITION. Machine/Operands.lean: the fields of a control word and where its operands come from (R301, R302, R310,
R320, R325, R327). -/

namespace Sys2Proof.Machine

/-! ### The control store (R301, R325, R327) -/

/-- The parity bit of one 16-bit group. -/
def parityOf (v : Nat) : Bool := popc 16 v % 2 = 1

/-- A control word with its eight parity bits (R301). -/
def withParity (w : Nat) : BitVec 136 :=
  BitVec.ofNat 136 (w % 2 ^ 128 + (List.range 8).foldl (fun p j =>
    p + (if parityOf (bitsOf w (16 * j) 16) then 2 ^ (128 + j) else 0)) 0)

/-- Every 17-bit group holds an even number of ones. -/
def parityOk (w : Nat) : Bool := (List.range 8).all (fun j => parityOf (bitsOf w (16 * j) 16) == bitAt w (128 + j))

/-- A stored word of a store or its copy: the boot ROM's word where no other is listed. -/
def storedWord (t : Tab (Option (BitVec 136))) (a : Nat) : BitVec 136 :=
  match tget none t a with
  | some w => w
  | none => withParity (Config.romWord a).toNat

/-- The word a sequencer's store holds at an address. -/
def State.csWord (s : State) (c a : Nat) : Nat := (storedWord (s.seqOf c).store a).toNat

/-- Storing a word of the store. -/
def State.putCs (s : State) (c a : Nat) (w : BitVec 136) : State :=
  s.setSeq c { s.seqOf c with store := tset none (s.seqOf c).store a (some w) }

/-- Stored bits that upsets have flipped since the word was last stored or read. -/
def State.upsetCs (s : State) (c a : Nat) (flips : BitVec 136) : State :=
  if flips = 0 then s else s.putCs c a (storedWord (s.seqOf c).store a ^^^ flips)

/-! ### The control word (R302) -/

/-- The fields of a control word. -/
structure Ctl where
  succ : Nat
  alt : Nat
  cond : Nat
  cpol : Bool
  flow : Nat
  safe : Bool
  tload : Bool
  tunit : Bool
  tmo : Nat
  aluop : Nat
  dst : Nat
  srca : Nat
  srcb : Nat
  bimm : Bool
  imm : Nat
  unit : Nat
  ucmd : Nat
  uarg : Nat
  reserved : Nat
  deriving DecidableEq, Repr

/-- Reading the fields of a control word. -/
def ctlOf (w : Nat) : Ctl where
  succ := bitsOf w 0 14
  alt := bitsOf w 14 14
  cond := bitsOf w 28 6
  cpol := bitAt w 34
  flow := bitsOf w 35 3
  safe := bitAt w 38
  tload := bitAt w 39
  tunit := bitAt w 40
  tmo := bitsOf w 41 16
  aluop := bitsOf w 57 4
  dst := bitsOf w 61 4
  srca := bitsOf w 65 4
  srcb := bitsOf w 69 4
  bimm := bitAt w 73
  imm := bitsOf w 74 32
  unit := bitsOf w 106 4
  ucmd := bitsOf w 110 8
  uarg := bitsOf w 118 4
  reserved := bitsOf w 122 6

/-- The highest UCMD that R310 lists for a unit; UNIT 0 sends no command. -/
def ucmdMax (u : Nat) : Nat := [0, 1, 2, 1, 3, 4, 1, 1, 2, 1, 1].getD u 0

/-- A word without a reserved code or bit (R320). -/
def Ctl.legal (x : Ctl) : Bool :=
  decide (x.flow ≠ 7 ∧ x.aluop < 12 ∧ x.reserved = 0 ∧ x.unit < 11 ∧
    (x.unit = 0 ∨ (1 ≤ x.ucmd ∧ x.ucmd ≤ ucmdMax x.unit)))

/-! ### Registers and operands -/

/-- Register Gn of a sequencer. -/
def State.g (s : State) (c n : Nat) : Nat := s.get (SEQ_GREG_G c (n % 16))

/-- Writing register Gn. -/
def State.setG (s : State) (c n v : Nat) : State := s.set (SEQ_GREG_G c (n % 16)) v

/-- Operand B: a register or an immediate. -/
def State.operandB (s : State) (c : Nat) : AluB → Nat
  | .reg r => s.g c r
  | .imm v => v.toNat

/-- Operand B of a word. -/
def Ctl.operandB (x : Ctl) : AluB := if x.bimm then .imm (BitVec.ofNat 32 x.imm) else .reg (Fin.ofNat 16 x.srcb)

end Sys2Proof.Machine
end

