-- ==== Sys2Proof/Machine/Flags.lean ====
section
/-! DEFINITION. Machine/Flags.lean: the ALU's results and the flags ZERO, NEG and CARRY (R307). -/

namespace Sys2Proof.Machine

/-- The index of the lowest set bit among the low `n` bits from `i` on, or 32. -/
def firstSet (v : Nat) : Nat → Nat → Nat
  | 0, _ => 32
  | n + 1, i => if bitAt v i then i else firstSet v n (i + 1)

/-- The result of an ALU operation on A and B. -/
def aluResult (op : Nat) (a b : BitVec 32) : BitVec 32 :=
  match op with
  | 1 => b
  | 2 => a + b
  | 3 => a - b
  | 4 => a &&& b
  | 5 => a ||| b
  | 6 => a ^^^ b
  | 7 => a <<< (b.toNat % 32)
  | 8 => a >>> (b.toNat % 32)
  | 9 => BitVec.ofNat 32 (popc 32 b.toNat)
  | 10 => BitVec.ofNat 32 (firstSet b.toNat 32 0)
  | 11 => if a.toNat ≤ b.toNat then a else b
  | _ => 0

/-- CARRY: the carry out of ADD, the borrow of SUB; after the other operations that set the flags its value is open. -/
def aluCarry (op : Nat) (a b : BitVec 32) : Bool :=
  match op with
  | 2 => decide (2 ^ 32 ≤ a.toNat + b.toNat)
  | 3 => decide (a.toNat < b.toNat)
  | _ => Config.aluCarry op a b

/-- The flags after an operation: 2 to 11 set them, every other leaves them. -/
def Seq.flags (q : Seq) (op : Nat) (a b : BitVec 32) : Seq :=
  if 2 ≤ op ∧ op ≤ 11 then
    { q with zero := aluResult op a b == 0, neg := (aluResult op a b).msb, carry := aluCarry op a b }
  else q

/-- An ALU operation of a sequencer: the destination register and the flags. -/
def State.alu (s : State) (c op dst a : Nat) (b : AluB) : State :=
  let x := BitVec.ofNat 32 (s.g c a)
  let y := BitVec.ofNat 32 (s.operandB c b)
  if op = 0 then s
  else (s.setG c dst (aluResult op x y).toNat).setSeq c ((s.seqOf c).flags op x y)

end Sys2Proof.Machine
end

