-- ==== Sys2Proof/Machine/Codes.lean ====
section
/-! DEFINITION. Machine/Codes.lean: bits on a line: cyclic checks, the frames of the preamp and motor buses (R173, R175,
R185, R186), and the arithmetic of a lane's converter and serializer (R160, R165 to R167). -/

namespace Sys2Proof.Machine

/-! ### Bits and cyclic checks -/

/-- The low `w` bits of a number, most significant first. -/
def bitsMsb (w v : Nat) : List Bool := (List.range w).map (fun i => bitAt v (w - 1 - i))

/-- The low `w` bits of a number, least significant first. -/
def bitsLsb (w v : Nat) : List Bool := (List.range w).map (bitAt v)

/-- One bit into a cyclic check of width `w`. -/
def crcStep (w poly r : Nat) (b : Bool) : Nat :=
  if xor (bitAt r (w - 1)) b then (r * 2 % 2 ^ w) ^^^ poly else r * 2 % 2 ^ w

/-- The check over a list of bits, the first bit first. -/
def crcBits (w poly init : Nat) (l : List Bool) : Nat := l.foldl (crcStep w poly) init

/-! ### Frames of the preamp control bus (R173, R175) -/

/-- TYPE of a forward frame (R175). -/
def PcbKind.code : PcbKind → Nat
  | .ma => 1
  | .heat => 2
  | .mode => 3
  | .wreg => 4
  | .rreg => 5
  | .ping => 6

/-- A frame on a preamp line: START, TYPE, SEQ, LEN, PAYLOAD and CRC-16 over TYPE to PAYLOAD (R173). -/
def pcbBits (type seq : Nat) (words : List Nat) : List Bool :=
  let body := bitsMsb 4 type ++ bitsMsb 4 seq ++ bitsMsb 8 words.length ++ (words.map (bitsMsb 16)).flatten
  bitsMsb 8 0x3C ++ body ++ bitsMsb 16 (crcBits 16 0x1021 0xFFFF body)

/-- The bits of a forward frame. -/
def PcbFrame.bits (q : PcbFrame) : List Bool := pcbBits q.kind.code q.seq q.words

/-! ### Frames of the motor command bus (R185, R186) -/

/-- TYPE of a forward frame (R186). -/
def McbKind.code : McbKind → Nat
  | .nop => 0
  | .vcm => 1
  | .spin => 2
  | .spmode => 3
  | .wreg => 4
  | .rreg => 5

/-- A frame on a motor line: START, TYPE, TARGET, SEQ, PAYLOAD and CRC-8 over TYPE to PAYLOAD (R185). -/
def mcbBits (type target seq payload : Nat) : List Bool :=
  let body := bitsMsb 4 type ++ bitsMsb 4 target ++ bitsMsb 4 seq ++ bitsMsb 24 payload
  bitsMsb 4 6 ++ body ++ bitsMsb 8 (crcBits 8 0x07 0 body)

/-- The bits of a forward frame. -/
def McbFrame.bits (q : McbFrame) : List Bool := mcbBits q.kind.code q.target q.seq q.payload

/-! ### Rounding -/

/-- A quotient rounded to a whole number where the spec states no direction: the free direction of `Config.roundsUp`. -/
def roundFree (place : Nat) (n : Int) (d : Nat) : Int :=
  if n % d = 0 then n / d else if Config.roundsUp place n then n / d + 1 else n / d

/-- A quotient rounded to the nearest whole number; a tie, of which the spec says nothing, goes the free way. -/
def roundNear (place : Nat) (n : Int) (d : Nat) : Int :=
  let r := n % d
  if 2 * r < d then n / d else if (d : Int) < 2 * r then n / d + 1 else roundFree place n d

/-- A quotient rounded toward zero. -/
def towardZero (n : Int) (d : Nat) : Int := n.tdiv d

/-! ### The converter (R157, R160) -/

/-- The VGA gain in units of 0.125 dB (R157): a code above 240 acts as 240. -/
def vgaGain (g : Nat) : Int := min g 240 - 48

/-- The corrected sample in quarters (R160): a raw code, the sub-ADC's OFFSET and its GAIN; the direction of the rounding to two
fraction bits is not stated. -/
def adcCorrect (x off : Int) (gain : Nat) : Int :=
  max (-512) (min (roundFree 160 ((8 * x - off) * gain) 8192) 511)

/-! ### The serializer (R165 to R167) -/

/-- What the serializer knows as it places edges: the last bit, whether the last three bits began with a transition, the last
edge and the edges placed, in 1/64 of a ROOT cycle, and how many it moved. -/
structure Serial where
  bit : Bool
  t1 : Bool
  t2 : Bool
  t3 : Bool
  last : Option Int
  edges : List Int
  clamps : Nat
  deriving DecidableEq, Repr

/-- The line idle: WDP low (R168). -/
def Serial.idle : Serial := ⟨false, false, false, false, none, [], 0⟩

/-- The nominal place of the edge that starts bit k: k × WRATE in 8.24 fixed point, to the nearest 1/64 (R165). -/
def edgeAt (wrate k : Nat) : Int := roundNear 165 (k * wrate : Nat) (2 ^ 18)

/-- The index of the precompensation of a transition (R166). -/
def Serial.index (x : Serial) : Nat := (if x.t1 then 4 else 0) + (if x.t2 then 2 else 0) + (if x.t3 then 1 else 0)

/-- An edge is placed (R166, R167): delayed by the pattern before it, and no less than half a bit period after the edge
before it. -/
def Serial.place (wrate k : Nat) (delay : Nat → Int) (x : Serial) : Serial :=
  let e := edgeAt wrate k + delay x.index
  match x.last with
  | none => { x with last := some e, edges := e :: x.edges }
  | some p =>
    if (e - p) * 2 ^ 19 < wrate then
      let e := p + ((wrate + 2 ^ 19 - 1) / 2 ^ 19 : Nat)
      { x with last := some e, edges := e :: x.edges, clamps := x.clamps + 1 }
    else { x with last := some e, edges := e :: x.edges }

/-- Bit k is written (R165 to R167). -/
def Serial.put (wrate k : Nat) (delay : Nat → Int) (x : Serial) (b : Bool) : Serial :=
  let t := b != x.bit
  let y := if t then x.place wrate k delay else x
  { y with bit := b, t1 := t, t2 := x.t1, t3 := x.t2 }

/-- Bits from bit k on. -/
def Serial.write (wrate : Nat) (delay : Nat → Int) : Nat → Serial → List Bool → Serial
  | _, x, [] => x
  | k, x, b :: l => Serial.write wrate delay (k + 1) (x.put wrate k delay b) l

/-- The delays in force on a lane: those of LANs.PRECOMPi, or 0 while PRECOMP_EN is 0 (R166). -/
def State.delayOf (s : State) (c f i : Nat) : Int :=
  if s.is (LAN_WCFG_PRECOMP_EN c f) then signed 6 (s.get (LAN_PRECOMP_DELAY c f i)) else 0

/-- What the serializer of a lane makes of the bits of a write (R165 to R168). -/
def State.serialize (s : State) (c f : Nat) (l : List Bool) : Serial :=
  Serial.write (s.get (LAN_WRATE_WRATE c f)) (s.delayOf c f) 0 Serial.idle l

end Sys2Proof.Machine
end

