-- ==== Sys2Proof/Machine/Flits.lean ====
section
/-! DEFINITION. Machine/Flits.lean: what stands on a Halyard lane: the lane header, segments and their order over the lanes
of a map, flits with their trailer, CTRL words, and packets in the words of DATA flits (R414, R415, R417 to R419, R426, R433,
R434). -/

namespace Sys2Proof.Machine

/-! ### The lane codeword (R414, R415) -/

/-- Symbol errors that the RS(544,514) decoder corrects in a codeword (R414). -/
def rsCorrects : Nat := 15

/-- MARK, LANE and CWSEQ of a codeword's 20-bit lane header (R415). -/
def cwMark (info : Nat) : Nat := bitsOf info 0 4
def cwLane (info : Nat) : Nat := bitsOf info 4 5
def cwSeq (info : Nat) : Nat := bitsOf info 9 11

/-- The ten segments of 64 bytes after the lane header, byte 0 and bit 0 first (R414). -/
def cwSegs (info : Nat) : List Nat := (List.range 10).map (fun j => bitsOf info (20 + 512 * j) 512)

/-- The information bits a lane sends in round `r` (R414, R415). -/
def cwInfo (lane r : Nat) (segs : List Nat) : Nat :=
  10 + lane * 2 ^ 4 + r % 2048 * 2 ^ 9 + (List.range 10).foldl (fun v j => v + segs.getD j 0 % 2 ^ 512 * 2 ^ (20 + 512 * j)) 0

/-- The segments of a round in the order of the stream: slot j of every lane of the map, in ascending lane number, before slot
j + 1 (R417). A lane whose codeword did not arrive, or was discarded, leaves gaps. -/
def roundSegs (lanes : List Nat) (got : List (Nat × List Nat)) : List (Option Nat) :=
  (List.range 10).flatMap (fun j => lanes.map (fun l =>
    (got.find? (fun p => p.1 == l)).bind (fun p => p.2[j]?)))

/-! ### Flits (R417) -/

/-- The 16 words of a segment, little-endian. -/
def segWords (v : Nat) : List Nat := (List.range 16).map (fun i => bitsOf v (32 * i) 32)

/-- One bit into CRC-32C, least significant bit first: the reflected form of polynomial 0x1EDC_6F41 (log 89). -/
def crc32cStep (r : Nat) (b : Bool) : Nat := if xor (r % 2 = 1) b then r / 2 ^^^ 0x82F63B78 else r / 2

/-- CRC-32C over words in their byte order (R417). -/
def crc32c (ws : List Nat) : Nat := (ws.foldl (fun r w => (bitsLsb 32 w).foldl crc32cStep r) 0xFFFFFFFF) ^^^ 0xFFFFFFFF

/-- A flit of 64 words: 62 of content, the CRC, and the upper half of the trailer (R417). -/
def flitContent (ws : List Nat) : List Nat := ws.take 62
def flitHigh (ws : List Nat) : Nat := ws.getD 63 0
def flitGood (ws : List Nat) : Bool := ws.getD 62 0 == crc32c (ws.take 62 ++ [flitHigh ws])
def flitSeq (ws : List Nat) : Nat := bitsOf (flitHigh ws) 0 12
def flitAck (ws : List Nat) : Nat := bitsOf (flitHigh ws) 12 12
def flitKind (ws : List Nat) : Nat := bitsOf (flitHigh ws) 24 2
def flitNak (ws : List Nat) : Bool := bitAt (flitHigh ws) 26

/-- A flit with its trailer (R417). -/
def mkFlit (content : List Nat) (seq ack kind : Nat) (nak : Bool) : List Nat :=
  let c := (List.range 62).map (fun i => content.getD i 0 % 2 ^ 32)
  let h := seq % 4096 + ack % 4096 * 2 ^ 12 + kind % 4 * 2 ^ 24 + (if nak then 2 ^ 26 else 0)
  c ++ [crc32c (c ++ [h]), h]

/-! ### Packets (R419, R426, R433, R434) -/

/-- Words of a packet to the device after its header, by TYPE and LENW (R427). A malformed packet whose TYPE gives no length is
its header (log 89). -/
def bodyWords (w0 w1 : Nat) : Nat := if bitsOf w0 0 4 = 4 then bitsOf w1 12 10 + 1 else 0

/-- The packets in a run of words: those whole, in order, and the words of one that goes on in the next DATA flit. A header word
whose TYPE is 0 ends the flit's content (R419). -/
def splitPackets : Nat → List Nat → List (List Nat) × List Nat
  | 0, _ => ([], [])
  | _ + 1, [] => ([], [])
  | k + 1, w0 :: ws =>
    if w0 % 16 = 0 then ([], [])
    else match ws with
      | w1 :: _ =>
        let n := 3 + bodyWords w0 w1
        if ws.length < n then ([], w0 :: ws)
        else
          let r := splitPackets k (ws.drop n)
          ((w0 :: ws.take n) :: r.1, r.2)
      | [] => ([], [w0])

/-- A packet that the device sends, in words (R426, R433, R434): a register RSP carries its data word in word 3. -/
def Pkt.words (k : Pkt) : List Nat :=
  let w0 := k.type + (if k.view then 2 ^ 4 else 0) + k.func % 2 ^ 8 * 2 ^ 8 + k.burgee % 2 ^ 12 * 2 ^ 16
  let lenw := if k.type = 8 then k.data.length - 1 else 0
  let w1 := k.tag % 2 ^ 12 + lenw % 2 ^ 10 * 2 ^ 12 + k.status % 4 * 2 ^ 22
  if k.type = 8 ∧ 1 < k.data.length then [w0, w1, k.word2 % 2 ^ 32, k.word2 / 2 ^ 32 % 2 ^ 16] ++ k.data
  else if k.type = 9 then [w0, w1, k.word2 % 2 ^ 32, 0] ++ k.data
  else [w0, w1, k.word2 % 2 ^ 32, k.data.headD 0]

/-- The content of the flit of a packet that `left` flits of it follow. -/
def Pkt.chunk (k : Pkt) (left : Nat) : List Nat :=
  let ws := k.words
  (ws.drop (62 * ((ws.length + 61) / 62 - 1 - left))).take 62

/-- The content of an unacknowledged flit: the packet that ends in it or in a later one. -/
def sentContent : List (Nat × Option Pkt) → Nat → List Nat
  | [], _ => []
  | (_, some k) :: _, n => k.chunk n
  | (_, none) :: fs, n => sentContent fs (n + 1)

/-- The i-th unacknowledged DATA flit as it is sent or sent again now (R417, R420, R421). -/
def LinkPortSt.wire (x : LinkPortSt) (i : Nat) : List Nat :=
  mkFlit (sentContent (x.sent.drop i) 0) ((x.sent.drop i).headD (x.txSeq, none)).1 x.rxAck 0 x.nak

/-- The words of the device's CTRL flit now (R418), with the CWSEQ that a LANEMAP names. -/
def LinkPortSt.ctrlWire (x : LinkPortSt) (cw : Nat) : List Nat :=
  let it := x.sending.getD (0, 0)
  mkFlit [x.prel % 2 ^ 16 + x.nrel % 2 ^ 16 * 2 ^ 16, it.1 % 16 + it.2 % 2 ^ 20 * 2 ^ 4, if it.1 = 1 then cw % 2048 else 0]
    x.txSeq x.rxAck 2 x.nak

end Sys2Proof.Machine
end

