-- ==== Sys2Proof/Machine/Link.lean ====
section
/-! DEFINITION. Machine/Link.lean: the Halyard link layer: ports, lanes, maps, replay, credits, doorbells, events and
training (R412 to R440). What a packet does to a register or a slot stands in Access.lean. -/

namespace Sys2Proof.Machine

/-! ### Ports and lanes (R412) -/

/-- The ports of the split in force. -/
def State.linkPorts (s : State) : List Nat :=
  match s.get LNK_CFG_SPLIT with
  | 1 => [0, 1]
  | 2 => [0, 1, 2, 3]
  | _ => [0]

/-- The lanes of a port. -/
def State.portLanes (s : State) (p : Nat) : List Nat :=
  match s.get LNK_CFG_SPLIT with
  | 1 => if p < 2 then (List.range 10).map (· + 10 * p) else []
  | 2 => (List.range 5).map (· + 5 * p)
  | _ => if p = 0 then List.range 20 else []

/-- The port of a lane. -/
def State.lanePort (s : State) (n : Nat) : Nat :=
  match s.get LNK_CFG_SPLIT with
  | 1 => n / 10
  | 2 => n / 5
  | _ => 0

def State.portState (s : State) (p : Nat) : Nat := s.get (LNK_PORT_STAT_STATE p)
def State.setPortState (s : State) (p st : Nat) : State :=
  (s.set (LNK_PORT_STAT_STATE p) st).setLink p { s.linkOf p with since := s.now }

def lkDOWN : Nat := 0
def lkEQUALIZE : Nat := 1
def lkALIGN : Nat := 2
def lkCONFIG : Nat := 3
def lkUP : Nat := 4
def lkRETRAIN : Nat := 5

/-- An agent of the LNK block. -/
def orgLnk (p : Nat) : Nat := orgInt 5 0 p

/-! ### Sending (R419, R421, R423, R425) -/

/-- The DATA flits a packet takes: each packet begins a flit of its own, whose content a TYPE of 0 ends (R419). -/
def Pkt.flits (k : Pkt) : Nat := (k.words.length + 61) / 62

/-- The flits of a packet, from a sequence number on. -/
def flitsOf (seq : Nat) (k : Pkt) : Nat → List (Nat × Option Pkt)
  | 0 => []
  | 1 => [(seq % 4096, some k)]
  | n + 1 => (seq % 4096, none) :: flitsOf (seq + 1) k n

/-- Sending what waits while the replay buffer of 2,047 flits has room. -/
def LinkPortSt.pump (x : LinkPortSt) : List Pkt → LinkPortSt
  | [] => { x with wait := [] }
  | k :: ks =>
    if x.sent.length + k.flits ≤ 2047 then
      LinkPortSt.pump { x with sent := x.sent ++ flitsOf x.txSeq k k.flits, txSeq := (x.txSeq + k.flits) % 4096 } ks
    else { x with wait := k :: ks }

/-- A packet is handed to a port: it is sent in UP, waits in RETRAIN, and is lost on a port that is not up. -/
def State.sendPkt (s : State) (p : Nat) (k : Pkt) : State :=
  let x := s.linkOf p
  let x := if x.sent.isEmpty then { x with ackAt := s.now } else x
  if s.portState p = lkUP then s.setLink p (x.pump (x.wait ++ [k]))
  else if s.portState p = lkRETRAIN then s.setLink p { x with wait := x.wait ++ [k] }
  else s

/-- Posted credits of the adapter that are left (R423). -/
def LinkPortSt.room (x : LinkPortSt) : Nat := (x.pcred + 2 ^ 16 - x.pused) % 2 ^ 16

/-! ### Maps and lanes (R435 to R438) -/

/-- A port enters RETRAIN: its lanes train again, with their PCS in reset (R34, R439, R448). -/
def State.retrain (s : State) (p : Nat) : State :=
  if s.portState p = lkUP then
    let s := (s.setPortState p lkRETRAIN).countSat (LNK_PORT_RETRAINS_COUNT p)
    let s := s.setLink p { s.linkOf p with resends := 0, reAligned := false }
    State.each s (fun n s => (s.set (LNK_LANE_STAT_STATE n) 1).blockReset (.pcs n)) (s.portLanes p)
  else s

/-- A new receive or transmit map, with its width; a port in UP without a lane left retrains (R436, R439). -/
def State.putRx (s : State) (p m : Nat) : State :=
  let s := (s.set (LNK_PORT_RXMAP_MAP p) m).set (LNK_PORT_STAT_RXW p) (popc 20 m)
  if popc 20 m = 0 then s.retrain p else s
def State.putTx (s : State) (p m : Nat) : State :=
  let s := (s.set (LNK_PORT_TXMAP_MAP p) m).set (LNK_PORT_STAT_TXW p) (popc 20 m)
  if popc 20 m = 0 then s.retrain p else s

/-- A lane is lost (R435): flag, CAUSE, fault, its PCS held in reset; DROP for a receive lane, a LANEMAP without it for a
transmit lane (R436). -/
def State.loseLane (s : State) (n : Nat) (rx : Bool) (cause : Nat) : State :=
  let p := s.lanePort n
  let s := s.set (if rx then LNK_LANE_STAT_RX_LOST n else LNK_LANE_STAT_TX_LOST n) 1
  let s := ((s.set (LNK_LANE_STAT_CAUSE n) cause).set (LNK_LANE_STAT_STATE n) 0).set (LNK_LANE_READDS_TRIES n) 0
  let s := ((s.raise (srcHLANE n) cause (orgLnk n)).interruption 256 1160).blockReset (.pcs n)
  let s := s.setHlane n { HLaneSt.init with held := true, triedAt := s.now }
  let x := s.linkOf p
  if rx then s.setLink p { x with sending := some (2, n), itemAt := s.now }
  else
    let m := putBit (x.txPend.getD (s.get (LNK_PORT_TXMAP_MAP p))) n false
    s.setLink p { x with txPend := some m, sending := some (1, m), itemAt := s.now }

/-- The round in progress ends: its segments join the stream, with gaps for codewords that did not come (R415, R417). -/
def State.closeRound (s : State) (p : Nat) : State :=
  let x := s.linkOf p
  s.setLink p { x with
    stream := x.stream ++ roundSegs (setBits 20 (s.get (LNK_PORT_RXMAP_MAP p))) x.got
    got := [], round := (x.round + 1) % 2048 }

/-- A codeword of a lane in a port's receive map joins its round (R415, R417); a later round ends the one in progress, and a
round that every lane has sent ends at once. -/
def State.joinRound (s : State) (p n : Nat) (seq : Option Nat) (segs : List Nat) : State :=
  let x := s.linkOf p
  let next := if x.got.isEmpty then false else match seq with
    | some q => q != x.round
    | none => x.got.any (fun g => g.1 == n)
  let s := if next then s.closeRound p else s
  let x := s.linkOf p
  let s := s.setLink p { x with got := x.got ++ [(n, segs)], round := seq.getD x.round }
  if (setBits 20 (s.get (LNK_PORT_RXMAP_MAP p))).all (fun l => (s.linkOf p).got.any (fun g => g.1 == l)) then s.closeRound p
  else s

/-- LINK_CODEWORD (R414 to R417, R435): the codeword of a lane as its FEC decoder finds it, with its information bits and the
number of symbols in error, and its skew in words against the port's earliest lane. More than 15 errors are uncorrectable, and
the information bits are discarded. -/
def execLinkCodeword (n : HLane) (info : BitVec 5140) (errs : Fin 545) (skew : BitVec 8) (s : State) : Res := s.run fun s =>
  let h := s.hlaneOf n
  if h.held || s.resetting.contains (.pcs n) || s.is (TOP_CDC_STAT_CLOSED n) || (s.crossOf n).reopening then s
  else
    let unc := decide (rsCorrects < errs.val)
    let v := info.toNat
    let bad := decide (cwMark v ≠ 10 ∨ cwLane v ≠ n.val)
    let s := if unc then s
      else (s.addSat (LNK_LANE_CORR_COUNT n) errs).set (LNK_LANE_SKEW_WORDS n) skew.toNat
    let h := { h with unc := (unc :: h.unc).take 64, badHdr := if unc then h.badHdr else if bad then h.badHdr + 1 else 0 }
    let s := s.setHlane n h
    if s.get (LNK_LANE_STAT_STATE n) ≠ 2 then s
    else if 4 ≤ (h.unc.filter id).length then s.loseLane n true 2
    else if 4 ≤ h.badHdr then s.loseLane n true 3
    else if !unc && decide (56 < skew.toNat) then s.loseLane n true 4
    else
      let p := s.lanePort n
      if s.portState p ≠ lkUP ∨ bitAt (s.get (LNK_PORT_RXMAP_MAP p)) n = false then s
      else s.joinRound p n (if unc || bad then none else some (cwSeq v)) (if unc || bad then [] else cwSegs v)

/-- LINK_LANE_RETRAIN (R438): one retrain of a lost lane, 100 ms after the loss or the one before, and whether it passed. -/
def execLinkLaneRetrain (n : HLane) (passed : Bool) (s : State) : Res := s.run fun s =>
  let p := s.lanePort n
  if !s.is LNK_CFG_AUTO_READD || s.get (LNK_LANE_STAT_STATE n) ≠ 0 || s.portState p ≠ lkUP ||
      decide (16 ≤ s.get (LNK_LANE_READDS_TRIES n)) || !(s.hlaneOf n).held ||
      decide (s.now < (s.hlaneOf n).triedAt + 10 ^ 7) then s
  else
    let s := s.setHlane n { s.hlaneOf n with triedAt := s.now }
    let s := s.set (LNK_LANE_READDS_TRIES n) (s.get (LNK_LANE_READDS_TRIES n) + 1)
    if passed then
      let s := s.setHlane n HLaneSt.init
      let s := (s.peerBack n).peerBack (20 + n)
      let s := s.endWindow (.pcs n)
      let s := s.set (LNK_LANE_STAT_STATE n) 2
      let x := s.linkOf p
      let m := putBit (x.txPend.getD (s.get (LNK_PORT_TXMAP_MAP p))) n true
      s.setLink p { x with txPend := some m, sending := some (3, n.val), itemAt := s.now }
    else if s.get (LNK_LANE_READDS_TRIES n) = 16 then s.set (LNK_LANE_STAT_STATE n) 3
    else s

/-- LINK_MAP_APPLY (R436): the receive map applies from the round that its LANEMAP names, the device's own transmit map at
least 8 rounds, which last 388.6 ns, after its LANEMAP. -/
def execLinkMapApply (p : LinkPort) (rx : Bool) (s : State) : Res := s.run fun s =>
  let x := s.linkOf p
  if rx then match x.rxPend with
    | some (m, cw) => if (x.round + 2048 - cw) % 2048 < 1024 then
        (s.setLink p { x with rxPend := none, sending := none }).putRx p m else s
    | none => s
  else match x.txPend with
    | some m => if x.itemAt + 38 ≤ s.now then (s.setLink p { x with txPend := none, sending := none }).putTx p m else s
    | none => s

/-! ### Acknowledgement and replay (R420, R421) -/

/-- Unacknowledged flits that an ACK leaves. -/
def dropAcked (ack : Nat) : List (Nat × Option Pkt) → Option (List (Nat × Option Pkt))
  | [] => none
  | f :: fs => if f.1 = ack then some fs else dropAcked ack fs

/-- A resend of every unacknowledged flit; eight in a row without an ACK advance put the port in RETRAIN. -/
def State.resend (s : State) (p : Nat) : State :=
  let x := s.linkOf p
  let s := (s.setLink p { x with resends := x.resends + 1, ackAt := s.now }).countSat (LNK_PORT_REPLAYS_COUNT p)
  if 8 ≤ x.resends + 1 then s.retrain p else s

/-- The ACK and NAK fields of a good flit. -/
def State.ackNak (s : State) (p ack : Nat) (nak : Bool) : State :=
  let x := s.linkOf p
  let s := match dropAcked ack x.sent with
    | some rest =>
      s.setLink p (LinkPortSt.pump { x with sent := rest, resends := 0, nakAt := none, ackAt := s.now } x.wait)
    | none => s
  if nak then
    let s := s.countSat (LNK_PORT_NAKS_COUNT p)
    let x := s.linkOf p
    if x.nakAt = some ack then s else (s.setLink p { x with nakAt := some ack }).resend p
  else s

/-- LINK_REPLAY_TIMER (R421): no ACK has advanced for 4 µs while a flit is unacknowledged. -/
def execLinkReplayTimer (p : LinkPort) (s : State) : Res := s.run fun s =>
  if s.portState p = lkUP ∧ (s.linkOf p).sent ≠ [] ∧ (s.linkOf p).ackAt + 400 ≤ s.now then s.resend p else s

/-! ### Receiving (R417, R418, R420, R422, R427) -/

/-- A packet to the device is malformed (R426, R427): a reserved TYPE or bit. -/
def badPkt (w : List Word) : Bool :=
  let w0 := (w.getD 0 0).toNat
  let w1 := (w.getD 1 0).toNat
  let w2 := (w.getD 2 0).toNat
  let ty := bitsOf w0 0 4
  !(ty == 1 || ty == 2 || ty == 3 || ty == 4) || bitsOf w0 5 3 != 0 || bitsOf w0 28 4 != 0 || bitsOf w1 24 8 != 0 ||
    bitsOf w2 0 2 != 0 || decide (w.length < 4)

/-- One received packet is checked: a malformed one is discarded and counted, an RREG or WRD still answered with
REJECTED; one beyond its credits is discarded; another takes its credits until it has been performed. -/
def State.takePkt (s : State) (p : Nat) (w : List Word) : State :=
  let w0 := (w.getD 0 0).toNat
  let w1 := (w.getD 1 0).toNat
  let ty := bitsOf w0 0 4
  let x := s.linkOf p
  if badPkt w then
    let s := (s.countSat (LNK_PORT_BADPKT_COUNT p)).raise (srcBADPKT p) w0 (orgLnk p)
    if (ty = 1 ∨ ty = 3) ∧ 2 ≤ w.length then
      s.sendPkt p ⟨8, bitAt w0 4, bitsOf w0 8 8, bitsOf w0 16 12, bitsOf w1 0 12, 2, (w.getD 2 0).toNat,
        if ty = 1 then [0] else List.replicate (bitsOf w1 12 10 + 1) 0⟩
    else s
  else
    let need := if ty = 4 then (16 + 4 * (bitsOf w1 12 10 + 1) + 63) / 64 else 1
    if ty = 2 ∨ ty = 4 then
      if 2048 < x.posted + need then
        (s.countSat (LNK_PORT_BADPKT_COUNT p)).raise (srcCREDIT p) 0 (orgLnk p)
      else s.setLink p { x with posted := x.posted + need }
    else if 512 < x.nonPosted + 1 then
      (s.countSat (LNK_PORT_BADPKT_COUNT p)).raise (srcCREDIT p) 0 (orgLnk p)
    else s.setLink p { x with nonPosted := x.nonPosted + 1 }

/-- The received packets of a flit, in order. -/
def State.takePkts (s : State) (p : Nat) : List (List Word) → State
  | [] => s
  | w :: ws => State.takePkts (s.takePkt p w) p ws

/-- The flit at the head of a port's segment stream, four segments long: none where fewer have come, an empty one where a
segment of it is missing. -/
def LinkPortSt.head (x : LinkPortSt) : Option (List Nat) :=
  match x.stream with
  | some a :: some b :: some c :: some d :: _ => some ([a, b, c, d].flatMap segWords)
  | _ :: _ :: _ :: _ :: _ => some []
  | _ => none

/-- A port in UP takes the next flit of its stream where it is of a kind: a failed CRC or a missing segment sets NAK, whatever
the kind would be (R417, R420). KIND 3 carries nothing but its ACK and NAK (log 89). -/
def State.flit (s : State) (p kind : Nat) (f : List Nat → State → State) : State :=
  if s.portState p ≠ lkUP then s
  else match (s.linkOf p).head with
    | none => s
    | some ws =>
      let x := { s.linkOf p with stream := (s.linkOf p).stream.drop 4 }
      if !flitGood ws || ws.isEmpty then s.setLink p { x with nak := true }
      else if flitKind ws ≠ kind ∧ ¬ (flitKind ws = 3 ∧ kind = 1) then s
      else f ws ((s.setLink p x).ackNak p (flitAck ws) (flitNak ws))

/-- A DATA flit is accepted when its SEQ is ACK + 1, ignored at or before ACK, and answered with NAK otherwise (R419, R420). -/
def State.dataFlit (s : State) (p : Nat) (ws : List Nat) : State :=
  let x := s.linkOf p
  let seq := flitSeq ws
  if seq = (x.rxAck + 1) % 4096 then
    let r := splitPackets 64 (x.part ++ flitContent ws)
    (s.setLink p { x with rxAck := seq, nak := false, part := r.2 }).takePkts p (r.1.map (fun k => k.map (BitVec.ofNat 32)))
  else if (x.rxAck + 4096 - seq) % 4096 < 2048 then s
  else s.setLink p { x with nak := true }

/-- LINK_DATA_FLIT (R420): the next flit of the port's stream is a DATA flit. -/
def execLinkDataFlit (p : LinkPort) (s : State) : Res := s.run fun s => s.flit p 0 fun ws s => s.dataFlit p ws

/-- LINK_IDLE_FLIT (R417): the next flit of the port's stream is an IDLE flit: only its ACK and NAK fields. -/
def execLinkIdleFlit (p : LinkPort) (s : State) : Res := s.run fun s => s.flit p 1 fun _ s => s

/-- An item of a CTRL flit is acted on: 1 LANEMAP, 2 DROP, 3 ADD (R418, R436). -/
def State.actItem (s : State) (p item arg cw : Nat) : State :=
  let x := s.linkOf p
  match item with
  | 1 => s.setLink p { x with rxPend := some (arg % 2 ^ 20, cw % 2048) }
  | 2 => if arg % 32 < 20 then s.loseLane (arg % 32) false 6 else s
  | 3 =>
    let m := putBit (x.txPend.getD (s.get (LNK_PORT_TXMAP_MAP p))) (arg % 32) true
    s.setLink p { x with txPend := some m, sending := some (1, m), itemAt := s.now }
  | _ => s

/-- The words of a CTRL flit: the adapter's posted credits, and an item that acts once it has been seen twice. The device sends
nothing against the non-posted credits (R418, R423). -/
def State.ctrlFlit (s : State) (p : Nat) (ws : List Nat) : State :=
  let x := { s.linkOf p with pcred := bitsOf (ws.getD 0 0) 0 16 }
  let item := bitsOf (ws.getD 1 0) 0 4
  let arg := bitsOf (ws.getD 1 0) 4 20
  let cw := bitsOf (ws.getD 2 0) 0 11
  if item = 0 ∨ 3 < item then s.setLink p x
  else if x.item = some (item, arg, cw) then
    if x.acted then s.setLink p x
    else (s.setLink p { x with acted := true }).actItem p item arg cw
  else s.setLink p { x with item := some (item, arg, cw), acted := false }

/-- LINK_CTRL_FLIT (R418, R423): the next flit of the port's stream is a CTRL flit. -/
def execLinkCtrlFlit (p : LinkPort) (s : State) : Res := s.run fun s => s.flit p 2 fun ws s => s.ctrlFlit p ws

/-! ### Doorbells and events (R432 to R434, R440) -/

/-- LINK_DBL_SEND (R432, R433): the waiting doorbell of a task port, once posted credit allows. -/
def execLinkDblSend (n : TaskPort) (s : State) : Res := s.run fun s =>
  if !s.link.doorbells.contains n.val then s
  else match tget (none : Option (Nat × Nat)) (s.link.dblTo.map (fun q => (q.1, some q.2))) n with
    | none => s
    | some (p, f) =>
      let x := s.linkOf p
      if s.portState p = lkUP ∧ x.room ≠ 0 then
        let s := s.setLink p { x with pused := (x.pused + 1) % 2 ^ 16 }
        let s := s.sendPkt p ⟨10, false, f, s.get (TPT_PORT_CFG_BURGEE n), 0, 0, n, [(s.queueOf n).length % 2 ^ 18]⟩
        { s with link := { s.link with doorbells := s.link.doorbells.filter (· != n.val) } }
      else s

/-- LINK_EVT_SEND (R434): the oldest waiting EVT of a die, once posted credit allows. -/
def execLinkEvtSend (d : Die) (s : State) : Res := s.run fun s =>
  let q := if d.val = 0 then s.link.evt0 else s.link.evt1
  match q with
  | [] => s
  | e :: es =>
    let p := s.get LNK_EVTDST_PORT
    let x := s.linkOf p
    if s.portState p = lkUP ∧ x.room ≠ 0 then
      let s := s.setLink p { x with pused := (x.pused + 1) % 2 ^ 16 }
      let s := s.sendPkt p ⟨9, true, s.get LNK_EVTDST_FUNC, 0, 0, 0, 0, lohi e.1 ++ [e.2, 0]⟩
      if d.val = 0 then { s with link := { s.link with evt0 := es } } else { s with link := { s.link with evt1 := es } }
    else s

/-- Every enabled task port with records asks for a doorbell (R440). -/
def State.redoorbell (s : State) : State :=
  let want := (s.ports.recs.filter (fun q => !q.2.isEmpty && bitAt (s.get (LNK_DBEN_EN (q.1 / 32))) (q.1 % 32))).map Prod.fst
  { s with link := { s.link with
      doorbells := s.link.doorbells ++ want.filter (fun n => !s.link.doorbells.contains n) } }

/-! ### Training (R439, R440) -/

/-- A port enters EQUALIZE: every lane of it trains, out of both maps. -/
def State.equalize (s : State) (p : Nat) : State :=
  let s := s.setPortState p lkEQUALIZE
  let s := ((s.set (LNK_PORT_RXMAP_MAP p) 0).set (LNK_PORT_TXMAP_MAP p) 0).set (LNK_PORT_STAT_RXW p) 0
  let s := s.set (LNK_PORT_STAT_TXW p) 0
  State.each s (fun n s => (s.setHlane n HLaneSt.init).set (LNK_LANE_STAT_STATE n) 1) (s.portLanes p)

/-- A bound of training missed, or no lane left: EQUALIZE again, counted in RETRAINS. -/
def State.equalizeAgain (s : State) (p : Nat) : State := (s.equalize p).countSat (LNK_PORT_RETRAINS_COUNT p)

/-- The bound of a training state in ticks (R439): 20 ms, 1 ms, 100 µs, and 100 ms of RETRAIN. -/
def trainBound (st : Nat) : Nat :=
  if st = lkEQUALIZE then 2000000 else if st = lkALIGN then 100000 else if st = lkCONFIG then 10000 else 10000000

/-- The port has missed the bound of its training state. -/
def State.trainLate (s : State) (p : Nat) : Bool := decide ((s.linkOf p).since + trainBound (s.portState p) < s.now)

/-- LINK_EQUALIZE_DONE (R439): the lanes that adapted, and those whose polarity was found inverted. -/
def execLinkEqualizeDone (p : LinkPort) (ok inv : BitVec 20) (s : State) : Res := s.run fun s =>
  if s.trainLate p then s
  else if s.portState p = lkEQUALIZE then
    let ls := (s.portLanes p).filter (fun n => bitAt ok.toNat n)
    if ls.isEmpty then s.equalizeAgain p
    else
      let s := State.each s (fun n s =>
        let s := s.set (LNK_LANE_STAT_POLARITY n) (if bitAt inv.toNat n then 1 else 0)
        if ls.contains n then s else s.set (LNK_LANE_STAT_STATE n) 0) (s.portLanes p)
      ((s.putRx p (maskOf ls)).putTx p (maskOf ls)).setPortState p lkALIGN
  else s

/-- LINK_ALIGN_DONE (R439): MARK found on every lane of the map with skew in bound. -/
def execLinkAlignDone (p : LinkPort) (s : State) : Res := s.run fun s =>
  if s.trainLate p then s
  else if s.portState p = lkALIGN then s.setPortState p lkCONFIG
  else if s.portState p = lkRETRAIN then
    s.setLink p { s.linkOf p with reAligned := true, got := [], stream := [] }
  else s

/-- The lanes of a port's maps are IN, with their PCS out of reset; a lane in neither is OUT, and one that was lost is retrained
anew (R438). -/
def State.lanesIn (s : State) (p : Nat) : State :=
  State.each s (fun n s =>
    if bitAt (s.get (LNK_PORT_RXMAP_MAP p)) n || bitAt (s.get (LNK_PORT_TXMAP_MAP p)) n then
      let s := (s.set (LNK_LANE_STAT_STATE n) 2).setHlane n HLaneSt.init
      if s.resetting.contains (.pcs n) then
        ((s.endWindow (.pcs n)).peerBack n).peerBack (20 + n)
      else s
    else
      ((s.set (LNK_LANE_STAT_STATE n) 0).set (LNK_LANE_READDS_TRIES n) 0).setHlane n
        { s.hlaneOf n with triedAt := s.now }) (s.portLanes p)

/-- LINK_CONFIG_DONE (R439, R440): LANEMAP and credits exchanged; the adapter's posted credits so far. -/
def execLinkConfigDone (p : LinkPort) (pcred : BitVec 16) (s : State) : Res := s.run fun s =>
  if s.trainLate p then s
  else if s.portState p = lkCONFIG then
    let x := s.linkOf p
    let s := (s.setLink p { LinkPortSt.init with pcred := pcred.toNat }).setPortState p lkUP
    let s := s.lanesIn p
    if x.redbl then s.redoorbell else s
  else s

/-- LINK_TRAIN_TIMEOUT (R439): a training state has missed its bound, or no lane is left in a map. -/
def execLinkTrainTimeout (p : LinkPort) (s : State) : Res := s.run fun s =>
  let st := s.portState p
  let none' := (st = lkALIGN ∨ st = lkCONFIG) ∧ (s.get (LNK_PORT_RXMAP_MAP p) = 0 ∨ s.get (LNK_PORT_TXMAP_MAP p) = 0)
  if (st = lkEQUALIZE ∨ st = lkALIGN ∨ st = lkCONFIG) ∧ (s.trainLate p = true ∨ none') then s.equalizeAgain p else s

/-- LINK_RETRAIN_DONE (R439, R440): ALIGN and CONFIG have been completed again, and replay resumes from the oldest
unacknowledged flit. -/
def execLinkRetrainDone (p : LinkPort) (s : State) : Res := s.run fun s =>
  if s.portState p = lkRETRAIN ∧ (s.linkOf p).reAligned = true ∧ s.trainLate p = false then
    let s := (s.setPortState p lkUP).lanesIn p
    let x := s.linkOf p
    s.setLink p (LinkPortSt.pump { x with resends := 0, nakAt := none } x.wait)
  else s

/-- LINK_PORT_DOWN (R439, R440): both replay buffers, every packet in flight and every credit count are discarded. -/
def execLinkPortDown (p : LinkPort) (s : State) : Res := s.run fun s =>
  if s.portState p = lkRETRAIN ∧ s.trainLate p = true then
    let s := s.setPortState p lkDOWN
    let s := s.setLink p { LinkPortSt.init with redbl := true }
    (s.raise (srcPORTDOWN p) 0 (orgLnk p)).equalize p
  else s

end Sys2Proof.Machine
end

