-- ==== Sys2Proof/Machine/Staff.lean ====
section
/-! DEFINITION. Machine/Staff.lean: losing a Staff core and losing a logic die (R22, R451, R454). -/

namespace Sys2Proof.Machine

/-- A Staff core, by number. -/
def State.core (s : State) (i : Nat) : StaffCore := s.staff.getD i StaffCore.init
def State.setCore (s : State) (i : Nat) (c : StaffCore) : State := { s with staff := s.staff.modify i (fun _ => c) }

/-- The other core of the same die. -/
def otherCore (i : Nat) : Nat := if i % 2 = 0 then i + 1 else i - 1

/-- The core counts as lost: it boots after a loss, or stays fenced (R451). -/
def StaffCore.lost (c : StaffCore) : Bool :=
  match c.mode with
  | .booting | .fenced => true
  | _ => false

/-- Logic die d is lost (R454): DIE_LOST with cause 1 HEARTBEAT or 2 STAFF, its lanes, and every live command of the
package. -/
def State.dieLost (s : State) (d cause : Nat) : State :=
  if s.dieIsLost d then s
  else
    let s := s.raise (srcDIE d) cause (orgInt 3 d 0)
    let s := (s.set FLT_STAT_DIE_LOST (putBit (s.get FLT_STAT_DIE_LOST) d true)).loseDie d
    State.each s (fun n s => if (s.hlaneOf n).held then s else s.loseLane n true 1) ((List.range 10).map (· + 10 * d))

/-- A Staff core is lost (R451), with cause 1 HEARTBEAT or 2 NMI_UE: it is fenced, the other core takes over, and it boots
again as standby unless it was lost before; with the other core lost too the die is lost. -/
def State.staffLost (s : State) (i cause : Nat) : State :=
  let x := s.core i
  if x.lost then s
  else
    let s := (s.raise (srcSTAFF i) cause (orgInt 3 (i / 2) i)).interruption (15 * 16 ^ (i / 2)) 1356
    let s := s.blockReset (.staff i)
    let s := s.setCore i { s.core i with mode := if x.lostOnce then .fenced else .booting, lostOnce := true, takenOver := false }
    let y := s.core (otherCore i)
    if y.lost then s.dieLost (i / 2) 2
    else s.setCore (otherCore i) { y with mode := .inService, takenOver := true }

/-- STAFF_HEARTBEAT_TIMEOUT (R451). -/
def execStaffHeartbeatTimeout (i : Fin 4) (s : State) : Res := s.run fun s => s.staffLost i 1

/-- STAFF_BOOT_DONE (R451): once the core's reset window has ended. -/
def execStaffBootDone (i : Fin 4) (s : State) : Res := s.run fun s =>
  let x := s.core i
  match x.mode with
  | .booting => if s.resetting.contains (.staff i) then s else s.setCore i { x with mode := .standby }
  | _ => s

/-- DIE_HEARTBEAT_TIMEOUT (R454). -/
def execDieHeartbeatTimeout (d : Die) (s : State) : Res := s.run fun s => s.dieLost d 1

end Sys2Proof.Machine
end

