-- ==== Sys2Proof/Machine/Cache.lean ====
section
/-! DEFINITION. Machine/Cache.lean: the front cache (R382 to R396): where a block lives, presence, replacement, fills,
intake, retirement, eviction, enabling, draining, invalidation and stride prefetch. -/

namespace Sys2Proof.Machine

def State.cacheOf (s : State) (d : Nat) : CacheDie := tget CacheDie.init s.cache d
def State.setCache (s : State) (d : Nat) (x : CacheDie) : State := { s with cache := tset CacheDie.init s.cache d x }

/-- The home die of a block (R382). -/
def homeDie (lba : Nat) : Nat := lba / 30 % 8 / 4

/-- The set of a block on its home die (R382). -/
def homeSet (lba : Nat) : Nat := (120 * (lba / 30 / 8) + 30 * (lba / 30 % 8 % 4) + lba % 30) % 768

def CacheDie.line (x : CacheDie) (i : Nat) : Line := tget Line.init x.lines i
def CacheDie.setLine (x : CacheDie) (i : Nat) (l : Line) : CacheDie := { x with lines := tset Line.init x.lines i l }

/-- The line indices of a set, way 0 first. -/
def waysOf (set : Nat) : List Nat := (List.range 16).map (· + 16 * set)

/-- The CLEAN line of a block, if it has one. -/
def CacheDie.clean? (x : CacheDie) (lba : Nat) : Option Nat :=
  (waysOf (homeSet lba)).find? (fun i => (x.line i).st = .clean && (x.line i).lba == lba && !(x.line i).dying)

/-- The DIRTY line that holds one write's version of a block. -/
def CacheDie.dirty? (x : CacheDie) (lba ver : Nat) : Option Nat :=
  (waysOf (homeSet lba)).find? (fun i => (x.line i).st = .dirty && (x.line i).lba == lba && (x.line i).ver == ver)

/-- The cache of die d serves and installs: ENABLED and not DRAINING (R384, R385). -/
def State.cacheOn (s : State) (d : Nat) : Bool := s.is (CCH_STAT_ENABLED d) && !s.is (CCH_STAT_DRAINING d)

/-- A block is present for R71 (R384). -/
def State.present (s : State) (lba : Nat) : Bool :=
  let d := homeDie lba
  s.cacheOn d && (match (s.cacheOf d).clean? lba with
    | some i =>
      let l := (s.cacheOf d).line i
      !l.filling && !l.marked && l.pins < 15
    | none => false)

/-- The DRAM key of a staging copy, 4 KiB each in the STAGE region (R366). -/
def stageKey (idx : Nat) : Nat := spaceKey 0 (0x200000000 + 4096 * idx)

/-- The key of a cache line's data in its die's SRAM (R368, log 12). -/
def lineKey (d i : Nat) : Nat := spaceKey (1 + d) (4096 * i)

/-- Copying stored words, POISON kept (R359); corrected words arrive corrected (R360). -/
def State.copyWords (s : State) (origin src dst : Nat) : Nat → State
  | 0 => s
  | n + 1 =>
    let s := State.copyWords s origin src dst n
    let w := s.stored (src + 4 * n)
    s.putReq origin (dst + 4 * n) (match w.view with
      | some v => freshWord v false
      | none => freshWord w.data true)

/-- Copying one block of 4 KiB. -/
def State.copyBlock (s : State) (src dst : Nat) : State :=
  let t := s.copyWords (orgInt 11 0 0) src dst 1024
  { s with regs := t.regs, log := t.log, mem := t.mem, memX := t.memX, memu := t.memu }

/-! ### Pseudo-LRU (R387, R388) -/

/-- The nodes on the path to way `w`, with the side taken at each: node, right. -/
def plruPath (w : Nat) : List (Nat × Bool) :=
  let n1 := if w / 8 = 0 then 1 else 2
  let n2 := 2 * n1 + 1 + w / 4 % 2
  [(0, w / 8 % 2 = 1), (n1, w / 4 % 2 = 1), (n2, w / 2 % 2 = 1), (7 + w / 2, w % 2 = 1)]

/-- An access to way `w` points every node on its path away from it. -/
def plruTouch (bits w : Nat) : Nat := (plruPath w).foldl (fun b p => putBit b p.1 (!p.2)) bits

/-- The walk of R388 over 2^lv ways below node `n`, the first of them way `w0`: the pointed subtree, or the other one
where it holds no eligible way. -/
def plruWalk (bits : Nat) (ok : Nat → Bool) : Nat → Nat → Nat → Option Nat
  | 0, _, w0 => if ok w0 then some w0 else none
  | lv + 1, n, w0 =>
    let l := plruWalk bits ok lv (2 * n + 1) w0
    let r := plruWalk bits ok lv (2 * n + 2) (w0 + 2 ^ lv)
    if bitAt bits n then (match r with | some w => some w | none => l)
    else (match l with | some w => some w | none => r)

/-- An access to a line. -/
def CacheDie.touch (x : CacheDie) (i : Nat) : CacheDie :=
  { x with plru := tset 0 x.plru (i / 16) (plruTouch (tget 0 x.plru (i / 16)) (i % 16)) }

/-- The least staging index of a cluster that no write uses (log 12). -/
def State.newStage (s : State) (c : Nat) : Nat :=
  ((List.range (s.staged.length + 1)).map (· + 524288 * c)).find? (fun i => (tget none s.staged i).isNone)
    |>.getD (524288 * c)

/-- A line for a new block (R388): an INVALID way, a CLEAN victim, or a DIRTY victim that moves to the eviction buffer
and from there to its staging copy (R389). DEDUCED (log 88): a DIRTY line whose data is still arriving is no victim. -/
def State.allocLine (s : State) (lba : Nat) : Option (State × Nat) :=
  let d := homeDie lba
  let x := s.cacheOf d
  let set := homeSet lba
  let bits := tget 0 x.plru set
  match (waysOf set).find? (fun i => (x.line i).st = .invalid) with
  | some i => some (s, i)
  | none =>
    match plruWalk bits (fun w => let l := x.line (16 * set + w); l.st = .clean && l.pins == 0 && !l.filling) 4 0 0 with
    | some w => some (s.setCache d (x.setLine (16 * set + w) Line.init), 16 * set + w)
    | none =>
      match plruWalk bits (fun w => let l := x.line (16 * set + w)
          l.st = .dirty && l.pins == 0 && !l.filling && x.evb.length < 16 && !x.evb.any (fun e => e.lba == l.lba)) 4 0 0 with
      | some w =>
        let i := 16 * set + w
        let l := x.line i
        let idx := s.newStage (l.lba / 30 % 8)
        let s := s.copyBlock (lineKey d i) (stageKey idx)
        let s := { s with staged := tset none s.staged idx (some (l.lba, l.ver)) }
        let s := s.setCache d { x.setLine i Line.init with evb := x.evb ++ [⟨l.lba, l.ver, idx⟩] }
        some ((s.set (CCH_EVB_USED d) (x.evb.length + 1)).count (CCH_EVICT_DIRTY_COUNT d), i)
      | none => none

/-- Storing a fragment's 1,024 words at a key, each with fresh CHECK. -/
def State.putFrag (s : State) (origin key : Nat) (data : List Nat) : State :=
  let t := State.each s (fun i s => s.putReq origin (key + 4 * i) (freshWord (data.getD i 0) false)) (List.range 1024)
  { s with regs := t.regs, log := t.log, mem := t.mem, memX := t.memX, memu := t.memu }

/-- Installing a decoded block CLEAN (R385); a block with a CLEAN line is left alone. -/
def State.install (s : State) (lba : Nat) (data : List Nat) (fetched : Bool) : State :=
  let d := homeDie lba
  if !s.cacheOn d then s
  else if ((s.cacheOf d).clean? lba).isSome then s
  else match s.allocLine lba with
    | none => s.count (CCH_NOINSTALL_COUNT d)
    | some (s, i) =>
      let s := s.putFrag (orgInt 11 d 0) (lineKey d i) data
      let x := ((s.cacheOf d).setLine i { Line.init with st := .clean, lba := lba, fetched := fetched }).touch i
      (s.setCache d x).count (CCH_FILLS_COUNT d)

/-- The staging copy that holds one write's version of a block. -/
def State.stage? (s : State) (lba ver : Nat) : Option Nat :=
  (s.staged.find? (fun p => p.2 == some (lba, ver))).map Prod.fst

/-- Where one write's version of a block stands, searched as R386 says: DIRTY line, eviction buffer, staging copy. The
second part marks an eviction-buffer hit. -/
def State.version? (s : State) (lba ver : Nat) : Option (Nat × Bool) :=
  let d := homeDie lba
  let x := s.cacheOf d
  match x.dirty? lba ver with
  | some i => some (lineKey d i, false)
  | none =>
    match x.evb.find? (fun e => e.lba == lba && e.ver == ver) with
    | some e => some (stageKey e.stage, true)
    | none => (s.stage? lba ver).map (fun i => (stageKey i, false))

/-- One write's version of a block as the write pass takes it: its words, or none where a word of it is poisoned or it is
nowhere: a block declared lost (R373, R386). -/
def State.versionData (s : State) (lba ver : Nat) : Option (List Nat) :=
  match s.version? lba ver with
  | none => none
  | some (k, _) =>
    let w := (List.range 1024).map (fun i => (s.stored (k + 4 * i)).view)
    if w.all Option.isSome then some (w.map (fun x => x.getD 0)) else none

/-- A line whose PINS have reached 0 and that is to go becomes INVALID (R385). -/
def CacheDie.reap (x : CacheDie) (i : Nat) : CacheDie :=
  if (x.line i).dying && (x.line i).pins == 0 then x.setLine i Line.init else x

/-- One pin fewer on a line. -/
def State.unpin (s : State) (d i : Nat) : State :=
  let x := s.cacheOf d
  s.setCache d ((x.setLine i { x.line i with pins := (x.line i).pins - 1 }).reap i)

/-- The intake of one block of a write at its PROMISE (R385): a DIRTY line, or a staging copy where R388 finds no way or
the cache neither serves nor installs (R392). The copy itself is an INTAKE Streamer's job. -/
def State.intakeBlock (s : State) (c : Cmd) (i : Nat) : State × Job :=
  let lba := c.lba + i
  let d := homeDie lba
  let toStage (s : State) : State × Job :=
    let idx := s.newStage (lba / 30 % 8)
    (State.count { s with staged := tset none s.staged idx (some (lba, c.id)) } (CCH_TOSTAGE_COUNT d),
      .stage c.id i idx)
  if !s.cacheOn d then toStage s
  else match s.allocLine lba with
    | none => toStage s
    | some (s, l) =>
      let x := (s.cacheOf d).setLine l
        { Line.init with st := .dirty, lba := lba, handle := c.handle, ver := c.id, filling := true }
      (s.setCache d (x.touch l), .intake c.id i l)

/-- A write's version of a block is committed or held in the repair buffer (R385). -/
def State.retireVersion (s : State) (c : Cmd) (lba : Nat) : State :=
  let d := homeDie lba
  let x := s.cacheOf d
  let old := x.clean? lba
  let drop (x : CacheDie) (o : Option Nat) : CacheDie := match o with
    | some i => (x.setLine i { x.line i with dying := true }).reap i
    | none => x
  let s := match x.dirty? lba c.id with
    | some i =>
      let x := drop x old
      if c.nocache then
        let x := x.setLine i { x.line i with st := .clean, dying := true, handle := 0 }
        s.setCache d (x.reap i)
      else s.setCache d (x.setLine i { x.line i with st := .clean, handle := 0, ver := 0 })
    | none => s.setCache d { drop x old with evb := x.evb.filter (fun e => !(e.lba == lba && e.ver == c.id)) }
  let s := match s.stage? lba c.id with
    | some i => { s with staged := tset none s.staged i none }
    | none => s
  s.set (CCH_EVB_USED d) (s.cacheOf d).evb.length

/-- A write's version of a block is given up with its stripe (R141). -/
def State.dropVersion (s : State) (id lba : Nat) : State :=
  let d := homeDie lba
  let x := s.cacheOf d
  let x := match x.dirty? lba id with
    | some i => (x.setLine i { x.line i with st := .clean, dying := true, handle := 0 }).reap i
    | none => x
  let x := { x with evb := x.evb.filter (fun e => !(e.lba == lba && e.ver == id)) }
  let s := (s.setCache d x).set (CCH_EVB_USED d) x.evb.length
  match s.stage? lba id with
  | some i => { s with staged := tset none s.staged i none }
  | none => s

/-- The write pass of a stripe has begun: its first wedge, as long before its last as the first pass is long. -/
def State.passBegun (s : State) (y : CmdStripe) : Bool :=
  decide (0 < y.wEnd ∧ y.wEnd ≤ (s.tlOf y.cluster).now + (y.w1 - y.w0))

/-- A stripe of a WRITE has a faulty source slot and is not written (R141): its versions taken in are given up, and the
command ends once every block has been taken in and nothing else is left. A write pass that has begun runs to its end with
the data taken in before (log 81). -/
def State.faultStripe (s : State) (c : Cmd) (y : CmdStripe) : State :=
  if s.passBegun y then s
  else
    let s := (y.offs.filter c.moved.contains).foldl (fun s b => s.dropVersion c.id (c.lba + b)) s
    let s := s.setCmd { c with stripes := c.stripes.map (fun x =>
      if x.cluster == y.cluster && x.q == y.q then { x with st := .lost } else x) }
    if c.count ≤ c.moved.length then s.endIfSettled c.id else s

/-- An uncorrectable or poisoned word of window slot m (R141, R144, R371): a HOST slot turns POISONED, the command of a
DEVICE slot fails. -/
def State.slotHit (s : State) (m : Nat) : State :=
  if s.flag m = slotHOST then s.setFlag m slotPOISONED
  else if s.flag m = slotDEVICE then
    match s.ports.cmds.find? (fun c => c.hoisted && c.transfers && (c.phase = .queued || c.phase = .promised)
        && decide (c.slot ≤ m ∧ m < c.slot + c.count)) with
    | some c =>
      let i := m - c.slot
      let c := { c with status := worse c.status (if c.writes then 6 else 5)
                        lost := if c.lost.contains i then c.lost else c.lost ++ [i] }
      let s := s.setCmd c
      match c.stripes.find? (fun y => y.offs.contains i && (y.st = .unbegun || y.st = .begun)) with
      | some y => if c.writes then s.faultStripe c y else s
      | none => s
    | none => s
  else s

/-- CLEAN and DIRTY lines of a die (CCH.Dd.LINES). -/
def CacheDie.cleans (x : CacheDie) : Nat := (x.lines.filter (fun p => p.2.st = .clean)).length
def CacheDie.dirties (x : CacheDie) : Nat := (x.lines.filter (fun p => p.2.st = .dirty)).length
def CacheDie.pinned (x : CacheDie) : Bool := x.lines.any (fun p => p.2.pins != 0)

/-- CCH.Dd.QRES, looked up at the read. -/
def State.qres (s : State) (d : Nat) : Nat :=
  let lba := s.get (CCH_QLBA_LO_LBA_LO d) + s.get (CCH_QLBA_HI_LBA_HI d) * 2 ^ 32
  let x := s.cacheOf d
  let vers := (x.lines.filter (fun p => p.2.st = .dirty && p.2.lba == lba)).length
    + (x.evb.filter (fun e => e.lba == lba)).length
  (if homeDie lba = d && s.present lba then 1 else 0) + homeSet lba * 64 + min vers 15 * 2 ^ 21 +
    (match x.clean? lba with
      | some i => 2 + i % 16 * 4 + (x.line i).pins * 2 ^ 16 + (if (x.line i).marked then 2 ^ 20 else 0)
      | none => 0)

/-! ### The commands -/

/-- CACHE_INVALIDATE (R390). -/
def execCacheInvalidate (o : Origin) (d : Die) (s : State) : Res := s.runOn d fun s =>
  if s.is (CCH_STAT_ENABLED d) || s.is (CCH_STAT_DRAINING d) || !(s.cacheOf d).evb.isEmpty then
    (s.set (CCH_STAT_CMD_REJECT d) 1).logPriv o (CCH_CMD d) 1 1
  else (s.setCache d { s.cacheOf d with invalidating := true }).logPriv o (CCH_CMD d) 1 0

/-- INVALIDATE_DONE (R390): every tag entry of the die is INVALID. -/
def execInvalidateDone (d : Die) (s : State) : Res := s.run fun s =>
  if (s.cacheOf d).invalidating then
    (s.setCache d { s.cacheOf d with lines := [], invalidating := false }).set (CCH_STAT_INV_DONE d) 1
  else s

/-- CACHE_ENABLE: a write of EN = 1, with the other bit of CTL as written (R391). -/
def execCacheEnable (o : Origin) (d : Die) (pfEn : Bool) (s : State) : Res := s.runOn d fun s =>
  let v := 1 + (if pfEn then 2 else 0)
  let s := s.set (CCH_CTL_PF_EN d) (if pfEn then 1 else 0)
  if s.is (CCH_STAT_ENABLED d) then s.logPriv o (CCH_CTL d) v 0
  else if s.is (CCH_STAT_INV_DONE d) && !s.is (CCH_STAT_DRAINING d) then
    ((s.set (CCH_CTL_EN d) 1).set (CCH_STAT_ENABLED d) 1).logPriv o (CCH_CTL d) v 0
  else ((s.set (CCH_CTL_EN d) 0).set (CCH_STAT_EN_REJECT d) 1).logPriv o (CCH_CTL d) v 1

/-- Nothing of the die's cache is left to write back or to deliver (R392). -/
def CacheDie.drained (x : CacheDie) : Bool := x.dirties == 0 && x.evb.isEmpty && !x.pinned

/-- CACHE_DISABLE: a write of EN = 0 (R391, R392). -/
def execCacheDisable (o : Origin) (d : Die) (pfEn : Bool) (s : State) : Res := s.runOn d fun s =>
  let s := (((s.set (CCH_CTL_PF_EN d) (if pfEn then 1 else 0)).set (CCH_CTL_EN d) 0).set (CCH_STAT_ENABLED d) 0).set
    (CCH_STAT_INV_DONE d) 0
  let s := if (s.cacheOf d).drained then s else s.set (CCH_STAT_DRAINING d) 1
  s.logPriv o (CCH_CTL d) (if pfEn then 2 else 0) 0

/-- The write-back of a draining cache: every DIRTY line without pins goes to its staging copy (R392). -/
def State.drainLines (s : State) (d : Nat) : List Nat → State
  | [] => s
  | i :: is =>
    let x := s.cacheOf d
    let l := x.line i
    let s := if l.st = .dirty && l.pins == 0 && !l.filling then
        let idx := s.newStage (l.lba / 30 % 8)
        let s := s.copyBlock (lineKey d i) (stageKey idx)
        let s := { s with staged := tset none s.staged idx (some (l.lba, l.ver)) }
        s.setCache d ((s.cacheOf d).setLine i Line.init)
      else s
    State.drainLines s d is

/-- CACHE_DRAIN_END (R392): the write-back has run through the eviction buffer, and DRAINING clears once no DIRTY line,
entry or pin remains. -/
def execCacheDrainEnd (d : Die) (s : State) : Res := s.run fun s =>
  if s.is (CCH_STAT_DRAINING d) then
    let s := s.drainLines d ((s.cacheOf d).lines.map Prod.fst)
    let s := (s.setCache d { s.cacheOf d with evb := [] }).set (CCH_EVB_USED d) 0
    if (s.cacheOf d).drained then s.set (CCH_STAT_DRAINING d) 0 else s
  else s

/-- EVICTION_WRITE_DONE: the oldest entry's write to its staging copy is acknowledged (R389). -/
def execEvictionWriteDone (d : Die) (s : State) : Res := s.run fun s =>
  let x := s.cacheOf d
  (s.setCache d { x with evb := x.evb.tail }).set (CCH_EVB_USED d) x.evb.tail.length

/-! ### Stride prefetch (R394, R395) -/

/-- The update of the stream entries by a READ that passes the door (R394). -/
def streamUpdate (smax burgee lba count now : Nat) (l : List Stream) : List Stream :=
  match l.findIdx? (fun e => e.upd != 0 && e.burgee == burgee && ((e.last : Int) + e.stride == lba)) with
  | some i => l.modify i (fun e => { e with conf := min (e.conf + 1) 3, last := lba, count := count, upd := now })
  | none =>
    match l.findIdx? (fun e => e.upd != 0 && e.burgee == burgee && (((lba : Int) - e.last).natAbs ≤ smax)) with
    | some i => l.modify i (fun e =>
        { e with stride := (lba : Int) - e.last, conf := 0, last := lba, count := count, upd := now })
    | none =>
      if l.length < 64 then l ++ [⟨burgee, lba, 0, count, 0, now, none⟩] else
      let oldest := l.foldl (fun m e => min m e.upd) (l.headD Stream.init).upd
      match l.findIdx? (fun e => e.upd == oldest) with
      | some i => l.set i ⟨burgee, lba, 0, count, 0, now, none⟩
      | none => l

/-- STREAM_UPDATE within a HOIST_READ (R394). -/
def State.streamRead (s : State) (d burgee lba count : Nat) : State :=
  let x := s.cacheOf d
  s.setCache d { x with
    clockUpd := x.clockUpd + 1
    streams := streamUpdate (s.get (CCH_PFCFG_STRIDE_MAX d)) burgee lba count (x.clockUpd + 1) x.streams }

end Sys2Proof.Machine
end

