-- ==== Sys2Proof/Machine/Parity.lean ====
section
/-! DEFINITION. Machine/Parity.lean: the two parities of a stripe over GF(2^8) and the rebuilding of erased fragments
(R238, R241, R242). A fragment is a list of 1,024 words, and arithmetic is byte by byte. -/

namespace Sys2Proof.Machine

/-- Multiplication by α = 0x02 in GF(2^8) modulo 0x11D. -/
def gfDouble (a : Nat) : Nat := if a < 128 then 2 * a else (2 * a) ^^^ 0x11D

/-- a · b in the field, over the low `n` bits of b. -/
def gfMulN : Nat → Nat → Nat → Nat
  | 0, _, _ => 0
  | n + 1, a, b => (if b % 2 = 1 then a else 0) ^^^ gfMulN n (gfDouble a) (b / 2)

def gfMul (a b : Nat) : Nat := gfMulN 8 a b

/-- α^n. -/
def gfPow : Nat → Nat
  | 0 => 1
  | n + 1 => gfDouble (gfPow n)

/-- The inverse of a nonzero element: the element whose product with it is 1. -/
def gfInv (a : Nat) : Nat := ((List.range 256).find? (fun b => gfMul a b == 1)).getD 0

/-- A word times a field element, byte by byte. -/
def wordMul (k w : Nat) : Nat :=
  gfMul (w % 2 ^ 8) k + gfMul (w / 2 ^ 8 % 2 ^ 8) k * 2 ^ 8 + gfMul (w / 2 ^ 16 % 2 ^ 8) k * 2 ^ 16
    + gfMul (w / 2 ^ 24 % 2 ^ 8) k * 2 ^ 24

/-- A fragment of zeros. -/
def zeroFrag : List Nat := List.replicate 1024 0

/-- The sum of two fragments, and a fragment times a field element. -/
def fragAdd (a b : List Nat) : List Nat := List.zipWith (· ^^^ ·) a b
def fragMul (k : Nat) (a : List Nat) : List Nat := a.map (wordMul k)

/-- The sum of g r times the fragment of each listed ROLE. -/
def fragSum (g : Nat → Nat) (d : Nat → List Nat) : List Nat → List Nat
  | [] => zeroFrag
  | r :: rs => fragAdd (fragMul (g r) (d r)) (fragSum g d rs)

/-- P and Q of the 30 data fragments (R238). -/
def parityP (d : Nat → List Nat) : List Nat := fragSum (fun _ => 1) d (List.range 30)
def parityQ (d : Nat → List Nat) : List Nat := fragSum gfPow d (List.range 30)

/-- The data fragments rebuilt from the rest: one from P, one from Q when P is erased too, or two from P and Q (R241).
`bad` lists the erased data ROLEs; `pOk` says that P has decoded. -/
def rebuild (d : Nat → List Nat) (bad : List Nat) (pOk : Bool) : List (Nat × List Nat) :=
  let rest := (List.range 30).filter (fun r => !bad.contains r)
  let sp := fragAdd (d 30) (fragSum (fun _ => 1) d rest)
  let sq := fragAdd (d 31) (fragSum gfPow d rest)
  match bad with
  | [x] => if pOk then [(x, sp)] else [(x, fragMul (gfInv (gfPow x)) sq)]
  | [x, y] =>
    let a := fragMul (gfInv (gfPow x ^^^ gfPow y)) (fragAdd sq (fragMul (gfPow y) sp))
    [(x, a), (y, fragAdd sp a)]
  | _ => []

end Sys2Proof.Machine
end

