-- ==== Sys2Proof/Machine/Loop.lean ====
section
/-! DEFINITION. Machine/Loop.lean: the Loop engines: the hysteretic law, the clearance loops with their supervisor, the
bias loops, the spindle loop and SPREF, coefficient slewing (R332 to R354). -/

namespace Sys2Proof.Machine

/-- Rounding a rational to the nearest whole number; the spec states no direction for halves (log 92). -/
def roundRat (q : Rat) : Int := roundNear 0 q.num q.den

/-- Division rounded toward zero. -/
def truncDiv (a b : Int) : Int := Int.tdiv a b

/-- A value held between two bounds. -/
def clampInt (lo hi z : Int) : Int := max lo (min hi z)

/-! ### Coefficient slewing (R351) -/

/-- One move of a working value toward its target. -/
def slewStep (w t : Int) : Int :=
  let d := truncDiv (t - w) 64
  if d ≠ 0 then w + d else if w < t then w + 1 else if t < w then w - 1 else w

/-- The table key of a coefficient's target. -/
def slewKey (x : Fld) : Nat := x.addr * 32 + x.lo

/-- Moving one coefficient toward its target, if it has one; `sgn` reads the field as signed. -/
def State.slew (s : State) (sgn : Bool) (x : Fld) : State :=
  match s.cal.slew.find? (fun p => p.1 == slewKey x) with
  | none => s
  | some p =>
    let rd (n : Nat) : Int := if sgn then signed x.w n else (n % 2 ^ x.w : Nat)
    let w := slewStep (rd (s.get x)) (rd p.2)
    let s := s.set x (unsign x.w w)
    if w = rd p.2 then { s with cal := { s.cal with slew := s.cal.slew.filter (fun q => q.1 != slewKey x) } } else s

/-- The rescaling of an integrator when KI changes (R352). -/
def rescale (a : Int) (old new : Nat) : Int :=
  if old = new ∨ new = 0 then a else roundRat ((a : Rat) * old / new)

/-! ### The law (R333, R334) -/

/-- The centre of the band. -/
def centreFor (ki : Nat) (a : Int) : Int := truncDiv (-((ki : Int) * a)) (2 ^ 16)

/-- The step of the output for a deviation d outside a band of half-width b. -/
def lawStep (d : Int) (b nmax step : Nat) : Int :=
  if d.natAbs ≤ b then 0
  else
    let n := min nmax ((d.natAbs - b + b - 1) / b)
    (if d < 0 then -1 else 1) * (n * step : Nat)

/-! ### Clearance loops (R335 to R343) -/

def clrOFF : Nat := 0
def clrRAMP : Nat := 1
def clrHOLDOFF : Nat := 2
def clrCLOSED : Nat := 3
def clrTRIPPED : Nat := 4
def clrPROBATION : Nat := 5

def State.clrState (s : State) (c f : Nat) : Nat := s.get (LAN_CLSTAT_STATE c f)

/-- Junction temperature of the loop's die less T0, in degrees. -/
def State.tempDiff (s : State) (c : Nat) : Rat :=
  (signed 16 (s.get (LOOP_TEMP_T (dieOf c))) : Rat) / 16 - (s.get LOOP_CLCFG_T0 : Nat)

/-- HS and TS in sensor units. -/
def State.hsOf (s : State) (c f : Nat) : Rat := ((s.get (LAN_CLCOEF2_HS c f) : Nat) : Rat) / 256
def State.tsOf (s : State) (c f : Nat) : Rat := (signed 16 (s.get (LAN_CLCOEF2_TS c f)) : Rat) / 256

/-- u_OL of R341. -/
def State.openCode (s : State) (c f : Nat) : Nat :=
  let hmax := s.get (LAN_CLCOEF3_HMAX c f)
  if s.get (LAN_CLCOEF2_HS c f) = 0 then 0
  else (clampInt 0 hmax (roundRat (((s.get (LAN_CLCOEF3_R0 c f) : Nat) + s.tsOf c f * s.tempDiff c -
    (s.get (LAN_CLTGT0_READ c f) : Nat) - (s.get LOOP_SUPCFG1_OL_MARGIN : Nat)) / s.hsOf c f))).toNat

/-- The output of an open loop moves toward u_OL (R341). -/
def State.clrOpen (s : State) (c f : Nat) : State :=
  let ol := s.openCode c f
  let u := s.get (LAN_CLHEAT_CODE c f)
  let s := s.set (LAN_CLHEAT_OL_CODE c f) ol
  s.set (LAN_CLHEAT_CODE c f) (if ol < u then ol else min ol (u + s.get (LAN_CLCOEF0_STEP c f)))

/-- The set-point target of a class. -/
def State.classTarget (s : State) (c f cls : Nat) : Nat :=
  if cls = 2 then s.get (LAN_CLTGT0_WRITE c f)
  else if cls = 1 then s.get (LAN_CLTGT0_READ c f) else s.get (LAN_CLTGT1_IDLE c f)

/-- Entry to RAMP: the set-point starts from the last reading (R337). -/
def State.clrRamp (s : State) (c f cls : Nat) : State :=
  ((s.set (LAN_CLSTAT_CLASS c f) cls).set (LAN_CLSP_TARGET c f) (s.classTarget c f cls)).set (LAN_CLSP_SP c f)
    (s.get (LAN_CLSENSE_READING c f))

/-- The lane enters OFF for good: heater code 0 (R170, R343). -/
def State.clrOff (s : State) (c f : Nat) : State :=
  let s := (s.set (LAN_CLSTAT_STATE c f) clrOFF).set (LAN_CLHEAT_CODE c f) 0
  s.setClr c f { s.clrOf c f with dead := true, seen := false }

/-- Start has brought the preamp up (R343). -/
def State.clrStart (s : State) (c f : Nat) : State :=
  if s.clrState c f = clrOFF ∧ (s.clrOf c f).dead = false ∧ s.laneIsLost c f = false then
    (s.clrRamp c f 0).set (LAN_CLSTAT_STATE c f) clrRAMP
  else s

/-- A trip of the supervisor (R341, R342). -/
def State.clrTrip (s : State) (c f cause : Nat) : State :=
  let retries := s.get (LAN_CLSTAT_RETRIES c f) + (if s.clrState c f = clrPROBATION then 1 else 0)
  let final := if 3 ≤ retries then 1 else 0
  let s := (s.set (LAN_CLSTAT_RETRIES c f) (min retries 3)).set (LAN_CLSTAT_STATE c f) clrTRIPPED
  let s := ((s.set (LAN_CLSTAT_CAUSE c f) cause).countSat (LAN_CLTRIPS_COUNT c f)).countSat LOOP_TRIPS_COUNT
  let s := s.setClr c f { s.clrOf c f with revs := 0, mis := 0, same := 0, lostRun := 0, prob := 0, probRun := false }
  let s := (s.setWhy c f 0 true).set (LAN_CLSTAT_CLASS c f) 1
  let s := s.set (LAN_CLSP_TARGET c f) (s.classTarget c f 1)
  (s.clrOpen c f).raise (srcClu kCLR_TRIP c) (f + cause * 32 + final * 128) (orgClu c f)

/-- One wedge of the set-point: it moves toward its target, which a slewing coefficient may have moved (R351), and the output with
it by the model's heater change (R337). -/
def State.rampStep (s : State) (c f : Nat) : State :=
  let old := s.get (LAN_CLSP_SP c f)
  let tgt := s.get (LAN_CLSP_TARGET c f)
  let r := s.get (LAN_CLCOEF0_RAMP c f)
  let new := if old < tgt then min tgt (old + r) else max tgt (old - r)
  let hs := s.hsOf c f
  let du := if hs = 0 then 0 else roundRat (((old : Int) - new : Rat) / hs)
  let u := clampInt 0 (s.get (LAN_CLCOEF3_HMAX c f)) ((s.get (LAN_CLHEAT_CODE c f) : Nat) + du)
  (s.set (LAN_CLSP_SP c f) new).set (LAN_CLHEAT_CODE c f) u.toNat

/-- The law on a reading (R333, R334): step, integrator with its clamp, centre. -/
def State.clrLaw (s : State) (c f r : Nat) : State :=
  let x := s.clrOf c f
  let ki := s.get (LAN_CLCOEF1_KI c f)
  let b := s.get (LAN_CLCOEF0_B c f)
  let lim := s.get (LAN_CLCOEF1_C_LIM c f)
  let e : Int := (r : Int) - s.get (LAN_CLSP_SP c f)
  let d := e - centreFor ki x.integ
  let u := clampInt 0 (s.get (LAN_CLCOEF3_HMAX c f))
    ((s.get (LAN_CLHEAT_CODE c f) : Nat) + lawStep d b (s.get LOOP_CLCFG_NMAX) (s.get (LAN_CLCOEF0_STEP c f)))
  let sat := s.is (LAN_CLSTAT_SAT c f) && decide (b < d.natAbs)
  let a := if sat then x.integ else satInt 32 (x.integ + e)
  let wide := decide (lim < (centreFor ki a).natAbs)
  let edge : Int := ((lim * 2 ^ 16 + ki - 1) / ki : Nat)
  let a := if wide then (if a < 0 then -edge else edge) else a
  let s := s.setClr c f { x with integ := a }
  ((s.set (LAN_CLHEAT_CODE c f) u.toNat).set (LAN_CLSTAT_SAT c f) (if sat || wide then 1 else 0)).set
    (LAN_CLCTR_CENTER c f) (unsign 16 (centreFor ki a))

/-- The coefficients of a lane move toward their targets, the integrator with them (R351, R352). -/
def State.clrSlew (s : State) (c f : Nat) : State :=
  let old := s.get (LAN_CLCOEF1_KI c f)
  let s := [LAN_CLCOEF0_B c f, LAN_CLCOEF0_STEP c f, LAN_CLCOEF0_RAMP c f, LAN_CLCOEF1_KI c f, LAN_CLCOEF1_C_LIM c f,
    LAN_CLCOEF2_HS c f, LAN_CLCOEF3_R0 c f, LAN_CLCOEF3_HMAX c f, LAN_CLTGT0_READ c f, LAN_CLTGT0_WRITE c f,
    LAN_CLTGT1_IDLE c f].foldl (fun s x => s.slew false x) s
  let s := s.slew true (LAN_CLCOEF2_TS c f)
  let new := s.get (LAN_CLCOEF1_KI c f)
  let lim := s.get (LAN_CLCOEF1_C_LIM c f)
  let a := rescale (s.clrOf c f).integ old new
  let edge : Int := ((lim * 2 ^ 16 + new - 1) / new : Nat)
  let wide := decide (lim < (centreFor new a).natAbs)
  let a := if wide then (if a < 0 then -edge else edge) else a
  let s := s.setClr c f { s.clrOf c f with integ := a }
  let s := if wide then s.set (LAN_CLSTAT_SAT c f) 1 else s
  (s.set (LAN_CLCTR_CENTER c f) (unsign 16 (centreFor new a))).set (LAN_CLSP_TARGET c f)
    (s.classTarget c f (s.get (LAN_CLSTAT_CLASS c f)))

/-- The class that the timeline gives a lane at the WD of wedge n (R336), and the run of idle WDs. -/
def State.classAt (s : State) (c f prev idle : Nat) : Nat × Nat :=
  let t := s.tlOf c
  let cell (i : Nat) : TCell := t.cellAt (t.now + 1 + i) f
  let pre := s.get LOOP_CLCFG_PREHEAT_W
  let xfer := (List.range pre).any (fun i => (cell i).kind = .xfer)
  let write := (List.range pre).any (fun i => (cell i).kind = .xfer && (cell i).wr)
  let warm := (List.range (s.get LOOP_CLCFG1_WARM_W)).any (fun i => (cell i).kind = .xfer)
  let idle := if xfer then 0 else idle + 1
  (if write then 2 else if xfer || (prev == 0 && warm) then 1
   else if s.get LOOP_CLCFG_IDLE_W ≤ idle then 0 else prev, idle)

/-- At each WD the loop takes its class; a change of class starts a ramp (R336, R343). -/
def State.clrClass (s : State) (c f : Nat) : State :=
  let x := s.clrOf c f
  let st := s.clrState c f
  let prev := s.get (LAN_CLSTAT_CLASS c f)
  let r := s.classAt c f prev x.idleRun
  let s := s.setClr c f { x with idleRun := r.2 }
  if (st = clrRAMP ∨ st = clrHOLDOFF ∨ st = clrCLOSED) ∧ r.1 ≠ prev then
    (s.clrRamp c f r.1).set (LAN_CLSTAT_STATE c f) clrRAMP
  else s

/-- The end of PROBATION: a revolution of samples without a trip (R342, R343). -/
def State.probEnd (s : State) (c f : Nat) : State :=
  let s := s.setWhy c f 0 false
  let r := s.classAt c f 1 (s.clrOf c f).idleRun
  if r.1 = 1 then s.set (LAN_CLSTAT_STATE c f) clrCLOSED
  else (s.clrRamp c f r.1).set (LAN_CLSTAT_STATE c f) clrRAMP

/-- What a wedge does to the loop beside the supervisor: ramp, hold-off, law, or open output. -/
def State.clrMove (s : State) (c f : Nat) (r : Option Nat) : State :=
  let x := s.clrOf c f
  let st := s.clrState c f
  if st = clrRAMP then
    let s := s.rampStep c f
    if s.get (LAN_CLSP_SP c f) = s.get (LAN_CLSP_TARGET c f) then
      (s.setClr c f { x with hold := s.get LOOP_CLCFG_HOLDOFF }).set (LAN_CLSTAT_STATE c f)
        (if s.get LOOP_CLCFG_HOLDOFF = 0 then clrCLOSED else clrHOLDOFF)
    else s
  else if st = clrHOLDOFF then
    ((s.rampStep c f).setClr c f { x with hold := x.hold - 1 }).set (LAN_CLSTAT_STATE c f)
      (if x.hold ≤ 1 then clrCLOSED else clrHOLDOFF)
  else if st = clrCLOSED then
    let s := s.rampStep c f
    match r with
    | some r => s.clrLaw c f r
    | none => s
  else if st = clrTRIPPED then s.clrOpen c f
  else if st = clrPROBATION then
    if x.probRun then
      let s := s.rampStep c f
      match r with
      | some r =>
        let s := s.clrLaw c f r
        let s := s.setClr c f { s.clrOf c f with prob := x.prob + 1 }
        if s.wpr ≤ x.prob + 1 then s.probEnd c f else s
      | none => s
    else
      let s := s.rampStep c f
      s.setClr c f { x with probRun := s.get (LAN_CLSP_SP c f) == s.get (LAN_CLSP_TARGET c f), prob := 0 }
  else s

/-- The model's reading for the sample (R339). -/
def State.modelAt (s : State) (c f r : Nat) : Rat :=
  let x := s.clrOf c f
  if x.seen then
    let ss : Rat := (s.get (LAN_CLCOEF3_R0 c f) : Nat) - s.hsOf c f * (x.force : Nat) + s.tsOf c f * s.tempDiff c
    x.model + (ss - x.model) / (2 ^ s.get LOOP_CLCFG_TAU_SH : Nat)
  else (r : Nat)

/-- The supervisor is active. -/
def State.supervised (s : State) (c f : Nat) : Bool :=
  let st := s.clrState c f
  st == clrRAMP || st == clrHOLDOFF || st == clrCLOSED || st == clrPROBATION

/-- A reading of a lane's sensor (R335, R339, R340). -/
def State.clrReading (s : State) (c f r : Nat) : State :=
  if s.clrState c f = clrOFF then s
  else
    let s := s.clrSlew c f
    let x := s.clrOf c f
    let m := s.modelAt c f r
    let sup := s.supervised c f
    let mis := if decide (((s.get LOOP_SUPCFG1_SUP_THR : Nat) : Rat) < |(r : Rat) - m|) then x.mis + 1 else 0
    let same := if x.seen && r == s.get (LAN_CLSENSE_READING c f) then x.same + 1 else 1
    let s := (s.set (LAN_CLSENSE_READING c f) r).set (LAN_CLSENSE_MODEL c f)
      (clampInt 0 65535 (roundRat m)).toNat
    let s := if x.seen then s else s.set (LAN_CLSP_SP c f) r
    let s := s.setClr c f { x with
      model := m, seen := true, force := x.sent, mis := if sup then mis else 0, same := if sup then same else 0,
      lostRun := 0 }
    if sup && decide (s.get LOOP_SUPCFG0_N_MIS ≤ mis) then s.clrTrip c f 1
    else if sup && decide (s.get LOOP_SUPCFG0_M_FROZEN ≤ same) then s.clrTrip c f 2
    else s.clrMove c f (some r)

/-- A missing sample (R335, R340): ramps and the open output go on by themselves. -/
def State.clrMissing (s : State) (c f : Nat) : State :=
  if s.clrState c f = clrOFF then s
  else
    let s := (s.clrSlew c f).countSat (LAN_CLMISS_COUNT c f)
    let x := s.clrOf c f
    let s := s.setClr c f { x with lostRun := x.lostRun + 1 }
    if s.supervised c f && decide (s.get LOOP_SUPCFG0_N_LOST ≤ x.lostRun + 1) then s.clrTrip c f 3
    else s.clrMove c f none

/-- The SENSE frame of a cluster; a Loop engine in reset takes no sample (R353). -/
def State.senseAll (s : State) (c : Nat) (r : List Nat) : State :=
  if s.resetting.contains (.loop (dieOf c)) then s
  else State.each s (fun f s => s.clrReading c f (r.getD f 0)) (List.range 32)

/-- The wedge's SENSE frame was not received. -/
def State.senseNone (s : State) (c : Nat) : State :=
  if s.resetting.contains (.loop (dieOf c)) then s
  else State.each s (fun f s => s.clrMissing c f) (List.range 32)

/-- CLR_RETRY (R342): RETRY_REVS revolutions after the trip. -/
def execClrRetry (c : Cluster) (f : Surface) (s : State) : Res := s.run fun s =>
  let x := s.clrOf c f
  if s.clrState c f = clrTRIPPED ∧ s.get (LAN_CLSTAT_RETRIES c f) < 3 ∧ s.get LOOP_SUPCFG0_RETRY_REVS ≤ x.revs then
    let s := (s.clrRamp c f 1).set (LAN_CLSTAT_STATE c f) clrPROBATION
    s.setClr c f { x with prob := 0, probRun := false, mis := 0, same := 0, lostRun := 0 }
  else s

/-- A revolution boundary counts for the tripped lanes (R342). -/
def State.clrRevs (s : State) (c : Nat) : State :=
  State.each s (fun f s =>
    if s.clrState c f = clrTRIPPED then s.setClr c f { s.clrOf c f with revs := (s.clrOf c f).revs + 1 } else s)
    (List.range 32)

/-- Write XFER cells that begin while the lane's loop is in RAMP (R338). -/
def State.clrLate (s : State) (c : Nat) : State :=
  let t := s.tlOf c
  State.each s (fun f s =>
    let x := t.cellAt t.now f
    if (x.kind = .xfer && x.wr) && s.clrState c f == clrRAMP then s.countSat LOOP_CLRLATE_COUNT else s)
    (List.range 32)

/-! ### Bias loops (R344) -/

/-- One sample of the bias loop; errors and centre in 1/16 code unit. -/
def State.biasStep (s : State) (c : Nat) : State :=
  let d := dieOf c
  let old := s.get (LOOP_BCOEF1_KI c)
  let s := [LOOP_BCOEF0_B c, LOOP_BCOEF0_STEP c, LOOP_BCOEF0_BT_LIM c, LOOP_BCOEF1_KI c].foldl
    (fun s x => s.slew false x) s
  let ki := s.get (LOOP_BCOEF1_KI c)
  let a0 := rescale (tget 0 s.biasA c) old ki
  if s.resetting.contains (.loop d) ∨ s.get (SRV_STAT_STATE c) ≠ 2 ∨ s.is (SRV_STAT_SETTLED c) = false ∨
      (s.servoOf c).valid = false then { s with biasA := tset 0 s.biasA c a0 }
  else
    let b := 16 * s.get (LOOP_BCOEF0_B c)
    let lim := s.get (LOOP_BCOEF0_BT_LIM c)
    let e := roundRat (-((s.servoOf c).b * 16))
    let dv := e - centreFor ki a0
    let u := clampInt (-(lim : Int)) lim
      (signed 16 (s.get (LOOP_BIAS_BTRIM c)) + lawStep dv b (s.get LOOP_CLCFG_NMAX) (s.get (LOOP_BCOEF0_STEP c)))
    let was := s.is (LOOP_BIAS_SAT c)
    let hit := decide (u.natAbs = lim)
    let sat := (was && decide (b < dv.natAbs)) || hit
    let a := if sat then a0 else satInt 32 (a0 + e)
    let s := { s with biasA := tset 0 s.biasA c a }
    let s := ((s.set (LOOP_BIAS_BTRIM c) (unsign 16 u)).set (LOOP_BIAS_SAT c) (if sat then 1 else 0)).set
      (LOOP_BCTR_CENTER c) (unsign 32 (centreFor ki a))
    if sat && !was then s.raiseC kBIAS_SAT c 0 else s

/-! ### The spindle loop (R345 to R350) -/

def spOFF : Nat := 0
def spALIGN : Nat := 1
def spRAMP : Nat := 2
def spSPEED : Nat := 3
def spPHASE : Nat := 4
def spGENERATE : Nat := 5
def spBRAKE : Nat := 6
def spFAULT : Nat := 7

def State.spState (s : State) : Nat := s.get LOOP_STAT_SP_STATE

/-- Both dies' loops take every input in the same frame (R350): one change of both. -/
def State.spinBoth (s : State) (f : Spin → Spin) : State := (s.setSpin 0 (f (s.spinOf 0))).setSpin 1 (f (s.spinOf 1))

/-- The spindle's own state, as the master holds it. -/
def State.spin0 (s : State) : Spin := s.spinOf (s.get LOOP_MCB_STAT_MASTER)

/-- One sample of the spindle loop with error e in 1/16 tick (R333, R334). -/
def State.spinLaw (s : State) (e : Int) : State :=
  let old := s.get LOOP_SPCOEF1_SP_KI
  let s := [LOOP_SPCOEF0_SP_B, LOOP_SPCOEF0_SP_STEP, LOOP_SPCOEF0_DM_MAX, LOOP_SPCOEF1_SP_KI].foldl
    (fun s x => s.slew false x) s
  let ki := s.get LOOP_SPCOEF1_SP_KI
  let x := s.spin0
  let a0 := rescale x.integ old ki
  let b := 16 * s.get LOOP_SPCOEF0_SP_B
  let dv := e - centreFor ki a0
  let hi := s.get LOOP_SPCOEF0_DM_MAX
  let u := clampInt 0 hi ((s.get LOOP_SPDRIVE_DM : Nat) + lawStep dv b (s.get LOOP_CLCFG_NMAX) (s.get LOOP_SPCOEF0_SP_STEP))
  let sat := (x.sat && decide (b < dv.natAbs)) || decide (u = 0 ∨ u = hi)
  let a := if sat then a0 else satInt 32 (a0 + e)
  let s := s.spinBoth (fun x => { x with integ := a, sat := sat })
  ((s.set LOOP_SPERR_E (unsign 32 e)).set LOOP_SPDRIVE_DM u.toNat).set LOOP_SPCOEF1_SP_CENTER
    (unsign 16 (centreFor ki a))

/-- The nominal revolution period in 2^-20 of a tick. -/
def State.nominal (s : State) : Nat := 16 * s.wpr * s.wt

/-- The period target of R345, in 1/16 tick. -/
def State.periodTarget (s : State) : Rat :=
  let p := s.spin0.periods
  if s.is LOOP_SPCFG_SPREF_EN && s.is LOOP_STAT_SPREF_OK && p.length == 8 then (p.sum : Rat) / 8
  else (s.nominal : Rat) / (2 ^ 16 : Nat)

/-- The spindle loop enters a state. -/
def State.spinTo (s : State) (st : Nat) : State :=
  (s.spinBoth (fun x => { x with since := s.now, aligned := false })).set LOOP_STAT_SP_STATE st

/-- A spindle fault (R349): SPINDLE_LOST, handled as spindle loss (R96). -/
def State.spindleFault (s : State) : State :=
  ((s.set LOOP_STAT_SP_STATE spFAULT).raise srcSPINDLE 0 (orgInt 13 0 0)).loseSpindle

/-- The spindle loops can take a sample. -/
def State.spinRuns (s : State) : Bool := !(s.resetting.contains (.loop (s.get LOOP_MCB_STAT_MASTER)))

/-- A revolution period measured from back-EMF, in 1/16 tick (R345, R349). -/
def State.spinPeriod (s : State) (p : Nat) : State :=
  let t := s.periodTarget
  let follow := (List.range 8).any (fun k => s.get (SRV_STAT_STATE k) == 2 || s.get (SRV_STAT_STATE k) == 3)
  let s := if s.spState = spPHASE && !follow then s.spinTo spSPEED else s
  let st := s.spState
  let dev : Rat := |(p : Rat) - t|
  if st ≠ spSPEED ∧ st ≠ spPHASE then s
  else
    let x := s.spin0
    let ok8 := if dev * 2000 ≤ t then x.locked8 + 1 else 0
    let bad8 := if x.everLocked && decide (t < dev * 100) then x.off8 + 1 else 0
    let s := s.spinBoth (fun y => { y with locked8 := min ok8 8, off8 := min bad8 8, everLocked := y.everLocked || decide (8 ≤ ok8) })
    let s := if st = spSPEED && decide (8 ≤ ok8) then s.set LOOP_STAT_SPEED_LOCK 1 else s
    if 8 ≤ bad8 then s.spindleFault
    else if st = spSPEED && s.spinRuns then s.spinLaw (roundFree 345 ((p : Rat) - t).num ((p : Rat) - t).den) else s

/-- At a WD of cluster c: SPEED and PHASE follow the reference cluster, and in PHASE its WTR, in FCLK cycles, is the
loop's input (R345, R346). -/
def State.spinWd (s : State) (c wtr n : Nat) : State :=
  let st := s.spState
  let ref := s.refCluster
  let s := s.set LOOP_STAT_REFCLU (ref.getD (s.get LOOP_STAT_REFCLU))
  let some? := (List.range 8).any (fun k => s.get (SRV_STAT_STATE k) == 2 || s.get (SRV_STAT_STATE k) == 3)
  if st = spPHASE && !some? then s.set LOOP_STAT_SP_STATE spSPEED
  else if ref ≠ some c ∨ (s.servoOf c).anchored = false then s
  else
    let s := if st = spSPEED then s.set LOOP_STAT_SP_STATE spPHASE else s
    if s.spState = spPHASE && s.spinRuns then
      let ofs := if s.is LOOP_SPCFG_SPREF_EN then signed 32 (s.get LOOP_SPOFS_OFS) else 0
      s.spinLaw ((wtr : Int) - 16 * ((s.tick c n : Nat) + ofs))
    else s

/-- Electrical half-periods of one revolution. -/
def State.halvesPerRev (s : State) : Nat := 2 * s.get LOOP_SPCFG_POLES

/-- A valid zero crossing at a time in 1/16 tick: the half-period it ends, and the half-periods of the revolution. -/
def Spin.crossing (x : Spin) (t n : Nat) : Spin :=
  let x := { x with cross := some t, half := match x.cross with | some p => t - p | none => x.half
                    turn := !x.turn, zeros := min (x.zeros + 1) 3, seen3 := x.seen3 || decide (2 ≤ x.zeros) }
  match x.rev with
  | none => { x with rev := some t, halves := 0 }
  | some _ => if n ≤ x.halves + 1 then { x with rev := some t, halves := 0 } else { x with halves := x.halves + 1 }

/-- The revolution period that a crossing at `t` ends (R345: counted over POLES electrical cycles). -/
def Spin.period? (x : Spin) (t n : Nat) : Option Nat :=
  match x.rev with
  | some r => if n ≤ x.halves + 1 then some (t - r) else none
  | none => none

/-- A zero crossing of the back-EMF, valid or not, at a time in 1/16 tick: RAMP ends after three valid ones in a row, and the
end of a revolution gives the loop its period (R345). -/
def State.spinZero (s : State) (valid : Bool) (t : Nat) : State :=
  let n := s.halvesPerRev
  if !valid then s.spinBoth (fun x => { x with zeros := 0, cross := none, rev := none, halves := 0 })
  else
    let p := s.spin0.period? t n
    let s := s.spinBoth (fun x => x.crossing t n)
    let s := if s.spState = spRAMP && decide (3 ≤ s.spin0.zeros) then s.spinTo spSPEED else s
    match p with
    | some p => s.spinPeriod p
    | none => s

/-- An SPMODE is pending (0 DRIVE, 1 GENERATE, 2 BRAKE, 3 COAST); one that the power-fail sequence makes pending takes the next
cycle (R186, R187). -/
def State.queueSpmode (s : State) (mode : Nat) (pf : Bool) : State :=
  { s with mcb := { s.mcb with spmode := some ⟨.spmode, 0, mode, 0, 0, pf⟩ } }

/-- SPIN_WATCH_END (R345): 10 ms after start enabled the spindle, it goes on where crossings were valid on three consecutive
half-periods, and is aligned otherwise; the driver is put into DRIVE for both (log 86). -/
def execSpinWatchEnd (s : State) : Res := s.run fun s =>
  if s.spState = spOFF ∧ s.spin0.watching = true ∧ s.spin0.since + 1000000 ≤ s.now then
    ((s.spinBoth (fun x => { x with watching := false, enabled := true, left := s.now })).queueSpmode 0 false).spinTo
      (if s.spin0.seen3 then spSPEED else spALIGN)
  else s

/-- SPIN_ALIGN_END (R345): ALIGN_MS have elapsed. -/
def execSpinAlignEnd (s : State) : Res := s.run fun s =>
  if s.spState = spALIGN ∧ s.spin0.since + s.get LOOP_SPCFG_ALIGN_MS * 100000 ≤ s.now then
    (s.spinBoth (fun x => { x with zeros := 0 })).spinTo spRAMP
  else s

/-- SPIN_NO_ZERO_CROSSING (R349): 4 expected half-periods have passed since the last crossing, or since the state began. -/
def execSpinNoZeroCrossing (s : State) : Res := s.run fun s =>
  let from' := max (16 * s.spin0.since) (s.spin0.cross.getD 0)
  if (s.spState = spSPEED ∨ s.spState = spPHASE) ∧
      4 * s.periodTarget ≤ (s.halvesPerRev : Rat) * ((16 * s.now : Nat) - (from' : Nat) : Int) then s.spindleFault
  else s

/-- SPINUP_TIMEOUT (R349): SPINUP_MAX_S have passed since the loop left OFF. -/
def execSpinupTimeout (s : State) : Res := s.run fun s =>
  let st := s.spState
  if s.spin0.enabled = true ∧ s.spin0.everLocked = false ∧ (st = spALIGN ∨ st = spRAMP ∨ st = spSPEED) ∧
      s.spin0.left + s.get LOOP_SPCFG_SPINUP_MAX_S * 100000000 ≤ s.now then
    s.raise srcSPINUP 0 (orgInt 13 0 0)
  else s

/-- The wedge of index 0 of cluster c nearest a time in 1/16 tick: its grid time in ticks. -/
def State.gridNear (s : State) (c e : Nat) : Int :=
  let n := s.wedgeAt c (e / 16)
  let back := s.indexOf c n
  let a := s.tick c (n - back)
  let b := s.tick c (n - back + s.wpr)
  if e - 16 * a ≤ 16 * b - e then a else b

/-- An accepted SPREF edge at a time in 1/16 tick: capture of K0, or tracking (R347). K0 and OFS are whole ticks; which way a
fraction goes is not stated (log 92). -/
def State.sprefAccept (s : State) (e : Nat) : State :=
  let x := s.spin0
  let per := match x.lastEdge with
    | some p => (e - p) :: x.periods
    | none => x.periods
  let run := min (x.run + 1) 8
  let s := s.spinBoth (fun y => { y with lastEdge := some e, run := run, periods := per.take 8 })
  let s := if run = 8 then s.set LOOP_STAT_SPREF_OK 1 else s
  match s.refCluster with
  | none => s
  | some c =>
    if (s.servoOf c).anchored = false then s
    else if x.captured = false then
      (s.spinBoth (fun y => { y with captured := true })).set LOOP_SPK0_K0
        (unsign 32 (roundFree 347 ((e : Int) - 16 * s.gridNear c e) 16))
    else if s.is LOOP_STAT_SPREF_OK then
      let dj := (e : Int) - 16 * s.gridNear c e - 16 * signed 32 (s.get LOOP_SPK0_K0)
      let lim : Int := s.get LOOP_SPREF_PHASE_CLAMP
      let ofs := signed 32 (s.get LOOP_SPOFS_OFS)
      let slew : Int := s.get LOOP_SPREF_SP_SLEW
      let goal := roundFree 347 (clampInt (-16 * lim) (16 * lim) dj) 16
      let s := s.set LOOP_SPOFS_OFS (unsign 32 (ofs + clampInt (-slew) slew (goal - ofs)))
      let was := s.is LOOP_STAT_SPREF_CLAMP
      if 16 * lim < dj.natAbs then
        let s := s.set LOOP_STAT_SPREF_CLAMP 1
        if was then s else s.raise srcSPREFCLAMP (unsign 32 (roundFree 347 dj 16)) (orgInt 13 0 0)
      else s.set LOOP_STAT_SPREF_CLAMP 0
    else s

/-- SPREF_EDGE (R347): an edge on SPREF, with the FCLK cycle of this tick in which it falls. -/
def execSprefEdge (frac : Fin 16) (s : State) : Res := s.run fun s =>
  let e := 16 * s.now + frac.val
  if !s.is LOOP_SPCFG_SPREF_EN then s
  else match s.spin0.lastEdge with
    | none => s.sprefAccept e
    | some p =>
      let nom := s.nominal
      if (((e : Int) - p) * 2 ^ 16 - nom).natAbs * 1000000 ≤ nom * s.get LOOP_SPREF_SPREF_TOL then s.sprefAccept e
      else (s.spinBoth (fun x => { x with run := 0 })).countSat LOOP_SPREF_MISS_COUNT

/-- SPREF_LOST (R347): no accepted edge for 3 nominal periods. -/
def execSprefLost (s : State) : Res := s.run fun s =>
  match s.spin0.lastEdge with
  | none => s
  | some p =>
    if s.is LOOP_SPCFG_SPREF_EN && decide (p * 2 ^ 16 + 3 * s.nominal ≤ 16 * s.now * 2 ^ 16) then
      ((s.spinBoth (fun x => { x with lastEdge := none, run := 0, periods := [] })).set LOOP_STAT_SPREF_OK 0).raise
        srcSPREFLOST 0 (orgInt 13 0 0)
    else s

end Sys2Proof.Machine
end

