-- ==== Sys2Proof/Machine/CalSlew.lean ====
section
/-! DEFINITION. Machine/CalSlew.lean: the calibration tables, and how the working values of the slewed ones move (R487,
R488). -/

namespace Sys2Proof.Machine

/-- The key of word `w` of entry `e` of the table with TABLE_ID `t`. -/
def calKey (t e w : Nat) : Nat := (t * 32 + e) * 4 + w

/-- TABLE_IDs of cluster c (R487). -/
def tblADC (c : Nat) : Nat := 0x40 + c
def tblAFE (c : Nat) : Nat := 0x48 + c
def tblHEAT (c : Nat) : Nat := 0x50 + c
def tblMA (c : Nat) : Nat := 0x58 + c
def tblVCM (c : Nat) : Nat := 0x60 + c
def tblTIMEBASE : Nat := 0x68

/-- Entries and words of a table (R487). -/
def tblEntries (t : Nat) : Nat := if 0x40 ≤ t ∧ t < 0x60 then 32 else if 0x60 ≤ t ∧ t ≤ 0x68 then 1 else 0
def tblWords (t : Nat) : Nat :=
  if 0x40 ≤ t ∧ t < 0x48 then 4 else if 0x48 ≤ t ∧ t < 0x58 then 2 else if 0x58 ≤ t ∧ t ≤ 0x68 then 1 else 0

/-- The keys of a table. -/
def tblKeys (t : Nat) : List Nat :=
  ((List.range (tblEntries t)).map (fun e => (List.range (tblWords t)).map (calKey t e))).flatten

/-- The fields of a word of an ADC or AFE table: lowest bit, width, signed or not (R487). -/
def calFields (t w : Nat) : List (Nat × Nat × Bool) :=
  if t < 0x48 then
    (if w = 0 ∨ w = 3 then [(0, 8, true), (8, 8, true), (16, 8, true), (24, 8, true)]
     else [(0, 16, false), (16, 16, false)])
  else if w = 0 then [(0, 16, true), (16, 16, true)]
  else [(0, 5, true)]

/-- One field of a word moves one step (R351). -/
def slewField (target : Nat) (v : Nat) (x : Nat × Nat × Bool) : Nat :=
  let rd (n : Nat) : Int := if x.2.2 then signed x.2.1 (bitsOf n x.1 x.2.1) else (bitsOf n x.1 x.2.1 : Nat)
  putBits v x.1 x.2.1 (unsign x.2.1 (slewStep (rd v) (rd target)))

/-- A word of a slewed table moves one step. -/
def slewWord (t w work target : Nat) : Nat :=
  if work = target then work else (calFields t w).foldl (slewField target) work

/-- The working value of a word. -/
def State.calWork (s : State) (k : Nat) : Nat := tget 0 s.cal.work k

/-- The registers of one lane show the working values of its ADC entry (R160, R487). -/
def State.showAdc (s : State) (c f : Nat) : State :=
  let w (i : Nat) : Nat := s.calWork (calKey (tblADC c) f i)
  State.each s (fun j s =>
    ((s.set (LAN_ADCOFF_OFFSET c f j) (bitsOf (w 0) (8 * j) 8)).set (LAN_ADCGAIN_GAIN c f j)
      (bitsOf (w (1 + j / 2)) (16 * (j % 2)) 16)).set (LAN_ADCSKEW_SKEW c f j) (bitsOf (w 3) (8 * j) 8)) (List.range 4)

/-- The working values of one lane's ADC and AFE entries move (R488). -/
def State.calLane (s : State) (c f : Nat) : State :=
  let go (t : Nat) (s : State) (w : Nat) : State :=
    let k := calKey t f w
    let v := slewWord t w (s.calWork k) (tget 0 s.cal.target k)
    if v = s.calWork k then s else { s with cal := { s.cal with work := tset 0 s.cal.work k v } }
  let r := (List.range 2).foldl (go (tblAFE c)) ((List.range 4).foldl (go (tblADC c)) s)
  if r.cal.work = s.cal.work then s else r.showAdc c f

/-- A WD of cluster c (R488). -/
def State.calWd (s : State) (c : Nat) : State :=
  if s.cal.work = s.cal.target then s else State.each s (fun f s => s.calLane c f) (List.range 32)

/-- The CTF boost of a fragment: the zone's code with the lane's BOOST_TRIM, held within 0 to 24 (R487, R488). -/
def State.boostOf (s : State) (c f zone : Nat) : Nat :=
  (max 0 (min 24 ((zone : Int) + signed 5 (s.calWork (calKey (tblAFE c) f 1))))).toNat

end Sys2Proof.Machine
end

