-- ==== Sys2Proof/Machine/Codec.lean ====
section
/-! DEFINITION. Machine/Codec.lean: the fragment on the media: its 4,224 bytes and CRC-64 (R199, R200), the LDPC code (R201), the
channel bits (R198, R202, R203, R206), and the layered min-sum decoder (R219, R222, R223). -/

namespace Sys2Proof.Machine

/-! ### Bytes and metadata (R199) -/

/-- The low `n` bytes of a number, little-endian (R15). -/
def leBytes (n v : Nat) : List Nat := (List.range n).map (fun i => bitsOf v (8 * i) 8)

/-- The number whose little-endian bytes these are. -/
def ofBytes : List Nat → Nat
  | [] => 0
  | b :: l => b % 2 ^ 8 + 2 ^ 8 * ofBytes l

/-- The bytes of 32-bit words. -/
def wordBytes (l : List Nat) : List Nat := (l.map (leBytes 4)).flatten

/-- `n` words from bytes. -/
def bytesWords : Nat → List Nat → List Nat
  | 0, _ => []
  | n + 1, l => ofBytes (l.take 4) :: bytesWords n (l.drop 4)

/-- The metadata of a fragment (R199). -/
structure Meta where
  seed : Nat
  stripe : Nat
  wseq : Nat
  burgee : Nat
  role : Nat
  format : Nat
  deriving DecidableEq, Repr

/-- Bytes 4,096 to 4,215 (R199): reserved bits and bytes are 0. -/
def Meta.bytes (m : Meta) : List Nat :=
  leBytes 6 m.seed ++ leBytes 6 m.stripe ++ leBytes 4 m.wseq ++ leBytes 2 (m.burgee % 2 ^ 12) ++ [m.role % 2 ^ 5] ++
    [m.format % 2 ^ 8] ++ List.replicate 100 0

/-- The initial value of the CRC-64 (R200). -/
def crcSeed (seed role : Nat) : Nat := 2 ^ 64 - 1 - (seed % 2 ^ 48 * 2 ^ 16 + role % 2 ^ 8 * 2 ^ 8 + 0x5A)

/-- The CRC-64 of bytes 0 to 4,215 under a SEED and a ROLE (R200). -/
def crc64 (seed role : Nat) (bytes : List Nat) : Nat :=
  crcBits 64 0x42F0E1EBA9EA3693 (crcSeed seed role) (bytes.map (bitsMsb 8)).flatten ^^^ (2 ^ 64 - 1)

/-- The 4,224 bytes of a fragment: 1,024 words of data or parity, the metadata, and the CRC (R199). -/
def fragBytes (data : List Nat) (m : Meta) : List Nat :=
  let body := wordBytes ((List.range 1024).map (fun i => data.getD i 0)) ++ m.bytes
  body ++ leBytes 8 (crc64 m.seed m.role body)

/-- The check of R200: the CRC, and the decoded SEED and ROLE against those expected. -/
def fragOk (seed role : Nat) (bytes : List Nat) : Bool :=
  crc64 seed role (bytes.take 4216) == ofBytes ((bytes.drop 4216).take 8) &&
    ofBytes ((bytes.drop 4096).take 6) == seed % 2 ^ 48 && bytes.getD 4114 0 % 2 ^ 5 == role

/-! ### The LDPC code (R201) -/

/-- Whether block (r, c) of H is nonzero. -/
def hasBlock (r c : Nat) : Bool :=
  if c < 88 then r == c % 8 || r == (c + 3) % 8 || r == (c + 5) % 8 || decide (c < 24) && r == (c + 6) % 8
  else if c < 95 then r == c - 88 || r == c - 87
  else r == 7

/-- The shift of a nonzero block. -/
def blockShift (r c : Nat) : Nat := if c < 88 then (37 * (r + 1) * (c + 1) + 11 * r) % 384 else 0

/-- The identity shifted right by `k` times a block of 384 bits: bit i of the product is bit (i + k) mod 384. -/
def rotBlock (k x : Nat) : Nat := x / 2 ^ k + x % 2 ^ k * 2 ^ (384 - k)

/-- Block c of a word. -/
def colOf (w c : Nat) : Nat := bitsOf w (384 * c) 384

/-- The sum of row r of H over the blocks of a word in a list of columns. -/
def rowSum (w r : Nat) : List Nat → Nat
  | [] => 0
  | c :: cs => (if hasBlock r c then rotBlock (blockShift r c) (colOf w c) else 0) ^^^ rowSum w r cs

/-- The parity block of row r, from the sum of the row's info blocks and the parity block before it: the staircase. -/
def parityBlock (info : Nat) : Nat → Nat
  | 0 => rowSum info 0 (List.range 88)
  | r + 1 => parityBlock info r ^^^ rowSum info (r + 1) (List.range 88)

/-- The codeword of 33,792 info bits. -/
def ldpcEncode (info : Nat) : Nat :=
  (List.range 8).foldl (fun w r => w + parityBlock info r * 2 ^ (384 * (88 + r))) (info % 2 ^ 33792)

/-- The syndrome of a word is zero. -/
def syndromeZero (w : Nat) : Bool := (List.range 8).all (fun r => rowSum w r (List.range 96) == 0)

/-- The info bits of a fragment: bit i is bit (i mod 8) of byte floor(i / 8). -/
def infoOf (bytes : List Nat) : Nat := ofBytes bytes % 2 ^ 33792

/-! ### Channel bits (R198, R202, R203, R206) -/

/-- The write-current polarity of a channel bit (R202). -/
def polarity (b : Bool) : Int := if b then 1 else -1

/-- The sum of the polarities of some bits. -/
def digitalSum (l : List Bool) : Int := l.foldl (fun n b => n + polarity b) 0

/-- One group: its DC-control bit, chosen for the smaller running digital sum at its end and 0 at a tie, and its 64 bits, each
inverted where that bit is 1 (R202, R203). -/
def dcGroup (rds : Int) (l : List Bool) : List Bool :=
  let d := digitalSum l
  if (rds + 1 - d).natAbs < (rds - 1 + d).natAbs then true :: l.map (fun b => !b) else false :: l

/-- The groups from group `g` on, `n` of them. -/
def dcGroups (w : Nat) : Nat → Nat → Int → List Bool
  | 0, _, _ => []
  | n + 1, g, rds =>
    let l := dcGroup rds (bitsLsb 64 (bitsOf w (64 * g) 64))
    l ++ dcGroups w n (g + 1) (rds + digitalSum l)

/-- `n` bits of the pattern 0011, starting with the first 0. -/
def pattern0011 (n : Nat) : List Bool := (List.range n).map (fun i => decide (2 ≤ i % 4))

/-- The sync pattern and the mark of a RESYNC field. -/
def syncMark : Nat := 0xA7C21E5B
def resyncMark : Nat := 0xE4B1

/-- The channel bits of a fragment that is not split (R198). -/
def fragChannel (pre : Nat) (bytes : List Nat) : List Bool :=
  pattern0011 (16 * pre) ++ bitsMsb 32 syncMark ++ dcGroups (ldpcEncode (infoOf bytes)) 576 0 0 ++ pattern0011 64

/-- A RESYNC field (R206). -/
def resyncField : List Bool := pattern0011 48 ++ bitsMsb 16 resyncMark

/-- The bits written in each data region: all of them, or the first `n` and, after a RESYNC field, the rest (R206). -/
def splitAt' (cut : Option Nat) (l : List Bool) : List (List Bool) :=
  match cut with
  | none => [l]
  | some n => [l.take n, resyncField ++ l.drop n]

/-! ### Decoding (R219, R222, R223) -/

/-- A symbol as a decoder takes it: its LLR code, of which −32 counts as 0, and its sample code. -/
abbrev Symbol := Int × Int

/-- The LLR of a symbol as the receiver takes it (R212). -/
def llrOf (q : Int) : Int := if q = -32 then 0 else q

/-- An LLR held to a magnitude. -/
def capTo (m q : Int) : Int := max (-m) (min m q)

/-- The decoder unit's removal of DC-control symbols (R219): groups of 65, of which a negative first symbol negates the LLRs of
the group, held to its magnitude. -/
def dropDc : Nat → List Symbol → List Int
  | 0, _ => []
  | n + 1, l =>
    match l with
    | [] => []
    | d :: _ =>
      let k := llrOf d.1
      ((l.drop 1).take 64).map (fun x => capTo k.natAbs (if k < 0 then - llrOf x.1 else llrOf x.1)) ++ dropDc n (l.drop 65)

/-- A message of 8 bits (R222). -/
def msg8 (x : Int) : Int := max (-128) (min 127 x)

/-- What a decoder works on: the LLR of each codeword bit, and the message of each check to each of its bits. -/
structure Messages where
  llr : Array Int
  msg : Array Int
  deriving DecidableEq, Repr

/-- The LLR of a bit, and the message of check `k` (row 384 r + i) from its block column `c`. -/
def Messages.l (x : Messages) (b : Nat) : Int := x.llr.getD b 0
def Messages.m (x : Messages) (k c : Nat) : Int := x.msg.getD (96 * k + c) 0

/-- The block columns of a row. -/
def rowCols (r : Nat) : List Nat := (List.range 96).filter (hasBlock r)

/-- The codeword bit of column `c` in check i of row r. -/
def bitIn (r c i : Nat) : Nat := 384 * c + (i + blockShift r c) % 384

/-- The least magnitude of a list of messages. -/
def leastMag (l : List Int) : Nat := l.foldl (fun m x => min m x.natAbs) 128

/-- The offset min-sum message from the other messages of a check. -/
def minSum (others : List Int) : Int :=
  let m : Int := max 0 ((leastMag others : Int) - Config.minSumOffset)
  if others.foldl (fun p x => xor p (decide (x < 0))) false then -m else m

/-- One check (R222): its old messages leave the LLRs, its new ones enter them. -/
def checkStep (r : Nat) (x : Messages) (i : Nat) : Messages :=
  let k := 384 * r + i
  let ins := (rowCols r).map (fun c => (c, msg8 (x.l (bitIn r c i) - x.m k c)))
  ins.foldl (fun y p =>
    let n := msg8 (minSum ((ins.filter (fun o => o.1 != p.1)).map Prod.snd))
    { llr := y.llr.setIfInBounds (bitIn r p.1 i) (msg8 (p.2 + n)), msg := y.msg.setIfInBounds (96 * k + p.1) n }) x

/-- One inner iteration: the eight layers in order. -/
def iterate (x : Messages) : Messages :=
  (List.range 8).foldl (fun x r => (List.range 384).foldl (checkStep r) x) x

/-- The hard decisions: a bit is 1 where its LLR is negative (R212). -/
def Messages.word (x : Messages) : Nat := numOfBits 36864 (fun b => decide (x.l b < 0))

/-- At most `n` inner iterations: how many ran, whether the last met a zero syndrome, and the messages it left. -/
def iterations : Nat → Messages → Nat × Bool × Messages
  | 0, x => (0, false, x)
  | n + 1, x =>
    let y := iterate x
    if syndromeZero y.word then (1, true, y)
    else
      let r := iterations n y
      (r.1 + 1, r.2)

/-- The messages a pass starts from. -/
def Messages.start (l : List Int) : Messages :=
  ⟨((l ++ List.replicate 36864 0).take 36864).toArray, (List.replicate (96 * 3072) 0).toArray⟩

/-- The extrinsic LLRs that the first pass leaves. -/
def extrinsic (first : List Int) (x : Messages) : List Int := x.llr.toList.zipWith (· - ·) first

/-- The LLRs of a second pass: the re-detection in the decoder unit over the fragment's samples, with the extrinsic LLRs as a
priori information (R223); the spec does not give its arithmetic. -/
def redetected (symbols : List Symbol) (first : List Int) (x : Messages) : List Int :=
  Config.redetect (symbols.map Prod.snd) (extrinsic first x)

/-- The first pass over the symbols of one framing, of at most `n` iterations. -/
def passOne (symbols : List Symbol) (n : Nat) : Nat × Bool × Messages := iterations n (Messages.start (dropDc 576 symbols))

/-- The second pass, after a first of 12 iterations. -/
def passTwo (symbols : List Symbol) (n : Nat) : Nat × Bool × Messages :=
  let first := dropDc 576 symbols
  iterations n (Messages.start (redetected symbols first (passOne symbols 12).2.2))

/-- The 4,224 bytes of the info bits of a codeword. -/
def infoBytes (w : Nat) : List Nat := leBytes 4224 w

end Sys2Proof.Machine
end

