-- ==== Sys2Proof/Machine/Detector.lean ====
section
/-! DEFINITION. Machine/Detector.lean: the read channel from raw samples to symbols: resampling, timing, gain and equalizer loops,
sync search, detection, thermal asperities, and the flits of a packet (R207 to R215, R218, R219). -/

namespace Sys2Proof.Machine

/-! ### What a fragment's channel is set to -/

/-- The fields of a zone entry that the read channel uses (R205), with the sub-ADC coefficients (R160). -/
structure ChanCfg where
  bitper : Nat
  off : List Int
  adc : List Nat
  agcTgt : Nat
  pre : Nat
  win : Nat
  thr : Nat
  kpAcq : Nat
  kiAcq : Nat
  kpTrk : Nat
  kiTrk : Nat
  t1 : Rat
  t2 : Rat
  t3 : Rat
  agAcq : Nat
  agTrk : Nat
  mu : Nat
  taThr : Nat
  deriving DecidableEq, Repr

/-- 2^−n. -/
def half (n : Nat) : Rat := 1 / (2 ^ n : Nat)

/-- A rational rounded to the nearest whole number, or to the grid of whole numbers in the free direction. -/
def nearRat (place : Nat) (x : Rat) : Int := roundNear place x.num x.den
def freeRat (place : Nat) (x : Rat) : Int := roundFree place x.num x.den

/-- The amplitude in sample codes of one unit of R213 at a zone's AGC_TGT: the spec states the unit and not its size. -/
def ChanCfg.unit (z : ChanCfg) : Rat := Config.sampleUnit z.agcTgt

/-- The place of the first SYNC bit among the bits since the gate opened, 64 bits before the preamble (R208). -/
def ChanCfg.e (z : ChanCfg) : Nat := 64 + 16 * z.pre

/-! ### The target and its trellis (R211, R212) -/

/-- The target response to a bit and the three before it. -/
def ChanCfg.resp (z : ChanCfg) (b b1 b2 b3 : Bool) : Rat :=
  polarity b + z.t1 * polarity b1 + z.t2 * polarity b2 + z.t3 * polarity b3

/-- The squared distance of a sample from the response in trellis state `q`: the three bits before, the last in bit 0. -/
def ChanCfg.dist (z : ChanCfg) (y : Rat) (b : Bool) (q : Nat) : Rat :=
  let d := y - z.resp b (bitAt q 0) (bitAt q 1) (bitAt q 2)
  d * d

/-- The lesser of two path metrics, where a path that is ruled out has none. -/
def lesser : Option Rat → Option Rat → Option Rat
  | none, b => b
  | a, none => a
  | some a, some b => some (if a ≤ b then a else b)

/-- One step of the path metrics over a sample, all bits allowed or only one. -/
def ChanCfg.step (z : ChanCfg) (only : Option Bool) (m : List (Option Rat)) (y : Rat) : List (Option Rat) :=
  (List.range 8).map (fun n =>
    let b := bitAt n 0
    if only = some (!b) then none
    else
      let from' (q : Nat) : Option Rat := (m.getD q none).map (fun a => a + z.dist y b q)
      lesser (from' (n / 2)) (from' (n / 2 + 4)))

/-- The best metric over a window in which the first bit is `b`. -/
def ChanCfg.best (z : ChanCfg) (alpha : List Rat) (w : List Rat) (b : Bool) : Rat :=
  match w with
  | [] => 0
  | y :: ys =>
    let m := ys.foldl (z.step none) (z.step (some b) (alpha.map some) y)
    (m.foldl lesser none).getD 0

/-- The path metrics after one more sample. -/
def ChanCfg.advance (z : ChanCfg) (alpha : List Rat) (y : Rat) : List Rat :=
  (z.step none (alpha.map some) y).map (fun a => a.getD 0)

/-- The path metrics before anything is known. -/
def alpha0 : List Rat := List.replicate 8 0

/-! ### The loops, bit by bit (R207 to R211) -/

/-- A bit of the preamble by its place since the gate opened. -/
def preambleBit (k : Nat) : Bool := decide (2 ≤ k % 4)

/-- The target response of the known pattern at a bit. -/
def ChanCfg.known (z : ChanCfg) (k : Nat) : Rat :=
  z.resp (preambleBit k) (preambleBit (k + 3)) (preambleBit (k + 2)) (preambleBit (k + 1))

/-- The target response of the decisions, from the newest decided bit back. -/
def ChanCfg.decided (z : ChanCfg) (l : List Bool) : Rat :=
  z.resp (l.getD 0 false) (l.getD 1 false) (l.getD 2 false) (l.getD 3 false)

/-- What the loops of one bit do: nothing, run on the known pattern, hold their integral term, or run on decisions. -/
inductive LoopMode where
  | open' | acquire | hold | track
  deriving DecidableEq, Repr

/-- The mode at bit `k` (R208, R209). Between the start of the sync window and the first candidate no pattern is known, and the
loops hold (log 70). -/
def ChanCfg.mode (z : ChanCfg) (ch : Chan) : LoopMode :=
  if ch.coast then .hold
  else if ch.bit < 64 + 48 then .open'
  else if !ch.cands.isEmpty then .track
  else if ch.bit + z.win < z.e then .acquire
  else .hold

/-- The sum of taps times samples, newest sample first. -/
def firSum : List Rat → List Rat → Rat
  | t :: ts, x :: xs => t * x + firSum ts xs
  | _, _ => 0

/-- The 10-bit range of a tap. -/
def capTap (t : Rat) : Rat := max (-2) (min t (511 / 256))

/-- The sign of a number. -/
def signOf (x : Rat) : Rat := if x = 0 then 0 else if x < 0 then -1 else 1

/-- The timing loop (R209): the integral term and the correction, from a phase error and the shifts in force. -/
def timing (integ e : Rat) (kp ki : Nat) : Rat × Rat := (integ + e * half (ki + 6), e * half kp + (integ + e * half (ki + 6)))

/-- The mean of a list. -/
def mean (l : List Rat) : Rat := l.foldl (· + ·) 0 / (l.length : Nat)

/-- The VGA code after a change, which is rounded toward zero (R210). -/
def stepGain (g : Nat) (d : Rat) : Nat := (max 0 (min 240 ((g : Int) + towardZero d.num d.den))).toNat

/-- The gain loop at the end of a group of eight bits (R210). -/
def ChanCfg.agc (z : ChanCfg) (m : LoopMode) (ch : Chan) : Nat :=
  if (ch.bit + 1) % 8 ≠ 0 then ch.gain
  else match m with
    | .acquire => stepGain ch.gain (((z.agcTgt : Rat) - (ch.xs.take 8).foldl (fun p x => max p |x|) 0) * half z.agAcq)
    | .track => stepGain ch.gain
        (mean ((ch.ys.take 8).map (fun y => (z.agcTgt : Rat) - |y.1 * z.unit|)) * half z.agTrk)
    | _ => ch.gain

/-- Decided bits: the bit eight back is decided with the eight samples after it (R209); log 70. -/
def ChanCfg.decide8 (z : ChanCfg) (ch : Chan) : Chan :=
  if ch.ys.length < 9 then ch
  else
    let w := ((ch.ys.take 9).map Prod.fst).reverse
    let b := decide (z.best ch.alpha w true < z.best ch.alpha w false)
    { ch with bits := b :: ch.bits, alpha := z.advance ch.alpha (w.headD 0) }

/-- The Hamming distance of the newest decided bits from a mark of `n` bits. -/
def markDist (n mark : Nat) (bits : List Bool) : Nat :=
  ((List.range n).filter (fun i => bits.getD i false != bitAt mark i)).length

/-- The newest 32 decided bits may be a sync candidate (R215). -/
def ChanCfg.look (z : ChanCfg) (ch : Chan) : Chan :=
  let p : Int := (ch.bit : Int) - 8 - 31 - z.e
  let d := markDist 32 syncMark ch.bits
  if !ch.coast && 32 ≤ ch.bits.length && decide (p.natAbs ≤ z.win ∧ d ≤ z.thr) then { ch with cands := ch.cands ++ [(p, d)] }
  else ch

/-- Equalizer, noise and timing in tracking, on the bit eight back (R209, R211, R212). -/
def ChanCfg.track (z : ChanCfg) (ch : Chan) : Chan × Rat :=
  let d := z.decided ch.bits
  let y := (ch.ys.getD 8 (0, 0)).1
  let t := timing ch.integ (y * z.decided (ch.bits.drop 1) - (ch.ys.getD 9 (0, 0)).1 * d) z.kpTrk z.kiTrk
  let err := d - y
  let taps := ch.taps.mapIdx (fun i w => capTap (w + half z.mu * signOf err * signOf (ch.xs.getD (8 + i) 0)))
  ({ ch with taps := taps, integ := t.1, sigma := ch.sigma + (err * err * z.unit * z.unit - ch.sigma) / 1024 }, t.2)

/-- The loops at one bit: the channel after them and the timing correction in bit periods. -/
def ChanCfg.loops (z : ChanCfg) (m : LoopMode) (ch : Chan) : Chan × Rat :=
  match m with
  | .acquire =>
    let e := (ch.ys.getD 0 (0, 0)).1 * z.known (ch.bit + 3) - (ch.ys.getD 1 (0, 0)).1 * z.known ch.bit
    let t := timing ch.integ e z.kpAcq z.kiAcq
    ({ ch with integ := t.1 }, t.2)
  | .track => z.track ch
  | _ => (ch, ch.integ)

/-- Step 2 of R208, at preamble bit 47: phase from the correlation of 32 samples, VGA code from their mean amplitude; the spec
gives neither formula. -/
def ChanCfg.acquired (z : ChanCfg) (ch : Chan) : Chan :=
  if ch.bit = 64 + 47 ∧ ch.coast = false then
    { ch with next := ch.next + Config.preamblePhase ch.xs
              gain := min 240 (Config.preambleGain z.agcTgt (mean (ch.xs.map (fun x => |x|)))) }
  else ch

/-- One resampled sample: one channel bit. -/
def ChanCfg.onBit (z : ChanCfg) (ch : Chan) (x : Rat) : Chan :=
  let ch := { ch with xs := (x :: ch.xs).take 32 }
  let y := firSum ch.taps ch.xs / z.unit
  let ch := z.look (z.decide8 { ch with ys := (y, ch.sigma) :: ch.ys })
  let m := z.mode ch
  let r := z.loops m { ch with gain := z.agc m ch }
  let ch := z.acquired r.1
  { ch with bit := ch.bit + 1, next := ch.next + z.bitper + freeRat 207 (r.2 * z.bitper) }

/-- The resampler's output at the place of the next sample (R207): eight samples, one of 64 phases. -/
def Chan.interpolate (ch : Chan) : Rat :=
  let phase := (ch.next % 2 ^ 24).toNat / 2 ^ 18
  (ch.raw.mapIdx (fun i x => Config.polyphase phase i * ((x : Rat) / 4))).foldl (· + ·) 0

/-- One raw sample of the lane's ADC (R159, R160, R207): it is corrected, and a bit is output once the samples around its place
have come. -/
def ChanCfg.sample (z : ChanCfg) (ch : Chan) (x : BitVec 7) : Chan :=
  let j := ch.count % 4
  let y := adcCorrect x.toInt (z.off.getD j 0) (z.adc.getD j 4096)
  let ch := { ch with count := ch.count + 1, raw := (y :: ch.raw).take 8 }
  if ch.next / 2 ^ 24 + 4 < (ch.count : Int) then z.onBit ch ch.interpolate else ch

/-- Raw samples in order. -/
def ChanCfg.feed (z : ChanCfg) (ch : Chan) (l : List (BitVec 7)) : Chan := l.foldl z.sample ch

/-- Saturated samples (R164). -/
def saturated (l : List (BitVec 7)) : Nat := (l.filter (fun x => x == 63 || x == 64)).length

/-! ### Candidates (R215, R217, R218) -/

/-- A candidate: its offset from the expected position and its Hamming distance. -/
abbrev Cand := Int × Nat

/-- The rank of R215: by distance, then by |p − E|, then by smaller p. -/
def candBefore (a b : Cand) : Bool :=
  a.2 < b.2 || (a.2 == b.2 && (a.1.natAbs < b.1.natAbs || (a.1.natAbs == b.1.natAbs && decide (a.1 < b.1))))

/-- Inserting a candidate in order of rank. -/
def rankIn (a : Cand) : List Cand → List Cand
  | [] => [a]
  | b :: l => if candBefore a b then a :: b :: l else b :: rankIn a l

/-- Candidates in order of rank. -/
def ranked (l : List Cand) : List Cand := l.foldl (fun r a => rankIn a r) []

/-- The channel crosses a servo field: a new data region begins (R206, R209). -/
def Chan.newRegion (ch : Chan) : Chan := { ch with count := 0, raw := [], next := 0, coast := true }

/-- The RESYNC candidates among the bits decided since bit `r`, where the field began: within ±4 bits of the 48 bits after
it, at a distance of at most 2 (R218). -/
def Chan.resyncCands (ch : Chan) (r : Nat) : List Cand :=
  ((List.range 9).map (fun i =>
    let p := r + 44 + i
    -- The newest decided bit is bit (bit − 9); the mark's last bit is bit p + 15.
    ((i : Int) - 4, if ch.bit < p + 24 then 16 else markDist 16 resyncMark (ch.bits.drop (ch.bit - 9 - (p + 15)))))).filter
      (fun a => decide (a.2 ≤ 2))

/-- After a RESYNC mark found at bit p: the field's samples are no symbols, and the loops resume (R206, R209). -/
def Chan.resynced (ch : Chan) (r p : Nat) : Chan :=
  let new := ch.bit - (p + 16)
  { ch with ys := ch.ys.take new ++ ch.ys.drop (ch.bit - r), bit := ch.bit - (p + 16 - r), coast := false }

/-! ### Symbols (R212 to R214) -/

/-- The LLR code of a bit from the metrics of both its values (R212): the scaling by a variance of 0 has no stated value. -/
def llrCode (m0 m1 var : Rat) : Int :=
  if var = 0 then capTo 31 (Config.llrWithoutNoise (m1 - m0)) else capTo 31 (nearRat 212 (2 * ((m1 - m0) / (2 * var))))

/-- The LLR codes of a stream of equalized samples, oldest first, from the path metrics before it: each bit with a window of 64
bits after it (R212; log 70). -/
def ChanCfg.detect (z : ChanCfg) (alpha : List Rat) : List (Rat × Rat) → List Int
  | [] => []
  | y :: l =>
    let w := y.1 :: (l.take 64).map Prod.fst
    llrCode (z.best alpha w false) (z.best alpha w true) (y.2 / (z.unit * z.unit)) ::
      ChanCfg.detect z (z.advance alpha y.1) l

/-- The sample code of R213. -/
def sampleCode (y : Rat) : Int := capTo 31 (nearRat 213 (8 * y))

/-- Whether the magnitude of the 16-bit moving average exceeds TA_THR / 8 codes, bit by bit; `w` holds the last samples (R214). -/
def ChanCfg.hot (z : ChanCfg) (w : List Rat) : List (Rat × Rat) → List Bool
  | [] => []
  | y :: l =>
    let w := (y.1 :: w).take 16
    decide ((z.taThr : Rat) / 8 < |mean w * z.unit|) :: ChanCfg.hot z w l

/-- Asperities declared: the bits at which the average rises above the threshold (R214). -/
def spansOf : Bool → List Bool → Nat
  | _, [] => 0
  | p, b :: l => (if b && !p then 1 else 0) + spansOf b l

/-- The bits sent as zero: from 32 before a declaration to 32 after the average returns below (R214). -/
def zeroedBits (hot : List Bool) : List Bool :=
  (List.range hot.length).map (fun k => (List.range 66).any (fun i => 33 ≤ k + i && hot.getD (k + i - 33) false))

/-- What a read leaves: the symbols of its stream, the asperities declared and the bits zeroed in it. -/
structure Stream' where
  symbols : List Symbol
  spans : Nat
  zeroed : Nat
  deriving DecidableEq, Repr

/-- The symbols of a fragment: `n` bits from bit `start` on (R212 to R214, R217). -/
def ChanCfg.symbols (z : ChanCfg) (ch : Chan) (start n : Nat) : Stream' :=
  let all := ch.ys.reverse
  let alpha := ((all.take start).map Prod.fst).foldl z.advance alpha0
  let body := (all.drop start).take n
  let hot := z.hot [] body
  let zero := zeroedBits hot
  let raw := (z.detect alpha ((all.drop start))).take n
  ⟨(List.range body.length).map (fun i =>
      if zero.getD i false then (0, 0) else (raw.getD i 0, sampleCode (body.getD i (0, 0)).1)),
    spansOf false hot, (zero.filter id).length⟩

/-! ### Flits (R219) -/

/-- A HEAD flit. -/
def headFlit (cluster surface seed role : Nat) (all : Bool) (due delta : Nat) (h1First : Bool) : Nat :=
  1 + cluster % 2 * 2 ^ 2 + surface % 32 * 2 ^ 3 + seed % 2 ^ 48 * 2 ^ 8 + role % 32 * 2 ^ 56 + (if all then 2 ^ 61 else 0) +
    due % 2 ^ 16 * 2 ^ 62 + delta % 2 ^ 16 * 2 ^ 78 + (if h1First then 2 ^ 94 else 0)

/-- One symbol in its place of a DATA flit. -/
def symbolField (i : Nat) (x : Symbol) : Nat := unsign 6 x.1 * 2 ^ (8 + 12 * i) + unsign 6 x.2 * 2 ^ (14 + 12 * i)

/-- A DATA flit of at most eight symbols. -/
def dataFlit (l : List Symbol) : Nat := (l.mapIdx symbolField).foldl (· + ·) 2

/-- The DATA flits of `n` groups of eight symbols. -/
def dataFlits : Nat → List Symbol → List Nat
  | 0, _ => []
  | n + 1, l => dataFlit (l.take 8) :: dataFlits n (l.drop 8)

/-- A TAIL flit. -/
def tailFlit (sent zeroed last : Nat) : Nat := 3 + sent % 2 ^ 24 * 2 ^ 8 + zeroed % 2 ^ 16 * 2 ^ 32 + last % 2 ^ 16 * 2 ^ 48

/-- The symbols of a DATA flit. -/
def flitSymbols (w : Nat) : List Symbol :=
  (List.range 8).map (fun i => (signed 6 (bitsOf w (8 + 12 * i) 6), signed 6 (bitsOf w (14 + 12 * i) 6)))

/-- The symbols of a packet, flit by flit: as many as its TAIL says were sent. -/
def wireSymbols (wire : List Nat) : List Symbol :=
  let sent := ((wire.find? (fun w => w % 4 == 3)).map (fun w => bitsOf w 8 24)).getD 0
  ((wire.filter (fun w => w % 4 == 2)).map flitSymbols).flatten.take sent

end Sys2Proof.Machine
end

