-- ==== Sys2Proof/Machine/Lane.lean ====
section
/-! DEFINITION. Machine/Lane.lean: the LANE unit, losing a surface, write inhibits and write starts (R92, R164 to R171,
R180, R263 to R265, R310 to R314). -/

namespace Sys2Proof.Machine

/-! ### Losing a surface (R170, R263 to R265) -/

/-- A lost surface in the open stripes: erased where read, out of the write sets (step 4 of R264). -/
def maskSurface (f : Nat) (o : OpenStripe) : OpenStripe :=
  if o.write then { o with cut := putBit o.cut f (bitAt o.wset f || bitAt o.cut f) }
  else if tget .waiting o.frags f = .erased then o else { o with frags := tset .waiting o.frags f .erased }

/-- Lane (c, f) becomes lost: it reads and writes nothing from now on, its surface is masked in every open stripe, its
bus words are 0, LANE_LOST is raised, and a third lost surface takes the cluster out of service. -/
def State.surfaceLost (s : State) (c f : Nat) : State :=
  if s.laneIsLost c f then s
  else
    let s := ((s.cutWrite c f).dropRead c f).set (LAN_STAT_LOST c f) 1
    let s := (s.setLane c f Lane.init).set (LAN_MACODE_CODE c f) 0
    let s := s.clrOff c f
    let s := s.set (STR_LOSTSURF_MASK c) (putBit (s.lostMask c) f true)
    let x := s.strOf c
    let s := s.setStr c { x with lostDirty := true, opened := x.opened.map (maskSurface f) }
    let s := (s.seqIrq c 4).fragEnd c
    let s := (s.raise (srcClu kLANE_LOST c) f (orgClu c f)).interruption (2 ^ c) 90
    if 3 ≤ popc 32 (s.lostMask c) then s.loseCluster c else s

/-! ### The LANE unit (R310, R312 to R314) -/

/-- Cells booked for a row in the current revolution of a cluster (R92). -/
def State.booked (s : State) (c key : Nat) : Nat :=
  let t := s.tlOf c
  let left := s.wpr - s.indexOf c t.now
  let hs := (s.ports.cmds.filter (fun x => x.handle != 0 && x.rowKey == key)).map Cmd.handle
  (tget Row.init t.rows key).retired + (t.slots.filter (fun w => decide (w.1 < t.now + left))).foldl (fun n w =>
    n + (w.2.cells.filter (fun p => p.2.kind != .free && hs.contains p.2.owner)).length) 0

/-- The stripe of a command that lies in a stripe slot of a cluster. -/
def State.stripeIn (s : State) (c slot : Nat) (x : Cmd) : Option CmdStripe :=
  x.stripes.find? (fun y => y.cluster == c && s.cmdSlot x y == slot)

/-- An ARM withheld under R92: an erasure of a read, a cut of a write. -/
def State.withhold (s : State) (c f slot owner : Nat) (write : Bool) : State :=
  let s := s.countSat (PRM_CLU_DEFER_DEFERS c)
  let s := if write then s.setStr c { s.strOf c with opened := markCut slot f (s.strOf c).opened }
    else s.fragResult c slot f .erased
  s.raise (srcClu kBUDGET c) owner (orgClu c f)

/-- An ARM of one lane: dropped for an aborted stripe (R313) or a lost lane, withheld above the row's booked cells, else
accepted and charged (R312). A command's write pass is not begun in a power failure (R254), nor while the repair buffer is
full (R247). -/
def State.armLane (s : State) (c slot : Nat) (write : Bool) (f : Nat) : State :=
  let t := s.tlOf c
  let h := (t.cellAt t.now f).owner
  let cmd := s.cmdByHandle? h
  let st : StripeState := ((cmd.bind (s.stripeIn c slot)).map CmdStripe.st).getD .unbegun
  let accept (s : State) : State := s.setLane c f { s.lane c f with arm := some ⟨write, slot, h⟩, ended := false }
  if s.laneIsLost c f || s.resetting.contains (.lane c f) then s
  else if st = .released then s.countSat (SEQ_ABORTDROP_COUNT c)
  else if write && st = .lost then s
  else if write && s.is LOOP_PF_STAT_PHASE && h != 0 then s
  else if write && decide (256 ≤ (s.strOf c).rbuf.length) && (cmd.map Cmd.hoisted).getD false then s
  else match cmd with
    | none => accept s
    | some x =>
      let r := tget Row.init t.rows x.rowKey
      if r.closed || decide (s.booked c x.rowKey < r.spent + 1) then
        let s := s.setTl c { t with rows := if r.used then tset Row.init t.rows x.rowKey { r with closed := true } else t.rows }
        s.withhold c f slot h write
      else accept (s.bookRow c h 1 0)

/-- ARM_READ and ARM_WRITE of a mask; GATE_ARMED once every lane has accepted or dropped it. -/
def State.armMask (s : State) (c slot mask : Nat) (write : Bool) : State :=
  (State.each s (fun f s => s.armLane c slot write f) (setBits 32 mask)).seqEvent c 10

/-- LANE_ARM_READ (R310). -/
def execLaneArmRead (c : Cluster) (mask : BitVec 32) (slot : BitVec 32) (s : State) : Res := s.run fun s =>
  s.armMask c slot.toNat mask.toNat false

/-- LANE_ARM_WRITE (R310, R314). -/
def execLaneArmWrite (c : Cluster) (mask : BitVec 32) (slot : BitVec 32) (s : State) : Res := s.run fun s =>
  s.armMask c slot.toNat mask.toNat true

/-- LANE_DISARM (R310). -/
def execLaneDisarm (c : Cluster) (mask : BitVec 32) (s : State) : Res := s.run fun s =>
  State.each s (fun f s => s.disarm c f) (setBits 32 mask.toNat)

/-- The bit period and the precompensation delays of the zone entry a write uses (R165, R166, R204). -/
def State.loadWriteZone (s : State) (c f slot : Nat) : State :=
  let z := s.slotZone c slot
  let w (i : Nat) : Nat := s.get (RCH_ZTAB_WORD c f (16 * z + i))
  let d := w 6 % 2 ^ 30 + w 7 % 2 ^ 18 * 2 ^ 30
  State.each (s.set (LAN_WRATE_WRATE c f) (w 2)) (fun i s => s.set (LAN_PRECOMP_DELAY c f i) (bitsOf d (6 * i) 6))
    (List.range 8)

/-- The metadata of a fragment of a write pass (R199, R239). -/
def State.metaOf (s : State) (c f : Nat) (o : OpenStripe) : Meta :=
  let q := s.slotQ c o.slot
  let r := roleOf q f
  let burgee := match s.cmdByHandle? o.owner with
    | some x => if x.hoisted then x.burgee else 0
    | none => 0
  ⟨seedOf c q r, 8 * q + c, o.wseq, burgee, r, s.get TOP_PERSONA_CL⟩

/-- The channel bits that a lane writes of the open stripe in a slot, by data region (R198 to R203, R206). -/
def State.writeBits (s : State) (c f slot : Nat) : List (List Bool) :=
  match (s.strOf c).opened.find? (fun o => o.slot == slot && o.write) with
  | none => []
  | some o =>
    let m := s.metaOf c f o
    splitAt' (s.splitOf c slot) (fragChannel (s.zPre c (s.slotZone c slot)) (fragBytes (tget [] o.data m.role) m))

/-- FRAGMENT_WRITE_START (R168, R180): `early` says that the confirmed mode's action time lies at least 200 ns before the
first bit. A lane that may not write stays idle, and its fragment is cut. -/
def execFragmentWriteStart (c : Cluster) (f : Surface) (early : Bool) (s : State) : Res := s.run fun s =>
  let l := s.lane c f
  match l.arm with
  | none => s
  | some a =>
    if !a.write || l.ended || l.writing then s
    else if s.get LOOP_PF_STAT_PHASE < 2 && s.get (LAN_STAT_MODE c f) == 3 && early && !s.is (LAN_STAT_WINH c f) &&
        !l.idle && !l.held && !s.laneIsLost c f then
      (s.loadWriteZone c f a.slot).setLane c f { l with writing := true, out := s.writeBits c f a.slot }
    else
      let s := if s.get (LAN_STAT_MODE c f) == 3 && early then s else s.set (LAN_FAULT_MODE_FAIL c f) 1
      let x := s.strOf c
      let s := s.setStr c { x with opened := markCut a.slot f x.opened }
      ((s.setLane c f { l with ended := true }).count (LAN_WCUT_COUNT c f)).fragEnd c

/-- ADC_STUCK (R164): while the lane reads a fragment. -/
def execAdcStuck (c : Cluster) (f : Surface) (s : State) : Res := s.run fun s =>
  if (s.lane c f).read.isSome then (s.set (LAN_FAULT_ADC_STUCK c f) 1).surfaceLost c f else s

/-- A write to LANs.CTL (R169, R170): HOST_WINH as written, and RETIRE when written 1. -/
def State.laneCtl (s : State) (o : Origin) (c f v : Nat) : State :=
  let b := bitAt v 0
  let s := (s.set (LAN_CTL_HOST_WINH c f) (if b then 1 else 0)).setWhy c f 3 b
  let s := s.logPriv o (LAN_CTL c f) v 0
  if bitAt v 1 then (s.set (LAN_CTL_RETIRE c f) 1).surfaceLost c f else s

/-- LANE_RETIRE (R170). -/
def execLaneRetire (o : Origin) (c : Cluster) (f : Surface) (s : State) : Res := s.runOn (dieOf c) fun s =>
  s.laneCtl o c f (2 + s.get (LAN_CTL_HOST_WINH c f))

/-- HOST_WINH_WRITE (R169). -/
def execHostWinhWrite (o : Origin) (c : Cluster) (f : Surface) (b : Bool) (s : State) : Res := s.runOn (dieOf c) fun s =>
  s.laneCtl o c f (if b then 1 else 0)

end Sys2Proof.Machine
end

