-- ==== Sys2Proof/Machine/Pcb.lean ====
section
/-! DEFINITION. Machine/Pcb.lean: the preamp control bus of each cluster: its frames, replies, failed exchanges, register
access and preamp faults (R172 to R183). -/

namespace Sys2Proof.Machine

def PcbKind.eqb : PcbKind → PcbKind → Bool := fun a b => decide (a = b)

/-- The preamp of a cluster is lost (R181). -/
def State.preampLost (s : State) (c : Nat) : State :=
  if s.is (SRV_PCB_STAT_LOST c) then s
  else ((s.set (SRV_PCB_STAT_LOST c) 1).raiseC kPREAMP_LOST c 0).loseCluster c

/-! ### Sending (R173, R177) -/

/-- The microactuator and the heater code that the bus carries for a lane: 0 for a lost lane (R170), the last codes during the
lane's reset window (R171), else those its loops have set. -/
def State.lineCodes (s : State) (c f : Nat) : Nat × Nat :=
  if s.laneIsLost c f then (0, 0) else (s.lane c f).codes.getD (s.get (LAN_MACODE_CODE c f), s.get (LAN_CLHEAT_CODE c f))

/-- The words of an MA frame: the microactuator code of each surface. -/
def State.maWords (s : State) (c : Nat) : List Nat := (List.range 32).map (fun f => (s.lineCodes c f).1)

/-- The words of a HEAT frame: the heater code of each surface. -/
def State.heatWords (s : State) (c : Nat) : List Nat := (List.range 32).map (fun f => (s.lineCodes c f).2)

/-- The mode a surface has once every MODE frame sent before has acted. -/
def State.modeOf (s : State) (c f : Nat) : Nat :=
  (s.pcbOf c).wait.foldl (fun m q => if q.kind.eqb .mode && bitAt q.mask f then q.mode else m) (s.get (LAN_STAT_MODE c f))

/-- The payload of a MODE frame (R175): the mode of each surface, then ACT. -/
def State.modeWords (s : State) (c : Nat) (q : PcbFrame) : List Nat :=
  let m (f : Nat) : Nat := if bitAt q.mask f then q.mode else s.modeOf c f
  ((List.range 4).map (fun w => (List.range 8).foldl (fun v i => v + m (8 * w + i) * 4 ^ i) 0)) ++ [q.act]

/-- The rank of a waiting frame (R177). -/
def PcbKind.rank : PcbKind → Nat
  | .ma => 0
  | .mode => 1
  | .heat => 2
  | .wreg => 3
  | .rreg => 4
  | .ping => 5

/-- The waiting frame that is sent next: the first of the lowest rank. -/
def firstFrame (l : List PcbFrame) : Option PcbFrame :=
  (List.range 6).findSome? (fun r => l.find? (fun q => q.kind.rank == r))

/-- A frame is sent with the next SEQ (R173); a frame with a reply joins those outstanding. -/
def State.pcbSend (s : State) (c : Nat) (q : PcbFrame) : State :=
  let p := s.pcbOf c
  let q := { q with seq := p.seqNo }
  let wait := if q.kind.eqb .ma then p.wait else p.wait ++ [q]
  s.setPcb c { p with seqNo := (p.seqNo + 1) % 16, wait := wait, line := q.bits }

/-- The heater codes that a HEAT frame carries, which the next SENSE reply answers (R335, R339). -/
def State.noteHeat (s : State) (c : Nat) : State :=
  State.each s (fun f s => s.setClr c f { s.clrOf c f with sent := (s.lineCodes c f).2 }) (List.range 32)

/-- A HEAT frame waiting to be resent. -/
def PcbFrame.reheat (q : PcbFrame) : Bool := q.kind.eqb .heat && q.resent

/-- A resend of HEAT that cannot end before the next MA start is given up: the preamp keeps its codes, and the wedge has no
readings (R178). -/
def State.dropHeat (s : State) (c : Nat) : State :=
  let p := s.pcbOf c
  if p.queue.any PcbFrame.reheat then
    (s.setPcb c { p with queue := p.queue.filter (fun q => !q.reheat) }).senseNone c
  else s

/-- The words that a waiting frame is sent with: a MODE frame carries the modes of the surfaces it does not name too. -/
def State.fillFrame (s : State) (c : Nat) (q : PcbFrame) : PcbFrame :=
  match q.kind with
  | .mode => { q with words := s.modeWords c q }
  | _ => q

/-- PCB_FRAME_SEND (R177): the next waiting frame starts; `fits` says that it ends before the next scheduled MA start. A due
MA frame goes first, then the wedge's HEAT frame, then the others by rank. DEDUCED (log 66): item 4 of R177 ranks the frames
other than those of items 1 to 3, so the wedge's own HEAT goes before a waiting MODE. -/
def execPcbFrameSend (c : Cluster) (fits : Bool) (s : State) : Res := s.run fun s =>
  let p := s.pcbOf c
  if !s.is (SRV_PCB_STAT_UP c) then s
  else if p.maDue then
    ((s.setPcb c { p with maDue := false }).pcbSend c ⟨.ma, s.maWords c, 0, 0, 0, 0, false⟩).dropHeat c
  else if p.heatDue then
    if fits then
      ((s.setPcb c { p with heatDue := false }).noteHeat c).pcbSend c ⟨.heat, s.heatWords c, 0, 0, 0, 0, false⟩
    else s
  else match firstFrame p.queue with
    | some q =>
      if fits then
        let s := s.setPcb c { p with queue := p.queue.erase q }
        s.pcbSend c (s.fillFrame c q)
      else if q.reheat then s.dropHeat c
      else s
    | none => s

/-! ### Failed exchanges (R176, R178, R179, R181) -/

/-- The register access of a cluster's preamp ends. -/
def State.pcbRegEnd (s : State) (c : Nat) (err : Bool) : State :=
  (s.set (SRV_PCB_REGSTAT_BUSY c) 0).set (SRV_PCB_REGSTAT_ERR c) (if err then 1 else 0)

/-- What becomes of a frame whose exchange has failed; `passed` counts the bit times since the frame's end. -/
def State.pcbResend (s : State) (c : Nat) (q : PcbFrame) (passed : Nat) : State :=
  let p := s.pcbOf c
  match q.kind with
  | .heat =>
    if q.resent then s.senseNone c else s.setPcb c { p with queue := p.queue ++ [{ q with resent := true }] }
  | .mode =>
    if 64 + passed ≤ q.act then s.setPcb c { p with queue := { q with act := q.act - passed, resent := true } :: p.queue }
    else s.seqEvent c 9
  | .wreg | .rreg =>
    if q.resent then s.pcbRegEnd c true else s.setPcb c { p with queue := p.queue ++ [{ q with resent := true }] }
  | .ma | .ping => s

/-- An exchange fails: A7 no longer holds for the cluster's commands (R176, R97), and sixteen in a row lose the preamp (R181).
DEDUCED (log 67): an MA frame that draws a NAK is an exchange that failed; an MA frame that draws none has no reply, is no
exchange, and so ends no run of failures. -/
def State.pcbFail (s : State) (c : Nat) (q : Option PcbFrame) (passed : Nat) : State :=
  let n := (s.pcbOf c).fails + 1
  let s := s.setPcb c { s.pcbOf c with fails := n }
  let s := s.failAssumption 7 (fun x => x.usesCluster c)
  let s := match q with
    | some q => s.pcbResend c q passed
    | none => s
  if 16 ≤ n then s.preampLost c else s

/-- The oldest exchange outstanding fails. -/
def State.pcbHeadFails (s : State) (c passed : Nat) : State :=
  let p := s.pcbOf c
  match p.wait with
  | [] => s
  | q :: qs => (s.setPcb c { p with wait := qs }).pcbFail c (some q) passed

/-- A return frame of a preamp: over a closed crossing it is discarded (R39, R40). -/
def State.fromPreamp (s : State) (c : Nat) (f : State → State) : State :=
  if s.is (TOP_CDC_STAT_CLOSED (40 + c)) then s else f s

/-- PCB_NAK (R174, R176): `ma` says that the NAK answers an MA frame, which is never resent (R178). -/
def execPcbNak (c : Cluster) (ma : Bool) (passed : BitVec 12) (s : State) : Res := s.run fun s =>
  s.fromPreamp c fun s =>
    let s := s.count (SRV_PCB_NAKS_COUNT c)
    if ma then s.pcbFail c none 0 else s.pcbHeadFails c passed.toNat

/-- PCB_BAD_FRAME (R174): a discarded return frame, taken as the reply outstanding (R176). -/
def execPcbBadFrame (c : Cluster) (passed : BitVec 12) (s : State) : Res := s.run fun s =>
  s.fromPreamp c fun s => (s.count (SRV_PCB_CRCERR_COUNT c)).pcbHeadFails c passed.toNat

/-- PCB_EXCHANGE_TIMEOUT (R176). -/
def execPcbExchangeTimeout (c : Cluster) (passed : BitVec 12) (s : State) : Res := s.run fun s =>
  if (s.pcbOf c).wait.isEmpty then s else (s.count (SRV_PCB_NORESP_COUNT c)).pcbHeadFails c passed.toNat

/-! ### Replies (R175) -/

/-- The oldest frame outstanding is answered. -/
def State.pcbAnswered (s : State) (c : Nat) : State :=
  let p := s.pcbOf c
  s.setPcb c { p with wait := p.wait.drop 1, fails := 0 }

/-- PCB_ACK (R175, R180): an ACK that names the oldest frame outstanding; a MODE frame's modes are confirmed. -/
def execPcbAck (c : Cluster) (seq : Fin 16) (s : State) : Res := s.run fun s => s.fromPreamp c fun s =>
  match (s.pcbOf c).wait with
  | [] => s
  | q :: _ =>
    if q.seq ≠ seq.val then s
    else match q.kind with
      | .mode =>
        (State.each (s.pcbAnswered c) (fun f s => s.set (LAN_STAT_MODE c f) q.mode) (setBits 32 q.mask)).seqEvent c 8
      | .wreg => (s.pcbAnswered c).pcbRegEnd c false
      | .ping => s.pcbAnswered c
      | _ => s

/-- PCB_SENSE (R335): the readings of the wedge's HEAT frame. -/
def execPcbSense (c : Cluster) (r : Vector (BitVec 16) 32) (s : State) : Res := s.run fun s => s.fromPreamp c fun s =>
  match (s.pcbOf c).wait with
  | [] => s
  | q :: _ =>
    if q.kind.eqb .heat then (s.pcbAnswered c).senseAll c (r.toList.map BitVec.toNat) else s

/-- PCB_RDATA (R175): the address and the data of a preamp register read, in answer to the RREG outstanding. -/
def execPcbRdata (c : Cluster) (addr data : BitVec 16) (s : State) : Res := s.run fun s => s.fromPreamp c fun s =>
  match (s.pcbOf c).wait with
  | [] => s
  | q :: _ =>
    if q.kind.eqb .rreg && q.words == [addr.toNat] then
      ((s.pcbAnswered c).pcbRegEnd c false).set (SRV_PCB_REGD_DATA c) data.toNat
    else s

/-! ### Register access (R178) -/

/-- A write of PCB_REGCMD: while an exchange is under way it is dropped and logged as BUSY. -/
def State.pcbReg (s : State) (o : Origin) (c op : Nat) : State :=
  if s.is (SRV_PCB_REGSTAT_BUSY c) then s.logPriv o (SRV_PCB_REGCMD c) op 2
  else
    let s := s.logPriv o (SRV_PCB_REGCMD c) op 0
    let p := s.pcbOf c
    let a := s.get (SRV_PCB_REGA_ADDR c)
    let fr : PcbFrame := if op = 2 then ⟨.wreg, [a, s.get (SRV_PCB_REGD_DATA c)], 0, 0, 0, 0, false⟩
      else ⟨.rreg, [a], 0, 0, 0, 0, false⟩
    ((s.setPcb c { p with queue := p.queue ++ [fr] }).set (SRV_PCB_REGSTAT_BUSY c) 1).set (SRV_PCB_REGSTAT_ERR c) 0

/-- PCB_REG_READ (R178). -/
def execPcbRegRead (o : Origin) (c : Cluster) (s : State) : Res := s.runOn (dieOf c) fun s => s.pcbReg o c 1

/-- PCB_REG_WRITE (R178). -/
def execPcbRegWrite (o : Origin) (c : Cluster) (s : State) : Res := s.runOn (dieOf c) fun s => s.pcbReg o c 2

/-! ### Preamp faults (R182, R183) -/

/-- What a FAULT frame does to one surface it names. -/
def State.faultSurface (s : State) (c cause f : Nat) : State :=
  let s := s.set (LAN_FAULT_PREAMP c f) 1
  if cause = 1 ∨ cause = 2 then s.setWhy c f 2 true
  else if 3 ≤ cause ∧ cause ≤ 6 then s.surfaceLost c f else s

/-- PCB_FAULT_FRAME (R182, R183). The lanes it does not name resume writing at the next wedge boundary. -/
def execPcbFaultFrame (c : Cluster) (surfaces : BitVec 32) (cause : BitVec 8) (s : State) : Res := s.run fun s =>
  s.fromPreamp c fun s =>
  let m := surfaces.toNat
  let k := cause.toNat
  let s := ((s.set (SRV_PCB_FAULT_SURFACES c 0) (m % 2 ^ 16)).set (SRV_PCB_FAULT_SURFACES c 1) (m / 2 ^ 16)).set
    (SRV_PCB_FCAUSE_CAUSE c) k
  let s := s.raiseC kPREAMP_FAULT c k
  let s := (s.setPcb c { s.pcbOf c with pflt := none }).seqIrq c 2
  let s := State.each s (fun f s => s.setLane c f { s.lane c f with resume := (s.lane c f).idle })
    ((List.range 32).filter (fun f => !bitAt m f))
  let s := State.each s (fun f s => s.faultSurface c k f) (setBits 32 m)
  if k = 0 ∨ 6 < k then s.preampLost c else s

/-- PFLT_FALL (R182): every serializer of the cluster goes idle, and the fragments being written are cut. -/
def execPfltFall (c : Cluster) (s : State) : Res := s.run fun s =>
  let s := (s.set (SRV_PCB_STAT_PFLT c) 1).setPcb c { s.pcbOf c with pflt := some 0 }
  let s := State.each s (fun f s =>
    let s := s.cutWrite c f
    s.setLane c f { s.lane c f with idle := true, resume := false }) (List.range 32)
  s.seqIrq c 2

/-- PFLT_RISE (R182). -/
def execPfltRise (c : Cluster) (s : State) : Res := s.run fun s => s.set (SRV_PCB_STAT_PFLT c) 0

/-- PFLT_NO_FAULT_FRAME (R182): four wedges after the edge. -/
def execPfltNoFaultFrame (c : Cluster) (s : State) : Res := s.run fun s =>
  match (s.pcbOf c).pflt with
  | some n => if 4 ≤ n then s.preampLost c else s
  | none => s

/-- At each wedge boundary: wedges since PFLTc_N fell are counted, and lanes that may write again resume (R171, R182). -/
def State.pcbWedge (s : State) (c : Nat) : State :=
  let s := s.setPcb c { s.pcbOf c with pflt := (s.pcbOf c).pflt.map (fun n => min (n + 1) 4) }
  State.each s (fun f s =>
    let l := s.lane c f
    let back := l.held && !s.resetting.contains (.lane c f)
    s.setLane c f { l with idle := l.idle && !l.resume, resume := false, held := l.held && !back }) (List.range 32)

end Sys2Proof.Machine
end

