-- ==== Sys2Proof/Machine/Mcb.lean ====
section
/-! DEFINITION. Machine/Mcb.lean: the motor command bus: its cycles, replies, failed exchanges, register access and the
move of its master (R184 to R191). -/

namespace Sys2Proof.Machine

def McbKind.eqb : McbKind → McbKind → Bool := fun a b => decide (a = b)

/-! ### Waiting frames (R186, R187) -/

/-- VCM modes: 0 DRIVE, 1 HOLD, 2 RETRACT, 3 OFF. -/
def vcmPayload (code : Int) (mode : Nat) : Nat := unsign 16 code + mode * 2 ^ 16

/-- A VCM command of a cluster is queued; a newer one replaces the pending one in place. From step 6 of R193 on only
RETRACT is sent. -/
def State.queueVcm (s : State) (c payload : Nat) : State :=
  let fr : McbFrame := ⟨.vcm, c, payload, 0, 0, false⟩
  if 2 ≤ s.get LOOP_PF_STAT_PHASE ∧ payload / 2 ^ 16 ≠ 2 then s
  else
    let l := s.mcb.vcm
    { s with mcb := { s.mcb with
        vcm := if l.any (fun q => q.target == c) then l.map (fun q => if q.target = c then fr else q) else l ++ [fr] } }


/-- The frame of cycle k is sent with SEQ k modulo 16 (R185), and joins those whose reply is outstanding. -/
def State.mcbSend (s : State) (k : Nat) (q : McbFrame) : State :=
  let q := { q with seq := k % 16 }
  { s with mcb := { s.mcb with flight := s.mcb.flight ++ [q], line := q.bits } }

/-- The electrical angle of a SPIN frame sent in this tick (R348): predicted for its apply time from the last zero crossing and
the current electrical period, plus ADVANCE; the last angle where none has been found. -/
def State.spinAngle (s : State) : Nat :=
  let x := s.spin0
  match x.cross with
  | some p =>
    if x.half = 0 then s.get LOOP_SPDRIVE_ANGLE
    else
      let turned := roundFree 348 (((16 * s.now + Config.spinApply : Nat) - (p : Nat) : Int) * 2048) x.half
      ((turned + Config.crossAngle + (if x.turn then 2048 else 0) + s.get LOOP_SPDRIVE_ADVANCE) % 4096).toNat
  | none => s.get LOOP_SPDRIVE_ANGLE

/-- The SPIN frame of a cycle (R345, R348): in ALIGN and RAMP the image's magnitude and angle are operands, which stay through an
ALIGN; otherwise the loop's magnitude goes with the predicted angle. -/
def State.spinFrame (s : State) (drive angle : Nat) : State × McbFrame :=
  let st := s.spState
  let open? := (st == spALIGN && !s.spin0.aligned) || st == spRAMP
  let m := if open? then min drive (s.get LOOP_SPCOEF0_DM_MAX) else s.get LOOP_SPDRIVE_DM
  let a := if open? then angle % 4096 else if st == spALIGN then s.get LOOP_SPDRIVE_ANGLE else s.spinAngle
  let s := if st == spALIGN then s.spinBoth (fun x => { x with aligned := true }) else s
  ((s.set LOOP_SPDRIVE_DM m).set LOOP_SPDRIVE_ANGLE a, ⟨.spin, 0, m + a * 4096, 0, 0, false⟩)

/-- The frame that a cycle other than a spindle cycle carries: the oldest VCM, then a register frame, then NOP. -/
def State.mcbOther (s : State) (k : Nat) : State :=
  match s.mcb.vcm with
  | q :: qs => State.mcbSend { s with mcb := { s.mcb with vcm := qs } } k q
  | [] => match s.mcb.reg with
    | some q => State.mcbSend { s with mcb := { s.mcb with reg := none } } k q
    | none => s.mcbSend k ⟨.nop, 0, 0, 0, 0, false⟩

/-- Once every RETRACT of step 6 of R193 has been sent the sequence is in phase C, the servos are PARKED (R298). -/
def State.parkDone (s : State) : State :=
  if s.get LOOP_PF_STAT_PHASE = 2 ∧ s.mcb.vcm = [] then
    State.each (s.set LOOP_PF_STAT_PHASE 3) (fun c s =>
      if s.get (SRV_STAT_STATE c) = 6 then s else s.set (SRV_STAT_STATE c) 5) (List.range 8)
  else s

/-- The frame of cycle k: an SPMODE frame that is due, the spindle's own frame in every sixteenth cycle, else another. -/
def State.mcbTurn (s : State) (k drive angle : Nat) : State :=
  match s.mcb.spmode with
  | some q =>
    if q.pf || k % 16 == 0 then State.mcbSend { s with mcb := { s.mcb with spmode := none } } k q
    else (s.mcbOther k).parkDone
  | none =>
    if k % 16 == 0 then
      let r := s.spinFrame drive angle
      r.1.mcbSend k r.2
    else (s.mcbOther k).parkDone

/-- MCB_CYCLE (R185, R187): cycle k starts at the TIME tick 50k. -/
def execMcbCycle (drive angle : BitVec 12) (s : State) : Res := s.run fun s =>
  if s.is LOOP_MCB_STAT_UP && s.now % 50 == 0 && !s.dieIsLost (s.get LOOP_MCB_STAT_MASTER) then
    s.mcbTurn (s.now / 50) drive.toNat angle.toNat
  else s

/-! ### Replies (R186, R189) -/

/-- The motor bus is lost (R189). -/
def State.motorLost (s : State) : State := (s.raise srcMOTOR 0 (orgInt 13 0 0)).loseSpindle

/-- The oldest exchange ends well. -/
def State.mcbOk (s : State) : State := { s with mcb := { s.mcb with flight := s.mcb.flight.drop 1, fails := 0 } }

/-- A frame waits again for its next eligible cycle, unless a newer one of its kind waits. -/
def State.mcbAgain (s : State) (q : McbFrame) : State :=
  match q.kind with
  | .vcm =>
    if s.mcb.vcm.any (fun x => x.target == q.target) then s else { s with mcb := { s.mcb with vcm := q :: s.mcb.vcm } }
  | .spmode => if s.mcb.spmode.isSome then s else { s with mcb := { s.mcb with spmode := some q } }
  | .wreg | .rreg => { s with mcb := { s.mcb with reg := some q } }
  | .spin | .nop => s

/-- The register access of the driver ends. -/
def State.mcbRegEnd (s : State) (q : McbFrame) : State :=
  if q.kind.eqb .wreg || q.kind.eqb .rreg then s.set LOOP_MCB_REG_BUSY 0 else s

/-- An exchange fails (R189): SPMODE, WREG and RREG are resent up to three times; 64 failures in a row lose the bus. -/
def State.mcbFail (s : State) : State :=
  match s.mcb.flight with
  | [] => s
  | q :: qs =>
    let n := s.mcb.fails + 1
    let s := State.count { s with mcb := { s.mcb with flight := qs, fails := n } } LOOP_MCB_FAILS_COUNT
    let retry := q.kind.eqb .spmode || q.kind.eqb .wreg || q.kind.eqb .rreg
    let s := if !retry then s
      else if q.tries < 3 then s.mcbAgain { q with tries := q.tries + 1 }
      else (s.set LOOP_MCB_STAT_REG_ERR 1).mcbRegEnd q
    if n = 64 then s.motorLost else s

/-- A reply of the motor driver to the oldest frame outstanding, whose SEQ it repeats (R185). It comes over the master's
crossing, which discards it while closed, and a lost master takes none (R39, R40, R189, R454). -/
def State.fromDriver (s : State) (seq : Nat) (f : McbFrame → State → State) : State :=
  let m := s.get LOOP_MCB_STAT_MASTER
  match s.mcb.flight with
  | [] => s
  | q :: _ => if q.seq ≠ seq ∨ s.is (TOP_CDC_STAT_CLOSED (48 + m)) = true ∨ s.dieIsLost m = true then s else f q s

/-- MCB_ACK (R186): the echo of an SPMODE, WREG or NOP frame. -/
def execMcbAck (seq : Fin 16) (echo : BitVec 24) (s : State) : Res := s.run fun s => s.fromDriver seq fun q s =>
  if (q.kind.eqb .spmode || q.kind.eqb .wreg || q.kind.eqb .nop) && q.payload == echo.toNat then s.mcbOk.mcbRegEnd q else s

/-- MCB_NAK (R189). -/
def execMcbNak (seq : Fin 16) (s : State) : Res := s.run fun s => s.fromDriver seq fun _ s => s.mcbFail

/-- MCB_BAD_REPLY (R189): the reply fails its CRC or does not arrive. -/
def execMcbBadReply (s : State) : Res := s.run fun s => s.mcbFail

/-- VCM_MEAS (R186): measured coil current and back-EMF of the cluster named. -/
def execVcmMeas (c : Cluster) (seq : Fin 16) (cur emf : BitVec 12) (s : State) : Res := s.run fun s =>
  s.fromDriver seq fun q s =>
    if q.kind.eqb .vcm && q.target == c.val then
      let s := s.mcbOk
      { s with mcb := { s.mcb with meas := tset (0, 0) s.mcb.meas c (cur.toNat, emf.toNat) } }
    else s

/-- SPIN_MEAS (R186): the back-EMF of the floating phase and VBUS, and what the sample tells the spindle loop: whether a
half-period ended in this tick with a valid zero crossing, and in which FCLK cycle. A Loop engine in reset takes no sample
(R353). -/
def execSpinMeas (seq : Fin 16) (emf : BitVec 12) (phase : Fin 3) (vbus : BitVec 10) (zero : Option (Bool × Fin 16))
    (s : State) : Res := s.run fun s =>
  s.fromDriver seq fun q s =>
    if q.kind.eqb .spin then
      let s := s.mcbOk
      let s := { s with mcb := { s.mcb with spin := (emf.toNat, phase.val, vbus.toNat) } }
      match zero with
      | some v => if s.spinRuns then s.spinZero v.1 (16 * s.now + v.2.val) else s
      | none => s
    else s

/-- MCB_RDATA (R186): address and data, in answer to the RREG outstanding. -/
def execMcbRdata (seq : Fin 16) (addr : BitVec 8) (data : BitVec 16) (s : State) : Res := s.run fun s =>
  s.fromDriver seq fun q s =>
    if q.kind.eqb .rreg && q.payload == addr.toNat then (s.mcbOk.mcbRegEnd q).set LOOP_MCB_REG_DATA data.toNat else s

/-- MCB_FAULT (R186): sent in place of the normal reply; the displaced frame is resent in its next eligible cycle. DEDUCED
(log 67): R189 counts failed exchanges, and a driver that answers with FAULT has answered; the exchange ends a run of
failures. -/
def execMcbFault (seq : Fin 16) (payload : BitVec 24) (s : State) : Res := s.run fun s =>
  s.fromDriver seq fun q s =>
    ((s.mcbOk.mcbAgain q).set LOOP_MCB_FCODE_FAULT payload.toNat).set LOOP_MCB_STAT_DRV_FAULT 1

/-! ### Register access (R187, R189) -/

/-- A write of LOOP.MCB_REG with an operation; while an exchange is under way it is dropped and logged as BUSY. -/
def State.mcbReg (s : State) (o : Origin) (op addr data : Nat) : State :=
  let v := addr + data * 2 ^ 8 + op * 2 ^ 24
  if s.is LOOP_MCB_REG_BUSY then s.logPriv o LOOP_MCB_REG v 2
  else
    let s := ((s.logPriv o LOOP_MCB_REG v 0).set LOOP_MCB_REG_ADDR addr).set LOOP_MCB_REG_DATA data
    let fr : McbFrame := if op = 2 then ⟨.wreg, 0, addr + data * 2 ^ 8, 0, 0, false⟩ else ⟨.rreg, 0, addr, 0, 0, false⟩
    State.set { s with mcb := { s.mcb with reg := some fr } } LOOP_MCB_REG_BUSY 1

/-- MCB_REG_READ (R189). -/
def execMcbRegRead (o : Origin) (addr : BitVec 8) (s : State) : Res := s.run fun s =>
  s.mcbReg o 1 addr.toNat (s.get LOOP_MCB_REG_DATA)

/-- MCB_REG_WRITE (R189). -/
def execMcbRegWrite (o : Origin) (addr : BitVec 8) (data : BitVec 16) (s : State) : Res := s.run fun s =>
  s.mcbReg o 2 addr.toNat data.toNat

/-! ### The master (R184, R189, R191) -/

/-- MASTER_TAKEOVER (R191, R196): after D0 is declared lost D1 is master, and continues the spindle from the state it has
held in lockstep. With crossing 49 closed the bus is lost at that moment (R189). -/
def execMasterTakeover (s : State) : Res := s.run fun s =>
  if s.dieIsLost 0 ∧ s.is LOOP_MCB_STAT_MASTER = false then
    let s := s.set LOOP_MCB_STAT_MASTER 1
    if s.is (TOP_CDC_STAT_CLOSED 49) then s.motorLost else s
  else s

end Sys2Proof.Machine
end

