-- ==== Sys2Proof/Machine/Recorder.lean ====
section
/-! DEFINITION. Machine/Recorder.lean: the event recorder: storing, numbering, the life record, calendar time, the first
area, freezing and reading (R455 to R467). -/

namespace Sys2Proof.Machine

/-- Programming a life-record entry (R460): a full area loses the sector of its oldest 4,096 entries first. -/
def State.lifeEntry (s : State) (k : LifeKind) : State :=
  let old := if 16384 ≤ s.log.life.length then s.log.life.drop 4096 else s.log.life
  let e : LifeEntry := ⟨s.nextEv, s.get LOG_OPSEC_OPSEC, s.get LOG_PCYCLE_PCYCLE, k⟩
  { s with log := { s.log with
      life := old ++ [e]
      closed := (match k with | .close => true | _ => false)
      sinceLife := 0
      lifeOpsec := s.get LOG_OPSEC_OPSEC } }

/-- Calendar time at a tick (R461); 0 where none is set. -/
def State.calAt (s : State) (t : Nat) : Nat :=
  if s.is LOG_STAT_CAL_VALID then (((s.log.calSet : Int) + t - s.log.calTick) % (2 ^ 64 : Nat)).toNat else 0

/-- A cluster's media log holds the event of a number (R463). -/
def State.heldOnMedia (s : State) (e : Nat) : Bool := (List.range 8).any (fun c => e < s.get (LOG_FLUSH_EVSEQ c))

/-- The event with a number is reported lost: a LOG_GAP of one, joined to a LOG_GAP that waits and ends before it. -/
def State.gap (s : State) (e : Nat) : State :=
  match s.log.intake.getLast? with
  | some a =>
    if a.code = 3 && a.payload.headD 0 + a.payload.getD 1 0 = e then
      { s with log := { s.log with intake := s.log.intake.dropLast ++
          [{ a with payload := [a.payload.headD 0, a.payload.getD 1 0 + 1] }] } }
    else s.event (orgInt 4 0 0) 3 [e, 1]
  | none => s.event (orgInt 4 0 0) 3 [e, 1]

/-- The event that an event stored now overwrites (R462). -/
def State.overwritten (s : State) : Option Event :=
  if 16384 ≤ s.log.ring.length then s.log.ring.head? else none

/-- An event leaves the ring: reported lost unless a media log holds it (R463). -/
def State.leaves (s : State) (o : Option Event) : State :=
  match o with
  | some o => if s.heldOnMedia o.evseq then s else s.gap o.evseq
  | none => s

/-- The event that an arrival is stored as: the next EVSEQ, and the counters and calendar time (R455, R461). -/
def State.eventOf (s : State) (a : Arrival) : Event :=
  ⟨s.nextEv, s.get LOG_OPSEC_OPSEC, s.get LOG_PCYCLE_PCYCLE, s.is LOG_STAT_CAL_VALID, a.time,
    s.calAt a.time, a.origin, a.code, a.payload⟩

/-- An event goes into the ring, and NEXT moves on (R455, R462). -/
def State.ringPush (s : State) (e : Event) : State :=
  State.set { s with log := { s.log with
      ring := (if 16384 ≤ s.log.ring.length then s.log.ring.drop 1 else s.log.ring) ++ [e]
      sinceLife := s.log.sinceLife + 1
      firstWait := if e.evseq < 4096 && !s.log.wrapped then s.log.firstWait ++ [e] else s.log.firstWait
      wrapped := s.log.wrapped || e.evseq == 2 ^ 32 - 1 } } LOG_NEXT_EVSEQ (e.evseq + 1)

/-- Storing one event (R455, R459, R460, R462, R463): the first after a closed life record opens a new one. -/
def State.store (s : State) (a : Arrival) : State :=
  let s := s.when s.log.closed (fun s => s.lifeEntry .periodic)
  (s.ringPush (s.eventOf a)).leaves s.overwritten

/-- Storing what waits in the intake queue, in its order of arrival. -/
def State.drainIntake (s : State) : List Arrival → State
  | [] => s
  | a :: as => State.drainIntake ({ s with log := { s.log with intake := s.log.intake.drop 1 } }.store a) as

/-- The sixteen words of an event (R455). -/
def Event.words (e : Event) : List Nat :=
  [e.evseq, e.opsec, e.pcycle + (if e.calValid then 2 ^ 24 else 0)] ++ lohi e.time ++ lohi e.cal ++
    [e.origin, e.code + e.payload.length * 2 ^ 16] ++ (List.range 7).map (fun i => e.payload.getD i 0)

/-- EVENT_STORE (R459): the recorder takes the oldest event of its intake queue. -/
def execEventStore (s : State) : Res := s.run fun s =>
  if s.is LOG_STAT_FROZEN then s
  else match s.log.intake with
    | [] => s
    | a :: as => State.store { s with log := { s.log with intake := as } } a

/-- OPSEC_INCREMENT (R460). -/
def execOpsecIncrement (s : State) : Res := s.run fun s =>
  if s.log.opsecAt + 100000000 ≤ s.now then
    State.count { s with log := { s.log with opsecAt := s.log.opsecAt + 100000000 } } LOG_OPSEC_OPSEC
  else s

/-- LIFE_RECORD_PERIODIC (R460): after 4,096 operating seconds or 2^20 events since the previous entry. -/
def execLifeRecordPeriodic (s : State) : Res := s.run fun s =>
  if s.log.lifeOpsec + 4096 ≤ s.get LOG_OPSEC_OPSEC ∨ 2 ^ 20 ≤ s.log.sinceLife then s.lifeEntry .periodic else s

/-- Programming one entry of the first area, once (R462). -/
def State.programFirst (s : State) (e : Event) : State :=
  if s.log.firstArea.any (fun x => x.evseq == e.evseq) then s
  else
    let s := { s with log := { s.log with firstArea := s.log.firstArea ++ [e] } }
    if e.evseq = 4095 then s.set LOG_STAT_FIRST_DONE 1 else s

/-- FIRST_AREA_PROGRAM (R462). -/
def execFirstAreaProgram (s : State) : Res := s.run fun s =>
  match s.log.firstWait with
  | [] => s
  | e :: es => State.programFirst { s with log := { s.log with firstWait := es } } e

/-- CALENDAR_SET: a write of LOG.CALCMD with SET = 1 and CLEAR = 0 (R461). -/
def execCalendarSet (o : Origin) (s : State) : Res := s.run fun s =>
  let new := s.get LOG_CAL_LO_CAL_LO + s.get LOG_CAL_HI_CAL_HI * 2 ^ 32
  let old := s.calAt s.now
  let s := State.set { s with log := { s.log with calSet := new, calTick := s.now } } LOG_STAT_CAL_VALID 1
  s.event (orgOf o) 0x26 (lohi old ++ lohi new)

/-- CALENDAR_CLEAR: a write of LOG.CALCMD with CLEAR = 1 and SET = 0 (R461). -/
def execCalendarClear (o : Origin) (s : State) : Res := s.run fun s =>
  (s.set LOG_STAT_CAL_VALID 0).logPriv o LOG_CALCMD 2 0

/-- LOG_FREEZE: a write of LOG.CTL.FREEZE = 1 (R466). What waits in the intake queue arrived before and is stored first
(R459); then LOG_FREEZE, and then storing stops. Where FROZEN is 1 already the write changes nothing; it arrives as a
PRIV_CHANGE (R458) and is counted in FRZLOST like every event of a freeze. -/
def execLogFreeze (o : Origin) (s : State) : Res := s.run fun s =>
  if s.is LOG_STAT_FROZEN then s.logPriv o LOG_CTL 1 0
  else
    let s := s.drainIntake s.log.intake
    let s := s.drainIntake s.log.intake
    let s := ((s.set LOG_CTL_FREEZE 1).store ⟨s.now, orgOf o, 4, [0]⟩).set LOG_FRZLOST_COUNT 0
    State.set { s with log := { s.log with frozenAt := s.now } } LOG_STAT_FROZEN 1

/-- The end of a freeze: LOG_THAW is the first event stored afterwards and carries FRZLOST. -/
def State.thaw (s : State) (origin : Nat) : State :=
  let s := (s.set LOG_CTL_FREEZE 0).set LOG_STAT_FROZEN 0
  { s with log := { s.log with intake := ⟨s.now, origin, 5, [s.get LOG_FRZLOST_COUNT]⟩ :: s.log.intake } }

/-- LOG_THAW: a write of LOG.CTL.FREEZE = 0 (R466). -/
def execLogThaw (o : Origin) (s : State) : Res := s.run fun s =>
  if s.is LOG_STAT_FROZEN then s.thaw (orgOf o) else (s.set LOG_CTL_FREEZE 0).logPriv o LOG_CTL 0 0

/-- LOG_FREEZE_TIMEOUT (R466): 1,000,000,000 ticks after FROZEN was set. -/
def execLogFreezeTimeout (s : State) : Res := s.run fun s =>
  if s.is LOG_STAT_FROZEN && decide (s.log.frozenAt + 1000000000 ≤ s.now) then s.thaw (orgInt 4 0 0) else s

/-- LOG_READ_SELECT: a write to LOG.RSEL starts a lookup (R467). -/
def execLogReadSelect (o : Origin) (v : Word) (s : State) : Res := s.run fun s =>
  let s := ((s.wr LOG_RSEL v).set LOG_RSTAT_BUSY 1).logPriv o LOG_RSEL v.toNat 0
  { s with log := { s.log with readSel := some (v.toNat, s.get LOG_RSRC_AREA) } }

/-- LOG_READ_DONE (R467): WHERE is 0 ABSENT, 1 RING, 2 FIRST or 3 GAP, and LOG.REVw holds the event, or 0. -/
def execLogReadDone (s : State) : Res := s.run fun s =>
  match s.log.readSel with
  | none => s
  | some (e, area) =>
    let inRing := if area = 0 then s.log.ring.find? (fun x => x.evseq == e) else none
    let found : Option (Event × Nat) := match inRing with
      | some x => some (x, 1)
      | none =>
        if e < 4096 then (s.log.firstArea.find? (fun x => x.evseq == e)).map (fun x => (x, if x.code = 3 then 3 else 2))
        else none
    let words := match found with
      | some p => p.1.words
      | none => []
    let s := State.each s (fun w s => s.set (LOG_REV_WORD w) (words.getD w 0)) (List.range 16)
    let s := (s.set LOG_RSTAT_WHERE ((found.map Prod.snd).getD 0)).set LOG_RSTAT_BUSY 0
    { s with log := { s.log with readSel := none } }

end Sys2Proof.Machine
end

