-- ==== Sys2Proof/Machine/Power.lean ====
section
/-! DEFINITION. Machine/Power.lean: power-on, the package reset with what it keeps, RESET_N and CHIP_RESET (R30, R34, R44,
R49, R251, R367, R393, R444, R449, R460 to R465, R499). -/

namespace Sys2Proof.Machine

/-! ### What a package reset keeps (R34) -/

/-- The status registers of the crossings (R44: reset by both resets). -/
def isCdcReg (a : Nat) : Bool := decide (TOP_CDC_STAT 0 ≤ a ∧ a ≤ TOP_CDC_STAT 68)

/-- The first-error latch and the four registers after it (R449). -/
def isLatchReg (a : Nat) : Bool := [FLT_FIRST, FLT_FIRST_TLO, FLT_FIRST_THI, FLT_FIRST_INFO, FLT_FIRST_ORIGIN].contains a

/-- The steering map of a channel (R367, R375). -/
def isSteerReg (a : Nat) : Bool := (List.range 16).any (fun ch => a == MEM_CH_STAT ch || a == MEM_CH_SWEEP ch)

/-- Registers that a package reset leaves: the TOP block but for the crossings, the first-error latch, the LOG block but for
LOG.CTL, and the steering maps (register tables of chapters 1 and 13 to 15; R34). -/
def keptReg (a : Nat) : Bool :=
  (decide (a < 0x100000) && !isCdcReg a) || isLatchReg a ||
    (decide (0x400000 ≤ a ∧ a < 0x500000) && a != LOG_CTL) || isSteerReg a

/-- What of the records of R393 a reset leaves behind: one record, of no command, per stripe not committed. -/
def State.lostRecords (s : State) : List BufRec :=
  (s.bufRecs.map (fun b => match s.cmd? b.cmd with
    | some x => (x.stripes.filter (fun y => y.st = .unbegun || y.st = .begun)).map (fun y =>
        (⟨0, b.burgee, x.lba + y.off, y.nblk⟩ : BufRec))
    | none => if b.cmd = 0 then [b] else [])).flatten

/-- What the stripe engine of a cluster keeps: RLIST and RBUF, in self-refresh (R251, R367). -/
def Stripes.keptPart (x : Stripes) : Stripes :=
  { Stripes.init with rlist := x.rlist, rbuf := x.rbuf, rbufData := x.rbufData, listDirty := true }

/-- The calibration copies in the flash; a STORE cut short leaves its copy's header failing (R493). -/
def State.flashCopies (s : State) : List (Option CalCopy) :=
  match s.cal.storing with
  | some i => s.cal.copies.set i none
  | none => s.cal.copies

/-- The recorder at a package reset: ring, numbering and calendar stay; FREEZE clears, which ends a freeze. -/
def State.logReset (s : State) : State :=
  let s := if s.is LOG_STAT_FROZEN then s.thaw (orgInt 4 0 0) else s
  { s with log := { s.log with readSel := none, flushTo := [] } }

/-- A package reset (R34): the machine after it stands at step 1 of start. -/
def State.packageReset (s : State) : State :=
  let s := s.logReset
  let fresh : State := { State.reset with
    pending := s.pending, regs := s.regs.keep keptReg, log := s.log, media := s.media, draws := s.draws
    bufRecs := s.lostRecords
    str := (List.range 8).foldl (fun t c => tset Stripes.init t c (s.strOf c).keptPart) []
    mem := s.mem.filter (fun p => decide (p.1 < spaceKey 1 0)), memX := s.memX.filter (fun p => decide (p.1 < spaceKey 1 0))
    clk := { s.clk with rep0 := s.clk.time, rep1 := s.clk.time, halted := false, chipResetReq := false, windows := [] }
    cal := { Cal.init with copies := s.flashCopies }
    pf := { PowerFail.init with low := s.pf.low, lowAt := s.pf.lowAt } }
  fresh.set LOG_RSTAT_BUSY 0

/-! ### Power-on (R30, R460, R499) -/

/-- What the recorder resumes from the life record (R460). -/
def State.resume (s : State) : State :=
  match s.log.life.getLast? with
  | none => (s.set LOG_PCYCLE_PCYCLE 1).lifeEntry .powerOn
  | some e =>
    let s := (s.set LOG_PCYCLE_PCYCLE (min (e.pcycle + 1) 0xFFFFFF)).set LOG_OPSEC_OPSEC e.opsec
    match e.kind with
    | .close => (s.set LOG_NEXT_EVSEQ e.evseq).lifeEntry .powerOn
    | _ =>
      let s := { s with log := { s.log with
        wrapped := s.log.wrapped || decide (2 ^ 32 ≤ e.evseq + 2 ^ 20)
        intake := [⟨s.now, orgInt 4 0 0, 3, [e.evseq, 2 ^ 20]⟩] } }
      (s.set LOG_NEXT_EVSEQ (e.evseq + 2 ^ 20)).lifeEntry .powerOn

/-- Everything that a loss of power leaves: the NOR flash and the media; the pins stand as they are driven. -/
def State.coldState (s : State) : State :=
  { State.reset with
    pending := s.pending, media := s.media, draws := s.draws
    log := { Recorder.init with life := s.log.life, firstArea := s.log.firstArea, wrapped := s.log.wrapped }
    clk := { Clock.init with resetLow := s.clk.resetLow }
    cal := { Cal.init with copies := s.flashCopies }
    pf := { PowerFail.init with low := s.pf.low } }

/-- FIRST_DONE holds where the first-records area is full (R462). -/
def State.firstDone (s : State) : State :=
  if s.log.firstArea.any (fun e => e.evseq == 4095) then s.set LOG_STAT_FIRST_DONE 1 else s

/-- POWER_ON_DETECT (R30, R34, R460, R499). -/
def execPowerOnDetect (s : State) : Res := .next (s.coldState.firstDone.resume.set TOP_RSTCAUSE_POR 1)

/-! ### RESET_N and CHIP_RESET (R34, R49, R444, R499) -/

/-- The part as RESET_N holds it in reset: the root that stopped and a start that halted begin again with the start that
follows; the cause is PIN, and ROOTSTOP where ERR_N stood asserted under R29. -/
def State.heldInReset (s : State) : State :=
  let t := s.packageReset
  let t := State.set { t with clk := { t.clk with resetLow := true, rootStopped := false, monErr := false } }
    TOP_RSTCAUSE_PIN 1
  if s.clk.rootStopped then t.set TOP_RSTCAUSE_ROOTSTOP 1 else t

/-- RESET_N_ASSERT (R34). -/
def execResetNAssert (s : State) : Res := .next (if s.clk.resetLow then s else s.heldInReset)

/-- RESET_N_RELEASE (R499): step 1 of start. -/
def execResetNRelease (s : State) : Res := .next { s with clk := { s.clk with resetLow := false } }

/-- CHIP_RESET (R444): a CHIP_RESET reaction was carried out and its FAULT event is stored. -/
def execChipReset (s : State) : Res := s.run fun s =>
  if s.clk.chipResetReq ∧ s.log.intake = [] then s.packageReset.set TOP_RSTCAUSE_CHIP 1 else s

end Sys2Proof.Machine
end

