-- ==== Sys2Proof/Machine/PowerFail.lean ====
section
/-! DEFINITION. Machine/PowerFail.lean: the power-fail sequence and what phase A writes to the media (R192 to R196, R254,
R354, R464, R485). -/

namespace Sys2Proof.Machine

/-- ORIGIN of PFAIL_N (R456). -/
def orgPfail : Nat := orgPin 1 0

/-! ### What phase A has to write (R254, R464, R485) -/

/-- The latest write known whose media work has not ended and that covers a block, by the key of R119 (R386). -/
def State.lastWrite (s : State) (lba : Nat) : Option Cmd :=
  (s.ports.cmds.filter (fun c => c.writes && !c.mediaDone && (c.phase = .promised || c.phase = .ended)
    && decide (c.lba ≤ lba ∧ lba < c.lba + c.count))).foldl (fun m c => match m with
      | some b => if b.before c then some c else some b
      | none => some c) none

/-- Blocks of a BUFFERED write that lie on cluster c in stripes not committed. -/
def dirtyOf (c : Nat) (x : Cmd) : List Nat :=
  ((x.stripes.filter (fun y => y.cluster == c && (y.st = .unbegun || y.st = .begun))).map (fun y =>
    y.offs.map (· + x.lba))).flatten

/-- Insertion by key, after the entries with an equal key. -/
def insertBy {α : Type} (key : α → Nat) (a : α) : List α → List α
  | [] => [a]
  | b :: bs => if key b ≤ key a then b :: insertBy key a bs else a :: b :: bs

/-- The blocks of step 5 of R254: each once, with the write whose version it is, in order of that write's T_media. -/
def State.dirtyBlocks (s : State) (c : Nat) : List (Nat × Option Cmd) :=
  let blocks := ((s.ports.cmds.filter (fun x => x.writes && x.buffered && !x.mediaDone
    && (x.phase = .promised || x.phase = .ended))).map (dirtyOf c)).flatten.eraseDups
  (blocks.map (fun b => (b, s.lastWrite b))).foldl (fun l p => insertBy (fun q => (q.2.map Cmd.tmedia).getD 0) p l) []

/-- Groups of 30. -/
def chunks30 {α : Type} : Nat → List α → List (List α)
  | 0, _ => []
  | _, [] => []
  | n + 1, l => l.take 30 :: chunks30 n (l.drop 30)

/-- A dump stripe in stripe format, with P and Q (R254). -/
def dumpStripe (item : DumpItem) (data : List (List Nat)) (seeds : List Nat) : DumpStripe :=
  let d (r : Nat) : List Nat := data.getD r zeroFrag
  ⟨item, (List.range 30).map d ++ [parityP d, parityQ d], seeds⟩

/-- The stripes of step 5 of R254, 30 blocks each, in the version that R386 would deliver. -/
def State.dirtyStripes (s : State) (c : Nat) : List DumpStripe :=
  let l := s.dirtyBlocks c
  (chunks30 l.length l).map (fun g => dumpStripe (.dirty (g.map (fun p => (p.1, (p.2.map Cmd.burgee).getD 0))))
    (g.map (fun p => ((p.2.bind (fun w => s.versionData p.1 w.id)).getD zeroFrag))) (g.map Prod.fst))

/-- A stripe of the repair buffer as the dump holds it. -/
def State.rbufStripe (s : State) (c slot : Nat) : DumpStripe :=
  dumpStripe (.rbuf slot) ((List.range 30).map (fun r => tget [] (s.strOf c).rbufData (32 * slot + r)))
    ((List.range 30).map (lbaOf c (s.slotQ c slot)))

/-- What phase A writes on cluster c: a cluster that has not reached step 11 of start writes the log stripe alone (R485);
a cluster out of service writes nothing. -/
def State.dumpStripes (s : State) (c : Nat) : List DumpStripe :=
  if s.get (SRV_STAT_STATE c) = 6 then []
  else if tget 0 s.start.clu c < 12 then [⟨.logStripe, [], []⟩]
  else [⟨.header, [], []⟩] ++ (s.strOf c).rbuf.map (s.rbufStripe c) ++ [⟨.logStripe, [], []⟩] ++ s.dirtyStripes c

/-- The region whose dump tracks lie nearest to an arm position (step 2 of R254); the lower one of two. -/
def State.dumpRegion (s : State) (c arm : Nat) : Nat :=
  let dist (r : Nat) : Nat := ((s.get (STR_LAYOUT0_BASE_TRACK c) + 1024 * r + 1008 : Nat) - (arm : Int)).natAbs
  let r := s.region c arm
  if 0 < r ∧ dist (r - 1) ≤ dist r then r - 1 else r

/-! ### Acceptance (R192, R193) -/

/-- PFAIL_N_FALL (R192). -/
def execPfailNFall (s : State) : Res := s.run fun s => { s with pf := { s.pf with low := true, lowAt := s.now } }

/-- PFAIL_GLITCH (R192): the pin rises before 40 ns, four ticks, have passed. -/
def execPfailGlitch (s : State) : Res := s.run fun s =>
  if s.pf.low ∧ (s.get LOOP_PF_STAT_PHASE = 0 ∨ s.pf.acceptedAt < s.pf.lowAt) ∧ s.now ≤ s.pf.lowAt + 4 then
    State.count { s with pf := { s.pf with low := false } } LOOP_PF_GLITCH_COUNT
  else s

/-- PFAIL_ACCEPT (R193, R194, R317, R354, R460): once start has armed it (R501). A2 and A6 no longer hold for any command. -/
def execPfailAccept (s : State) : Res := s.run fun s =>
  if s.start.armed ∧ s.pf.low ∧ s.get LOOP_PF_STAT_PHASE = 0 ∧ s.pf.lowAt + 4 ≤ s.now then
    let todo := (List.range 8).foldl (fun t c => tset [] t c (s.dumpStripes c)) []
    let s := { s with pf := { s.pf with acceptedAt := s.now, todo := todo } }
    let s := ((s.raise srcPFAIL 0 orgPfail).lifeEntry .pfail).set LOOP_PF_STAT_PHASE 1
    let s := (s.failAssumption 6 (fun _ => true)).failAssumption 2 (fun _ => true)
    let s := (s.set PRM_STATUS_OPEN 0).queueSpmode 1 true
    let s := if s.cal.session.isSome then s.calEnd 5 else s
    let s := if s.spState = spFAULT then s else s.set LOOP_STAT_SP_STATE spGENERATE
    State.each s (fun c s => s.seqIrq c 0) (List.range 8)
  else s

/-! ### Phase B to the end (R193, R195) -/

/-- What cluster c's media hold after `n` stripes of its dump were written, the log stripe with the events below `upTo`. Each
of them was a write pass (R239). -/
def State.dumped (s : State) (c n upTo : Nat) : State :=
  let items := (tget [] s.pf.todo c).take n
  let m := s.mediaOf c
  let x := s.strOf c
  let ring := s.log.ring.filter (fun e => s.get (LOG_FLUSH_EVSEQ c) ≤ e.evseq && e.evseq < upTo)
  let m := if items.any (fun i => i.item == .logStripe) then { m with logStripe := ring.drop (ring.length - 1920) } else m
  let m := if items.any (fun i => i.item == .header) then
      { m with
        dump := items.filter (fun i => i.item != .logStripe)
        dumpRegion := s.dumpRegion c (s.get (SRV_TGT_TARGET c))
        head := some (x.rlist, if x.lostDirty then s.lostMask c else m.lost)
        skew := x.skew, centre := x.centre, remap := x.remap, weak := x.weak
        buffered := s.lostRecords.filter (fun b => b.lba / 30 % 8 == c) }
    else m
  (s.setMedia c m).setStr c { x with wseq := (x.wseq + items.length) % 2 ^ 32 }

/-- Live media commands of a cluster with stripes not done end as at spindle loss; their cells are released. -/
def State.phaseBEnd (s : State) (c : Nat) : State :=
  let t := s.tlOf c
  let s := s.setTl c { t with
    slots := t.slots.map (fun p => if p.1 ≤ t.now then p else (p.1, { p.2 with cells := [], dload := [] })) }
  let s := s.failAssumption 5 (fun x => x.usesCluster c)
  (s.loseOn c 8).tidy

/-- Heads off and arms back (steps 5 and 6 of R193): heater and MA codes 0, MODE IDLE, VCM RETRACT. -/
def State.headsOff (s : State) (c : Nat) : State :=
  let s := State.each s (fun f s => (s.clrOff c f).set (LAN_MACODE_CODE c f) 0) (List.range 32)
  let s := s.queueMode c (2 ^ 32 - 1) 1 actMin
  s.queueVcm c (vcmPayload 0 2)

/-- PF_PHASE_B (R193): WRITE_MS after acceptance; `wrote` names, by cluster, how many stripes of the dump its sequencer has
written and the EVSEQ its log stripe reached. -/
def execPfPhaseB (wrote : List (Cluster × Nat × Nat)) (s : State) : Res := s.run fun s =>
  if s.get LOOP_PF_STAT_PHASE = 1 ∧ s.pf.acceptedAt + s.get LOOP_PF_CFG_WRITE_MS * 100000 ≤ s.now then
    let s := wrote.foldl (fun s w => s.dumped w.1 w.2.1 w.2.2) s
    let s := State.set { s with pf := { s.pf with todo := [] } } LOOP_PF_STAT_PHASE 2
    let s := State.each s (fun c s => s.phaseBEnd c) (List.range 8)
    State.each s (fun c s => s.headsOff c) (List.range 8)
  else s

/-- PF_BRAKE (step 7 of R193): the driver has reported the arms parked, or the bound is reached. -/
def execPfBrake (s : State) : Res := s.run fun s =>
  if s.get LOOP_PF_STAT_PHASE = 3 then
    let s := (s.queueSpmode 2 true).set LOOP_PF_STAT_PHASE 4
    let s := if s.spState = spGENERATE then s.set LOOP_STAT_SP_STATE spBRAKE else s
    s.lifeEntry .close
  else s

/-- PFAIL_RECOVER (R195): PFAIL_N has stayed high for 10 ms after the sequence; its reaction is CHIP_RESET at every
level. -/
def execPfailRecover (s : State) : Res := s.run fun s =>
  if s.get LOOP_PF_STAT_PHASE = 4 then
    let s := State.raise { s with pf := { s.pf with low := false } } srcPFREC 0 orgPfail
    { s with clk := { s.clk with chipResetReq := true } }
  else s

end Sys2Proof.Machine
end

