-- ==== Sys2Proof/Machine/ReadChannel.lean ====
section
/-! DEFINITION. Machine/ReadChannel.lean: a lane's read of a fragment, the canton's landing slots, and its decoders (R156
to R160, R204 to R230). The raw samples of the lane's converter are operands; the channel of Detector.lean and the decoder of
Codec.lean make the rest of them. -/

namespace Sys2Proof.Machine

/-! ### Landing slots -/

/-- A packet of lane (c, f). -/
def Packet.isOf (p : Packet) (c f slot : Nat) : Bool := p.cluster == c && p.surface == f && p.slot == slot

/-- Freeing the landing slot of a packet. -/
def State.freePacket (s : State) (c f slot : Nat) : State :=
  let k := c / 2
  s.setCanton k { s.cantonOf k with slots := (s.cantonOf k).slots.filter (fun p => !p.isOf c f slot) }

/-- A fragment ends as an erasure in its stripe (R228). -/
def State.erase (s : State) (c f slot : Nat) : State := (s.freePacket c f slot).fragResult c slot f .erased

/-- The lane's read is over: its gate closes. -/
def State.gateClose (s : State) (c f : Nat) : State :=
  let l := s.lane c f
  let s := (s.set (RCH_STAT_ACTIVE c f) 0).set (RCH_STAT_PHASE c f) 0
  (s.setLane c f { l with read := none, ended := true }).fragEnd c

/-! ### The channel of a lane (R204, R205, R207 to R213) -/

/-- The channel's settings: the lane's zone entry in use, and its converter's working coefficients. -/
def State.chanCfg (s : State) (c f : Nat) : ChanCfg :=
  let z := s.get (RCH_STAT_ZONE c f)
  let w (i lo n : Nat) : Nat := s.zfs c f z i lo n
  let t (lo : Nat) : Rat := (signed 8 (w 5 lo 8) : Rat) / 64
  { bitper := w 2 0 32
    off := (List.range 4).map (fun j => signed 8 (s.get (LAN_ADCOFF_OFFSET c f j)))
    adc := (List.range 4).map (fun j => s.get (LAN_ADCGAIN_GAIN c f j))
    agcTgt := w 3 24 8, pre := w 4 0 8, win := w 4 8 5, thr := w 4 13 3
    kpAcq := w 4 16 4, kiAcq := w 4 20 4, kpTrk := w 4 24 4, kiTrk := w 4 28 4
    t1 := t 0, t2 := t 8, t3 := t 16
    agAcq := w 8 0 4, agTrk := w 8 4 4, mu := w 8 8 4, taThr := w 8 12 8 }

/-- A signed value in units of 2^−n in a field, in the free direction where it falls between two; where it does not fit, the
field's value is not stated. -/
def State.setFrac (s : State) (x : Fld) (place n : Nat) (lo hi : Int) (q : Rat) : State :=
  let v := freeRat place (q * (2 ^ n : Nat))
  s.set x (if lo ≤ v ∧ v < hi then unsign x.w v else Config.counterPast x.addr x.lo)

/-- The channel as the lane's registers show it (LANs.AFE, RCHs.FREQ, RCHs.NOISE, RCHs.EQTAPi). -/
def State.showChan (s : State) (c f : Nat) (ch : Chan) : State :=
  let s := s.set (LAN_AFE_GAIN c f) (min ch.gain 240)
  let s := s.setFrac (RCH_FREQ_FREQ c f) 209 32 (-(2 ^ 31)) (2 ^ 31) ch.integ
  let s := s.setFrac (RCH_NOISE_SIGMA2 c f) 212 8 0 (2 ^ 16) ch.sigma
  State.each s (fun i s => s.setFrac (RCH_EQTAP_TAP c f i) 211 8 (-(2 ^ 9)) (2 ^ 9) (ch.taps.getD i 0)) (List.range 16)

/-- Raw samples counted against the converter's range (R164). -/
def State.countRaw (s : State) (c f : Nat) (raw : List (BitVec 7)) : State :=
  s.addSat (LAN_ADCSAT_COUNT c f) (saturated raw)

/-- The read of a lane with its channel as it now stands. -/
def State.putRead (s : State) (c f : Nat) (r : ReadFrag) : State :=
  (s.setLane c f { s.lane c f with read := some r }).showChan c f r.ch

/-- The taps of the zone entry of a surface (R205). -/
def State.tableTaps (s : State) (c f z : Nat) : List Rat :=
  let w (i : Nat) : Nat := s.zfs c f z i 0 32
  let taps := w 11 + w 12 * 2 ^ 32 + w 13 * 2 ^ 64 + w 14 * 2 ^ 96 + w 15 * 2 ^ 128
  (List.range 16).map (fun i => (signed 10 (bitsOf taps (10 * i) 10) : Rat) / 256)

/-- Step 1 of R208: the zone entry is loaded, with the taps and the integral term that the lane kept in this zone; after a zone
change, and for a lane that has kept none since its reset (log 70), the table's taps and 0. -/
def State.loadZone (s : State) (c f z : Nat) : State × Chan :=
  let l := s.lane c f
  let k := if s.get (RCH_STAT_ZONE c f) = z then l.keep else none
  let s := s.set (RCH_STAT_ZONE c f) z
  let s := (s.set (LAN_AFE_CORNER c f) (s.zfs c f z 3 11 4)).set (LAN_AFE_BOOST c f) (s.boostOf c f (s.zfs c f z 3 15 5))
  let s := s.setLane c f { l with keep := k }
  let start := k.getD (0, s.tableTaps c f z)
  (s, { count := 0, raw := [], next := 0, bit := 0, xs := [], ys := [], taps := start.2, integ := start.1,
        gain := s.get (LAN_AFE_GAIN c f), sigma := l.sigma, alpha := alpha0, bits := [], cands := [], coast := false })

/-- FRAGMENT_READ_START (R208, steps 1 and 2), with the raw samples from the opening of the gate to preamble bit 47. -/
def execFragmentReadStart (c : Cluster) (f : Surface) (raw : List (BitVec 7)) (s : State) : Res := s.run fun s =>
  let l := s.lane c f
  match l.arm with
  | none => s
  | some a =>
    if a.write || l.ended || l.read.isSome || s.laneIsLost c f || l.held then s
    else
      let (s, ch) := s.loadZone c f (s.slotZone c a.slot)
      let s := ((s.set (RCH_STAT_ACTIVE c f) 1).set (RCH_STAT_PHASE c f) 1).countRaw c f raw
      s.putRead c f ⟨a.slot, a.owner, .gate, 0, none, false, (s.chanCfg c f).feed ch raw⟩

/-- A read whose sync or RESYNC mark is not found (R216, R218): its fragment is erased, and the lane waits for the end of PAD. -/
def State.noSync (s : State) (c f : Nat) (r : ReadFrag) : State :=
  (s.erase c f r.slot).setLane c f { s.lane c f with read := some { r with phase := .dropped } }

/-- SYNC_WINDOW_CLOSE (R208 step 4, R215 to R217), with the raw samples up to the close of the window. -/
def execSyncWindowClose (c : Cluster) (f : Surface) (raw : List (BitVec 7)) (s : State) : Res := s.run fun s =>
  match (s.lane c f).read with
  | none => s
  | some r =>
    if r.phase ≠ .gate ∨ s.get (RCH_STAT_PHASE c f) = 3 then s
    else
      let r := { r with ch := (s.chanCfg c f).feed r.ch raw }
      let s := (s.countRaw c f raw).putRead c f r
      match ranked r.ch.cands with
      | [] => (s.countSat (RCH_SYNC_MISS_COUNT c f)).noSync c f r
      | a :: rest =>
        let s := match rest with
          | [] => s
          | _ :: more => (s.countSat (RCH_SYNC_DUAL_COUNT c f)).addSat (RCH_SYNC_EXTRA_COUNT c f) more.length
        (s.set (RCH_STAT_PHASE c f) 2).putRead c f
          { r with phase := .synced, h0 := a.1, h1 := rest.head?.map Prod.fst }

/-- A servo field begins under the cluster's heads: the loops of the lanes that read coast (R209). -/
def State.coastLanes (s : State) (c : Nat) : State :=
  State.each s (fun f s => match (s.lane c f).read with
    | some r => if r.phase = .dropped then s else s.set (RCH_STAT_PHASE c f) 3
    | none => s) (List.range 32)

/-- RESYNC_SEARCH (R206, R209, R218): the raw samples of the data region before the servo field that had not come, and those of
the next region up to the end of the search. -/
def execResyncSearch (c : Cluster) (f : Surface) (before after : List (BitVec 7)) (s : State) : Res := s.run fun s =>
  match (s.lane c f).read with
  | none => s
  | some r =>
    if s.get (RCH_STAT_PHASE c f) ≠ 3 then s
    else
      let z := s.chanCfg c f
      let a := z.feed r.ch before
      let b := z.feed a.newRegion after
      let s := (s.countRaw c f before).countRaw c f after
      match ranked (b.resyncCands a.bit) with
      | p :: _ =>
        let at' := ((a.bit : Int) + 48 + p.1).toNat
        (s.set (RCH_STAT_PHASE c f) (if r.phase = .gate then 1 else 2)).putRead c f { r with ch := b.resynced a.bit at' }
      | [] =>
        let s := s.set (RCH_STAT_PHASE c f) (if r.phase = .gate then 1 else 2)
        if r.phase = .noSlot then s.putRead c f { r with phase := .dropped, ch := b }
        else (s.countSat (RCH_RESYNC_MISS_COUNT c f)).noSync c f { r with ch := b }

/-! ### Packets (R217, R219, R220) -/

/-- The due wedge of a fragment (R225): that of its placement, or, of a read that no command owns, the next wedge (log 34). -/
def State.dueOf (s : State) (c f slot owner : Nat) : Nat :=
  match (s.cmdByHandle? owner).bind (s.stripeIn c slot) with
  | none => (s.tlOf c).now + 1
  | some y => if bitAt y.due1 f then y.w1 + 1 else y.w1 + 2

/-- The read is PATROL work, whose HEADs carry ALL (R227, R267). -/
def State.isPatrol (s : State) (owner : Nat) : Bool :=
  match s.cmdByHandle? owner with
  | some x => x.op == .activity .patrol
  | none => false

/-- Δ of R217, and the first symbol's place: the BODY start of the earlier hypothesis. -/
def ReadFrag.delta (r : ReadFrag) : Nat := (r.h1.map (fun h => (h - r.h0).natAbs)).getD 0
def ReadFrag.earlier (r : ReadFrag) : Int := (r.h1.map (fun h => min h r.h0)).getD r.h0

/-- The packet that a lane's HEAD begins (R219). -/
def State.packetOf (s : State) (c f : Nat) (r : ReadFrag) : Packet :=
  let q := s.slotQ c r.slot
  let role := roleOf q f
  let first := (r.h1.map (fun h => decide (h < r.h0))).getD false
  let due := s.dueOf c f r.slot r.owner
  { cluster := c, surface := f, slot := r.slot, owner := r.owner, role := role, due := due, all := s.isPatrol r.owner
    seed := seedOf c q role, delta := r.delta, h1First := first
    wire := [headFlit c f (seedOf c q role) role (s.isPatrol r.owner) due r.delta first]
    last := none, h0 := .waiting, h1 := if r.h1.isSome then .waiting else .absent, returned := false }

/-- LANDING_HEAD (R219, R220): the packet takes a landing slot, or is dropped and its fragment erased. -/
def execLandingHead (c : Cluster) (f : Surface) (s : State) : Res := s.run fun s =>
  let k := c.val / 2
  let x := s.cantonOf k
  match (s.lane c f).read with
  | none => s
  | some r =>
    if r.phase ≠ .synced ∨ r.sent = true then s
    else
      let s := s.countSat (RCH_FRAGS_COUNT c f)
      if 160 ≤ x.slots.length then
        let s := (s.countSat (RCH_NOSLOT_COUNT c f)).fragResult c r.slot f .erased
        s.setLane c f { s.lane c f with read := some { r with phase := .noSlot, sent := true } }
      else
        let n := x.slots.length + 1
        let s := (s.setCanton k { x with slots := x.slots ++ [s.packetOf c f r] }).set (DEC_K_SLOTS_MAX_SLOTS k)
          (max n (s.get (DEC_K_SLOTS_MAX_SLOTS k)))
        s.setLane c f { s.lane c f with read := some { r with sent := true } }

/-- The symbols of a read's packet: those of 37,440 + Δ bits from the BODY start of the earlier hypothesis (R217). -/
def State.bodyOf (s : State) (c f : Nat) (r : ReadFrag) : Stream' :=
  let z := s.chanCfg c f
  z.symbols r.ch ((z.e : Int) + r.earlier + 32).toNat (37440 + r.delta)

/-- The DATA and TAIL flits of a read enter its packet, where the packet still stands (R219). -/
def State.sendTail (s : State) (c f : Nat) (r : ReadFrag) (x : Stream') : State :=
  let k := c / 2
  let now := (s.tlOf c).now
  let n := x.symbols.length
  let flits := dataFlits ((n + 7) / 8) x.symbols ++ [tailFlit n x.zeroed now]
  let go (p : Packet) : Packet :=
    if p.isOf c f r.slot then { p with wire := p.wire ++ flits, last := some (now, s.now) } else p
  s.setCanton k { s.cantonOf k with slots := (s.cantonOf k).slots.map go }

/-- A read reaches the end of PAD (R208 step 6, R214, R219). -/
def State.readEnd (s : State) (c f : Nat) (r : ReadFrag) : State :=
  let x := s.bodyOf c f r
  let s := if r.phase = .dropped then s else s.addSat (RCH_TA_SPANS_COUNT c f) x.spans
  if r.phase ≠ .synced then s
  else if 4096 < x.zeroed then (s.countSat (RCH_TA_ERASED_COUNT c f)).erase c f r.slot
  else s.sendTail c f r x

/-- What the lane keeps of a read for its next one (R208 step 6, R211, R212). -/
def State.keepChan (s : State) (c f : Nat) (r : ReadFrag) : State :=
  s.setLane c f { s.lane c f with
    keep := if r.phase = .dropped then (s.lane c f).keep else some (r.ch.integ, r.ch.taps), sigma := r.ch.sigma }

/-- FRAGMENT_END (R208, step 6; R167, R214, R219), with the raw samples up to the end of PAD: a reading lane sends the rest of
its packet, a writing lane has written its fragment. A lane whose sync window has not closed, that crosses a servo field, or
whose HEAD has not gone out has not reached that end. -/
def execFragmentEnd (c : Cluster) (f : Surface) (raw : List (BitVec 7)) (s : State) : Res := s.run fun s =>
  let l := s.lane c f
  match l.read with
  | some r =>
    if r.phase = .gate ∨ s.get (RCH_STAT_PHASE c f) = 3 ∨ (r.phase = .synced ∧ r.sent = false) then s
    else
      let r := { r with ch := (s.chanCfg c f).feed r.ch raw }
      let s := (s.countRaw c f raw).putRead c f r
      ((s.readEnd c f r).keepChan c f r).gateClose c f
  | none =>
    if l.writing then
      let n := (l.out.map (fun p => (s.serialize c f p).clamps)).foldl (· + ·) 0
      ((s.addCount (LAN_WCLAMP_COUNT c f) n).setLane c f { l with writing := false, ended := true, out := [] }).fragEnd c
    else s

/-! ### Decoders (R222 to R230) -/

/-- The tick of a fragment's decode deadline (R224). -/
def State.deadlineOf (s : State) (p : Packet) : Nat :=
  s.tick p.cluster ((p.last.map Prod.fst).getD (s.tlOf p.cluster).now + 1 + s.term 1)

/-- The key of R226 for one framing: returned fragments first, then due wedge (by its start, since each cluster counts its own
wedges), first framings, data before P and Q, the earlier last sample, the lower lane. -/
def State.keyOf (s : State) (p : Packet) (second : Bool) : List Nat :=
  [if p.returned then 0 else 1, s.tick p.cluster p.due, if second then 1 else 0, if p.role < 30 then 0 else 1,
   (p.last.map Prod.snd).getD 0, 32 * p.cluster + p.surface]

/-- Lexicographic order of keys. -/
def keyLt : List Nat → List Nat → Bool
  | a :: as, b :: bs => a < b || (a == b && keyLt as bs)
  | _, _ => false

/-- The waiting framings of a canton: packet and whether it is the second framing. -/
def Canton.waiting (x : Canton) : List (Packet × Bool) :=
  ((x.slots.filter (fun p => p.last.isSome)).map (fun p =>
    (if p.h0 = .waiting then [(p, false)] else []) ++ (if p.h1 = .waiting then [(p, true)] else []))).flatten

/-- The waiting framing that the dispatcher gives out next: one whose deadline has come is given out no more (R226). -/
def State.nextFraming (s : State) (x : Canton) : Option (Packet × Bool) :=
  (x.waiting.filter (fun a => decide (s.now < s.deadlineOf a.1))).foldl (fun m a => match m with
    | none => some a
    | some b => if keyLt (s.keyOf a.1 a.2) (s.keyOf b.1 b.2) then some a else some b) none

/-- Changing one packet of a canton. -/
def Canton.update (x : Canton) (p : Packet) (g : Packet → Packet) : Canton :=
  { x with slots := x.slots.map (fun q => if q.isOf p.cluster p.surface p.slot then g q else q) }

/-- A decoder has been given the framing, or has done with it. -/
def Framing.begun : Framing → Bool
  | .running _ _ _ => true
  | .passed _ => true
  | .failed => true
  | _ => false

/-- Every data fragment of a read stripe has decoded, so its waiting P and Q fragments are dropped (R227). -/
def State.dropPq (s : State) (c slot : Nat) : State :=
  match (s.strOf c).opened.find? (fun o => o.slot == slot) with
  | none => s
  | some o =>
    let q := s.slotQ c slot
    if (List.range 30).all (fun r => tget .waiting o.frags (surfOf q r) = .good) then
      let k := c / 2
      let hit (p : Packet) : Bool := p.cluster == c && p.slot == slot && decide (30 ≤ p.role) && !p.all &&
        !p.h0.begun && !p.h1.begun
      let gone := (s.cantonOf k).slots.filter hit
      let s := gone.foldl (fun s p => (s.freePacket c p.surface slot).fragResult c slot p.surface .skipped) s
      s.addSat (DEC_K_PQ_SKIPPED_COUNT k) gone.length
    else s

/-- The same for every stripe with a packet in a canton. -/
def State.dropAllPq (s : State) (k : Nat) : State :=
  ((s.cantonOf k).slots.filter (fun p => decide (30 ≤ p.role))).foldl (fun s p => s.dropPq p.cluster p.slot) s

/-- DECODE_DISPATCH (R226, R227): a free active decoder takes the waiting fragment. -/
def execDecodeDispatch (k : CantonNo) (d : Fin 20) (s : State) : Res := s.run fun s =>
  if !bitAt (s.get (DEC_K_ACTIVE_MASK k)) d || s.resetting.contains (.dec k d) || (s.cantonOf k).slots.any (fun p => p.on d) then s
  else
    let s := s.dropAllPq k
    let x := s.cantonOf k
    match s.nextFraming x with
    | none => s
    | some (p, second) =>
      let run : Framing := .running d (16 * s.now) false
      s.setCanton k (x.update p (fun q => if second then { q with h1 := run } else { q with h0 := run }))

/-- A fragment ends GOOD: its 4,224 bytes pass to the stripe engine, its landing slot is freed (R228). -/
def State.fragGood (s : State) (p : Packet) (bytes : List Nat) : State :=
  let c := p.cluster
  let s := (s.freePacket c p.surface p.slot).countSat (DEC_K_DECODED_COUNT (c / 2))
  let x := s.strOf c
  let s := s.setStr c { x with opened := x.opened.map (fun o =>
    if o.slot = p.slot && !o.write && tget .waiting o.frags p.surface = .waiting then
      { o with data := tset [] o.data p.role (bytesWords 1024 (bytes.take 4096))
               metas := tset [] o.metas p.role (bytes.drop 4096) } else o) }
  (s.fragResult c p.slot p.surface .good).dropPq c p.slot

/-- A fragment ends as an erasure counted in the canton. -/
def State.fragBad (s : State) (p : Packet) (ctr : Nat → Fld) : State :=
  (s.countSat (ctr (p.cluster / 2))).erase p.cluster p.surface p.slot

/-- A framing has its result, or can have none: there is none, or its deadline has come. -/
def Framing.isOver (dead : Bool) : Framing → Bool
  | .passed _ => true
  | .failed => true
  | .absent => true
  | _ => dead

/-- The bytes of a framing that passed. -/
def Framing.bytes? : Framing → Option (List Nat)
  | .passed b => some b
  | _ => none

/-- The outcome of a packet once both its framings are over, at the latest at its deadline (R217, R224, R228); before that the
packet is kept. -/
def State.judge (s : State) (p : Packet) (dead : Bool) : State :=
  let k := p.cluster / 2
  if !(p.h0.isOver dead && p.h1.isOver dead) then s
  else match p.h0.bytes?, p.h1.bytes? with
  | some a, some _ => (s.countSat (DEC_K_DUAL_BOTH_COUNT k)).fragGood p a
  | some a, none => s.fragGood p a
  | none, some b => (s.countSat (DEC_K_DUAL_SECOND_COUNT k)).fragGood p b
  | none, none =>
    if p.h1 != .absent then s.fragBad p DEC_K_ER_FRAMING_COUNT
    else if p.returned then s.fragBad p DEC_K_ER_DECODER_COUNT
    else s.fragBad p DEC_K_ER_DEADLINE_COUNT

/-- Writing a framing's result. -/
def Packet.settle (p : Packet) (d : Nat) (r : Framing) : Packet := if p.h0.on d then { p with h0 := r } else { p with h1 := r }

/-- A framing gets its result, and its packet is judged. -/
def State.framing (s : State) (k d : Nat) (p : Packet) (r : Framing) : State :=
  (s.setCanton k ((s.cantonOf k).update p (fun q => q.settle d r))).judge (p.settle d r) false

/-- A decoder is lost (R229): fenced, reset, its fragment returned, and a spare promoted in its place (R21); its bit moves to
DEC.Kk.LOST when its reset window ends. DESIGN CHOICE (log 68): of several spares the lowest-numbered is promoted. -/
def State.decLost (s : State) (k d : Nat) : State :=
  if !bitAt (s.get (DEC_K_ACTIVE_MASK k)) d then s
  else
    let held := (s.cantonOf k).slots.any (fun p => p.on d)
    let s := s.set (DEC_K_ACTIVE_MASK k) (putBit (s.get (DEC_K_ACTIVE_MASK k)) d false)
    let s := (s.raise (srcDEC k) d (orgInt 14 (k / 2) d)).interruption (3 * 4 ^ k) 34
    let s := s.setCanton k ((s.cantonOf k).returnOf d)
    let s := if held then s.countSat (DEC_K_REDISPATCH_COUNT k) else s
    let s := match (setBits 20 (s.get (DEC_K_SPARE_MASK k))).head? with
      | some e =>
        (s.set (DEC_K_SPARE_MASK k) (putBit (s.get (DEC_K_SPARE_MASK k)) e false)).set (DEC_K_ACTIVE_MASK k)
          (putBit (s.get (DEC_K_ACTIVE_MASK k)) e true)
      | none => s
    (s.set (DEC_K_A_A k) (popc 20 (s.get (DEC_K_ACTIVE_MASK k)))).blockReset (.dec k d)

/-! ### A decoder's work (R222, R223) -/

/-- The symbols of one framing of a packet: the later framing starts Δ bits on (R217). -/
def Packet.symbols (p : Packet) (second : Bool) : List Symbol :=
  ((wireSymbols p.wire).drop (if second == p.h1First then 0 else p.delta)).take 37440

/-- The iterations that may start from FCLK cycle `t` on, one every 240 cycles while 288 remain to the deadline (R223). -/
def itersBy (deadline t : Nat) : Nat := if t + 288 ≤ deadline then min 12 ((deadline - t - 48) / 240) else 0

/-- What a pass comes to: its iterations, the FCLK cycle it is over, and the bytes of a zero syndrome or why there is none. -/
structure PassEnd where
  iters : Nat
  fin : Nat
  bytes : Option (List Nat)
  /-- Twelve iterations ran. -/
  full : Bool
  deriving DecidableEq, Repr

/-- A pass that starts in FCLK cycle `t`, of at most `n` iterations (R222). -/
def passEnd (t n : Nat) (r : Nat × Bool × Messages) : PassEnd :=
  ⟨r.1, t + 240 * r.1 + if r.2.1 then 48 else 0, if r.2.1 then some (infoBytes r.2.2.word) else none, n == 12⟩

/-- The pass that a decoder is in, on the framing it was given in FCLK cycle `t`. -/
def Packet.pass (p : Packet) (deadline t : Nat) (h1 second : Bool) : PassEnd :=
  if second then
    let n := itersBy deadline (t + 3168)
    passEnd (t + 3168) n (passTwo (p.symbols h1) n)
  else
    let n := itersBy deadline t
    passEnd t n (passOne (p.symbols h1) n)

/-- The framing that a decoder works on: H1 or not, since when, and in its second pass or not. -/
def Packet.job (p : Packet) (d : Nat) : Option (Bool × Nat × Bool) :=
  match p.h0, p.h1 with
  | .running e t x, .running e' t' x' => if e = d then some (false, t, x) else if e' = d then some (true, t', x') else none
  | .running e t x, _ => if e = d then some (false, t, x) else none
  | _, .running e t x => if e = d then some (true, t, x) else none
  | _, _ => none

/-- A framing that its decoder could not decode, as its packet's result. -/
def State.undecoded (s : State) (k d : Nat) (p : Packet) : State := s.framing k d p .failed

/-- The result of a pass (R222, R223, R229). -/
def State.passResult (s : State) (k d : Nat) (p : Packet) (job : Bool × Nat × Bool) (e : PassEnd) (checker : Bool) : State :=
  let s := s.addSat (DEC_K_ITERSUM_COUNT k) e.iters
  match e.bytes with
  | some b =>
    if fragOk p.seed p.role b then (if checker then s.decLost k d else s.framing k d p (.passed b))
    else if p.h1 != .absent then s.framing k d p .failed
    else s.fragBad p DEC_K_ER_MISCORRECT_COUNT
  | none =>
    if e.full && !job.2.2 && decide (e.fin + 576 ≤ 16 * s.deadlineOf p) then
      (s.countSat (DEC_K_PASS2_COUNT k)).setCanton k
        ((s.cantonOf k).update p (fun q => q.settle d (.running d job.2.1 true)))
    else s.undecoded k d p

/-- DECODE_END (R222, R223, R227 to R229): a pass of a decoder is over. `checker`: the canton's output checker disagrees with the
decoder on a GOOD result. Before the pass is over nothing ends, and past the deadline no result counts (R224). -/
def execDecodeEnd (k : CantonNo) (d : Fin 20) (checker : Bool) (s : State) : Res := s.run fun s =>
  match (s.cantonOf k).slots.find? (fun p => p.on d) with
  | none => s
  | some p => match p.job d with
    | none => s
    | some job =>
      let e := p.pass (16 * s.deadlineOf p) job.2.1 job.1 job.2.2
      if 16 * s.now < e.fin then s
      else if s.deadlineOf p < s.now then s.judge p true
      else s.passResult k d p job e checker

/-- DECODE_DEADLINE (R224, R228): the fragment of a lane reaches its deadline without a result. -/
def execDecodeDeadline (c : Cluster) (f : Surface) (s : State) : Res := s.run fun s =>
  match (s.cantonOf (c.val / 2)).slots.find? (fun p => p.cluster == c.val && p.surface == f.val && p.last.isSome) with
  | none => s
  | some p => if s.deadlineOf p ≤ s.now then s.judge p true else s

/-- DECODER_TIMEOUT (R229): 6,400 FCLK after dispatch. -/
def execDecoderTimeout (k : CantonNo) (d : Fin 20) (s : State) : Res := s.run fun s =>
  match ((s.cantonOf k).slots.find? (fun p => p.on d)).bind (fun p => p.job d) with
  | none => s
  | some job => if job.2.1 + 6400 ≤ 16 * s.now then s.decLost k d else s

end Sys2Proof.Machine
end

