-- ==== Sys2Proof/Machine/Placement.lean ====
section
/-! DEFINITION. Machine/Placement.lean: placing a command on the timelines (R60 to R70, R74, R85, R225, R290). A
candidate is fixed by the wedge it starts in and by the arm positions of its runs; the engine takes the candidate with the
earliest promise time, the earlier first cell on a tie (R69). Log 17 names the placements that are tried. -/

namespace Sys2Proof.Machine

/-- One stripe to place: its spot, the lanes it reads and the lanes it writes (0 for no such pass, R66). -/
structure Item where
  spot : Spot
  rmask : Nat
  wmask : Nat
  /-- The physical track of the write pass, where that is not the track in force (R261). -/
  dest : Option Int
  deriving DecidableEq, Repr

/-- What a search on one cluster is given. -/
structure Search where
  c : Nat
  owner : Nat
  /-- The first usable wedge (R65) and the first wedge past the timeline (R54). -/
  n0 : Nat
  hz : Nat
  items : List Item
  deriving DecidableEq, Repr

/-! ### Cells -/

/-- The arm is not FREE in a wedge: a placement moves or holds it. -/
def WSlot.armed (x : WSlot) : Bool := x.arm != .free

/-- A cell that a later placement may take: FREE, or HOLD (R61, R515). -/
def TCell.takeable (x : TCell) : Bool := x.kind = .free || x.kind = .hold

/-- The cells of a mask may be taken in a wedge that another command holds. -/
def WSlot.maskOk (x : WSlot) (mask : Nat) : Bool :=
  !x.armed || (x.arm = .held && (setBits 32 mask).all (fun f => (tget TCell.init x.cells f).takeable))

/-- Lane f transfers in wedge n on the timeline as it stands, retired wedges included (R68). -/
def Timeline.xferAt (t : Timeline) (n f : Nat) : Bool :=
  if n < t.now then bitAt (t.hist.getD (t.now - 1 - n) 0) f else (t.cellAt n f).kind = .xfer

/-- The write XFER cell of lane f in wedge n is valid (R68). -/
def State.warmOk (s : State) (x : Search) (ps : List Pass) (n f : Nat) : Bool :=
  let idle := s.get LOOP_CLCFG_IDLE_W
  let warm := s.get LOOP_CLCFG1_WARM_W
  let t := s.tlOf x.c
  decide (x.n0 + warm ≤ n) ||
    (List.range (idle + 1 - warm)).any (fun i => decide (warm + i ≤ n) && t.xferAt (n - warm - i) f) ||
    ps.any (fun p => bitAt p.mask f && decide (p.a + warm ≤ n ∧ n ≤ p.b + idle))

/-- The physical track of lane f in a pass. -/
def State.passPhys (s : State) (c : Nat) (p : Pass) (f : Nat) : Int := p.dest.getD (s.physOf c p.track f)

/-- A transfer of a lane as R290 sees it: its wedge, physical target and fragment index. -/
abbrev Xfer := Nat × Int × Nat

/-- Transfers of lane f known on the timeline and in the candidate. -/
def State.xfersOf (s : State) (c : Nat) (ps : List Pass) (f : Nat) : List Xfer :=
  let t := s.tlOf c
  let last := match tget (0, 0, 0) t.lastX f with
    | (0, _, _) => []
    | (n, p, g) => [(n - 1, p, g)]
  last ++ (t.slots.filterMap (fun w =>
      let x := tget TCell.init w.2.cells f
      if x.kind = .xfer then some (w.1, x.tgt, x.frag) else none)) ++
    ((ps.filter (fun p => bitAt p.mask f)).map (fun p => [(p.a, s.passPhys c p f, p.frag),
      (p.b, s.passPhys c p f, p.frag)])).flatten

/-- Two transfers of one lane, `u` before `v`, make a step of R290 that needs no idle wedges between them: none, or one of
one track with the two fragments TSKEW positions apart. -/
def State.stepFree (s : State) (c frags : Nat) (u v : Xfer) : Bool :=
  let d := (u.2.1 - v.2.1).natAbs
  d == 0 || (d == 1 && decide (s.get (STR_LAYOUT1_TSKEW c) ≤ (v.2.2 + frags - u.2.2 % frags) % frags))

/-- Two transfers of one lane, `u` before `v`, keep the microactuator settle (R290). -/
def State.stepOk (s : State) (c frags : Nat) (u v : Xfer) : Bool :=
  s.stepFree c frags u v || decide (u.1 + s.get (SRV_THR2_MA_STEP_W c) < v.1)

/-- The last transfer of a lane up to wedge `a`, and the first from wedge `b` on. -/
def lastXfer (all : List Xfer) (a : Nat) : Option Xfer :=
  (all.filter (fun u => decide (u.1 ≤ a))).foldl (fun (o : Option Xfer) u => match o with
    | none => some u
    | some w => if w.1 ≤ u.1 then some u else some w) none
def nextXfer (all : List Xfer) (b : Nat) : Option Xfer :=
  (all.filter (fun u => decide (b ≤ u.1))).foldl (fun (o : Option Xfer) u => match o with
    | none => some u
    | some w => if u.1 < w.1 then some u else some w) none

/-- A pass keeps R290 on every lane against the transfers before and after it. -/
def State.settleOk (s : State) (c frags : Nat) (ps : List Pass) (p : Pass) : Bool :=
  (setBits 32 p.mask).all (fun f =>
    let me := s.passPhys c p f
    let all := s.xfersOf c ps f
    (match lastXfer all p.a with
      | some u => s.stepOk c frags u (p.a, me, p.frag)
      | none => true) &&
    (match nextXfer all p.b with
      | some u => s.stepOk c frags (p.b, me, p.frag) u
      | none => true))

/-- The lanes of a pass that step to it over MA_STEP_W idle wedges (R290). -/
def State.stepLanes (s : State) (c frags : Nat) (ps : List Pass) (p : Pass) : List Nat :=
  (setBits 32 p.mask).filter (fun f =>
    match lastXfer ((s.xfersOf c ps f).filter (fun u => decide (u.1 < p.a))) p.a with
    | some u => !s.stepFree c frags u (p.a, s.passPhys c p f, p.frag)
    | none => false)

/-- The lanes that a plan keeps idle in wedge `n` for a step of R290: the MA_STEP_W wedges before the step's transfer. -/
def State.settleLanes (s : State) (x : Search) (frags : Nat) (ps : List Pass) (n : Nat) : List Nat :=
  (ps.filter (fun p => decide (n < p.a ∧ p.a ≤ n + s.get (SRV_THR2_MA_STEP_W x.c)))).flatMap (fun p =>
    s.stepLanes x.c frags (ps.filter (fun q => q != p)) p)

/-! ### Decode capacity (R67, R225) -/

/-- CAPD of R225 for canton k at an inner budget. -/
def State.capd (s : State) (k ib : Nat) : Nat :=
  s.get (DEC_K_A_A k) * (16 * s.wt / 2 ^ 16 - 512) / (48 + 240 * ib)

/-- The partner's wedges that R67 pairs with wedge w of cluster c: the one in progress at T(w), and those whose wedge in
progress, seen from the partner, is w. -/
def State.partnerWedges (s : State) (c w : Nat) : List Nat :=
  let p := c ^^^ 1
  let v := s.wedgeAt p (s.tick c w)
  v :: ((List.range 3).map (· + v + 1)).filter (fun u => decide (s.tick p u < s.tick c (w + 1)))

/-- The load of wedge w of cluster c with what a candidate has due there. -/
def State.loadWith (s : State) (c w : Nat) (due : List Due) : Tab Nat :=
  (due.filter (fun d => d.w == w)).foldl (fun t d => (setBits 32 d.mask).foldl (fun t f => loadMore t (s.zBudget c f d.zone)) t)
    ((s.tlOf c).slotAt w).dload

/-- A load fits in wedge w of cluster c beside its partner's (R67, R225). -/
def State.loadFits (s : State) (c w : Nat) (t : Tab Nat) : Bool :=
  (s.partnerWedges c w).all (fun v =>
    let y := ((s.tlOf (c ^^^ 1)).slotAt v).dload
    decide (loadSum t + loadSum y ≤ s.capd (c / 2) (max (loadIb t) (loadIb y))))

/-- The due wedges of fragments whose last sample falls in wedge j, surface by surface: for each the earlier of j + 1 and
j + 2 that has room (R225); `none` where one has room in neither. A wedge past the timeline has none (log 71). -/
def State.dueEach (s : State) (x : Search) (j zone : Nat) : List Nat → Tab Nat → Tab Nat → Nat → Nat → Option (Nat × Nat)
  | [], _, _, m1, m2 => some (m1, m2)
  | f :: fs, a, b, m1, m2 =>
    let ib := s.zBudget x.c f zone
    if decide (j + 1 < x.hz) && s.loadFits x.c (j + 1) (loadMore a ib) then
      State.dueEach s x j zone fs (loadMore a ib) b (putBit m1 f true) m2
    else if decide (j + 2 < x.hz) && s.loadFits x.c (j + 2) (loadMore b ib) then
      State.dueEach s x j zone fs a (loadMore b ib) m1 (putBit m2 f true)
    else none

/-- The due wedges of the fragments of a read pass (R225). DESIGN CHOICE (log 34, log 71): the fragments of one stripe are
given theirs in the order of their surfaces, and a due wedge must lie in the timeline. -/
def State.dueWedgeOf (s : State) (x : Search) (j mask zone : Nat) (due : List Due) : Option (List Due) :=
  (s.dueEach x j zone (setBits 32 mask) (s.loadWith x.c (j + 1) due) (s.loadWith x.c (j + 2) due) 0 0).map (fun m =>
    due ++ [⟨j + 1, m.1, zone⟩, ⟨j + 2, m.2, zone⟩])

/-! ### One stripe -/

/-- A pass may stand where it falls. -/
def State.passOk (s : State) (x : Search) (pl : Plan) (frags : Nat) (p : Pass) : Bool :=
  (List.range (p.b + 1 - p.a)).all (fun i => ((s.tlOf x.c).slotAt (p.a + i)).maskOk p.mask) &&
    (!p.write || (List.range (p.b + 1 - p.a)).all (fun i =>
      (setBits 32 p.mask).all (fun f => s.warmOk x pl.passes (p.a + i) f))) &&
    s.settleOk x.c frags pl.passes p

/-- The passes of a stripe whose first pass begins in wedge n: the write pass of a partial-stripe write falls one
revolution later (R66). -/
def State.passesAt (s : State) (i : Nat) (it : Item) (n : Nat) : List Pass :=
  let span := it.spot.i1 - it.spot.i0
  let r : Pass := ⟨i, false, n, n + span, it.rmask, it.spot.track, it.spot.frag, none⟩
  let n' := if it.rmask = 0 then n else n + s.wpr
  let w : Pass := ⟨i, true, n', n' + span, it.wmask, it.spot.track, it.spot.frag, it.dest⟩
  (if it.rmask = 0 then [] else [r]) ++ (if it.wmask = 0 then [] else [w])

/-- Adding the passes of a stripe to a candidate, each of them valid; `limit` is the first wedge the arm has left. -/
def State.addPasses (s : State) (x : Search) (zone limit : Nat) (pl : Plan) : List Pass → Option Plan
  | [] => some pl
  | p :: ps =>
    if limit ≤ p.b || !s.passOk x pl (s.zFrags x.c zone) p then none
    else
      let due? := if p.write then some pl.due
        else s.dueWedgeOf x p.b p.mask zone pl.due
      match due? with
      | none => none
      | some due => State.addPasses s x zone limit { pl with due := due, passes := pl.passes ++ [p] } ps

/-- The earliest valid occurrence of a stripe from wedge n on, trying one revolution after the other. -/
def State.fitItem (s : State) (x : Search) (i : Nat) (it : Item) (limit : Nat) (pl : Plan) : Nat → Nat → Option Plan
  | 0, _ => none
  | k + 1, n =>
    if limit ≤ n then none
    else match s.addPasses x it.spot.zone limit pl (s.passesAt i it n) with
      | some r => some r
      | none => State.fitItem s x i it limit pl k (n + s.wpr)

/-- The wedge in which a stripe first passes from `ready` on. -/
def State.passesFirst (s : State) (x : Search) (ready : Nat) (it : Item) : Nat :=
  ready + (it.spot.i0 + s.wpr - s.indexOf x.c ready) % s.wpr

/-- The stripes of one band group, one after the other. -/
def State.fitGroup (s : State) (x : Search) (ready limit : Nat) : List (Nat × Item) → Plan → Option Plan
  | [], pl => some pl
  | (i, it) :: rest, pl =>
    match s.fitItem x i it limit pl 65 (s.passesFirst x ready it) with
    | none => none
    | some pl => State.fitGroup s x ready limit rest pl

/-- Stripes in the order in which they first pass, in LBA order where they pass in one wedge. -/
def State.inPassing (s : State) (x : Search) (ready : Nat) (g : List (Nat × Item)) : List (Nat × Item) :=
  g.foldl (fun l y => l.takeWhile (fun z => decide (s.passesFirst x ready z.2 ≤ s.passesFirst x ready y.2)) ++ [y] ++
    l.dropWhile (fun z => decide (s.passesFirst x ready z.2 ≤ s.passesFirst x ready y.2))) []

/-! ### One candidate -/

/-- The first wedge from `n` on where the arm cannot stay in a group's reach: a MOVE slot, a HELD slot that fails the
stroke check, or a placement that expects the arm where it was (R62, R64). -/
def State.armLimit (s : State) (x : Search) (g : List (Nat × Item)) (n : Nat) : Nat → Tab WSlot → Nat
  | _, [] => x.hz
  | cur, w :: t =>
    if w.1 < n || !w.2.armed then State.armLimit s x g n cur t
    else if (s.tlOf x.c).posAt (w.1 - 1) ≠ cur || w.2.arm ≠ .held ||
        !g.all (fun it => s.strokeOk x.c it.2.spot.track w.2.pos) then w.1
    else State.armLimit s x g n w.2.pos t

/-- Holding the arm from wedge n for k wedges. -/
def State.holdRun (s : State) (c : Nat) (pl : Plan) : Nat → Nat → Plan
  | 0, _ => pl
  | k + 1, n =>
    let w := (s.tlOf c).slotAt n
    State.holdRun s c (if w.armed then { pl with through := pl.through ++ [n], cur := w.pos }
      else { pl with holds := pl.holds ++ [(n, pl.cur)] }) k (n + 1)

/-- MOVE wedges from n on, each of them unplaced; the arm is at `p` at the end of the last one, and the spec does not say
where at the end of the others. -/
def State.moveRun (s : State) (x : Search) (pl : Plan) (n w p : Nat) : Option Plan :=
  if (List.range w).all (fun i => decide (n + i < x.hz) && !((s.tlOf x.c).slotAt (n + i)).armed) then
    some { pl with
      moves := pl.moves ++ (List.range w).map (fun i => (n + i, if i + 1 = w then p else Config.seekPos pl.cur p i % 2 ^ 26))
      cur := p }
  else none

/-- The arm positions from which a run may serve the stripes left: where the arm is, and t + C(r) of each (R63, R258). -/
def State.positions (s : State) (x : Search) (items : List (Nat × Item)) (cur : Nat) : List Nat :=
  (cur :: items.map (fun y => s.armFor x.c y.2.spot.track)).eraseDups.filter (fun p =>
    items.any (fun y => s.strokeOk x.c y.2.spot.track p))

/-- One run: the arm moves to `p` where it is not there yet, and holds until every stripe left that it can reach has
passed. The answer holds the plan, the stripes left after it, and the first wedge after the run. -/
def State.armRun (s : State) (x : Search) (items : List (Nat × Item)) (ready : Nat) (pl : Plan) (p : Nat) :
    Option (Plan × List (Nat × Item) × Nat) :=
  let g := items.filter (fun y => s.strokeOk x.c y.2.spot.track p)
  let w := if p = pl.cur then 0 else s.seek x.c ((p : Int) - pl.cur).natAbs
  match s.moveRun x pl ready w p with
  | none => none
  | some pl =>
    let ready := ready + w
    let limit := s.armLimit x g ready p (s.tlOf x.c).slots
    match s.fitGroup x ready limit (s.inPassing x ready g) pl with
    | none => none
    | some pl =>
      let fin := (pl.passes.filter (fun q => decide (ready ≤ q.a))).foldl (fun m q => max m q.b) ready
      some (s.holdRun x.c pl (fin + 1 - ready) ready, items.filter (fun y => !s.strokeOk x.c y.2.spot.track p), fin + 1)

/-- Every sequence of runs that serves the stripes, with the first wedge after it. -/
def State.runs (s : State) (x : Search) : Nat → List (Nat × Item) → Nat → Plan → List (Plan × Nat)
  | _, [], ready, pl => [(pl, ready)]
  | 0, _, _, _ => []
  | k + 1, items, ready, pl =>
    (s.positions x items pl.cur).flatMap (fun p =>
      match s.armRun x items ready pl p with
      | none => []
      | some r => State.runs s x k r.2.1 r.2.2 r.1)

/-- The return of the arm before a later placement's first cell (R64). -/
def State.comeBack (s : State) (x : Search) (ready : Nat) (pl : Plan) : Option Plan :=
  let t := s.tlOf x.c
  match t.slots.find? (fun w => decide (ready ≤ w.1) && w.2.armed) with
  | none => some pl
  | some w =>
    let back := t.posAt (w.1 - 1)
    if back = pl.cur then some pl
    else
      let n := s.seek x.c ((back : Int) - pl.cur).natAbs
      if ready + n ≤ w.1 then s.moveRun x pl ready n back else none

/-- Lanes a candidate transfers in a wedge. -/
def Plan.xmask (p : Plan) (n : Nat) : Nat :=
  (p.passes.filter (fun q => decide (q.a ≤ n ∧ n ≤ q.b))).foldl (fun m q => m ||| q.mask) 0

/-- The lanes whose cells a candidate takes in a wedge that another command holds: its transfers and the cells nobody owns
where the candidate holds the arm too (R60), and the lanes it keeps idle for a step of R290, whose cells become its HOLD
cells (R61). DESIGN CHOICE (log 72): of the idle wedges of a step these are the MA_STEP_W last. -/
def State.takenIn (s : State) (x : Search) (p : Plan) (n : Nat) : List Nat :=
  let w := (s.tlOf x.c).slotAt n
  let held := p.through.contains n
  let step := if decide (x.n0 ≤ n) && w.arm = .held && (held || x.items.all (fun it => s.strokeOk x.c it.spot.track w.pos)) then
      s.settleLanes x (s.zFrags x.c ((x.items.head?.map (fun it => it.spot.zone)).getD 0)) p.passes n
    else []
  (List.range 32).filter (fun f =>
    (held && (bitAt (p.xmask n) f || (tget TCell.init w.cells f).kind = .free)) ||
      (step.contains f && (tget TCell.init w.cells f).takeable))

/-- The wedges of a candidate that another command holds: those it holds the arm through, and those before its passes that
a step of R290 may reach. -/
def State.sharedWedges (s : State) (x : Search) (p : Plan) : List Nat :=
  let near := p.passes.flatMap (fun q => (List.range (s.get (SRV_THR2_MA_STEP_W x.c))).filterMap (fun i =>
    if i < q.a then some (q.a - 1 - i) else none))
  let own := p.moves.map Prod.fst ++ p.holds.map Prod.fst
  p.through ++ (near.eraseDups.filter (fun n => !p.through.contains n && !own.contains n))

/-- A candidate with the cells it takes from wedges that another command holds. -/
def State.withTook (s : State) (x : Search) (p : Plan) : Plan :=
  { p with took := ((s.sharedWedges x p).map (fun n => (n, s.takenIn x p n))).filter (fun y => !y.2.isEmpty) }

/-- The candidates that start in wedge n. -/
def State.candidates (s : State) (x : Search) (n : Nat) : List Plan :=
  let pl : Plan := ⟨[], [], [], [], [], (s.tlOf x.c).posAt (n - 1), []⟩
  (s.runs x x.items.length ((List.range x.items.length).zip x.items) n pl).filterMap (fun r =>
    if r.2 ≤ x.hz then (s.comeBack x r.2 r.1).map (s.withTook x) else none)

/-! ### Charge, funding and promise time -/

/-- The charge of a candidate (R83). -/
def Plan.charge (p : Plan) : Nat :=
  32 * (p.moves.length + p.holds.length) + p.took.foldl (fun n y => n + y.2.length) 0

/-- First cell and last XFER wedge of a candidate. -/
def Plan.first (p : Plan) : Nat :=
  ((p.moves.map Prod.fst) ++ (p.holds.map Prod.fst) ++ p.took.map Prod.fst).foldl min (2 ^ 40)
def Plan.nLast (p : Plan) : Nat := p.passes.foldl (fun m q => max m q.b) 0

/-- The amount X a charge borrows, and whether it is funded (R85). -/
def State.fund (s : State) (c key charge first : Nat) (noBorrow : Bool) : Option Nat :=
  let t := s.tlOf c
  let r := tget Row.init t.rows key
  let j := (t.base + first) / s.wpr - (t.base + t.now) / s.wpr
  let cap : Int := (r.depth * r.share : Nat)
  let own := max 0 (min (r.balance + (j * r.share : Nat)) cap)
  let x := charge - own.toNat
  if x ≤ t.lend ∧ r.borrowed + x ≤ r.ceiling - r.share ∧ (noBorrow = false ∨ x = 0) then some x else none

/-- T_p of a media command by its last XFER wedge (R74); a BUFFERED write's T_media has the same form (R121). -/
def State.mediaTime (s : State) (c n : Nat) (write : Bool) : Nat :=
  if write then s.tick c (n + 1) + s.term 4 + s.term 6 + s.term 7
  else s.tick c (n + 1 + s.term 1) + s.term 2 + s.term 3 + s.term 6 + s.term 7

/-- The earliest fit, whether it is funded, and the earliest funded fit found so far. -/
structure Best where
  fit : Option (Plan × Bool)
  funded : Option Plan
  deriving DecidableEq, Repr

/-- The order of R69: a smaller last XFER wedge, with which T_p grows, and on a tie an earlier first cell. -/
def Plan.beats (p q : Plan) : Bool := p.nLast < q.nLast || (p.nLast == q.nLast && decide (p.first < q.first))

/-- One more candidate. -/
def Best.add (b : Best) (p : Plan) (ok : Bool) : Best :=
  { fit := match b.fit with
      | none => some (p, ok)
      | some q => if p.beats q.1 then some (p, ok) else some q
    funded := match b.funded with
      | none => if ok then some p else none
      | some q => if ok && p.beats q then some p else some q }

/-- The search of R69 over k starts from wedge n on; a start past the funded plan's last XFER wedge cannot do better. -/
def State.search (s : State) (x : Search) (key : Nat) (noBorrow : Bool) : Nat → Nat → Best → Best
  | 0, _, b => b
  | k + 1, n, b =>
    if (match b.funded with | some p => decide (p.nLast < n) | none => false) then b
    else State.search s x key noBorrow k (n + 1) ((s.candidates x n).foldl (fun b p =>
      b.add p (s.fund x.c key p.charge p.first noBorrow).isSome) b)

/-! ### Committing a plan -/

/-- The cell of a lane in a wedge of the plan. -/
def State.cellFor (s : State) (x : Search) (p : Plan) (n f : Nat) : TCell :=
  match p.passes.find? (fun q => decide (q.a ≤ n ∧ n ≤ q.b) && bitAt q.mask f) with
  | some q => ⟨.xfer, x.owner, q.write, s.passPhys x.c q f, q.frag⟩
  | none => ⟨.hold, x.owner, false, 0, 0⟩

/-- The wedges that the plan places for itself. -/
def State.ownSlots (s : State) (x : Search) (p : Plan) (t : Timeline) : Timeline :=
  let put (t : Timeline) (n pos : Nat) (arm : Arm) (cell : Nat → TCell) : Timeline :=
    let w := { t.slotAt n with arm := arm, pos := pos, cells := (List.range 32).map (fun f => (f, cell f)) }
    { t with slots := tset WSlot.init t.slots n w }
  let t := p.moves.foldl (fun t m => put t m.1 m.2 .move (fun _ => ⟨.move, x.owner, false, 0, 0⟩)) t
  p.holds.foldl (fun t m => put t m.1 m.2 .held (s.cellFor x p m.1)) t

/-- The wedges that another command holds: the cells taken change owner; the answer lists the handles they are taken
from, one for each cell (R61). -/
def State.takeSlots (s : State) (x : Search) (p : Plan) : List (Nat × List Nat) → Timeline → List Nat → Timeline × List Nat
  | [], t, from_ => (t, from_)
  | (n, fs) :: ns, t, from_ =>
    let w := t.slotAt n
    let old := (fs.map (fun f => (tget TCell.init w.cells f).owner)).filter (· != 0)
    let cells := fs.foldl (fun cs f => tset TCell.init cs f (s.cellFor x p n f)) w.cells
    State.takeSlots s x p ns { t with slots := tset WSlot.init t.slots n { w with cells := cells } } (from_ ++ old)

/-- The decode load of the plan (DLOAD and IB_w). -/
def State.addDue (s : State) (c : Nat) (t : Timeline) (d : Due) : Timeline :=
  t.reload d.w (fun l => (setBits 32 d.mask).foldl (fun l f => loadMore l (s.zBudget c f d.zone)) l)

/-- A charge, part of it borrowed, comes off its row and the lend pool (R85). -/
def Timeline.debit (t : Timeline) (key charge bor : Nat) : Timeline :=
  let row := tget Row.init t.rows key
  let row := { row with balance := row.balance - ((charge - bor : Nat) : Int), borrowed := row.borrowed + bor }
  { t with rows := if row.used then tset Row.init t.rows key row else t.rows, lend := t.lend - bor }

/-- What the release of a plan that was only tentative leaves: ARM and POS of its wedges, with every cell FREE (R515). -/
def State.leaveArms (s : State) (x : Search) (p : Plan) : State :=
  let free (w : WSlot) : WSlot := { w with cells := [] }
  let t := s.ownSlots x p (s.tlOf x.c)
  let own := p.moves.map Prod.fst ++ p.holds.map Prod.fst
  s.setTl x.c { t with slots := t.slots.map (fun y => if own.contains y.1 then (y.1, free y.2) else y) }

end Sys2Proof.Machine
end

