-- ==== Sys2Proof/Machine/Trial.lean ====
section
/-! DEFINITION. Machine/Trial.lean: step 6 of R50 up to the verdict: predecessors, the placement of a command on its
clusters beside the tentative placements of others, and the placement of the work of burgee 0 (R53, R57, R65, R70, R74, R81,
R85, R88, R100, R104, R120 to R122). -/

namespace Sys2Proof.Machine

/-! ### Stripes of a range (R231) -/

/-- The stripes that blocks lba to lba + count - 1 touch, in LBA order. -/
def stripesOf (lba count : Nat) : List CmdStripe :=
  let a := lba / 30
  let b := (lba + count - 1) / 30
  (List.range (b + 1 - a)).map (fun i =>
    let S := a + i
    let lo := max lba (30 * S)
    let hi := min (lba + count) (30 * S + 30)
    ⟨S % 8, S / 8, 0, 0, lo % 30, hi - lo, lo - lba, .unbegun, 0, 0, 0, 0, 0, 0, 0, none⟩)

/-- The clusters of a list of stripes, ascending. -/
def clustersOf (l : List CmdStripe) : List Nat := (List.range 8).filter (fun c => l.any (fun x => x.cluster == c))

/-- L of R77 for a DEADLINE field. -/
def State.lengthOf (s : State) (dl count : Nat) : Nat :=
  match dlKind dl with
  | 0 => dl % 2 ^ 28
  | 1 => s.term 5 * ((count + 29) / 30) + s.term 7
  | 2 => 2 * s.wpr * s.wt / 2 ^ 16
  | 3 => 8 * s.wpr * s.wt / 2 ^ 16
  | _ => 64 * s.wpr * s.wt / 2 ^ 16

/-! ### Predecessors (R65, R120, R121) -/

/-- Two commands' blocks overlap: their ranges, or the stripes that a copy of a track holds (R261). -/
def State.overlap (s : State) (a b : Cmd) : Bool :=
  if a.isCopy || b.isCopy then a.stripes.any (fun x => b.stripes.any (fun y => x.cluster == y.cluster &&
    s.cmdSlot a x == s.cmdSlot b y))
  else a.overlaps b

/-- The predecessors of a command (R120). -/
def State.predsOf (s : State) (c : Cmd) : List Cmd :=
  s.ports.cmds.filter (fun p => p.id != c.id && p.before c &&
    ((p.locked && s.overlap p c && (p.writes || c.writes || p.isCopy || c.isCopy)) ||
      (c.ordered && p.isLive && p.port == c.port && c.hoisted)))

/-- T_dep of one predecessor (R121). -/
def depTime (c p : Cmd) : Nat :=
  if p.writes && p.buffered && (c.writes || (c.ordered && p.port == c.port && c.hoisted)) then p.tmedia else p.tp

/-- The tick before which no wedge of the placement may begin (R65). -/
def State.readyAt (s : State) (c : Cmd) : Nat :=
  ((s.predsOf c).map (depTime c)).foldl max (c.th + s.term 0)

/-! ### Step 6 (R57, R66, R69, R70) -/

/-- A stripe as its cluster has to place it (R66); work of burgee 0 says itself which lanes it needs. -/
def State.itemOf (s : State) (c : Cmd) (x : CmdStripe) : Option Item :=
  match s.slotSpot x.cluster (s.cmdSlot c x) with
  | none => none
  | some sp =>
    let lost := s.lostMask x.cluster
    let all := (2 ^ 32 - 1) ^^^ lost
    if c.isActivity then some ⟨sp, x.rmask, x.wmask, x.dest⟩
    else if !c.writes then some ⟨sp, all, 0, none⟩
    else
      let shut := s.shutMask x.cluster (s.region x.cluster sp.track)
      let roles := if x.nblk = 30 then List.range 32 else (List.range x.nblk).map (· + x.role0) ++ [30, 31]
      let w := roles.foldl (fun m r => if bitAt shut (surfOf x.q r) then m else putBit m (surfOf x.q r) true) 0
      some ⟨sp, if x.nblk = 30 then 0 else all, w, none⟩

/-- What a command has to place on cluster `k`. -/
def State.searchOf (s : State) (c : Cmd) (k owner : Nat) : Option Search :=
  let items := (c.stripes.filter (fun x => x.cluster == k)).map (s.itemOf c)
  if s.wt = 0 || items.any Option.isNone then none
  else
    let t := s.tlOf k
    some ⟨k, owner, max (s.wedgeFrom k (s.readyAt c)) (t.now + 1), t.now + s.span, items.filterMap id⟩

/-- The fits of a command on one cluster. -/
def State.bestOn (s : State) (c : Cmd) (k owner : Nat) (noBorrow : Bool) : Best :=
  match s.searchOf c k owner with
  | none => ⟨none, none⟩
  | some x => s.search x c.rowKey noBorrow (x.hz - x.n0) x.n0 ⟨none, none⟩

/-- The fragments of stripe `i`'s read pass due one wedge after it and two wedges after: each read pass has two entries. -/
def Plan.duesOf (p : Plan) (i : Nat) : Nat × Nat :=
  match (p.passes.filter (fun q => !q.write)).findIdx? (fun q => q.item == i) with
  | none => (0, 0)
  | some r => ((p.due.getD (2 * r) ⟨0, 0, 0⟩).mask, (p.due.getD (2 * r + 1) ⟨0, 0, 0⟩).mask)

/-- The passes of a plan carried into the command's stripes on its cluster, from item `i` on. -/
def setStripes (k : Nat) (p : Plan) (items : List Item) : Nat → List CmdStripe → List CmdStripe
  | _, [] => []
  | i, x :: xs =>
    if x.cluster ≠ k then x :: setStripes k p items i xs
    else
      let it := items.getD i ⟨⟨0, 0, 0, 0, 0⟩, 0, 0, none⟩
      let mine := p.passes.filter (fun q => q.item == i)
      let x' := { x with
        track := it.spot.track, frag := it.spot.frag, rmask := it.rmask, wmask := it.wmask
        w0 := (mine.head?.map Pass.a).getD 0
        w1 := (mine.head?.map Pass.b).getD 0
        wEnd := mine.foldl (fun m q => max m q.b) 0
        due1 := (p.duesOf i).1
        due2 := (p.duesOf i).2 }
      x' :: setStripes k p items (i + 1) xs

/-- What step 6 found on the clusters of a command: the state with every funded plan committed, the same beside the
tentative placements of others, the command, its media time, and per cluster the fit with its funding, the funded plan and
the amount it borrows. -/
structure Trial where
  s : State
  o : State
  c : Cmd
  tmedia : Nat
  per : List (Nat × Option (Plan × Bool) × Option (Plan × Nat))

/-- The cells, loads and debit of a plan, with the handles its cells are taken from. -/
def State.putPlan (s : State) (x : Search) (key bor : Nat) (p : Plan) : State × List Nat :=
  let r := s.takeSlots x p p.took (s.ownSlots x p (s.tlOf x.c)) []
  let t := p.due.foldl (s.addDue x.c) r.1
  (s.setTl x.c (t.debit key p.charge bor), r.2)

/-- Committing a plan on its cluster: its cells, its load, its charge (R85), and the refund of the commands whose cells it
took (R61, R84). -/
def State.commitPlan (s : State) (x : Search) (key bor : Nat) (p : Plan) : State :=
  let r := s.putPlan x key bor p
  r.2.foldl (fun s h => match s.cmdByHandle? h with
    | some c => s.refund c x.c 1
    | none => s) r.1

/-- The handle under which the cells of tentative placement `i` stand beside the timeline: none that the pool has. -/
def ghost (i : Nat) : Nat := 16384 + i

/-- The timelines as a placement finds them that meets the tentative placements of refused commands: their cells count as
owned, their loads and charges as taken, and the commands with their tentative times as predecessors (R61, R104, R122). -/
def State.overlay (s : State) : State :=
  let put (s : State) (y : Tent × Nat) : State :=
    let s := y.1.parts.foldl (fun s p => (s.putPlan ⟨p.1, ghost y.2, 0, 0, []⟩ y.1.cmd.rowKey p.2.2 p.2.1).1) s
    { s with ports := { s.ports with cmds := s.ports.cmds.filter (fun c => c.id != y.1.cmd.id) ++ [y.1.cmd] } }
  (s.ports.tents.zip (List.range s.ports.tents.length)).foldl put s

/-- Placing a command on its clusters, one pipeline after the other (R53, R70). -/
def State.tryPlace (noBorrow : Bool) : List Nat → Trial → Trial
  | [], r => r
  | k :: ks, r =>
    let b := r.o.bestOn r.c k r.c.handle noBorrow
    match b.funded, r.o.searchOf r.c k r.c.handle with
    | some p, some x =>
      let bor := (r.o.fund k r.c.rowKey p.charge p.first noBorrow).getD 0
      let c := { r.c with
        stripes := setStripes k p x.items 0 r.c.stripes
        own := tset 0 r.c.own k (p.charge - bor), borrowed := tset 0 r.c.borrowed k bor }
      State.tryPlace noBorrow ks
        { s := r.s.commitPlan x r.c.rowKey bor p, o := r.o.commitPlan x r.c.rowKey bor p, c := c
          tmedia := max r.tmedia (r.s.mediaTime k p.nLast (r.c.writes || r.c.stripes.any (fun y => y.wmask != 0)))
          per := r.per ++ [(k, b.fit, some (p, bor))] }
    | _, _ => State.tryPlace noBorrow ks { r with per := r.per ++ [(k, b.fit, none)] }

/-- Every cluster has a funded placement. -/
def Trial.placed (r : Trial) : Bool := r.per.all (fun p => p.2.2.isSome)

/-- T_p of R74 from the media time of the placement. -/
def State.promiseOf (s : State) (c : Cmd) (tmedia : Nat) : Nat :=
  if c.writes && c.buffered then c.th + s.term 5 * ((c.count + 29) / 30) + s.term 7 else tmedia

/-- A handle of the pool: the one named where it is free, else the least free one (R57). -/
def State.freeHandle (s : State) (h : Nat) : Option Nat :=
  let used (x : Nat) : Bool := s.ports.cmds.any (fun c => c.handle == x)
  if 16383 ≤ s.handlesUsed then none
  else if h ≠ 0 ∧ h ≤ 16383 ∧ used h = false then some h
  else ((List.range (s.handlesUsed + 1)).map (· + 1)).find? (fun x => !used x)

/-- The clusters whose part of the placement of R80 ends later than D, or that have none. -/
def Trial.lateOn (r : Trial) (c : Cmd) (dl : Nat) : List Nat :=
  (r.per.filter (fun p => match p.2.2 with
    | some q => decide (dl < r.s.promiseOf c (r.s.mediaTime p.1 q.1.nLast c.writes))
    | none => false)).map Prod.fst

/-- The tentative placement that a refused command leaves for those that meet it: its funded plans that met D. -/
def Trial.tent (r : Trial) (c : Cmd) (dl : Nat) : Tent :=
  { cmd := { r.c with phase := .promised, tp := r.s.promiseOf c r.tmedia, tmedia := r.tmedia, handle := 0 }
    since := r.s.now
    parts := r.per.filterMap (fun p => match p.2.2 with
      | some q => if r.s.promiseOf c (r.s.mediaTime p.1 q.1.nLast c.writes) ≤ dl then some (p.1, q.1, q.2) else none
      | none => none) }

/-- The release of a tentative placement within step 6 (R70): ARM and POS of its wedges stay (R515), and a placement that
follows in a pipeline may still meet its cells (R104). -/
def State.release (s : State) (x : Tent) : State :=
  if x.parts.isEmpty then s
  else
    let s := x.parts.foldl (fun s p => s.leaveArms ⟨p.1, 0, 0, 0, []⟩ p.2.1) s
    { s with ports := { s.ports with tents := x :: s.ports.tents } }

/-- The tentative placements that a placement still meets: `met` names them, newest first, and none outlasts the 400 FCLK
of step 6 (R50). -/
def State.meeting (s : State) (met : Nat) : State :=
  let l := (s.ports.tents.zip (List.range s.ports.tents.length)).filter (fun y =>
    bitAt met y.2 && decide (s.now ≤ y.1.since + 25))
  { s with ports := { s.ports with tents := l.map Prod.fst } }

/-- A stripe that will not be read leaves the decode load of its due wedges (DLOAD of R55), fragment by fragment with the
IBUDGET of its surface. -/
def State.undueStripe (s : State) (c : Cmd) (x : CmdStripe) : State :=
  let z := s.slotZone x.cluster (s.cmdSlot c x)
  let ib (f : Nat) : Nat := s.zBudget x.cluster f z
  let less (m : Nat) (t : Tab Nat) : Tab Nat := (setBits 32 m).foldl (fun t f => loadLess t (ib f)) t
  s.setTl x.cluster (((s.tlOf x.cluster).reload (x.w1 + 1) (less x.due1)).reload (x.w1 + 2) (less x.due2))

/-! ### The work of burgee 0 (R88, R100) -/

/-- A stripe slot of the work of burgee 0, with the lanes it reads and writes. -/
def workStripe (c slot rmask wmask : Nat) (dest : Option Int) : CmdStripe :=
  ⟨c, slot, 0, 0, 0, 0, 0, .unbegun, 0, 0, 0, 0, 0, rmask, wmask, dest⟩

/-- DEADLINE of the work of burgee 0: the BULK class (R76, R88). -/
def bulk : Nat := 4 * 2 ^ 28

/-- A step of an activity, not placed yet. -/
def State.newWork (s : State) (a : Activity) (c lba : Nat) (stripes : List CmdStripe) : Cmd :=
  { id := s.ports.nextId, op := .activity a, code := 0, port := 0, die := c / 4, burgee := 0, tag := 0, flags := 0, lba := lba,
    count := 0, slot := 0, target := 0, deadline := bulk, th := s.now, phase := .promised, tp := 0,
    dl := 0, tmedia := 0, handle := 0, cached := false, clusters := [c], stripes := stripes, prior := [], rebuilt := 0,
    lost := [], status := 0, assume := 0, preds := [], own := [], borrowed := [], popped := false, mediaDone := false,
    victim := none, aborting := false, burst := false, moved := [], detail := none }

/-- The step that an activity has placed on a cluster and not carried out; of the RELOC row, a copy is apart (R266). -/
def State.workOf (s : State) (a : Activity) (c : Nat) (copy : Bool) : Option Cmd :=
  s.ports.cmds.find? (fun x => x.op == .activity a && x.clusters == [c] && x.phase = .promised && x.isCopy == copy)

/-- The stripes of a step that are placed, and whose wedges have passed. -/
def CmdStripe.placed (x : CmdStripe) : Bool := decide (0 < x.wEnd)
def State.passed (s : State) (x : CmdStripe) : Bool := x.placed && decide (x.wEnd < (s.tlOf x.cluster).now)

/-- Placing those stripes of a step that `pick` names, with a handle of its own (R57, R88, R100): where no handle is free, no
placement fits or is funded, or it ends past the BULK time, nothing changes and the activity waits. -/
def State.placeWork (s : State) (x : Cmd) (c h : Nat) (pick : CmdStripe → Bool) : State :=
  match (if x.handle ≠ 0 then some x.handle else s.freeHandle h) with
  | none => s
  | some h =>
    let part := { x with handle := h, th := s.now, stripes := x.stripes.filter pick }
    let dl := s.now + s.lengthOf bulk 0
    if !s.isOpen c || part.stripes.isEmpty then s
    else
      let r := State.tryPlace false [c] ⟨s, s.overlay, part, 0, []⟩
      if r.placed ∧ r.tmedia ≤ dl then
        let x := { x with
          handle := h, dl := dl, tp := r.tmedia, tmedia := r.tmedia
          own := tset 0 x.own c (tget 0 x.own c + tget 0 r.c.own c)
          borrowed := tset 0 x.borrowed c (tget 0 x.borrowed c + tget 0 r.c.borrowed c)
          stripes := x.stripes.map (fun y => (r.c.stripes.find? (fun z => z.q == y.q)).getD y) }
        if s.ports.cmds.any (fun y => y.id == x.id) then r.s.setCmd x else r.s.addCmd x
      else s

/-- A step is over. -/
def State.endWork (s : State) (x : Cmd) : State :=
  (s.setCmd { x with phase := .ended, mediaDone := true, stripes := x.stripes.map (fun y => { y with st := .done }) }).tidy

end Sys2Proof.Machine
end

