-- ==== Sys2Proof/Machine/Stripe.lean ====
section
/-! DEFINITION. Machine/Stripe.lean: the stripe engine: opening, settling, encoding and committing stripes, the repair
list and buffer, skew and relocation, patrol and repair (R231 to R268, R310). -/

namespace Sys2Proof.Machine

/-! ### The STR unit (R240, R244, R310) -/

/-- The region of a stripe slot's track. -/
def State.slotRegion (s : State) (c slot : Nat) : Nat :=
  s.region c (((s.slotSpot c slot).map Spot.track).getD 0)

/-- Surfaces that transfer nothing for a stripe slot. -/
def State.slotShut (s : State) (c slot : Nat) : Nat := s.shutMask c (s.slotRegion c slot)

/-- The repair-list entry of a stripe slot. -/
def State.repairOf (s : State) (c slot : Nat) : Repair := tget Repair.init (s.strOf c).rlist slot

/-- The owner handle of the stripe in a slot: the command that transfers it in the wedge in progress, or any that has
begun it. -/
def State.stripeOwner (s : State) (c slot : Nat) : Nat :=
  ((s.ports.cmds.find? (fun x => x.handle != 0 && (match s.stripeIn c slot x with
    | some y => y.st = .begun
    | none => false))).map Cmd.handle).getD 0

/-- STR_OPEN (R240, R310): the stripe opens with the fragments erased that no read can take. -/
def execStrOpen (c : Cluster) (slot : BitVec 32) (s : State) : Res := s.run fun s =>
  let n := slot.toNat
  let x := s.strOf c
  let gone := s.slotShut c n ||| (s.repairOf c n).stale
  let frags := (setBits 32 gone).foldl (fun t f => tset .waiting t f .erased) []
  let o : OpenStripe := ⟨n, s.stripeOwner c n, false, 0, 0, [], [], frags, 0, false, false, false, 0, false⟩
  s.setStr c { x with opened := x.opened.filter (fun y => y.slot != n) ++ [o], cur := some n }

/-- Changing the open stripe that the STR unit works on. -/
def Stripes.curUpdate (x : Stripes) (g : OpenStripe → OpenStripe) : Stripes :=
  { x with opened := x.opened.map (fun o => if x.cur = some o.slot then g o else o) }

/-- The open stripe that the STR unit works on. -/
def Stripes.cur? (x : Stripes) : Option OpenStripe := x.opened.find? (fun o => x.cur == some o.slot)

/-- STR_WRITESET (R239, R244, R310): a write pass, with a WSEQ of its own; lost and OUT surfaces leave the write set. -/
def execStrWriteset (c : Cluster) (mask : BitVec 32) (s : State) : Res := s.run fun s =>
  let x := s.strOf c
  let w := (x.wseq + 1) % 2 ^ 32
  s.setStr c { (x.curUpdate (fun o =>
    { o with write := true, wset := mask.toNat &&& (mask.toNat ^^^ s.slotShut c o.slot), cut := 0, pq := false,
             wseq := w })) with wseq := if x.cur?.isSome then w else x.wseq }

/-- STR_COMMIT_TEST (R245, R310). -/
def execStrCommitTest (c : Cluster) (s : State) : Res := s.run fun s =>
  s.setStr c ((s.strOf c).curUpdate (fun o => { o with testing := o.write }))

/-- STR_CLOSE (R310). -/
def execStrClose (c : Cluster) (s : State) : Res := s.run fun s =>
  let x := s.strOf c
  s.setStr c { x with opened := x.opened.filter (fun o => x.cur != some o.slot), cur := none }

/-! ### Settling a read (R241 to R243, R246, R385, R386) -/


/-- The data ROLEs whose block is in the LOST mask. -/
def lostRoles (q : Nat) (e : Repair) : List Nat := (List.range 30).filter (fun r => bitAt e.lost (surfOf q r))

/-- The ROLEs erased, a LOST data block not counted (R240). -/
def badRoles (q : Nat) (e : Repair) (o : OpenStripe) : List Nat :=
  (List.range 32).filter (fun r => tget .waiting o.frags (surfOf q r) = .erased && !(lostRoles q e).contains r)

/-- What a settled read has found: the stripe's data by ROLE, the ROLEs rebuilt, lost to the media, or in the LOST mask. -/
structure Settled where
  data : Tab (List Nat)
  rebuilt : List Nat
  media : List Nat
  lost : List Nat
  deriving DecidableEq, Repr

/-- The result of a read of an open stripe (R241), from the repair buffer where it holds the stripe (R246). -/
def State.settleOf (s : State) (c : Nat) (o : OpenStripe) : Settled :=
  let x := s.strOf c
  let q := s.slotQ c o.slot
  let e := s.repairOf c o.slot
  let ls := lostRoles q e
  if x.rbuf.contains o.slot then
    ⟨(List.range 32).foldl (fun t r => tset [] t r (tget [] x.rbufData (32 * o.slot + r))) [], [], [], ls⟩
  else
    let bad := badRoles q e o
    let badData := bad.filter (fun r => decide (r < 30))
    let d (r : Nat) : List Nat := if ls.contains r then zeroFrag else tget [] o.data r
    let base := ls.foldl (fun t r => tset [] t r zeroFrag) o.data
    if bad.length ≤ 2 then
      ⟨(rebuild d badData (!bad.contains 30)).foldl (fun t p => tset [] t p.1 p.2) base, badData, [], ls⟩
    else ⟨base, [], badData, ls⟩

/-- Every fragment of the stripe has a result or an erasure. -/
def OpenStripe.complete (o : OpenStripe) : Bool := (List.range 32).all (fun f => tget .waiting o.frags f != .waiting)

/-- The latest write predecessor of a read that covers a block and whose media write has not ended (R386). -/
def State.latestPred (s : State) (x : Cmd) (lba : Nat) : Option Cmd :=
  (s.ports.cmds.filter (fun w => x.preds.contains w.id && w.writes && !w.mediaDone
    && decide (w.lba ≤ lba ∧ lba < w.lba + w.count))).foldl (fun m w => match m with
      | some b => if b.before w then some w else some b
      | none => some w) none

/-- A version of a block goes into its window slot: a dirty line is used, and a hit of the eviction buffer is counted
(R386). -/
def State.copyVersion (s : State) (lba ver key m : Nat) (evb : Bool) : State :=
  let s := s.copyBlock key m
  match (s.cacheOf (homeDie lba)).dirty? lba ver with
  | some l => s.setCache (homeDie lba) ((s.cacheOf (homeDie lba)).touch l)
  | none => if evb then s.countSat (CCH_EVB_HITS_COUNT (homeDie lba)) else s

/-- The words of block `i` of a media read: a predecessor's version, or the media data (R124, R386). -/
def State.fillSlot (s : State) (x : Cmd) (i : Nat) (data : List Nat) : State :=
  let lba := x.lba + i
  match (s.latestPred x lba).bind (fun w => (s.version? lba w.id).map (fun v => (w.id, v))) with
  | some (w, k, evb) => s.copyVersion lba w k (slotAddr (x.slot + i)) evb
  | none => s.putFrag (orgClu (lba / 30 % 8) 0) (slotAddr (x.slot + i)) data

/-- Delivering block `i` of a media read into its window slot (R124, R386). -/
def State.deliverBlock (s : State) (x : Cmd) (i : Nat) (data : List Nat) : State :=
  let s := s.fillSlot x i data
  if s.slotPoisoned (x.slot + i) then
    s.setCmd { x with lost := x.lost ++ [i], status := worse x.status 5 }
  else s.setCmd { x with moved := x.moved ++ [i] }

/-- A stripe of a command has ended. -/
def Cmd.endStripe (x : Cmd) (cluster q : Nat) (st : StripeState) : Cmd :=
  { x with stripes := x.stripes.map (fun y =>
      if y.cluster = cluster ∧ y.q = q ∧ (y.st = .begun ∨ y.st = .unbegun) then { y with st := st } else y) }

/-- Delivering a settled stripe to the media read that owns it: its blocks, what is lost, and the count of fragments
rebuilt (R241, R246). -/
def State.deliverStripe (s : State) (c q : Nat) (x : Cmd) (y : CmdStripe) (r : Settled) (mem : Bool) : State :=
  let roles := (List.range y.nblk).map (fun i => (y.role0 + i, y.off + i))
  let s := roles.foldl (fun s p =>
    match s.cmd? x.id with
    | none => s
    | some x =>
      let pred := (s.latestPred x (x.lba + p.2)).bind (fun w => s.version? (x.lba + p.2) w.id)
      if pred.isNone && (r.media.contains p.1 || r.lost.contains p.1) then
        s.setCmd { x with lost := x.lost ++ [p.2],
                          status := worse x.status (if r.lost.contains p.1 && mem then 5 else 4) }
      else if x.hoisted then s.deliverBlock x p.2 (tget [] r.data p.1)
      else s) s
  match s.cmd? x.id with
  | none => s
  | some x =>
    let whole := roles.all (fun p => !x.lost.contains p.2)
    let x := { x.endStripe c q (if whole then .done else .lost) with rebuilt := x.rebuilt + r.rebuilt.length }
    (s.setCmd x).endIfSettled x.id

/-- Installing the data blocks of a settled stripe CLEAN (R385, R396). -/
def State.installStripe (s : State) (c q : Nat) (x : Cmd) (r : Settled) : State :=
  if x.nocache then s
  else
    let ok (i : Nat) : Bool := !r.media.contains i && !r.lost.contains i &&
      !(x.op == .prefetch && x.moved.contains (lbaOf c q i))
    ((List.range 30).filter ok).foldl (fun s i => s.install (lbaOf c q i) (tget [] r.data i) (x.op == .prefetch)) s

/-- STRIPE_SETTLE (R241): the last result or erasure of an open read stripe has arrived. -/
def execStripeSettle (c : Cluster) (slot : BitVec 32) (s : State) : Res := s.run fun s =>
  match (s.strOf c).opened.find? (fun o => o.slot == slot.toNat) with
  | none => s
  | some o =>
    if o.settled || o.write || !o.complete then s
    else
      let n := slot.toNat
      let q := s.slotQ c n
      let r := s.settleOf c o
      let x := s.strOf c
      let s := s.setStr c { x with opened := x.opened.map (fun y =>
        if y.slot = n then { y with settled := true, data := r.data, gone := maskOf (r.media.map (surfOf q)) } else y) }
      let s := (s.seqEvent c 13).addSat (STR_REBUILT_COUNT c) r.rebuilt.length
      let s := if r.media.isEmpty then s else s.countSat (STR_STRIPES_LOST_COUNT c)
      match s.cmdByHandle? o.owner with
      | none => s
      | some x =>
        match s.stripeIn c n x with
        | none => s
        | some y =>
          if x.isActivity then s
          else if x.writes then s.setCmd { x with rebuilt := x.rebuilt + r.rebuilt.length }
          else
            let s := s.deliverStripe c q x y r (s.repairOf c n).memLost
            s.installStripe c q x r

/-! ### Writing (R243 to R249, R373) -/

/-- The ROLEs of a stripe that a command writes. -/
def CmdStripe.roles (y : CmdStripe) : List Nat := (List.range y.nblk).map (· + y.role0)

/-- The command that writes an open stripe, with its part of it. A stripe with a faulty source slot is not written (R141). -/
def State.writer (s : State) (c : Nat) (o : OpenStripe) : Option (Cmd × CmdStripe) :=
  (s.cmdByHandle? o.owner).bind (fun x => if x.writes then (s.stripeIn c o.slot x).map (fun y => (x, y)) else none)

/-- The open stripe's writer has given it up (R141). -/
def State.unwritten (s : State) (c : Nat) (o : OpenStripe) : Bool :=
  match s.writer c o with
  | some (_, y) => y.st = .lost
  | none => false

/-- The data fragments of a write pass (R243): the command's blocks, or what the read pass left. -/
def State.passData (s : State) (c : Nat) (o : OpenStripe) : Tab (List Nat) :=
  let q := s.slotQ c o.slot
  (List.range 30).foldl (fun t r =>
    let own := match s.writer c o with
      | some (x, y) => if y.roles.contains r then some ((s.versionData (lbaOf c q r) x.id).getD zeroFrag) else none
      | none => none
    let old := tget [] o.data r
    tset [] t r (own.getD (if old.isEmpty then zeroFrag else old))) []

/-- The blocks of an open write stripe are present in memory (R244): each of its writer's has been taken in, or a STRIPE pulse
has said so (R402). -/
def State.blocksPresent (s : State) (c : Nat) (o : OpenStripe) : Bool :=
  o.present || (match s.writer c o with
    | some (x, y) => y.offs.all x.moved.contains
    | none => true)

/-- Requests for versions that a write pass makes of the eviction buffer (R386, R389). -/
def State.evbServed (s : State) (c : Nat) (o : OpenStripe) : State :=
  match s.writer c o with
  | none => s
  | some (x, y) => y.roles.foldl (fun s r =>
      match s.version? (lbaOf c (s.slotQ c o.slot) r) x.id with
      | some (_, true) => s.countSat (CCH_EVB_HITS_COUNT (homeDie (lbaOf c (s.slotQ c o.slot) r)))
      | _ => s) s

/-- PARITY_ENCODE_DONE (R243, R244): P and Q of the open write stripe are ready. -/
def execParityEncodeDone (c : Cluster) (s : State) : Res := s.run fun s =>
  match (s.strOf c).cur? with
  | none => s
  | some o =>
    if !o.write || o.pq || s.resetting.contains (.parity c) || !s.blocksPresent c o then s
    else
      let t := s.passData c o
      let d (r : Nat) : List Nat := tget [] t r
      let t := tset [] (tset [] t 30 (parityP d)) 31 (parityQ d)
      (State.setStr (s.evbServed c o) c ((s.strOf c).curUpdate (fun o => { o with data := t, pq := true }))).seqEvent c 12

/-- A mask without the bits of another. -/
def minus (a b : Nat) : Nat := a ^^^ (a &&& b)

/-- The entry of R245 after a write pass with write set `w`, cut fragments `x`, and blocks lost in the pass: `media` for
a media reason (R243), `mem` declared lost (R373). Lost surfaces take no entry (R263). -/
def passEntry (e : Repair) (w x shut media mem : Nat) : Repair :=
  let ok := minus w x
  let lost := minus e.lost ok ||| media ||| mem
  ⟨minus (minus (e.stale ||| x) ok) shut, lost, (e.memLost || mem != 0) && lost != 0⟩

/-- Storing a repair-list entry; a full list takes the cluster out of service (R249). -/
def State.putRepair (s : State) (c slot : Nat) (e : Repair) : State :=
  let x := s.strOf c
  let s := s.setStr c { x with rlist := tset Repair.init x.rlist slot e, listDirty := x.listDirty || x.rlist != tset Repair.init x.rlist slot e }
  if 1048576 ≤ (s.strOf c).rlist.length && x.rlist.length < 1048576 then s.loseCluster c else s

/-- Erasures that a read of a stripe slot would find (R245). -/
def State.erasures (s : State) (c slot : Nat) : Nat :=
  popc 32 ((s.repairOf c slot).stale ||| s.slotShut c slot)

/-- The stripe's fragments enter the repair buffer, or replace those it holds in their place (R246). -/
def State.bufferStripe (s : State) (c slot : Nat) (data : Nat → List Nat) : State :=
  let x := s.strOf c
  let had := x.rbuf.contains slot
  let s := s.setStr c { x with
    rbuf := if had then x.rbuf else x.rbuf ++ [slot]
    rbufData := (List.range 32).foldl (fun t r => tset [] t (32 * slot + r) (data r)) x.rbufData }
  let s := s.countSat (STR_FAILED_COUNT c)
  if !had && (s.strOf c).rbuf.length == 256 then s.seqIrq c 6 else s

/-- The stripe leaves the repair buffer. -/
def State.unbuffer (s : State) (c slot : Nat) : State :=
  let x := s.strOf c
  s.setStr c { x with rbuf := x.rbuf.filter (· != slot), rbufData := x.rbufData.keep (fun k => k / 32 != slot) }

/-- The write counter counts `n` write passes (R239). -/
def State.nextWseq (s : State) (c n : Nat) : State :=
  s.setStr c { s.strOf c with wseq := ((s.strOf c).wseq + n) % 2 ^ 32 }

/-- The commit test of a write pass (R245, R246): the answer says whether the stripe is committed. -/
def State.commitPass (s : State) (c slot w x media mem : Nat) (data : Nat → List Nat) : State × Bool :=
  let lostS := s.lostMask c
  let xs := minus x lostS
  let s := s.putRepair c slot (passEntry (s.repairOf c slot) w (x &&& w) lostS media mem)
  let s := s.addSat (STR_CUTS_COUNT c) (popc 32 (xs &&& w))
  let ok := decide (s.erasures c slot ≤ 2)
  (if ok then s.unbuffer c slot else s.bufferStripe c slot data, ok)

/-- What a command gains from a stripe of its write that is committed or held in the repair buffer: its versions retire
(R385), the stripe is done, and the record of R393 ends with its media write. -/
def State.stripeWritten (s : State) (c q : Nat) (x : Cmd) (y : CmdStripe) : State :=
  let s := y.roles.foldl (fun s r => s.retireVersion x (lbaOf c q r)) s
  let s := (s.setCmd (x.endStripe c q .done)).endIfSettled x.id
  match s.cmd? x.id with
  | some z => if z.mediaDone then { s with bufRecs := s.bufRecs.filter (fun b => b.cmd != x.id) } else s
  | none => { s with bufRecs := s.bufRecs.filter (fun b => b.cmd != x.id) }

/-- A flush of the ring has committed on cluster c (R463): its log holds the events placed, over eight tracks. -/
def State.logFlushed (s : State) (c : Nat) : State :=
  let upTo := tget 0 s.log.flushTo c
  if upTo ≤ s.get (LOG_FLUSH_EVSEQ c) then s
  else
    let m := s.mediaOf c
    let new := s.log.ring.filter (fun e => s.get (LOG_FLUSH_EVSEQ c) ≤ e.evseq && e.evseq < upTo)
    let all := m.log ++ new
    let cap := 8 * s.zFrags c 0 * 1920
    (s.setMedia c { m with log := all.drop (all.length - cap) }).set (LOG_FLUSH_EVSEQ c) upTo

/-- The flush of the list's changes has committed with the LOG work that carried it (R251). -/
def State.listFlushed (s : State) (c : Nat) : State :=
  (s.setMedia c { s.mediaOf c with rlist := (s.strOf c).rlist }).setStr c { s.strOf c with listDirty := false }

/-- The LOG work of a cluster is over (R251, R463): of its stripes those on tracks 0 to 7 hold events, the one on track 8 the
list's changes. -/
def State.logDone (s : State) (c : Nat) (x : Cmd) : State :=
  let f := s.zFrags c 0
  let onLog := (x.stripes.filter (fun y => decide (y.q < 2 ^ 32 + 8 * f))).length
  let s := if onLog = 0 then s else s.logFlushed c
  let s := if onLog < x.stripes.length then s.listFlushed c else s
  let s := s.setMedia c { s.mediaOf c with logAt := ((s.mediaOf c).logAt + onLog) % max 1 (8 * f) }
  ((s.nextWseq c x.stripes.length).endWork x).seqEvent c 14

/-- COMMIT_TEST_DONE (R245, R246): of the open write stripe, or, with `log`, of the LOG work that is placed, once its wedges
have passed. -/
def execCommitTestDone (c : Cluster) (log : Bool) (s : State) : Res := s.run fun s =>
  if log then match s.workOf .log c false with
    | some x => if x.stripes.all s.passed then s.logDone c x else s
    | none => s
  else match (s.strOf c).cur? with
  | none => s
  | some o =>
    if !o.write || !o.testing then s
    else if s.unwritten c o then
      ((s.setStr c ((s.strOf c).curUpdate (fun o => { o with testing := false }))).set (SEQ_GREG_G c 7)
        (Config.commitResult true % 2 ^ 32)).seqEvent c 14
    else
      let q := s.slotQ c o.slot
      let w := minus o.wset (minus (s.slotShut c o.slot) o.cut)
      let wr := s.writer c o
      let own := (wr.map (fun p => p.2.roles)).getD []
      let media := minus o.gone (maskOf (own.map (surfOf q)))
      let mem := match wr with
        | some (x, y) => maskOf ((y.roles.filter (fun r => (s.versionData (lbaOf c q r) x.id).isNone)).map (surfOf q))
        | none => 0
      let r := s.commitPass c o.slot w (o.cut &&& o.wset) media mem (fun r => tget [] o.data r)
      let s := r.1.setStr c ((r.1.strOf c).curUpdate (fun o => { o with testing := false }))
      let s := (s.set (SEQ_GREG_G c 7) (Config.commitResult r.2 % 2 ^ 32)).seqEvent c 14
      match wr with
      | some (x, y) => (s.stripeWritten c q x y).tidy
      | none => s

/-! ### Repair (R266) -/

/-- A slot has a STALE fragment that can be rebuilt and written where it is (R266). -/
def State.repairable (s : State) (c n : Nat) : Bool :=
  minus (s.repairOf c n).stale (s.slotShut c n) != 0 && decide (s.erasures c n ≤ 2)

/-- The repair that comes next (R266): the oldest stripe of the repair buffer, written whole, or, with none there, the STALE
fragments of a slot, with a read pass before. -/
def State.nextRepair (s : State) (c slot : Nat) : List CmdStripe :=
  let all := 2 ^ 32 - 1
  match (s.strOf c).rbuf with
  | n :: _ => [workStripe c n 0 (minus all (s.slotShut c n)) none]
  | [] => if s.repairable c slot then
      [workStripe c slot (minus all (s.lostMask c)) (minus (s.repairOf c slot).stale (s.slotShut c slot)) none] else []

/-- A repair's write pass is over; `cut` names the fragments that it failed to write (R245, R266). -/
def State.repaired (s : State) (c : Nat) (y : CmdStripe) (cut : Nat) : State :=
  let x := s.strOf c
  let n := y.q
  let s := s.nextWseq c 1
  if x.rbuf.contains n then
    let w := minus (2 ^ 32 - 1) (s.slotShut c n)
    let xs := cut &&& w
    let s := (s.commitPass c n w xs 0 0 (fun r => tget [] x.rbufData (32 * n + r))).1
    s.addSat (STR_REPAIRED_COUNT c) (popc 32 (minus w xs))
  else if s.repairable c n then
    let e := s.repairOf c n
    let w := minus e.stale (s.slotShut c n)
    let xs := cut &&& w
    let s := s.putRepair c n { e with stale := minus e.stale (minus w xs) }
    s.addSat (STR_REPAIRED_COUNT c) (popc 32 (minus w xs))
  else s

/-- REPAIR_WRITE (R88, R266): RELOC-row work. The command places the repair that comes next, or, once the wedges of the one
that is placed have passed, carries it out. -/
def execRepairWrite (c : Cluster) (slot cut : BitVec 32) (h : Fin 16384) (s : State) : Res := s.run fun s =>
  match s.workOf .reloc c false with
  | none => s.placeWork (s.newWork .reloc c 0 (s.nextRepair c slot.toNat)) c h (fun _ => true)
  | some x => if x.stripes.all s.passed then
      (x.stripes.foldl (fun s y => s.repaired c y cut.toNat) s).endWork x
    else s

/-! ### Patrol (R267, R268) -/

/-- The number of stripes of a cluster that hold LBAs (R236). -/
def State.stripeCount (s : State) : Nat :=
  (s.get TPT_CAPACITY_LO_CAP_LO + s.get TPT_CAPACITY_HI_CAP_HI * 2 ^ 32 + 1) / 240

/-- Stripe q may be copied whole to spare slot v (R268): v is a spare slot and free, the table has room, and the stripe can be
read whole, or stands in the repair buffer. -/
def State.mayMove (s : State) (c q v : Nat) : Bool :=
  let x := s.strOf c
  let old := s.slotNo c q
  !x.remap.any (fun p => p.2 == some v) && decide (v < 355 * s.zFrags c 0) && decide (x.remap.length < 16384) &&
    (x.rbuf.contains old || decide (s.erasures c old ≤ 2))

/-- The write pass of a copy at spare slot v is over (R268): the entry becomes visible where the copy commits there (R245). -/
def State.remapTo (s : State) (c q v cut : Nat) : State :=
  let old := s.slotNo c q
  let e := s.repairOf c old
  let n := 2 ^ 31 + v
  let shut := s.slotShut c n
  let stale := minus cut shut
  let s := s.nextWseq c 1
  if s.mayMove c q v = false ∨ 2 < popc 32 (stale ||| shut) then s
  else
    let s := (s.putRepair c old Repair.init).unbuffer c old
    let s := s.putRepair c n { e with stale := minus stale (s.lostMask c) }
    let x := s.strOf c
    s.setStr c { x with
      remap := tset none x.remap q (some v)
      weak := x.weak.keep (fun k => k / 32 != old) }

/-- A patrol read is over (R267): `erased` names the fragments found erased; a stripe with two weak fragment slots is to be
copied to the spare slot `spare`. -/
def State.patrolled (s : State) (c erased spare : Nat) : State :=
  let q := (s.strOf c).patrol
  let n := s.slotNo c q
  let m := minus erased (s.slotShut c n)
  let e := s.repairOf c n
  let s := s.putRepair c n { e with stale := e.stale ||| m }
  let x := s.strOf c
  let weak := (setBits 32 m).foldl (fun t f => tset 0 t (32 * n + f) (tget 0 t (32 * n + f) + 1)) x.weak
  let s := s.setStr c { x with weak := weak, patrol := if q + 1 < s.stripeCount then q + 1 else 0 }
  if 2 ≤ ((List.range 32).filter (fun f => decide (3 ≤ tget 0 weak (32 * n + f)))).length && s.mayMove c q spare then
    s.setStr c { s.strOf c with moveTo := some (q, spare) }
  else s

/-- What the patrol places next: the copy of a weak stripe, read and then written at its spare slot, or the read of the next
stripe in slot order. -/
def State.nextPatrol (s : State) (c : Nat) : List CmdStripe :=
  let all := minus (2 ^ 32 - 1) (s.lostMask c)
  match (s.strOf c).moveTo with
  | some (q, v) => [workStripe c (s.slotNo c q) all 0 none,
      workStripe c (2 ^ 31 + v) 0 (minus (2 ^ 32 - 1) (s.slotShut c (2 ^ 31 + v))) none]
  | none => [workStripe c (s.slotNo c (s.strOf c).patrol) all 0 none]

/-- PATROL_READ (R88, R267, R268): PATROL-row work. The command places the next step, or, once the wedges of the one that is
placed have passed, carries it out; `cut` names the fragments that the write pass of a copy failed to write. -/
def execPatrolRead (c : Cluster) (erased spare cut : BitVec 32) (h : Fin 16384) (s : State) : Res := s.run fun s =>
  match s.workOf .patrol c false with
  | none => s.placeWork (s.newWork .patrol c 0 (s.nextPatrol c)) c h (fun _ => true)
  | some x =>
    if !x.stripes.all s.passed then s
    else match (s.strOf c).moveTo with
      | some (q, v) => ((s.setStr c { s.strOf c with moveTo := none }).remapTo c q v cut.toNat).endWork x
      | none => (s.patrolled c erased.toNat spare.toNat).endWork x

/-! ### Skew and relocation (R258 to R262) -/

/-- The lower median of K over the surfaces that are not lost (R258). -/
def State.medianK (s : State) (c r : Nat) : Int :=
  let ks := ((List.range 32).filter (fun f => !s.laneIsLost c f)).map (fun f =>
    (s.skewOf c r f).place - (s.skewOf c r f).hoff)
  let sorted := ks.foldl (fun l k => (l.filter (fun y => decide (y ≤ k))) ++ [k] ++ l.filter (fun y => decide (k < y))) []
  sorted.getD ((sorted.length - 1) / 2) 0

/-- Classing one surface of a region anew (R258, R260). -/
def State.classSurface (s : State) (c r f : Nat) : State :=
  let x := s.skewOf c r f
  let d := (x.place - x.hoff - s.centreOf c r).natAbs
  let out := decide (14 < d)
  if out && !x.out && decide (2 ≤ popc 32 (s.shutMask c r)) then
    (s.setSkew c r f { x with near := false }).raiseC kSTROKE c r
  else s.setSkew c r f { x with out := out, near := decide (12 ≤ d ∧ d ≤ 14) }

/-- Classing every surface of a region. -/
def State.classRegion (s : State) (c r : Nat) : State := State.each s (fun f s => s.classSurface c r f) (List.range 32)

/-- A change of HOFF is taken out of the lane's history of misregistrations in the region that the arm target lies in. -/
def State.shiftPhi (s : State) (c r f : Nat) (d : Int) : State :=
  if s.region c (s.get (SRV_TGT_TARGET c)) = r then
    let v := s.servoOf c
    let l := tget LaneSrv.init v.lanes f
    let l := if l.known then { l with phi := l.phi - d, phiOld := l.phiOld - d, pred := l.pred - d } else l
    s.setServo c { v with lanes := tset LaneSrv.init v.lanes f l }
  else s

/-- One update of CAL (R258, R259): a HOFF by one track, up or down, or the centre by one track toward the median, at most
once in 64 revolutions of a region. -/
def State.calSkew (s : State) (c : Nat) (r : Nat) (hoff : Option (Surface × Bool)) : State :=
  let x := s.strOf c
  let rev := ((s.tlOf c).base + (s.tlOf c).now) / max s.wpr 1 + 1
  let last := tget 0 x.calAt r
  if last ≠ 0 ∧ rev < last + 64 then s
  else
    let s := s.setStr c { x with calAt := tset 0 x.calAt r rev }
    let s := match hoff with
      | some (f, up) =>
        let e := s.skewOf c r f
        let h := max (-64) (min 63 (e.hoff + (if up then 1 else -1)))
        (s.setSkew c r f { e with hoff := h }).shiftPhi c r f (h - e.hoff)
      | none =>
        let k := s.centreOf c r
        let m := s.medianK c r
        let y := s.strOf c
        s.setStr c { y with centre := tset 0 y.centre r (if k < m then k + 1 else if m < k then k - 1 else k) }
    s.classRegion c r

/-- The stripe whose read measures a region (log 74): the first on the region's first stripe track. -/
def State.calStripe (s : State) (c r : Nat) : List CmdStripe :=
  ((s.trackSlots c (s.get (STR_LAYOUT0_BASE_TRACK c) + 1024 * r)).take 1).map (fun n =>
    workStripe c n (minus (2 ^ 32 - 1) (s.lostMask c)) 0 none)

/-- CAL_SKEW_UPDATE (R88, R258, R259): CAL-row work. The command places the measurement of a region, or, once the wedges of the
one that is placed have passed, makes the update it gives. -/
def execCalSkewUpdate (c : Cluster) (r : Fin 2048) (hoff : Option (Surface × Bool)) (h : Fin 16384) (s : State) : Res :=
  s.run fun s =>
  match s.workOf .cal c false with
  | none => s.placeWork (s.newWork .cal c r (s.calStripe c r)) c h (fun _ => true)
  | some x => if x.lba = r.val ∧ x.stripes.all s.passed = true then (s.calSkew c r hoff).endWork x else s

/-- The region's stripe slots whose stripe lies on a nominal track lose the STALE bit of a surface copied there, where the
fragment could be rebuilt (R261). -/
def State.freshen (s : State) (c t f : Nat) : State :=
  let x := s.strOf c
  let hit := (x.rlist.filter (fun p => bitAt p.2.stale f && ((s.slotSpot c p.1).map Spot.track) == some t &&
    decide (s.erasures c p.1 ≤ 2))).map Prod.fst
  hit.foldl (fun s n => s.putRepair c n { s.repairOf c n with stale := putBit (s.repairOf c n).stale f false }) s

/-- The target of a relocation of a surface, and whether it is clamped (step 1 of R261, R262). -/
def State.relocTarget (s : State) (c r f : Nat) : Int × Bool :=
  let want := s.centreOf c r + (s.skewOf c r f).hoff
  (max (-8) (min 16 want), decide (want < -8 ∨ 16 < want))

/-- A relocation of a surface begins (steps 1 and 2 of R261); where the target is the place in force, there is none. -/
def State.relocStart (s : State) (c r f : Nat) : State :=
  let x := s.skewOf c r f
  let t := s.relocTarget c r f
  if t.1 = x.place then (if t.2 then s.set (STR_STAT_CLAMPED c) 1 else s)
  else s.setSkew c r f { x with target := t.1, moving := true, clamped := t.2, boundary := if x.place < t.1 then 991 else 0 }

/-- The nominal track that a relocation copies next. -/
def State.relocTrack (s : State) (c r f : Nat) : Nat :=
  s.get (STR_LAYOUT0_BASE_TRACK c) + 1024 * r + (s.skewOf c r f).boundary

/-- The copy of that track (step 3 of R261): each of its stripes read whole, and the surface's fragment written at t + PLACE'. -/
def State.relocStripes (s : State) (c r f : Nat) : List CmdStripe :=
  let t := s.relocTrack c r f
  (s.trackSlots c t).map (fun n =>
    workStripe c n (minus (2 ^ 32 - 1) (s.lostMask c)) (2 ^ f) (some ((t : Int) + (s.skewOf c r f).target)))

/-- A track has been copied (R261, R262). -/
def State.relocDone (s : State) (c r f : Nat) (n : Nat) : State :=
  let x := s.skewOf c r f
  let down := decide (x.place < x.target)
  let s := (s.freshen c (s.relocTrack c r f) f).nextWseq c n
  let last := if down then x.boundary == 0 else decide (991 ≤ x.boundary)
  if last then
    let s := (s.setSkew c r f { x with place := x.target, moving := false, target := 0, boundary := 0, clamped := false }).classRegion c r
    if x.clamped then s.set (STR_STAT_CLAMPED c) 1 else s
  else s.setSkew c r f { x with boundary := if down then x.boundary - 1 else x.boundary + 1 }

/-- No repair comes before a copy (R266). -/
def State.noRepair (s : State) (c : Nat) : Bool :=
  (s.strOf c).rbuf.isEmpty && (s.workOf .reloc c false).isNone && !(s.strOf c).rlist.any (fun p => s.repairable c p.1)

/-- The next stripe of a copy that is not placed; none while a placed one is still to pass. -/
def State.nextCopy (s : State) (x : Cmd) : Option Nat :=
  if x.stripes.any (fun y => y.placed && !s.passed y) then none
  else (x.stripes.find? (fun y => !y.placed)).map CmdStripe.q

/-- RELOC_TRACK_COPY (R88, R261, R262, R266): RELOC-row work behind every repair. A surface that is NEAR or OUT begins to move;
the copy of its next track, which holds range locks on the track's stripes, is placed stripe by stripe; and once all of them
have passed, the track is copied. -/
def execRelocTrackCopy (c : Cluster) (r : Fin 2048) (f : Surface) (h : Fin 16384) (s : State) : Res := s.run fun s =>
  match s.workOf .reloc c true with
  | some x =>
    if x.lba ≠ 32 * r + f then s
    else if x.stripes.all s.passed then (s.relocDone c r f x.stripes.length).endWork x
    else if !s.noRepair c then s
    else match s.nextCopy x with
      | some n => s.placeWork x c h (fun y => y.q == n)
      | none => s
  | none =>
    let x := s.skewOf c r f
    if !x.moving && !x.near && !x.out then s
    else
      let s := if x.moving then s else s.relocStart c r f
      if !(s.skewOf c r f).moving || !s.noRepair c then s
      else
        let l := s.relocStripes c r f
        s.placeWork (s.newWork .reloc c (32 * r + f) l) c h (fun y => some y.q == l.head?.map CmdStripe.q)

end Sys2Proof.Machine
end

