-- ==== Sys2Proof/Machine/Memory.lean ====
section
/-! DEFINITION. Machine/Memory.lean: reading, writing and scrubbing stored words: the finding, the write-back, the poison,
the region's effect, spare lines and injected faults (R355 to R381). -/

namespace Sys2Proof

/-! ### Where a word lies (R365, R366, R368) -/

/-- The word-aligned byte address. -/
def MemAt.at (m : MemAt) : Nat := m.addr.toNat / 4 * 4

/-- The key of the word. -/
def MemAt.key (m : MemAt) : Nat := Machine.spaceKey m.space m.at

/-- There is such a word: all of DRAM, 64 MiB of each SRAM, and the canton slices, whose size the spec does not state
(log 36). -/
def MemAt.exists? (m : MemAt) : Bool := !(m.space == 1 || m.space == 2) || decide (m.at < 2 ^ 26)

/-- The die whose SRAM or canton slice holds a word; the slice of canton k takes addresses with k in bits [34:33]
(log 36). -/
def MemAt.die (m : MemAt) : Nat := if m.space = 1 then 0 else if m.space = 2 then 1 else m.at / 2 ^ 34

/-- REGION of MEM.SYNINFO (R366, R368). -/
def MemAt.region (m : MemAt) : Nat :=
  let a := m.at
  if m.space = 0 then
    if a < 0x200000000 then 0 else if a < 0x600000000 then 1 else if a < 0x610000000 then 2
    else if a < 0x630000000 then 3 else if a < 0x638000000 then 4 else if a < 0x640000000 then 5 else 6
  else if m.space = 3 then 11
  else if a < 48 * 2 ^ 20 then 7 else if a < 56 * 2 ^ 20 then 8 else if a < 60 * 2 ^ 20 then 9 else 10

/-- Regions held in two copies (R369, R370). -/
def MemAt.twoCopies (m : MemAt) : Bool := [2, 3, 5, 10, 11].contains m.region

end Sys2Proof

namespace Sys2Proof.Machine


/-! ### Findings (R358, R360, R380) -/

/-- Who found it: 0 DEMAND, 1 SCRUB, 2 MERGE, 3 SWEEP. -/
abbrev FoundBy := Nat

/-- An entry of the syndrome log, the newest first of at most 16. -/
def State.logSyn (s : State) (m : MemAt) (by' : FoundBy) (synd : Nat) (unc restored : Bool) : State :=
  let mark := tget 0 s.memu.marks m.key
  let e : SynEntry := ⟨m.at, m.space, synd, ((freshWord 0 false).flip mark).syndrome, mark != 0, unc, by', m.region,
    restored, s.now⟩
  State.countSat { s with memu := { s.memu with syn := (e :: s.memu.syn).take 16 } } MEM_SYNCOUNT_COUNT

/-- The line that carries a stored bit of a word (R364). -/
def lineOf (a bit : Nat) : Nat := bit + (if a / 4 % 2 = 1 then 40 else 0)

/-- A line is declared failed (R375, R376). -/
def State.lineFailed (s : State) (ch line : Nat) : State :=
  let s := (s.raise (srcLINE ch) line (orgInt 10 (ch / 8) ch)).interruption 256 32
  let mapLine (s : State) (lf sp : Fld) : State :=
    let s := ((s.set lf line).set sp 1).set (MEM_CH_STAT_SWEEPING ch) 1
    let s := s.set (MEM_CH_SWEEP_BURST ch) 0
    { s with memu := { s.memu with
        held := s.memu.held.filter (· != ch) ++ [ch], lineAt := tset 0 s.memu.lineAt ch s.now } }
  let used := if line < 40 then s.is (MEM_CH_STAT_SPARE_A ch) else s.is (MEM_CH_STAT_SPARE_B ch)
  if used then (s.set (MEM_CH_STAT_NO_SPARE ch) 1).raise (srcNOSPARE ch) line (orgInt 10 (ch / 8) ch)
  else if line < 40 then mapLine s (MEM_CH_STAT_LINE_A ch) (MEM_CH_STAT_SPARE_A ch)
  else mapLine s (MEM_CH_STAT_LINE_B ch) (MEM_CH_STAT_SPARE_B ch)

/-- The line is already steered. -/
def State.steered (s : State) (ch line : Nat) : Bool :=
  s.get (MEM_CH_STAT_LINE_A ch) == line || s.get (MEM_CH_STAT_LINE_B ch) == line

/-- One burst of a channel: the counts of a window of 65,536 bursts start anew (R375). -/
def State.burst (s : State) (ch : Nat) : State :=
  let n := tget 0 s.memu.bursts ch + 1
  if n < 65536 then { s with memu := { s.memu with bursts := tset 0 s.memu.bursts ch n } }
  else { s with memu := { s.memu with bursts := tset 0 s.memu.bursts ch 0
                                      lines := s.memu.lines.keep (fun k => k / 80 != ch) } }

/-- A correctable error attributed to a line (R375). -/
def State.lineError (s : State) (ch line : Nat) : State :=
  if s.steered ch line then s
  else
    let k := 80 * ch + line
    let n := tget 0 s.memu.lines k + 1
    let s := { s with memu := { s.memu with lines := tset 0 s.memu.lines k n } }
    if n = max 1 (s.get (MEM_CH_CFG_LINE_THR ch)) then s.lineFailed ch line else s

/-- The stored bit in error of a correctable word: its place among the 40 (R355, R356). -/
def Stored.badBit (w : Stored) : Nat :=
  match eccColumns.findIdx? (· == w.syndrome) with
  | some i => i
  | none => 33 + ((setBits 7 w.syndrome).headD 0)

/-! ### Where an uncorrectable word leads (R371 to R373) -/


/-- Poisoning every word of a cache line. -/
def State.poisonLine (s : State) (d i : Nat) : State :=
  let t := State.each s (fun j s =>
    let k := lineKey d i + 4 * j
    s.putStored k (freshWord (s.stored k).data true)) (List.range 1024)
  { s with mem := t.mem, memX := t.memX, memu := t.memu }

/-- A line of the front cache holds an uncorrectable word. -/
def State.lineHit (s : State) (d i : Nat) : State :=
  let x := s.cacheOf d
  let l := x.line i
  match l.st with
  | .invalid => s
  | .clean => s.setCache d (x.setLine i { l with marked := true })
  | .dirty =>
    let b := ((s.cmd? l.ver).map Cmd.burgee).getD 0
    (s.poisonLine d i).event (orgInt 11 d 0) 0x41 (b :: lohi l.lba)

/-- A word of a record in a port's queue reads as the poison pattern. -/
def State.cellHit (s : State) (n pos w : Nat) : State :=
  if w % 16 = 0 ∨ w % 16 = 15 then s
  else
    let l := (s.queueOf n).modify pos (fun r => { r with words := r.words.set w poisonPattern })
    State.event { s with ports := { s.ports with recs := tset [] s.ports.recs n l } } (orgInt 8 (portDie n) 0) 0x40 [n, w]

/-- A word of a lane's packet, in its packet buffer or in its landing slot: the fragment is erased, under no reason of R228
that counts (log 87). -/
def State.packetHit (s : State) (c f : Nat) : State :=
  match (s.lane c f).read with
  | some r => if r.phase = .dropped then s else s.noSync c f r
  | none =>
    match (s.cantonOf (c / 2)).slots.find? (fun p => p.cluster == c && p.surface == f) with
    | some p => s.erase c f p.slot
    | none => s

/-- A staged fragment is erased while its stripe is not settled, whatever its result was (R241, R371). -/
def OpenStripe.eraseStaged (o : OpenStripe) (f role : Nat) : OpenStripe :=
  { o with frags := tset .waiting o.frags f .erased, data := tset [] o.data role [], metas := tset [] o.metas role [] }

/-- A block staged for a read whose stripe is settled is delivered poisoned: a word of its slot is poisoned, and the READ
ends with DATA_LOST (R371). -/
def State.stagedBlock (s : State) (x : Cmd) (b at' : Nat) : State :=
  let k := slotAddr (x.slot + b) + at' % 4096 / 4 * 4
  let s := s.putStored k (freshWord (s.stored k).data true)
  s.setCmd { x with lost := if x.lost.contains b then x.lost else x.lost ++ [b], status := worse x.status 5 }

/-- An uncorrectable word of a fragment or block staged for an open stripe of a read pass (R371). -/
def State.stagedHit (s : State) (c f slot at' : Nat) : State :=
  let x := s.strOf c
  let role := roleOf (s.slotQ c slot) f
  match x.opened.find? (fun o => o.slot == slot && !o.write) with
  | none => s
  | some o =>
    if !o.settled then
      s.setStr c { x with opened := x.opened.map (fun y => if y.slot = slot ∧ y.write = false then y.eraseStaged f role else y) }
    else
      match s.cmdByHandle? o.owner with
      | none => s
      | some x =>
        match s.stripeIn c slot x with
        | some y =>
          if x.hoisted && !x.writes && x.phase == .promised && decide (y.role0 ≤ role ∧ role < y.role0 + y.nblk) then
            s.stagedBlock x (y.off + (role - y.role0)) at'
          else s
        | none => s

/-- The further effect of an uncorrectable word in its region (R371). -/
def State.regionHit (s : State) (m : MemAt) (by' : FoundBy) : State :=
  match m.what with
  | .laneBuffer c f => s.packetHit c f
  | .staged c f slot => s.stagedHit c f slot.toNat m.at
  | .decoder k d => s.decLost k d
  | .cell n pos w => s.cellHit n pos w
  | .staffCore i => if by' = 0 then
      State.staffLost { s with staff := s.staff.modify i (fun c => { c with nmis := c.nmis + 1 }) } i 2 else s
  | _ =>
    if m.region = 0 then s.slotHit (m.at / 4096)
    else if m.region = 7 then s.lineHit m.die (m.at / 4096)
    else s

/-- An uncorrectable finding (R358, R369, R370): poisoned in place, or restored from its second copy. -/
def State.unc (s : State) (m : MemAt) (by' : FoundBy) (w good : Stored) : State :=
  let s := if m.space = 0 then s.countSat (MEM_CH_UE_COUNT (channelOf m.at)) else s.countSat (MEM_SRAM_UE_COUNT m.die)
  if m.twoCopies then
    if m.what = .bothCopies then
      ((s.logSyn m by' w.syndrome true false).putStored m.key (freshWord w.data true)).raise srcTABLE (m.at % 2 ^ 32)
        (orgInt 10 m.die 0)
    else (s.logSyn m by' w.syndrome true true).putStored m.key good
  else
    let s := (s.logSyn m by' w.syndrome true false).putStored m.key (freshWord w.data true)
    let s := if m.space = 0 then
        s.raise (srcMEMUE (channelOf m.at)) (m.at % 2 ^ 32) (orgInt 10 (channelOf m.at / 8) (channelOf m.at))
      else s.raise (srcSRAMUE m.die) (m.at / 4) (orgInt 10 m.die 0)
    s.regionHit m by'

/-- A correctable finding (R360): written back corrected, counted, attributed to its line. -/
def State.corr (s : State) (m : MemAt) (by' : FoundBy) (w v : Stored) : State :=
  let s := if s.is MEM_SYNCFG_LOG_CE then s.logSyn m by' w.syndrome false false else s
  let s := s.putStored m.key (freshWord v.data v.poison)
  if m.space = 0 then
    (s.countSat (MEM_CH_CE_COUNT (channelOf m.at))).lineError (channelOf m.at) (lineOf m.at w.badBit)
  else s.countSat (MEM_SRAM_CE_COUNT m.die)

/-- An access to DRAM is a burst of its channel (R375). -/
def State.memBurst (s : State) (m : MemAt) : State := if m.space = 0 then s.burst (channelOf m.at) else s

/-- What a read of a word finds (R357, R360, R361): `old` is stored, and the access's flips are over it. -/
def State.readFound (s : State) (m : MemAt) (by' : FoundBy) (old : Stored) : State :=
  let w := old.flip m.flips.toNat
  match w.classOf with
  | .clean => s
  | .corrected v => s.corr m by' w v
  | .uncorrectable => s.unc m by' w (freshWord old.data old.poison)

/-- A read of a stored word by an agent (R357). -/
def State.readWord (s : State) (m : MemAt) (by' : FoundBy) : State :=
  (s.memBurst m).readFound m by' ((s.memBurst m).stored m.key)

/-- The commands on a word stop where there is none. -/
def onWord (m : MemAt) (s : State) (f : State → State) : Res := if m.exists? then s.run f else .fault .noSuchWord

/-- A write of all four bytes of a word (R359, R361, R379). -/
def State.writeWord (s : State) (origin : Nat) (m : MemAt) (v : Nat) : State :=
  (s.memBurst m).putReq origin m.key (freshWord v false)

/-- Bytes of `v` named by a mask over those of `old`. -/
def mergeBytes (old v mask : Nat) : Nat :=
  (List.range 4).foldl (fun a i => putBits a (8 * i) 8 (if bitAt mask i then bitsOf v (8 * i) 8 else bitsOf old (8 * i) 8)) 0

/-- The merge of a write of some bytes with the word `old` that its read found, and its write. -/
def State.mergeFound (s : State) (origin : Nat) (m : MemAt) (mask v : Nat) (old : Stored) : State :=
  let w := old.flip m.flips.toNat
  match w.classOf with
  | .clean => s.putReq origin m.key (freshWord (mergeBytes w.data v mask) w.poison)
  | .corrected u => (s.corr m 2 w u).putReq origin m.key (freshWord (mergeBytes u.data v mask) u.poison)
  | .uncorrectable =>
    (s.unc m 2 w (freshWord old.data old.poison)).putReq origin m.key (freshWord (mergeBytes w.data v mask) true)

/-- A write of some bytes of a word (R361): a read, a merge and a write. -/
def State.mergeWord (s : State) (origin : Nat) (m : MemAt) (mask v : Nat) : State :=
  (s.memBurst m).mergeFound origin m mask v ((s.memBurst m).stored m.key)

/-- Carrying out an access. -/
def State.access (s : State) (x : MemAccess) : State :=
  if s.wordLost x.at.key then s
  else match x with
  | .read m => s.readWord m 0
  | .write org m v => s.writeWord org m v
  | .merge org m mask v => s.mergeWord org m mask v

/-- The channel of a word is held after a failed line (R375, step 3). -/
def State.chanHeld (s : State) (m : MemAt) : Bool := m.space == 0 && s.memu.held.contains (channelOf m.at)

/-- An access is carried out, or kept while its channel is held (R375, step 3). -/
def State.request (s : State) (x : MemAccess) : State :=
  if s.chanHeld x.at then { s with memu := { s.memu with kept := s.memu.kept ++ [x] } } else s.access x

/-- MEMORY_READ (R357). -/
def execMemoryRead (m : MemAt) (s : State) : Res := onWord m s fun s => s.request (.read m)

/-- MEMORY_WRITE (R359, R379): all four bytes. -/
def execMemoryWrite (o : Origin) (m : MemAt) (v : Word) (s : State) : Res := onWord m s fun s =>
  s.request (.write (orgOf o) m v.toNat)

/-- MEMORY_PARTIAL_WRITE (R361); one that names all four bytes is a plain write. -/
def execMemoryPartialWrite (o : Origin) (m : MemAt) (mask : BitVec 4) (v : Word) (s : State) : Res := onWord m s fun s =>
  s.request (if mask = 15 then .write (orgOf o) m v.toNat else .merge (orgOf o) m mask.toNat v.toNat)

/-! ### The scrubber (R374, R378) -/

/-- What a scrub read found: uncorrectable, or correctable and not on a steered line. -/
def State.scrubFound (s : State) (m : MemAt) : Nat × Nat :=
  let w := (s.stored m.key).flip m.flips.toNat
  match w.classOf with
  | .clean => (0, 0)
  | .corrected _ => (0, if s.steered (channelOf m.at) (lineOf m.at w.badBit) then 0 else 1)
  | .uncorrectable => (1, 0)

/-- ROW_SUSPECT (R378): two uncorrectable or 16 correctable words of one row in one pass, logged once in the pass. -/
def State.rowSuspect (s : State) (row addr : Nat) : State :=
  let f := tget (0, 0) s.memu.rows row
  if (2 ≤ f.1 ∨ 16 ≤ f.2) ∧ s.memu.suspects.contains row = false then
    State.event { s with memu := { s.memu with suspects := s.memu.suspects ++ [row] } }
      (orgInt 10 (channelOf addr / 8) (channelOf addr)) 0x43 (lohi addr ++ [f.1 + f.2])
  else s

/-- The words of a DRAM channel (R364). -/
def chanWords : Nat := 2 ^ 29

/-- The pointer of a channel moves on; the pass over the DRAM stack is complete when every channel's pointer has gone round
(R374). -/
def State.scrubStep (s : State) (ch : Nat) : State :=
  let p := tset 0 s.memu.scrubbed ch (tget 0 s.memu.scrubbed ch + 1)
  if (List.range 16).all (fun i => s.dieIsLost (i / 8) || decide (chanWords ≤ tget 0 p i)) then
    State.count { s with memu := { s.memu with scrubbed := [], rows := [], suspects := [] } } MEM_SCRUB_PASSES_DRAM
  else { s with memu := { s.memu with scrubbed := p } }

/-- SCRUB_READ (R374): `row` is the DRAM row of the word, and `last` says that it ends a pass over the arrays of SRAM. A channel
that is held, or that has gone round before the others, is not read. -/
def execScrubRead (m : MemAt) (row : BitVec 32) (last : Bool) (s : State) : Res := onWord m s fun s =>
  if !s.is MEM_SCRUB_CFG_EN then s
  else if m.space = 0 then
    let ch := channelOf m.at
    if s.chanHeld m || s.wordLost m.key || decide (chanWords ≤ tget 0 s.memu.scrubbed ch) then s
    else
      let f := s.scrubFound m
      let s := s.readWord m 1
      let k := row.toNat
      let old := tget (0, 0) s.memu.rows k
      let s := { s with memu := { s.memu with rows := tset (0, 0) s.memu.rows k (old.1 + f.1, old.2 + f.2) } }
      (s.rowSuspect k m.at).scrubStep ch
  else
    let s := s.readWord m 1
    if last then s.count MEM_SCRUB_PASSES_SRAM else s

/-- The line of a block that is marked for a refetch (R371, R372). -/
def State.markedLine (s : State) (lba : Nat) : Option Nat :=
  let x := s.cacheOf (homeDie lba)
  (waysOf (homeSet lba)).find? (fun i => (x.line i).st = .clean && (x.line i).lba == lba && (x.line i).marked)

/-- The read of a marked block's stripe settles, and its line is written anew (R372). -/
def State.refetched (s : State) (lba i : Nat) (data : List Nat) : State :=
  let d := homeDie lba
  let s := s.putFrag (orgInt 11 d 0) (lineKey d i) data
  let x := s.cacheOf d
  s.setCache d (x.setLine i { x.line i with marked := false })

/-- SCRUB_REFETCH (R88, R372): SCRUB-row work. The command places the media read of a marked block's stripe, or, once the wedges
of the read that is placed have passed, carries it out; a block that a write has replaced needs it no more, and its cells are
released. -/
def execScrubRefetch (lba : BitVec 48) (data : List (BitVec 32)) (h : Fin 16384) (s : State) : Res := s.run fun s =>
  let b := lba.toNat
  let c := b / 30 % 8
  match s.workOf .scrub c false, s.markedLine b with
  | none, some _ => s.placeWork (s.newWork .scrub c b
      [workStripe c (s.slotNo c (b / 240)) (minus (2 ^ 32 - 1) (s.lostMask c)) 0 none]) c h (fun _ => true)
  | some x, some i => if x.lba = b ∧ x.stripes.all s.passed = true then
      (s.refetched b i (data.map BitVec.toNat)).endWork x else s
  | some x, none => if x.lba = b then
      (x.stripes.foldl (fun s y => s.undueStripe x y) (s.releaseOn x.id c ((s.tlOf c).now + 1) (fun _ _ _ => false))).endWork x
    else s
  | none, none => s

/-! ### Spare lines (R375) -/

/-- The release of a channel (R375, step 4): the accesses kept in the hold are carried out in the order of their arrival. -/
def State.freeChan (s : State) (ch : Nat) : State :=
  let mine (x : MemAccess) : Bool := channelOf x.at.at == ch
  let l := s.memu.kept.filter mine
  let s := { s with memu := { s.memu with
    held := s.memu.held.filter (· != ch), kept := s.memu.kept.filter (fun x => !mine x)
    lineAt := tset 0 s.memu.lineAt ch s.now } }
  l.foldl State.request s

/-- STEERING_HOLD_END (R375, step 3): the channel is released after 1,024 MCLK, which are 32 ticks. -/
def execSteeringHoldEnd (ch : Channel) (s : State) : Res := s.run fun s =>
  if s.memu.held.contains ch.val ∧ tget 0 s.memu.lineAt ch + 32 ≤ s.now then s.freeChan ch else s

/-- LINE_SWEEP_BURST (R375, steps 5 and 6): the next burst, the 128 bytes at `addr`, is read, corrected and rewritten. At a
sixteenth of the channel's bandwidth, bursts are at least four ticks apart. -/
def execLineSweepBurst (ch : Channel) (addr : BitVec 35) (flips : List (BitVec 40)) (s : State) : Res := s.run fun s =>
  let a := addr.toNat / 128 * 128
  if !s.is (MEM_CH_STAT_SWEEPING ch) || s.memu.held.contains ch.val || channelOf a != ch.val
      || s.dieIsLost (ch / 8) || decide (s.now < tget 0 s.memu.lineAt ch + 4) then s
  else
    let s := { s with memu := { s.memu with lineAt := tset 0 s.memu.lineAt ch s.now } }
    let s := State.each s (fun i s =>
      s.readWord ⟨0, BitVec.ofNat 35 (a + 4 * i), .plain, flips.getD i 0⟩ 3) (List.range 32)
    let b := s.get (MEM_CH_SWEEP_BURST ch)
    if b = 16777215 then s.set (MEM_CH_STAT_SWEEPING ch) 0 else s.set (MEM_CH_SWEEP_BURST ch) (b + 1)

/-! ### Injected faults (R379, R381) -/

/-- INJECT_ARM: a write of ARM = 1; one while armed changes nothing. -/
def execInjectArm (o : Origin) (s : State) : Res := s.run fun s =>
  if s.is MEM_INJ_CTL_ARM then s.logPriv o MEM_INJ_CTL 1 0
  else
    let s := s.set MEM_INJ_CTL_ARM 1
    State.injEvent { s with memu := { s.memu with armedBy := orgOf o } } (orgOf o) 0

/-- INJECT_DISARM: a write of ARM = 0. -/
def execInjectDisarm (o : Origin) (s : State) : Res := s.run fun s =>
  if s.is MEM_INJ_CTL_ARM then (s.set MEM_INJ_CTL_ARM 0).injEvent (orgOf o) 3 else s.logPriv o MEM_INJ_CTL 0 0

end Sys2Proof.Machine
end

