-- ==== Sys2Proof/Machine/Servo.lean ====
section
/-! DEFINITION. Machine/Servo.lean: the servo of a cluster: samples, arm estimate, observer, microactuators, VCM command,
seeks, write inhibit, loss and lock (R269 to R300), and the SERVO unit's commands (R285, R310). -/

namespace Sys2Proof

/-! ### The wedge's fields (R272) -/

/-- `n` dibits as the bits of a Gray word, top bit first: 01 is 0, 10 is 1, anything else erases the field. -/
def dibits (v : Nat) : Nat → Option Nat
  | 0 => some 0
  | n + 1 =>
    match dibits (v / 4) n with
    | none => none
    | some g => if v % 4 = 1 then some (2 * g) else if v % 4 = 2 then some (2 * g + 1) else none

/-- The binary value of a Gray word of `n` bits: each bit is the XOR of the Gray bits at and above it. -/
def grayBinary (g : Nat) : Nat → Nat
  | 0 => g
  | n + 1 => g ^^^ grayBinary (g / 2) n

/-- A field of dibits as its binary value, none where a bit is erased. The first dibit read is the top bit. -/
def dibitField (v n : Nat) : Option Nat := (dibits v n).map (fun g => grayBinary g n)

end Sys2Proof

namespace Sys2Proof.Machine

/-! ### The servo field and its address mark (R269, R270, R272) -/

/-- The first servo bit of field `i` of R269. -/
def servoAt (i : Nat) : Nat := (servoFields.take i).sum

/-- A number from its bits, the first the most significant. -/
def ofMsb (l : List Bool) : Nat := l.foldl (fun n b => 2 * n + (if b then 1 else 0)) 0

/-- Bits in which two words differ. -/
def hamming (a b : List Bool) : Nat := ((a.zip b).filter (fun p => p.1 != p.2)).length

/-- One wedge period in 2^-24 of a ROOT cycle. -/
def State.wedgePeriod (s : State) : Nat := s.wt * 96 * 2 ^ 8

/-- Where a cluster's next SAM is predicted: one wedge period after the last WTR, and the SAM's place in the field on. -/
def State.samPredicted (s : State) (c : Nat) : Nat :=
  (s.servoOf c).wtr * (6 * 2 ^ 24) + s.wedgePeriod + servoAt 2 * s.get (SRV_CFG0_SV_BITPER c)

/-- The address mark that a lane's demodulator accepts, as its place among the bits (R272): the smallest distance to SAM_PAT,
then the nearest to the prediction, then the earliest. In ACQUIRE and REACQUIRE the window is the whole wedge. -/
def State.samOf (s : State) (c : Nat) (x : Sample) : Option Nat :=
  let per := s.get (SRV_CFG0_SV_BITPER c)
  let st := s.get (SRV_STAT_STATE c)
  let pat := bitsMsb 16 (s.get (SRV_CFG1_SAM_PAT c))
  let dist (i : Nat) : Nat := hamming pat (x.bits.drop i)
  let off (i : Nat) : Nat := ((x.start.toNat + i * per : Nat) - (s.samPredicted c : Nat) : Int).natAbs
  let ok (i : Nat) : Bool := decide (dist i ≤ s.get (SRV_CFG1_SAM_THR c)) &&
    (st == 1 || st == 4 || decide (off i ≤ s.get (SRV_CFG1_SAM_WIN c) * per))
  ((List.range (x.bits.length - 15)).filter ok).foldl (fun r i => match r with
    | none => some i
    | some j => if dist i < dist j ∨ dist i = dist j ∧ off i < off j then some i else some j) none

/-- What a lane's demodulator posts of a wedge in which it accepted a SAM: the SAM's time in 2^-24 of a ROOT cycle, whether it
lies within SAM_WIN servo bits of one wedge period after the lane's last one (R299), WEDGE and TRACK, and the bursts. -/
structure Reading where
  sam : Nat
  near : Bool
  wedge : Option Nat
  track : Option Nat
  a : Int
  b : Int
  c : Int
  d : Int
  deriving DecidableEq, Repr

/-- `n` dibits of the bits of a field, none where a dibit is erased or beyond them. -/
def fieldOf (bits : List Bool) (n : Nat) : Option Nat :=
  if bits.length < 2 * n then none else dibitField (ofMsb (bits.take (2 * n))) n

/-- A lane's demodulator reads a wedge (R272, R273). -/
def State.demod (s : State) (c f : Nat) (x : Sample) : Option Reading :=
  let per := s.get (SRV_CFG0_SV_BITPER c)
  (s.samOf c x).map fun i =>
    let t := x.start.toNat + i * per
    let near := match (tget LaneSrv.init (s.servoOf c).lanes f).sam with
      | some u => decide (((t : Nat) - (u + s.wedgePeriod : Nat) : Int).natAbs ≤ s.get (SRV_CFG1_SAM_WIN c) * per)
      | none => false
    let at' (k : Nat) : List Bool := x.bits.drop (i + (servoAt k - servoAt 2))
    ⟨t, near, fieldOf (at' 3) 10, fieldOf (at' 4) 26,
      signed 16 x.a.toNat, signed 16 x.b.toNat, signed 16 x.c.toNat, signed 16 x.d.toNat⟩

/-- The WTR of a wedge in FCLK cycles (R270, R276): 128 servo bits before the SAM of one lane, or, where that lane accepted none,
one wedge period after the last WTR (R295). -/
def State.wtrOf (s : State) (c : Nat) (x : Option Reading) : Nat :=
  match x with
  | some x => (x.sam - servoAt 2 * s.get (SRV_CFG0_SV_BITPER c)) / (6 * 2 ^ 24)
  | none => ((s.servoOf c).wtr * (6 * 2 ^ 24) + s.wedgePeriod) / (6 * 2 ^ 24)

def srvOFF : Nat := 0
def srvACQUIRE : Nat := 1
def srvFOLLOW : Nat := 2
def srvSEEK : Nat := 3
def srvREACQUIRE : Nat := 4
def srvPARKED : Nat := 5
def srvLOST : Nat := 6

/-! ### Positions (R274) -/

/-- The track with a parity that lies nearest a position, the lower of two (log 85). -/
def nearTrack (p : Rat) (par : Int) : Int :=
  let lo := 2 * ((p - par) / 2).floor + par
  if p - lo ≤ lo + 2 - p then lo else lo + 2

/-- The burst sum S, the parity and X of a sample. -/
def sampleBurst (x : Reading) : Nat × Int × Int :=
  let n := x.a - x.b
  let q := x.c - x.d
  let sum := n.natAbs + q.natAbs
  let r (k : Int) : Int := if sum = 0 then Config.emptyBurst else roundRat ((k * n : Int) / (sum : Rat))
  if q < 0 then (sum, 0, r 512) else (sum, 1, r (-512))

/-- The position y in 1/1,024 track; `pred` is the lane's predicted position in tracks. -/
def samplePos (x : Reading) (pred : Rat) : Nat :=
  let b := sampleBurst x
  let tg : Int := match x.track with
    | some t => (t : Int)
    | none => nearTrack pred b.2.1
  let t := if tg % 2 = b.2.1 then tg else if 0 ≤ b.2.2 then tg - 1 else tg + 1
  unsign 36 (1024 * t + b.2.2)

/-- A signed value in 1/1,024 track in a field; where it does not fit, the field's value is not stated. -/
def State.setMilli (s : State) (x : Fld) (q : Rat) : State :=
  let z := roundRat (q * 1024)
  s.set x (if -(2 ^ (x.w - 1) : Nat) ≤ z ∧ z < (2 ^ (x.w - 1) : Nat) then unsign x.w z else Config.counterPast x.addr x.lo)

/-- A coefficient of SRV.COEFi, signed 8.24. -/
def State.coef (s : State) (c i : Nat) : Rat := (signed 32 (s.get (SRV_COEF_COEF c i)) : Rat) / (2 ^ 24 : Nat)

/-- KMA in codes per track, 12.4. -/
def State.kma (s : State) (c f : Nat) : Rat := ((s.get (LAN_MAGAIN_KMA c f) : Nat) : Rat) / 16

/-- m_s of R277: the displacement of a head's microactuator in tracks. -/
def State.headShift (s : State) (c f : Nat) : Rat := (signed 16 (s.get (LAN_MACODE_CODE c f)) : Rat) / s.kma c f

/-- HOFF of a surface in the skew region that holds the arm target. -/
def State.targetHoff (s : State) (c f : Nat) : Int := (s.skewOf c (s.region c (s.get (SRV_TGT_TARGET c))) f).hoff

/-- The lower median of a list of positions. -/
def insertRat (a : Rat) : List Rat → List Rat
  | [] => [a]
  | b :: bs => if a ≤ b then a :: b :: bs else b :: insertRat a bs
def lowerMedian (l : List Rat) : Option Rat := (l.foldl (fun r a => insertRat a r) [])[(l.length - 1) / 2]?

/-! ### The observer (R282) -/

/-- The wedge time in FCLK cycles. -/
def State.wedgeCycles (s : State) : Rat := ((s.wt : Nat) : Rat) / (2 ^ 12 : Nat)

/-- One interval of the prediction, `h` wedges at acceleration `a`. -/
def glide (a h : Rat) (p : Rat × Rat) : Rat × Rat := (p.1 + p.2 * h + a * h * h / 2, p.2 + a * h)

/-- The prediction from one time to another over the commands that take force between them. -/
def glideOver (acc : Int → Rat) (w : Rat) (t0 t1 : Rat) (u : Int) : List (Rat × Int) → Rat × Rat → Rat × Rat
  | [], p => glide (acc u) ((t1 - t0) / w) p
  | q :: qs, p =>
    if q.1 ≤ t0 then glideOver acc w t0 t1 q.2 qs p
    else if t1 ≤ q.1 then glide (acc u) ((t1 - t0) / w) p
    else glideOver acc w q.1 t1 q.2 qs (glide (acc u) ((q.1 - t0) / w) p)

/-- x̂ and v̂ at a time in FCLK cycles. -/
def State.armAt (s : State) (c : Nat) (t : Rat) : Rat × Rat :=
  let v := s.servoOf c
  let acc (u : Int) : Rat := s.coef c 3 * (u + v.b + signed 16 (s.get (LOOP_BIAS_BTRIM c)))
  glideOver acc s.wedgeCycles v.wtr t 0 v.us (v.x, v.v)

/-- The commands still of use at a WTR: the one in force and those after it. -/
def pruneCmds (t : Rat) : List (Rat × Int) → List (Rat × Int)
  | a :: b :: l => if b.1 ≤ t then pruneCmds t (b :: l) else a :: b :: l
  | l => l

/-! ### The VCM command (R283, R285, R295) -/

/-- VREF of a distance to go, in tracks per wedge: between rows, beyond the last, from row 1 on. -/
def vrefFrom (d : Rat) : Nat × Nat → List (Nat × Nat) → Rat
  | p, [] => (p.2 : Nat)
  | p, q :: qs =>
    if d ≤ (q.1 : Nat) then ((p.2 : Nat) : Rat) + ((q.2 : Nat) - (p.2 : Nat) : Rat) * (d - (p.1 : Nat)) / ((q.1 : Nat) - (p.1 : Nat) : Rat)
    else vrefFrom d q qs

/-- The used rows of the profile table: those before the first whose DTG does not ascend. -/
def State.profile (s : State) (c : Nat) : List (Nat × Nat) :=
  let rows := (List.range 64).map (fun n => (s.get (SRV_PROF_D_DTG c n), s.get (SRV_PROF_V_VREF c n)))
  rows.take (((List.range 64).find? (fun n => (rows.getD n (0, 0)).1 ≤ (if n = 0 then 0 else (rows.getD (n - 1) (0, 0)).1))).getD 64)

/-- VREF(d) of R285. -/
def State.vref (s : State) (c : Nat) (d : Rat) : Rat :=
  match s.profile c with
  | [] => 0
  | p :: ps => (if d < (p.1 : Nat) then ((p.2 : Nat) : Rat) * d / (p.1 : Nat) else vrefFrom d p ps) / 64

/-- One biquad of R283. -/
def biquad (b0 b1 b2 a1 a2 w : Rat) (st : Rat × Rat) : Rat × (Rat × Rat) :=
  let y := b0 * w + st.1
  (y, (b1 * w - a1 * y + st.2, b2 * w - a2 * y))

/-- The notches in series, from number `j` on. -/
def State.notches (s : State) (c : Nat) : Nat → Nat → Rat → List (Rat × Rat) → Rat × List (Rat × Rat)
  | 0, _, w, _ => (w, [])
  | n + 1, j, w, st =>
    let k (i : Nat) : Rat := s.coef c (12 + 5 * j + i)
    let r := biquad (k 0) (k 1) (k 2) (k 3) (k 4) w (st.headD (0, 0))
    let t := State.notches s c n (j + 1) r.1 st.tail
    (t.1, r.2 :: t.2)

/-- A VCM command of the servo: queued, and in force VCM_LAT after its posting. -/
def State.vcmPost (s : State) (c : Nat) (u : Int) (mode : Nat) : State :=
  let v := s.servoOf c
  (s.setServo c { v with us := v.us ++ [(16 * ((s.now : Nat) + s.coef c 8), u)] }).queueVcm c (vcmPayload u mode)

/-- The VCM update at WD and at mid-wedge. -/
def State.vcmUpdate (s : State) (c : Nat) : State :=
  let st := s.get (SRV_STAT_STATE c)
  let trim := signed 16 (s.get (LOOP_BIAS_BTRIM c))
  if st = srvREACQUIRE then s.vcmPost c trim 1
  else if st = srvFOLLOW ∨ st = srvSEEK then
    let p := s.armAt c (16 * ((s.now : Nat) + s.coef c 8))
    let go : Rat := (s.get (SRV_TGT_TARGET c) : Nat) - p.1
    let near := decide (|go| ≤ ((s.get (SRV_THR1_D_SW c) : Nat) : Rat))
    let st := if st = srvSEEK ∧ near then srvFOLLOW else st
    let v := s.servoOf c
    let u0 : Rat := if st = srvFOLLOW then s.coef c 4 * go - s.coef c 5 * p.2 - v.b + trim
      else s.coef c 6 * ((if go < 0 then -1 else 1) * s.vref c |go| - p.2) + trim
    let r := s.notches c 4 0 u0 v.notch
    let lim := (s.coef c 7).floor
    ((s.set (SRV_STAT_STATE c) st).setServo c { v with notch := r.2 }).vcmPost c (clampInt (-lim) lim (roundRat r.1)) 0
  else s

/-! ### The microactuators (R279 to R281) -/

/-- The target of a head: that of the lane's XFER cell in progress or its next one, else the last target (R279). -/
def State.headTarget (s : State) (c f : Nat) : Nat :=
  let t := s.tlOf c
  match t.slots.find? (fun w => decide (t.now ≤ w.1) && decide ((tget TCell.init w.2.cells f).kind = .xfer)) with
  | some w => (tget TCell.init w.2.cells f).tgt.toNat
  | none => s.get (LAN_MATGT_TARGET c f)

/-- The code of one head for the frame posted now: its apply time is 1.5 µs later. A lost lane's code is 0, and a lane
without servo keeps its last code (R170, R293). -/
def State.maCode (s : State) (c f : Nat) : State :=
  if s.laneIsLost c f ∨ s.is (LAN_MASTAT_LANE_SERVO_LOST c f) = true then s
  else
    let v := s.servoOf c
    let l := tget LaneSrv.init v.lanes f
    let arm := (s.armAt c (16 * ((s.now : Nat) + 150 : Rat))).1
    let m : Rat := (s.get (LAN_MATGT_TARGET c f) : Nat) - s.targetHoff c f - arm - l.pred + l.integ
    let lim : Int := s.get (LAN_MAGAIN_MA_LIMIT c f)
    let code := clampInt (-lim) lim (roundRat (s.kma c f * m))
    let sat := decide (code.natAbs = lim)
    let s := (s.set (LAN_MACODE_CODE c f) (unsign 16 code)).set (LAN_MACODE_SAT c f) (if sat then 1 else 0)
    s.setServo c { v with lanes := tset LaneSrv.init v.lanes f { l with clamped := sat } }

/-- The microactuator update of a cluster, which has an arm target from its first lock on; none from step 5 of R193 on. -/
def State.maUpdate (s : State) (c : Nat) : State :=
  if (s.servoOf c).locked && s.get LOOP_PF_STAT_PHASE < 2 then
    State.each s (fun f s => s.maCode c f) (List.range 32)
  else s

/-! ### Moves (R285, R298, R310) -/

/-- SEEK or FOLLOW by the distance left (R285). -/
def State.seekOrFollow (s : State) (c : Nat) (x : Rat) : State :=
  let far := decide (((s.get (SRV_THR1_D_SW c) : Nat) : Rat) < |(s.get (SRV_TGT_TARGET c) : Nat) - x|)
  s.set (SRV_STAT_STATE c) (if far then srvSEEK else srvFOLLOW)

/-- A MOVE to a track for an owner, in FOLLOW or SEEK. -/
def State.startMove (s : State) (c track owner : Nat) : State :=
  let st := s.get (SRV_STAT_STATE c)
  if st = srvFOLLOW ∨ st = srvSEEK then
    let d := ((track : Int) - s.get (SRV_TGT_TARGET c)).natAbs
    let v := s.servoOf c
    let s := (s.set (SRV_TGT_TARGET c) track).set (SRV_STAT_SETTLED c) 0
    let s := s.setServo c { v with settleRun := 0, move := some ⟨owner, s.seek c d, d, 0, false⟩ }
    s.seekOrFollow c (s.armAt c (16 * ((s.now : Nat) : Rat))).1
  else s

/-- SERVO_MOVE (R285, R310); its owner is the owner of the MOVE wedge in progress (R312). -/
def execServoMove (c : Cluster) (track : BitVec 26) (s : State) : Res := s.run fun s =>
  let t := s.tlOf c
  s.startMove c track.toNat (t.cellAt t.now 0).owner

/-- SERVO_HOLD (R310): the arm holds its current target. -/
def execServoHold (c : Cluster) (s : State) : Res := s.run fun s =>
  let st := s.get (SRV_STAT_STATE c)
  if st = srvSEEK then s.seekOrFollow c (s.armAt c (16 * ((s.now : Nat) : Rat))).1 else s

/-! ### Losing the servo (R294, R295) -/

/-- The cluster enters REACQUIRE. -/
def State.reacquire (s : State) (c : Nat) : State :=
  let s := ((s.set (SRV_STAT_STATE c) srvREACQUIRE).countSat (SRV_REACQS_COUNT c)).seqIrq c 3
  s.setServo c { s.servoOf c with lostWedges := 0, lockRun := 0, disagree := 0, invalid := 0, astray := true }

/-- REACQUIRE_TIMEOUT (R295, R298): no lock within REACQ_REVS revolutions, in ACQUIRE and in REACQUIRE. -/
def execReacquireTimeout (c : Cluster) (s : State) : Res := s.run fun s =>
  let st := s.get (SRV_STAT_STATE c)
  if (st = srvACQUIRE ∨ st = srvREACQUIRE) ∧ s.get (SRV_THR3_REACQ_REVS c) * s.wpr ≤ (s.servoOf c).lostWedges then
    ((s.raiseC kSERVO_LOST c 0).queueVcm c (vcmPayload 0 2)).loseCluster c
  else s

/-! ### The samples of a wedge (R275 to R278) -/

/-- What the demodulators make of one lane's sample: its class, position, misregistration, and the lane's new history. -/
structure Seen where
  f : Nat
  cls : SampleClass
  y : Rat
  lane : LaneSrv
  deriving Repr

/-- The position of a lane, none where no SAM was accepted or S is below S_MIN. -/
def State.lanePos (s : State) (c f : Nat) (xm : Rat) (x : Option Reading) : Option Rat :=
  match x with
  | none => none
  | some x =>
    if (sampleBurst x).1 < s.get (SRV_CFG2_S_MIN c) then none
    else
      let l := tget LaneSrv.init (s.servoOf c).lanes f
      some (((samplePos x (xm + s.headShift c f + s.targetHoff c f + l.pred) : Nat) : Rat) / 1024)

/-- Classing a lane's sample against its prediction, and its history. -/
def State.seeLane (s : State) (c f : Nat) (arm : Rat) (y : Option Rat) : Seen :=
  let l := tget LaneSrv.init (s.servoOf c).lanes f
  let phi (y : Rat) : Rat := y - s.headShift c f - s.targetHoff c f - arm
  let plaus : Rat := ((s.get (SRV_THR1_LANE_PLAUS c) : Nat) : Rat) / 1024
  let cls : SampleClass := match y with
    | none => .missing
    | some y => if l.known && decide (plaus < |phi y - l.pred|) then .inconsistent else .valid
  let now : Rat := match cls, y with
    | .valid, some y => phi y
    | _, _ => l.pred
  let old := if l.known then l.phi else now
  let hist := l.known || (match cls with | .valid => true | _ => false)
  let next := if hist then now + s.coef c 9 * (now - old) else l.pred
  let l' := { l with phi := now, phiOld := old, pred := next, known := hist }
  ⟨f, cls, y.getD l.y, { l' with y := y.getD l.y, sum := l.sum + now, num := l.num + (if hist then 1 else 0) }⟩

/-- The value that more than half of a list hold; where none does, no index disagrees (log 85). -/
def majority (l : List Nat) : Option Nat := l.find? (fun a => decide (l.length < 2 * (l.filter (· == a)).length))

/-! ### Shocks (R296) -/

/-- SHOCK_HOLD is set on a cluster: every lane is write-inhibited at once; where it rises, interrupt 1 is requested (R317). -/
def State.shockHold (s : State) (k : Nat) : State :=
  let v := s.servoOf k
  let s := if s.is (SRV_STAT_SHOCK_HOLD k) then s else (s.setServo k { v with shockRun := 0 }).seqIrq k 1
  let s := s.set (SRV_STAT_SHOCK_HOLD k) 1
  State.each s (fun f s => if s.laneIsLost k f then s else s.setWhy k f 1 true) (List.range 32)

/-- A shock that cluster c detects: SHOCK is raised once per event. -/
def State.shock (s : State) (c : Nat) : State :=
  let on := (List.range 8).any (fun k => s.is (SRV_STAT_SHOCK_HOLD k))
  let mine := (s.servoOf c).shockEvent
  let s := State.each s (fun k s => s.shockHold k) (List.range 8)
  let s := if mine then s else (s.countSat (SRV_SHOCKS_COUNT c)).setServo c { s.servoOf c with shockEvent := true }
  if on then s else s.raiseC kSHOCK c 0

/-- A cluster clears its hold after SHOCK_HOLD quiet wedges; the event ends when all eight have cleared. -/
def State.shockWedge (s : State) (c : Nat) (shocked : Bool) : State :=
  if !s.is (SRV_STAT_SHOCK_HOLD c) then s
  else
    let v := s.servoOf c
    let run := if s.is (SRV_STAT_SETTLED c) && !shocked then v.shockRun + 1 else 0
    let s := s.setServo c { v with shockRun := run }
    if run < s.get (SRV_THR2_SHOCK_HOLD c) ∨ shocked = true then s
    else
      let s := s.set (SRV_STAT_SHOCK_HOLD c) 0
      if (List.range 8).any (fun k => s.is (SRV_STAT_SHOCK_HOLD k)) then s
      else State.each s (fun k s => s.setServo k { s.servoOf k with shockEvent := false }) (List.range 8)

/-! ### Settling and overruns (R286, R289) -/

/-- SETTLED at a WD. -/
def State.settle (s : State) (c : Nat) : State :=
  let v := s.servoOf c
  let tol : Rat := ((s.get (SRV_THR0_ARM_TOL c) : Nat) : Rat) / 1024
  let vt : Rat := ((s.get (SRV_THR3_V_TOL c) : Nat) : Rat) / 1024
  let ok := v.valid && decide (|v.x - (s.get (SRV_TGT_TARGET c) : Nat)| ≤ tol) && decide (|v.v| ≤ vt)
  let run := if ok then min (v.settleRun + 1) 16 else 0
  (s.setServo c { v with settleRun := run }).set (SRV_STAT_SETTLED c)
    (if ok && decide (s.get (SRV_THR2_SETTLE_N c) ≤ run) then 1 else 0)

/-- A MOVE at a WD: it ends once settled, overruns at the first wedge after its MOVE wedges, and is given up after
SEEK_ABORT wedges (R286, R289). -/
def State.moveWedge (s : State) (c : Nat) : State :=
  let v := s.servoOf c
  match v.move with
  | none => s
  | some m =>
    let n := m.taken + 1
    if s.is (SRV_STAT_SETTLED c) then
      (((s.setServo c { v with move := none }).set (SRV_LASTSEEK_BOOKED c) (min m.booked 65535)).set
        (SRV_LASTSEEK_TAKEN c) (min n 65535)).countSat (SRV_SEEKS_COUNT c)
    else
      let late := decide (n = m.booked)
      let s := s.setServo c { v with move := some { m with taken := n, overrun := m.overrun || late } }
      let s := if late then (s.countSat (SRV_OVERRUNS_COUNT c)).raiseC kSEEK_OVERRUN c m.dist else s
      let st := s.get (SRV_STAT_STATE c)
      if (st = srvFOLLOW ∨ st = srvSEEK) ∧ (m.overrun || late) = true ∧ s.get (SRV_THR3_SEEK_ABORT c) ≤ n then s.reacquire c
      else s

/-- Assumption A3 fails while a MOVE overruns and from REACQUIRE until settled in FOLLOW (R289, R295). -/
def State.astrayWedge (s : State) (c : Nat) : State :=
  let v := s.servoOf c
  let home := s.get (SRV_STAT_STATE c) = srvFOLLOW && s.is (SRV_STAT_SETTLED c)
  let s := s.setServo c { v with astray := v.astray && !home }
  let late := match v.move with
    | some m => m.overrun
    | none => false
  if (v.astray && !home) || late then s.failAssumption 3 (fun x => x.usesCluster c) else s

/-! ### Lock and anchor (R294, R297, R299) -/

/-- The wedge index expected at a WD: that of the wedge in progress once the cluster has its anchor. -/
def State.expectedIndex (s : State) (c : Nat) : Nat :=
  let v := s.servoOf c
  if v.anchored then s.indexOf c (s.tlOf c).now else v.index

/-- The lock criterion: a third consecutive wedge with enough SAMs, in place, and indices in sequence. -/
def State.lockWedge (s : State) (c : Nat) (sams near : Nat) (maj : Option Nat) (est : Option Rat) : State :=
  let v := s.servoOf c
  let need := s.get (SRV_THR2_CL_MIN c)
  let run := match maj with
    | none => 0
    | some i =>
      if sams < need then 0
      else if 0 < v.lockRun ∧ need ≤ near ∧ i = (v.lockIndex + 1) % s.wpr then v.lockRun + 1 else 1
  let s := s.setServo c { v with lockRun := min run 3, lockIndex := maj.getD 0, lostWedges := v.lostWedges + 1 }
  if run < 3 then s
  else
    let s := s.setServo c { s.servoOf c with locked := true, index := maj.getD 0, disagree := 0, invalid := 0 }
    if s.get (SRV_STAT_STATE c) = srvACQUIRE then
      (s.set (SRV_TGT_TARGET c) (roundRat (est.getD v.x)).toNat).set (SRV_STAT_STATE c) srvFOLLOW
    else s.seekOrFollow c v.x

/-- The wedge index and the cluster sample in FOLLOW and SEEK (R294). -/
def State.trackWedge (s : State) (c : Nat) (maj : Option Nat) : State :=
  let v := s.servoOf c
  let bad := match maj with
    | some i => i != s.expectedIndex c
    | none => false
  let d := if bad then v.disagree + 1 else 0
  let i := if v.valid then 0 else v.invalid + 1
  let s := s.setServo c { v with disagree := d, invalid := i }
  if 3 ≤ d ∨ s.get (SRV_THR2_CL_MISS c) ≤ i ∧ v.valid = false then s.reacquire c else s

/-- The cluster leaves START, or RECOVERY, at a WTR of index 0 with SETTLED = 1: that WTR is T_A (R58, R59, R299, R322,
R323). -/
def State.anchorWedge (s : State) (c : Nat) : State :=
  let mode := s.get (SEQ_STAT_MODE c)
  let v := s.servoOf c
  if (mode = 1 ∧ v.anchored = false ∨ mode = 4) ∧ v.locked ∧ s.get (SRV_STAT_STATE c) = srvFOLLOW ∧
      s.is (SRV_STAT_SETTLED c) = true ∧ s.get (SRV_STAT_WIDX c) = 0 then
    let t := s.tlOf c
    let s := s.setTl c { t with ta := v.wtr / 16, now := 0, base := 0, pos0 := s.get (SRV_TGT_TARGET c), slots := [],
                                hist := [], lastX := [], filled := 0 }
    let s := (s.setServo c { v with anchored := true }).seqMode c 2
    if mode = 4 && !s.is LOOP_PF_STAT_PHASE then s.setOpen c true else s
  else s

/-- The WTR against T(n) (R297). -/
def State.phaseWedge (s : State) (c : Nat) : State :=
  let v := s.servoOf c
  if !v.anchored then s
  else
    let dev : Int := (v.wtr / 16 : Nat) - (s.tick c (s.tlOf c).now : Nat)
    let s := s.set PRM_PHASE_ERR_MAX_TICKS (max (s.get PRM_PHASE_ERR_MAX_TICKS) (min dev.natAbs 65535))
    if s.term 6 < dev.natAbs then
      (s.raiseC kPHASE_DRIFT c (unsign 32 dev)).failAssumption 2 (fun x => x.usesCluster c)
    else s

/-! ### What a WD does to one lane (R279, R291 to R293) -/

/-- The class code of LANs.MASTAT.SAMPLE. -/
def SampleClass.code : SampleClass → Nat
  | .valid => 0
  | .inconsistent => 1
  | .missing => 2
  | .none => 3

/-- The sample's registers and counters. -/
def State.laneSeen (s : State) (c : Nat) (x : Seen) : State :=
  let f := x.f
  let valid := x.cls.code = 0
  let miss := if valid then 0 else x.lane.miss + 1
  let v := s.servoOf c
  let n := (x.y * 1024).floor.toNat
  let none' := decide (x.cls.code = 2)
  let hi := if none' then x.lane.posHi else n / 2 ^ 32 % 16
  let l := { x.lane with miss := min miss 256, posHi := hi }
  let s := s.setServo c { v with lanes := tset LaneSrv.init v.lanes f l }
  let s := if none' then s.countSat (SRV_SAMMISS_COUNT c) else s.set (LAN_MAPOS_LO_POS_LO c f) n
  let s := ((s.set (LAN_MASTAT_SAMPLE c f) x.cls.code).setMilli (LAN_MAPHI_PHI c f) x.lane.phi)
  let s := if valid then s.set (LAN_MASTAT_LANE_SERVO_LOST c f) 0 else s.countSat (LAN_MAMISS_COUNT c f)
  if miss = s.get (SRV_THR3_LANE_MISS c) ∧ ¬valid ∧ s.is (LAN_MASTAT_LANE_SERVO_LOST c f) = false then
    (s.set (LAN_MASTAT_LANE_SERVO_LOST c f) 1).raiseC kLANE_SERVO c f
  else s

/-- The mean misregistration of the revolution that ends at index 0. -/
def State.lanePhiAvg (s : State) (c f : Nat) : State :=
  let v := s.servoOf c
  let l := tget LaneSrv.init v.lanes f
  if s.get (SRV_STAT_WIDX c) = 0 ∧ l.num ≠ 0 then
    (s.setMilli (LAN_MAPHI_PHI_AVG c f) (l.sum / (l.num : Nat))).setServo c
      { v with lanes := tset LaneSrv.init v.lanes f { l with sum := 0, num := 0 } }
  else s

/-- The lane's target, and SETTLING for MA_STEP_W wedges after a change of more than one track. -/
def State.laneTarget (s : State) (c f : Nat) : State :=
  let v := s.servoOf c
  let l := tget LaneSrv.init v.lanes f
  let t := s.headTarget c f
  let step := decide (1 < ((t : Int) - s.get (LAN_MATGT_TARGET c f)).natAbs)
  let n := if step then s.get (SRV_THR2_MA_STEP_W c) else l.settling - 1
  let s := (s.set (LAN_MATGT_TARGET c f) t).set (LAN_MASTAT_SETTLING c f) (if n = 0 then 0 else 1)
  s.setServo c { v with lanes := tset LaneSrv.init v.lanes f { l with settling := n } }

/-- The integrator of a head with a VALID sample whose last code was not clamped. -/
def State.laneInteg (s : State) (c f : Nat) : State :=
  let v := s.servoOf c
  let l := tget LaneSrv.init v.lanes f
  if s.get (LAN_MASTAT_SAMPLE c f) = 0 ∧ l.clamped = false then
    let lim := s.coef c 11
    let i := max (-lim) (min lim (l.integ + s.coef c 10 * ((s.get (LAN_MATGT_TARGET c f) : Nat) - l.y)))
    (s.setServo c { v with lanes := tset LaneSrv.init v.lanes f { l with integ := i } }).setMilli (LAN_MAINT_I c f) i
  else s

/-- The servo's write inhibit of one lane for the coming data region. -/
def State.laneInhibit (s : State) (c f : Nat) : State :=
  let v := s.servoOf c
  let l := tget LaneSrv.init v.lanes f
  let off := decide (((s.get (SRV_THR0_WR_OT c) : Nat) : Rat) / 1024 < |((s.get (LAN_MATGT_TARGET c f) : Nat) : Rat) - l.y|)
  let s := if off && s.get (LAN_MASTAT_SAMPLE c f) != 2 then s.countSat (LAN_MAOT_COUNT c f) else s
  let bad := s.get (LAN_MASTAT_SAMPLE c f) != 0 || off || s.is (LAN_MACODE_SAT c f) || s.is (LAN_MASTAT_SETTLING c f)
    || !(s.get (SRV_STAT_STATE c) == srvFOLLOW && s.is (SRV_STAT_SETTLED c)) || s.is (SRV_STAT_SHOCK_HOLD c)
  let clean := if bad then 0 else min (l.clean + 1) 16
  let s := s.setServo c { v with lanes := tset LaneSrv.init v.lanes f { l with clean := clean } }
  let s := if bad then s.setWhy c f 1 true
    else if s.get (SRV_THR2_WR_CLR c) ≤ clean then s.setWhy c f 1 false else s
  if bitAt (s.get (LAN_STAT_WINH_WHY c f)) 1 then s.countSat (SRV_WINH_COUNT c) else s

/-! ### WD and mid-wedge (R276, R280) -/

/-- What a WD passes on to the rest of the cluster: MA and HEAT frames due (R177), the clearance classes and the bias and
spindle loops (R336, R344, R346), the WD event and the timeout counter in wedges (R304, R308). -/
def State.wedgeWork (s : State) (c : Nat) : State :=
  let p := s.pcbOf c
  let again := p.queue.any (fun q => q.kind.eqb .heat)
  let s := if p.heatDue || again then s.senseNone c else s
  let s := s.setPcb c { s.pcbOf c with maDue := true, heatDue := true, queue := p.queue.filter (fun q => !q.kind.eqb .heat) }
  let s := if s.resetting.contains (.loop (dieOf c)) then s
    else State.each s (fun f s => s.clrClass c f) (List.range 32)
  let s := (s.biasStep c).spinWd c (s.servoOf c).wtr (s.tlOf c).now
  let q := s.seqOf c
  (s.setSeq c { q with tmo := if q.tmoWedges then q.tmo - 1 else q.tmo }).seqEvent c 1

/-- The servo runs: in ACQUIRE, FOLLOW, SEEK and REACQUIRE, with its demodulators out of reset. -/
def State.servoRuns (s : State) (c : Nat) : Bool :=
  let st := s.get (SRV_STAT_STATE c)
  decide (1 ≤ st ∧ st ≤ 4) && !s.resetting.contains (.demod c)

/-- The arm estimate of a WD and the lanes' samples. -/
def State.sampleAll (s : State) (c : Nat) (xm : Rat) (xs : List (Option Reading)) : Option Rat × List Seen :=
  let live := (List.range 32).filter (fun f => !s.laneIsLost c f)
  let ys := live.map (fun f => (f, s.lanePos c f xm (xs.getD f none)))
  let arms := ys.filterMap (fun p => p.2.map (fun y => y - s.headShift c p.1 - s.targetHoff c p.1))
  let est := if arms.length < s.get (SRV_THR2_CL_MIN c) then none else lowerMedian arms
  (est, ys.map (fun p =>
    let x := s.seeLane c p.1 (est.getD xm) p.2
    { x with lane := { x.lane with sam := (xs.getD p.1 none).map Reading.sam } }))

/-- The observer's measurement (R282, R296). -/
def State.measure (s : State) (c wtr : Nat) (est : Option Rat) (shocked : Bool) : State :=
  let v := s.servoOf c
  let m := s.armAt c (wtr : Nat)
  let new : Servo := { v with us := pruneCmds (wtr : Nat) v.us, wtr := wtr, valid := est.isSome, known := v.known || est.isSome }
  s.setServo c (match est with
    | none => if v.known then { new with x := m.1, v := m.2 } else new
    | some p =>
      if !v.known then { new with x := p, v := 0 }
      else if shocked then { new with x := p, v := m.2 }
      else { new with x := m.1 + s.coef c 0 * (p - m.1), v := m.2 + s.coef c 1 * (p - m.1), b := v.b + s.coef c 2 * (p - m.1) })

/-- The cluster's registers of a WD. -/
def State.wdRegs (s : State) (c : Nat) (est : Option Rat) (index : Nat) : State :=
  let v := s.servoOf c
  let s := (((s.set (SRV_WTR_TIME_LO c) (v.wtr / 16)).set (SRV_WTRF_FRAC c) (v.wtr % 16)).set (SRV_STAT_WIDX c) index).setMilli
    (SRV_VEL_V c) v.v
  let b := roundRat v.b
  let s := s.set (SRV_BIAS_B c) (unsign 32 b)
  match est with
  | none => s
  | some p =>
    let n := unsign 36 (roundRat (p * 1024))
    State.set (s.setServo c { v with posHi := n / 2 ^ 32 }) (SRV_POS_LO_POS_LO c) n

/-- A WD of a servo that runs. -/
def State.servoWd (s : State) (c : Nat) (xs : List (Option Reading)) (wtr : Nat) : State :=
  let v := s.servoOf c
  let xm := if v.known then (s.armAt c (wtr : Nat)).1 else v.x
  let r := s.sampleAll c xm xs
  let sams := ((List.range 32).filter (fun f => !s.laneIsLost c f)).filterMap (fun f => xs.getD f none)
  let maj := majority (sams.filterMap Reading.wedge)
  let st := s.get (SRV_STAT_STATE c)
  let d : Rat := ((s.get (SRV_THR1_SHOCK_D c) : Nat) : Rat) / 1024
  let shocked := (st == srvFOLLOW || st == srvSEEK) && v.known &&
    ((match r.1 with | some p => decide (d < |p - xm|) | none => false)
      || decide (16 ≤ (r.2.filter (fun x => x.cls.code == 1)).length))
  let s := s.measure c wtr r.1 shocked
  let s := r.2.foldl (fun s x => s.laneSeen c x) s
  let s := State.each s (fun f s => if s.laneIsLost c f then s.set (LAN_MASTAT_SAMPLE c f) 3 else s) (List.range 32)
  let s := if st = srvACQUIRE ∨ st = srvREACQUIRE then s.lockWedge c sams.length (sams.filter Reading.near).length maj r.1
    else s.trackWedge c maj
  let index := if st = srvACQUIRE then maj.getD (s.expectedIndex c) else s.expectedIndex c
  let s := s.wdRegs c r.1 index
  let s := s.setServo c { s.servoOf c with index := ((s.servoOf c).index + 1) % s.wpr }
  let s := if shocked then s.shock c else s
  let s := ((s.settle c).moveWedge c).astrayWedge c
  let s := (s.shockWedge c shocked).anchorWedge c
  let s := s.phaseWedge c
  let live := (List.range 32).filter (fun f => !s.laneIsLost c f)
  let s := State.each s (fun f s => (s.lanePhiAvg c f).laneTarget c f) live
  let s := (s.maUpdate c).vcmUpdate c
  let s := State.each s (fun f s => (s.laneInteg c f).laneInhibit c f) live
  s.wedgeWork c

/-- What the demodulators of the 32 lanes find in a wedge; a lost lane has no sample (R275). -/
def State.demodAll (s : State) (c : Nat) (xs : List (Option Sample)) : List (Option Reading) :=
  (List.range 32).map (fun f => if s.laneIsLost c f then none else (xs.getD f none).bind (s.demod c f))

/-- SERVO_WD (R270, R276): what the 32 lanes' demodulators take in, and the lane whose SAM the WTR is computed from, which is the
part's own choice (log 85). -/
def execServoWd (c : Cluster) (xs : Vector (Option Sample) 32) (lane : Surface) (s : State) : Res := s.run fun s =>
  let s := s.coastLanes c
  let found := s.demodAll c xs.toList
  (if s.servoRuns c then s.servoWd c found (s.wtrOf c (found.getD lane none)) else s).calWd c

/-- SERVO_MIDW (R280, R283): the second microactuator and VCM commands of the wedge. -/
def execServoMidw (c : Cluster) (s : State) : Res := s.run fun s =>
  if s.servoRuns c then
    let s := (s.maUpdate c).vcmUpdate c
    (s.setPcb c { s.pcbOf c with maDue := true }).seqEvent c 2
  else s

end Sys2Proof.Machine
end

