-- ==== Sys2Proof/Machine/Streamers.lean ====
section
/-! DEFINITION. Machine/Streamers.lean: the Streamers: descriptors, bursts, events, chains and their control (R397 to
R411). -/

namespace Sys2Proof.Machine

/-! ### Descriptors (R398 to R400) -/

/-- The key of a byte an address names: space 0 DRAM, 1 and 2 the cache of D0 and D1 (R398). -/
def descKey (space addr : Nat) : Nat := spaceKey space addr

/-- A signed 32-bit word. -/
def sgn32 (n : Nat) : Int := signed 32 n

/-- The sixteen words of the descriptor at a DRAM address. -/
def State.descWords (s : State) (addr : Nat) : List Stored := (List.range 16).map (fun i => s.stored (descKey 0 (addr + 4 * i)))

/-- Laying out sixteen words (R398). -/
def descOf (w : List Nat) : Desc :=
  let g (i : Nat) : Nat := w.getD i 0
  { srcSpace := bitsOf (g 1) 4 2, src := g 0 + bitsOf (g 1) 0 3 * 2 ^ 32
    dstSpace := bitsOf (g 3) 4 2, dst := g 2 + bitsOf (g 3) 0 3 * 2 ^ 32
    len := bitsOf (g 4) 0 13, n0 := bitsOf (g 4) 16 16, n1 := bitsOf (g 5) 0 16, n2 := bitsOf (g 5) 16 16
    ss0 := sgn32 (g 6), ds0 := sgn32 (g 7), ss1 := sgn32 (g 8), ds1 := sgn32 (g 9), ss2 := sgn32 (g 10), ds2 := sgn32 (g 11)
    event := bitsOf (g 12) 0 3, nslot := bitsOf (g 12) 16 13, arg := g 13
    link := g 14 + bitsOf (g 15) 0 3 * 2 ^ 32 }

/-- A descriptor is faulty in its fields (R400). -/
def descFaulty (general : Bool) (w : List Nat) : Bool :=
  let g (i : Nat) : Nat := w.getD i 0
  let d := descOf w
  bitsOf (g 1) 3 1 != 0 || bitsOf (g 1) 6 26 != 0 || bitsOf (g 3) 3 1 != 0 || bitsOf (g 3) 6 26 != 0 ||
    d.srcSpace == 3 || d.dstSpace == 3 || bitsOf (g 4) 13 3 != 0 || d.n0 == 0 || d.n1 == 0 || d.n2 == 0 ||
    decide (d.len < 4) || decide (4096 < d.len) || d.len % 4 != 0 ||
    [d.ss0, d.ds0, d.ss1, d.ds1, d.ss2, d.ds2].any (fun z => z % 4 != 0) ||
    bitsOf (g 12) 3 13 != 0 || bitsOf (g 12) 29 3 != 0 || decide (4 < d.event) ||
    (d.event == 1 && (decide (d.nslot < 1) || decide (7680 < d.nslot) || bitsOf d.arg 21 11 != 0)) ||
    (d.event != 1 && d.nslot != 0) ||
    (d.event == 2 && bitsOf d.arg 3 5 != 0) || (d.event == 4 && bitsOf d.arg 14 18 != 0) ||
    ((d.event == 0 || d.event == 3) && d.arg != 0) ||
    bitsOf (g 14) 0 6 != 0 || bitsOf (g 15) 3 29 != 0 ||
    (general && (d.srcSpace != 0 || d.dstSpace != 0 || d.event != 0))

/-- A DRAM address a GENERAL Streamer may name: WINDOW or STAFF (R366, R400). -/
def generalMay (a : Nat) : Bool := decide (a < 0x200000000) || (decide (0x640000000 ≤ a) && decide (a < 0x740000000))

/-- The descriptor of a hardware-made job (R385, R410): a block from a line to a window slot with a FLIP, a block from a
slot to a line with a FILL, or from a slot to its staging copy. -/
def State.jobDesc (s : State) (j : Job) : Desc :=
  let one (ss sa ds da ev ns ar : Nat) : Desc := ⟨ss, sa, ds, da, 4096, 1, 1, 1, 0, 0, 0, 0, 0, 0, ev, ns, ar, 0⟩
  let slotOf (id b : Nat) : Nat := ((s.cmd? id).map Cmd.slot).getD 0 + b
  match j with
  | .deliver id b l => one (1 + l / 2 ^ 14) (4096 * (l % 2 ^ 14)) 0 (slotAddr (slotOf id b)) 1 1 (slotOf id b)
  | .intake id b l => one 0 (slotAddr (slotOf id b)) (1 + l / 2 ^ 14) (4096 * (l % 2 ^ 14)) 4 0 (l % 2 ^ 14)
  | .stage id b i => one 0 (slotAddr (slotOf id b)) 0 (0x200000000 + 4096 * i) 0 0 0
  | .chain a => descOf ((s.descWords a).map Stored.data)

/-! ### Events at the end of a descriptor (R402) -/

/-- The die and line index of a cache job's line, coded as die × 2^14 + line. -/
def lineDie (l : Nat) : Nat := l / 2 ^ 14

/-- Slots turn HOST, or POISONED where they hold a poisoned word (R144, R402). -/
def State.flipHost (s : State) (m : Nat) : Nat → State
  | 0 => s
  | n + 1 =>
    let s := State.flipHost s m n
    if s.flag (m + n) = slotDEVICE then s.setFlag (m + n) (if s.slotPoisoned (m + n) then slotPOISONED else slotHOST) else s

/-- The command of a served block: the block has been delivered, and its TERMINAL follows the last one (R152). -/
def State.delivered (s : State) (id b : Nat) : State :=
  match s.cmd? id with
  | none => s
  | some c =>
    let lost := s.slotPoisoned (c.slot + b) && !c.lost.contains b
    let c := { c with moved := c.moved ++ [b], lost := if lost then c.lost ++ [b] else c.lost,
                      status := if lost then worse c.status 5 else c.status }
    if c.count ≤ c.moved.length then
      (s.setCmd { c with
        mediaDone := true
        stripes := c.stripes.map (fun x => { x with st := if x.offs.any c.lost.contains then .lost else .done }) }).endCmd id
    else s.setCmd c

/-- A block of a WRITE has been taken in (R385): its source slot may have held a poisoned word (R141), and a stripe given up
keeps no version of it. -/
def State.blockIn (s : State) (id b : Nat) : State :=
  match s.cmd? id with
  | none => s
  | some c =>
    let c := { c with moved := c.moved ++ [b] }
    let s := s.setCmd c
    let s := if s.slotPoisoned (c.slot + b) then s.slotHit (c.slot + b) else s
    let s := if ((s.cmd? id).getD c).stripes.any (fun x => x.st = .lost && x.offs.contains b) then s.dropVersion id (c.lba + b)
      else s
    if c.count ≤ c.moved.length && c.status = 6 then s.endIfSettled id else s

/-- The pulse of a descriptor that ended, with its ERR bit (R402). -/
def State.stmPulse (s : State) (n : Nat) (job : Job) (d : Desc) (err : Bool) : State :=
  let clu := 4 * (n / 16) + (n % 16 - 6) / 2
  let mark (o : OpenStripe) : OpenStripe := if o.slot = d.arg / 2 ^ 8 && o.write then { o with present := true } else o
  match job with
  | .deliver id b l =>
    let s := s.unpin (lineDie l) (l % 2 ^ 14)
    if err then
      match s.cmd? id with
      | some c =>
        let c := { c with lost := if c.lost.contains b then c.lost else c.lost ++ [b], status := worse c.status 5 }
        (s.setCmd c).delivered id b
      | none => s
    else (s.flipHost d.arg d.nslot).delivered id b
  | .intake id b l =>
    if err then s
    else
      let dd := lineDie l
      let x := s.cacheOf dd
      (s.setCache dd (x.setLine (l % 2 ^ 14) { x.line (l % 2 ^ 14) with filling := false })).blockIn id b
  | .stage id b _ => if err then s else s.blockIn id b
  | .chain _ =>
    match d.event with
    | 1 => if err then s else s.flipHost (d.arg % 2 ^ 21) d.nslot
    | 2 =>
      if err then s
      else
        let c := d.arg % 8
        s.setStr c { s.strOf c with opened := (s.strOf c).opened.map mark }
    | 3 => if streamerClass n = 2 then s.seqEvent clu 16 else s
    | 4 =>
      if err then s
      else
        let x := s.cacheOf (n / 16)
        s.setCache (n / 16) (x.setLine (d.arg % 2 ^ 14) { x.line (d.arg % 2 ^ 14) with filling := false })
    | _ => s

/-! ### Starting and ending (R403, R405, R408, R411) -/

/-- Writing the position registers of the next byte (R406). -/
def State.stmPos (s : State) (n src dst i0 i1 i2 off : Nat) : State :=
  let s := ((s.set (STM_SRC_LO_SRC n) src).set (STM_SRC_HI_SRC n) (src / 2 ^ 32)).set (STM_DST_LO_DST n) dst
  let s := ((s.set (STM_DST_HI_DST n) (dst / 2 ^ 32)).set (STM_IDX0_I0 n) i0).set (STM_IDX0_I1 n) i1
  (s.set (STM_IDX1_I2 n) i2).set (STM_IDX1_OFF n) off

/-- A fault of a Streamer: CAUSE, the source where it has one, the ERR pulse, ERROR for GENERAL and IDLE otherwise
(R400, R401, R405, R408). -/
def State.stmFault (s : State) (n cause : Nat) (job : Job) (d : Desc) (pulse : Bool) : State :=
  let s := s.set (STM_STAT_CAUSE n) cause
  let s := if pulse then s.stmPulse n job d true else s
  let s := s.setStm n { s.stmOf n with job := none, desc := none, out := [], issued := false, withdrawn := false }
  s.set (STM_STAT_STATE n) (if streamerClass n = 3 then 6 else 0)

/-- A Streamer takes a job: its descriptor is read and checked, and it is RUNNING (R400, R405, R408). -/
def State.stmBegin (s : State) (n : Nat) (j : Job) : State :=
  let x := s.stmOf n
  let d := s.jobDesc j
  let cur := match j with | .chain a => a | _ => 0
  let s := (s.set (STM_CUR_LO_CUR n) cur).set (STM_CUR_HI_CUR n) (cur / 2 ^ 32)
  let go (s : State) : State :=
    ((s.setStm n { x with job := some j, desc := some d, out := [], issued := false, withdrawn := false, waited := false }).set
      (STM_STAT_STATE n) 1).stmPos n d.src d.dst 0 0 0 0
  match j with
  | .chain a =>
    let ws := s.descWords a
    if ws.any (fun w => w.view.isNone) then
      let s := s.raise (srcPOISON (n / 16)) n (orgInt 12 (n / 16) n)
      let known := (ws.getD 12 (freshWord 0 false)).view.isSome
      s.stmFault n 1 j (if known then d else { d with event := 3 }) (known || streamerClass n == 2)
    else if descFaulty (streamerClass n == 3) (ws.map (fun w => (w.view.getD 0))) then s.stmFault n 2 j d true
    else go s
  | _ => go s

/-- An idle hardware Streamer outside its reset window starts its next queued job at once, and the one after it where that one
is faulty (R34, R405). -/
def State.stmStart (s : State) (n : Nat) : Nat → State
  | 0 => s
  | k + 1 =>
    let x := s.stmOf n
    let st := s.stmState n
    match x.queue with
    | [] => s
    | j :: js =>
      if (st = 0 ∨ st = 3) ∧ x.out = [] ∧ streamerClass n ≠ 3 ∧ s.resetting.contains (.stm (Fin.ofNat 32 n)) = false then
        State.stmStart (((s.setStm n { x with queue := js }).set (STM_STAT_QUEUED n) js.length).stmBegin n j) n k
      else s

/-- The next queued job of a hardware Streamer (R405). -/
def State.stmNext (s : State) (n : Nat) : State := s.stmStart n (s.stmOf n).queue.length

/-- A job is queued at a hardware Streamer. -/
def State.stmQueue (s : State) (n : Nat) (j : Job) : State :=
  let x := s.stmOf n
  ((s.setStm n { x with queue := x.queue ++ [j] }).set (STM_STAT_QUEUED n) (x.queue.length + 1)).stmNext n

/-- The descriptor has ended: its pulse, its count, its link word (R402, R403). -/
def State.stmDescEnd (s : State) (n : Nat) : State :=
  let x := s.stmOf n
  match x.job, x.desc with
  | some j, some d =>
    let s := (s.stmPulse n j d false).countSat (STM_DESCS_COUNT n)
    (match j with
    | .chain a =>
      let lo := s.stored (descKey 0 (a + 56))
      let hi := s.stored (descKey 0 (a + 60))
      (match lo.view, hi.view with
      | some l, some h =>
        let link := l / 64 * 64 + h % 8 * 2 ^ 32
        if link ≠ 0 then (s.stmBegin n (.chain link)).stmNext n
        else (s.setStm n { s.stmOf n with linkAt := s.now }).set (STM_STAT_STATE n) 2
      | _, _ =>
        ((s.raise (srcPOISON (n / 16)) n (orgInt 12 (n / 16) n)).stmFault n 1 j d false).stmNext n)
    | _ =>
      ((s.setStm n { s.stmOf n with job := none, desc := none, issued := false }).set (STM_STAT_STATE n) 0).stmNext n)
  | _, _ => s

/-! ### The commands -/

/-- STM_KICK (R310, R411): the chain at an address goes to the less loaded CLUSTER Streamer of the cluster. -/
def State.stmKick (s : State) (c addr : Nat) : State :=
  let n := 16 * dieOf c + 6 + 2 * (c % 4)
  let load (m : Nat) : Nat := (s.stmOf m).queue.length
  let m := if load (n + 1) < load n then n + 1 else n
  if 8 ≤ load m then
    ((s.set (STM_STAT_CAUSE m) 5).raise (srcKICK (dieOf c)) c (orgClu c 0)).seqEvent c 16
  else s.stmQueue m (.chain addr)

/-- A GENERAL Streamer is named; any other class drops the write and sets REJECT (R397). -/
def State.general (s : State) (n : Nat) (o : Origin) (a v : Nat) (f : State → State) : State :=
  if streamerClass n = 3 then (f s).logPriv o a v 0 else (s.set (STM_STAT_REJECT n) 1).logPriv o a v 1

/-- STM_GO: a write of KICK_HI with GO = 1 (R405). -/
def execStmGo (o : Origin) (n : StreamerNo) (hi : Fin 8) (s : State) : Res := s.runOn (n / 16) fun s =>
  let v := hi.val + 2 ^ 31
  if streamerClass n = 3 then
    let s := s.set (STM_KICK_HI_ADDR_HI n) hi
    let st := s.stmState n
    if (st = 0 ∨ st = 3) ∧ s.resetting.contains (.stm n) = false then
      (s.logPriv o (STM_KICK_HI n) v 0).stmBegin n
        (.chain (s.get (STM_KICK_LO_ADDR_LO n) * 64 + hi * 2 ^ 32))
    else (s.set (STM_STAT_REJECT n) 1).logPriv o (STM_KICK_HI n) v 1
  else (s.set (STM_STAT_REJECT n) 1).logPriv o (STM_KICK_HI n) v 1

/-- STM_PAUSE: a write of CTL with PAUSE = 1 (R405, R406). -/
def execStmPause (o : Origin) (n : StreamerNo) (s : State) : Res := s.runOn (n / 16) fun s =>
  s.general n o (STM_CTL n) 1 fun s =>
    let s := s.set (STM_CTL_PAUSE n) 1
    let x := s.stmOf n
    let st := s.stmState n
    if st = 1 ∨ st = 2 then
      (s.setStm n { x with waited := st == 2 }).set (STM_STAT_STATE n) (if x.out.isEmpty then 5 else 4)
    else s

/-- STM_RESUME: a write of CTL with PAUSE = 0 (R405): RUNNING, or WAIT_LINK where it paused there. -/
def execStmResume (o : Origin) (n : StreamerNo) (s : State) : Res := s.runOn (n / 16) fun s =>
  s.general n o (STM_CTL n) 0 fun s =>
    let s := s.set (STM_CTL_PAUSE n) 0
    if s.stmState n = 5 then s.set (STM_STAT_STATE n) (if (s.stmOf n).waited then 2 else 1) else s

/-- STM_STOP: a write of CTL with STOP = 1 (R405, R407). -/
def execStmStop (o : Origin) (n : StreamerNo) (pause : Bool) (s : State) : Res := s.runOn (n / 16) fun s =>
  s.general n o (STM_CTL n) (2 + (if pause then 1 else 0)) fun s =>
    let s := s.set (STM_CTL_PAUSE n) (if pause then 1 else 0)
    if s.stmState n = 6 then s.set (STM_STAT_STATE n) 0 else s.withdraw n

/-- The longest run of a burst (R399): at most 256 bytes, within the element, crossing no 256-byte boundary. -/
def burstLen (len off src dst : Nat) : Nat := min (len - off) (min (256 - src % 256) (256 - dst % 256))

/-- An address plus signed steps, within 35 bits. -/
def stepAddr (a : Nat) (i0 i1 i2 : Nat) (s0 s1 s2 : Int) : Nat :=
  (((a : Int) + i0 * s0 + i1 * s1 + i2 * s2) % (2 ^ 35 : Nat)).toNat

/-- The words of a burst are copied; a GENERAL write to a granted slot follows the flag rules of R145 for its owner, and
one to a slot in no grant is stored (R148). -/
def State.burstCopy (s : State) (n : Nat) (d : Desc) (src dst len : Nat) : State :=
  let m := dst / 4096
  let inWin := streamerClass n = 3 ∧ dst < 0x200000000
  let drop := match s.grantOf? m with
    | some _ => decide inWin && s.flag m != slotHOST
    | none => false
  if drop then
    match s.grantOf? m with
    | some g =>
      if s.flag m = slotPOISONED then s
      else
        let s := { s with ports := { s.ports with
          wviol := tset 0 s.ports.wviol g.burgee (tget 0 s.ports.wviol g.burgee + 1) } }
        (s.countSat LOG_VVCOUNT_COUNT).violation g.burgee (orgInt 12 (n / 16) n) 0x31 [m, s.flag m, 1]
    | none => s
  else s.copyWords (orgInt 12 (n / 16) n) (descKey d.srcSpace src) (descKey d.dstSpace dst) (len / 4)

/-- The counters of the loops after a burst of `len` bytes: i0, i1, i2 and the offset, each before its wrap, and whether
that was the descriptor's last burst (R399). -/
structure Walk where
  n0 : Nat
  n1 : Nat
  n2 : Nat
  off : Nat
  last : Bool
  deriving DecidableEq, Repr

def Desc.walk (d : Desc) (i0 i1 i2 off len : Nat) : Walk :=
  let full := off + len = d.len
  let n0 := if full then i0 + 1 else i0
  let n1 := if n0 = d.n0 then i1 + 1 else i1
  let n2 := if n1 = d.n1 then i2 + 1 else i2
  ⟨if n0 = d.n0 then 0 else n0, if n1 = d.n1 then 0 else n1, n2, if full then 0 else off + len, n2 = d.n2⟩

/-- The position registers after a burst from `src` to `dst`. -/
def State.afterBurst (s : State) (n : Nat) (d : Desc) (w : Walk) (src dst len : Nat) : State :=
  let src' := if w.last then src + len else stepAddr d.src w.n0 w.n1 w.n2 d.ss0 d.ss1 d.ss2 + w.off
  let dst' := if w.last then dst + len else stepAddr d.dst w.n0 w.n1 w.n2 d.ds0 d.ds1 d.ds2 + w.off
  s.stmPos n src' dst' w.n0 w.n1 w.n2 w.off

/-- A running DELIVERY Streamer with no descriptor in hand goes on with the chain queued next (R410). -/
def State.stmAhead (s : State) (n : Nat) : State :=
  let x := s.stmOf n
  match x.queue with
  | q :: qs => ((s.setStm n { x with job := some q, desc := some (s.jobDesc q), queue := qs }).set
      (STM_STAT_QUEUED n) qs.length).stmPos n (s.jobDesc q).src (s.jobDesc q).dst 0 0 0 0
  | [] => s

/-- The last burst of a descriptor is issued. The descriptor of a DELIVERY Streamer ends once its bursts are acknowledged
(R410). -/
def State.issuedWhole (s : State) (n : Nat) (x : Streamer) (j : Job) (len : Nat) : State :=
  if streamerClass n = 0 then
    let left := x.out.length + 1 - (x.trail.map Prod.snd).sum
    (s.setStm n { x with
      job := none, desc := none, issued := false, out := x.out ++ [(len, s.now)], trail := x.trail ++ [(j, left)] }).stmAhead n
  else s.setStm n { x with out := x.out ++ [(len, s.now)], issued := true }

/-- A job's transfer still matters: a read's until its command has ended (R130, R144), a write's while its command is there. -/
def State.jobLives (s : State) (j : Job) : Bool :=
  match j with
  | .deliver id _ _ => ((s.cmd? id).map (fun c => decide (c.phase = .promised))).getD false
  | .intake id _ _ => (s.cmd? id).isSome
  | .stage id _ _ => (s.cmd? id).isSome
  | .chain _ => true

/-- The first burst of a read served from the cache is issued (R128). -/
def State.bursting (s : State) (j : Job) : State :=
  match j with
  | .deliver id _ _ => (match s.cmd? id with
    | some c => if c.burst then s else s.setCmd { c with burst := true }
    | none => s)
  | _ => s

/-- A job delivers a block of a command. -/
def Job.delivers (j : Job) (id : Nat) : Bool :=
  match j with
  | .deliver i _ _ => i == id
  | _ => false

/-- The line pinned for a job is unpinned. -/
def State.jobUnpin (s : State) (j : Job) : State :=
  match j with
  | .deliver _ _ l => s.unpin (lineDie l) (l % 2 ^ 14)
  | _ => s

/-- A Streamer's jobs of a read that was aborted before its first burst leave it (R128, R130). -/
def State.dropJobsOf (s : State) (id n : Nat) : State :=
  let x := s.stmOf n
  let now := (x.job.map (fun j => j.delivers id)).getD false
  let gone := x.queue.filter (fun j => j.delivers id) ++ (if now then x.job.toList else [])
  if gone.isEmpty then s
  else
    let s := gone.foldl State.jobUnpin s
    let q := x.queue.filter (fun j => !j.delivers id)
    let s := (s.setStm n { x with queue := q }).set (STM_STAT_QUEUED n) q.length
    if !now then s
    else
      let s := s.setStm n { s.stmOf n with job := none, desc := none }
      if x.out.isEmpty then (s.set (STM_STAT_STATE n) 0).stmNext n else s.stmAhead n

/-- The jobs of a read leave every Streamer. -/
def State.dropJobs (s : State) (id : Nat) : State := State.each s (fun n s => s.dropJobsOf id n) (List.range 32)

/-- FCLK cycles between a Streamer's bursts: ceil(1,024 / SHARE), where a SHARE of 0 acts as 1 (R401). -/
def State.burstGap (s : State) (n : Nat) : Nat := (1024 + max 1 (s.get (STM_CFG_SHARE n)) - 1) / max 1 (s.get (STM_CFG_SHARE n))

/-- The first FCLK cycle of this tick or later in which a Streamer may issue a burst (R401). -/
def State.burstAt (s : State) (n : Nat) : Nat := max (s.stmOf n).nextAt (16 * s.now)

/-- The next burst of descriptor `d` (R399 to R401). -/
def State.issueBurst (s : State) (n : Nat) (x : Streamer) (j : Job) (d : Desc) : State :=
  let i0 := s.get (STM_IDX0_I0 n)
  let i1 := s.get (STM_IDX0_I1 n)
  let i2 := s.get (STM_IDX1_I2 n)
  let off := s.get (STM_IDX1_OFF n)
  let src := stepAddr d.src i0 i1 i2 d.ss0 d.ss1 d.ss2 + off
  let dst := stepAddr d.dst i0 i1 i2 d.ds0 d.ds1 d.ds2 + off
  if streamerClass n = 3 && !(generalMay src && generalMay dst) then s.stmFault n 3 j d true
  else
    let len := burstLen d.len off src dst
    let w := d.walk i0 i1 i2 off len
    let s := ((if s.jobLives j then s.burstCopy n d src dst len else s).bursting j).afterBurst n d w src dst len
    let x := { x with nextAt := s.burstAt n + s.burstGap n }
    if w.last then s.issuedWhole n x j len
    else s.setStm n { x with out := x.out ++ [(len, s.now)], issued := false }

/-- STM_BURST_ISSUE (R399 to R401): the next burst of a RUNNING Streamer, in a cycle of this tick that its SHARE leaves it. -/
def execStmBurstIssue (n : StreamerNo) (s : State) : Res := s.run fun s =>
  match (s.stmOf n).job, (s.stmOf n).desc with
  | some j, some d =>
    if s.stmState n ≠ 1 || (s.stmOf n).issued || (s.stmOf n).withdrawn || s.resetting.contains (.stm n)
        || decide (16 * s.now + 16 ≤ s.burstAt n) then s
    else s.issueBurst n (s.stmOf n) j d
  | _, _ => s

/-- Bytes written, counted in units of 256 (STM.n.BYTES). -/
def State.stmBytes (s : State) (n len : Nat) : State :=
  let x := s.stmOf n
  (s.setStm n { x with bytes := (x.bytes + len) % 256 }).addSat (STM_BYTES_COUNT n) ((x.bytes + len) / 256)

/-- STM_BURST_ACK (R401, R405 to R407): the oldest burst's write is acknowledged. -/
def execStmBurstAck (n : StreamerNo) (s : State) : Res := s.run fun s =>
  match (s.stmOf n).out with
  | [] => s
  | (len, _) :: rest =>
    let s := s.stmBytes n len
    let x := { s.stmOf n with out := rest }
    let s := if x.withdrawn then s.addSat (STM_EXCESS_BYTES n) len else s
    match x.trail with
    | (j, k) :: ts =>
      if k ≤ 1 then
        let s := s.setStm n { x with trail := ts }
        let s := (s.stmPulse n j (s.jobDesc j) false).countSat (STM_DESCS_COUNT n)
        if (s.stmOf n).job.isNone && (s.stmOf n).out.isEmpty then (s.set (STM_STAT_STATE n) 0).stmNext n else s
      else s.setStm n { x with trail := (j, k - 1) :: ts }
    | [] =>
      let s := s.setStm n x
      if !rest.isEmpty then s
      else if x.withdrawn then
        let s := match x.job, x.desc with
          | some j, some d => s.stmPulse n j d true
          | _, _ => s
        ((s.setStm n { s.stmOf n with job := none, desc := none, issued := false, withdrawn := false }).set
          (STM_STAT_STATE n) 0).stmNext n
      else if s.stmState n = 4 then s.set (STM_STAT_STATE n) 5
      else s

/-- A descriptor that a DELIVERY Streamer tracks has timed out: it alone ends in the fault, and the Streamer goes on with the
others (R401, R410). -/
def State.trailFault (s : State) (n : Nat) (j : Job) (k : Nat) : State :=
  let x := s.stmOf n
  let s := (s.setStm n { x with out := x.out.drop k, trail := x.trail.tail }).set (STM_STAT_CAUSE n) 4
  let s := s.stmPulse n j (s.jobDesc j) true
  if (s.stmOf n).job.isNone && (s.stmOf n).out.isEmpty then s.set (STM_STAT_STATE n) 0 else s

/-- STM_BURST_TIMEOUT (R401): the oldest burst is not acknowledged within 4,096 FCLK, which are 256 ticks. -/
def execStmBurstTimeout (n : StreamerNo) (s : State) : Res := s.run fun s =>
  let x := s.stmOf n
  match x.out, x.trail, x.job with
  | [], _, _ => s
  | (_, t) :: _, (j, k) :: _, _ =>
    if s.now < t + 256 then s
    else ((s.trailFault n j k).raise (srcSTMTO (n / 16)) n (orgInt 12 (n / 16) n)).stmNext n
  | (_, t) :: _, [], some j =>
    if s.now < t + 256 then s
    else ((s.stmFault n 4 j (x.desc.getD (s.jobDesc j)) true).raise (srcSTMTO (n / 16)) n (orgInt 12 (n / 16) n)).stmNext n
  | _, _, _ => s

/-- STM_DESC_END (R402, R403): every burst of the descriptor is issued and acknowledged. -/
def execStmDescEnd (n : StreamerNo) (s : State) : Res := s.run fun s =>
  let x := s.stmOf n
  if x.issued && x.out.isEmpty && (s.stmState n == 1) then s.stmDescEnd n else s

/-- The link read again goes on with the chain, or, still 0, ends it (R403). -/
def State.linkFound (s : State) (n link : Nat) : State :=
  if link ≠ 0 then ((s.countSat (STM_RELINK_COUNT n)).stmBegin n (.chain link)).stmNext n
  else ((s.setStm n { s.stmOf n with job := none, desc := none, issued := false }).set (STM_STAT_STATE n) 3).stmNext n

/-- STM_LINK_REREAD (R403): the link word is read exactly once more, 64 FCLK later, which are four ticks. -/
def execStmLinkReread (n : StreamerNo) (s : State) : Res := s.run fun s =>
  if s.stmState n ≠ 2 ∨ s.now < (s.stmOf n).linkAt + 4 then s
  else
    let a := s.get (STM_CUR_LO_CUR n) + s.get (STM_CUR_HI_CUR n) * 2 ^ 32
    match (s.stored (descKey 0 (a + 56))).view, (s.stored (descKey 0 (a + 60))).view with
    | some l, some h => s.linkFound n (l / 64 * 64 + h % 8 * 2 ^ 32)
    | _, _ =>
      ((s.raise (srcPOISON (n / 16)) n (orgInt 12 (n / 16) n)).stmFault n 1 (.chain a) (s.jobDesc (.chain a)) false).stmNext n

/-- The end of a Streamer's reset window (R409): hardware classes run their descriptor again, GENERAL ends with
RESET_LOST. -/
def State.stmResetEnd (s : State) (n : Nat) : State :=
  let x := s.stmOf n
  let s := s.setStm n { x with rerun := false }
  if x.rerun && streamerClass n = 3 then (s.set (STM_STAT_STATE n) 3).set (STM_STAT_RESET_LOST n) 1 else s.stmNext n

/-- STM_STATUS_READ (R404): the read of STAT or CUR; every earlier write of the origin has been performed when the
commands before this one in the queue have been carried out, so the read changes nothing. -/
def execStmStatusRead (n : StreamerNo) (s : State) : Res := s.run fun s =>
  let _ := n
  s

/-! ### Serving a read from the cache, taking a write in (R71, R385, R410) -/

/-- A read served from the cache (R71): each block's line is pinned and handed to a Streamer: DELIVERY for one block,
INTAKE otherwise. -/
def State.serveCached (s : State) (c : Cmd) (unit : Nat) : State :=
  State.each s (fun b s =>
    let lba := c.lba + b
    let d := homeDie lba
    match (s.cacheOf d).clean? lba with
    | none => s
    | some i =>
      let x := s.cacheOf d
      let l := x.line i
      let s := s.setCache d ((x.setLine i { l with pins := l.pins + 1, fetched := false }).touch i)
      let s := s.countSat (CCH_HITS_COUNT d)
      let s := if l.fetched then s.countSat (CCH_PF_USED_COUNT d) else s
      let n := if c.count = 1 then 16 * c.die + unit % 4 else 16 * c.die + 4 + b % 2
      s.stmQueue n (.deliver c.id b (i + d * 2 ^ 14))) (List.range c.count)

/-- A write's blocks are taken in at its PROMISE (R385). -/
def State.intakeAll (s : State) (c : Cmd) : State :=
  State.each s (fun b s =>
    let r := s.intakeBlock c b
    let d := homeDie (c.lba + b)
    let j := match r.2 with
      | .intake id b l => Job.intake id b (l + d * 2 ^ 14)
      | j => j
    r.1.stmQueue (16 * c.die + 4 + b % 2) j) (List.range c.count)

end Sys2Proof.Machine
end

