-- ==== Sys2Proof/Machine/Seq.lean ====
section
/-! DEFINITION. Machine/Seq.lean: the cluster sequencer: conditions, units, the execution of a control word, interrupts,
faults, modes, the control store (R301 to R331). -/

namespace Sys2Proof.Machine

/-! ### Conditions (R308, R309) -/

/-- The codes of the event conditions. -/
def eventCond (k : Nat) : Bool := [1, 2, 3, 7, 8, 9, 10, 11, 12, 13, 14, 16, 21].contains k

/-- The owner handle in G11 has an abort latched. -/
def State.ownerAborted (s : State) (c : Nat) : Bool :=
  match s.cmdByHandle? (s.g c 11) with
  | some x => x.aborting || s.ports.cmds.any (fun a => a.victim == some x.id)
  | none => false

/-- A condition, before CPOL. -/
def State.condRaw (s : State) (c k : Nat) : Bool :=
  let q := s.seqOf c
  if eventCond k then bitAt q.events k
  else if k = 0 then true
  else if k = 4 then s.is (SRV_STAT_SETTLED c)
  else if k = 5 then s.get (SRV_STAT_STATE c) == 2
  else if k = 6 then s.is (SRV_STAT_SHOCK_HOLD c)
  else if k = 15 then decide (256 ≤ (s.strOf c).rbuf.length)
  else if k = 17 then q.budgetOk
  else if k = 18 then s.ownerAborted c
  else if k = 19 then s.is LOOP_PF_STAT_PHASE
  else if k = 20 then decide (2 ≤ s.get LOOP_PF_STAT_PHASE)
  else if k = 22 then q.zero
  else if k = 23 then q.neg
  else if k = 24 then q.carry
  else if k = 25 then q.tmo == 0
  else if k = 26 then q.stack.isEmpty
  else if k = 27 then s.get (SEQ_STAT_MODE c) == 2
  else if k < 32 then bitAt (s.get (SEQ_GFLAG_GFLAG c)) (k - 28)
  else s.laneIsLost c (k - 32) || s.get (LAN_STAT_WINH_WHY c (k - 32)) != 0

/-- A word's condition. -/
def State.condOf (s : State) (c : Nat) (x : Ctl) : Bool := xor (s.condRaw c x.cond) x.cpol

/-- A BRANCH or WAIT resolves on its condition: an event condition that is set clears. -/
def State.consume (s : State) (c : Nat) (x : Ctl) : State :=
  if eventCond x.cond then s.setSeq c { s.seqOf c with events := putBit (s.seqOf c).events x.cond false } else s

/-! ### Units (R310) -/

/-- A TIMELINE READ is asked for. -/
def State.tlAsk (s : State) (c w : Nat) : State := s.setSeq c { s.seqOf c with tlReq := some w }

/-- BUDGET CHECK: room for `n` cells in the row of an owner. -/
def State.budgetCheck (s : State) (c n owner : Nat) : State :=
  let ok := match s.cmdByHandle? owner with
    | some x =>
      let r := tget Row.init (s.tlOf c).rows x.rowKey
      !r.closed && decide (r.spent + n ≤ s.booked c x.rowKey)
    | none => false
  s.setSeq c { s.seqOf c with budgetOk := ok }

/-- PORT TERMINAL: the TERMINAL of an owner with a STATUS, or with the larger one it has (R142). -/
def State.portTerminal (s : State) (owner status : Nat) : State :=
  match s.cmdByHandle? owner with
  | some x => if x.phase = .promised then ((s.setCmd { x with status := worse x.status status }).endCmd x.id).tidy else s
  | none => s

/-- PORT DETAIL: the DETAIL of an owner, which is appended together with its TERMINAL (R134). -/
def State.portDetail (s : State) (owner : Nat) : State :=
  match s.cmdByHandle? owner with
  | some x => if x.phase = .promised && x.hoisted then s.setCmd { x with detail := some true } else s
  | none => s

/-- EVENT LOG: an event of the sequencer. -/
def State.seqLog (s : State) (c code payload : Nat) : State := s.event (orgClu c 0) code [payload]

/-- POS: the compare value. -/
def State.posSet (s : State) (c v : Nat) : State := s.setSeq c { s.seqOf c with posCmp := some v }

/-- What a meaning leaves of a state where another command carries it out: its next state. -/
def State.via (s : State) (r : Res) : State :=
  match r with
  | .next t => t
  | _ => s

/-- The unit command of a word, with the arguments the word found in its registers. -/
def State.unitCmd (s : State) (k : Cluster) (x : Ctl) (a b : Nat) : State :=
  let c := k.val
  let w (n : Nat) : BitVec 32 := BitVec.ofNat 32 n
  match x.unit, x.ucmd with
  | 1, 1 => s.tlAsk c a
  | 2, 1 => s.via (execServoMove k (BitVec.ofNat 26 a) s)
  | 2, 2 => s.via (execServoHold k s)
  | 3, 1 => s.queueMode c a (x.imm % 4) (bitsOf x.imm 16 12)
  | 4, 1 => s.armMask c b a false
  | 4, 2 => s.armMask c b a true
  | 4, 3 => State.each s (fun f s => s.disarm c f) (setBits 32 a)
  | 5, 1 => s.via (execStrOpen k (w a) s)
  | 5, 2 => s.via (execStrWriteset k (w b) s)
  | 5, 3 => s.via (execStrCommitTest k s)
  | 5, 4 => s.via (execStrClose k s)
  | 6, 1 => s.stmKick c a
  | 7, 1 => s.budgetCheck c x.imm a
  | 8, 1 => s.portTerminal a (x.imm % 256)
  | 8, 2 => s.portDetail a
  | 9, 1 => s.seqLog c (x.imm % 2 ^ 16) a
  | 10, 1 => s.posSet c a
  | _, _ => s

/-! ### The units' commands by themselves -/

/-- The sequencer of a cluster executes words. -/
def State.seqRuns (s : State) (c : Nat) : Bool := s.is (SEQ_STAT_MODE c) && !s.resetting.contains (.seq c)

/-- TIMELINE_READ (R310). -/
def execTimelineRead (c : Cluster) (wedge : BitVec 32) (s : State) : Res := s.run fun s => s.tlAsk c wedge.toNat

/-- The wedge that 32 bits of a wedge number name: the one nearest the wedge in progress, before 0 none. -/
def nearWedge (now w : Nat) : Nat := (((now : Nat) : Int) + signed 32 ((w + 2 ^ 32 - now % 2 ^ 32) % 2 ^ 32)).toNat

/-- The owner of a slot: the one handle its cells hold; where they hold several, which one G11 takes is not stated. -/
def State.slotOwner (s : State) (c : Nat) (w : WSlot) : State × Nat :=
  match (w.cells.filter (fun p => p.2.kind != .free)).map (fun p => p.2.owner) with
  | [] => (s, 0)
  | h :: hs => if hs.all (· == h) then (s, h)
    else
      let r := s.draw (SEQ_GREG c 11)
      (r.1, (h :: hs).getD (r.2 % (hs.length + 1)) h)

/-- TIMELINE_READ_DONE (R310): the slot lands in G8 to G11. -/
def execTimelineReadDone (c : Cluster) (s : State) : Res := s.run fun s =>
  match (s.seqOf c).tlReq with
  | none => s
  | some n =>
    let t := s.tlOf c
    let w := t.slotAt (nearWedge t.now n)
    let xs (wr : Bool) : Nat := maskOf ((w.cells.filter (fun p => p.2.kind = .xfer && p.2.wr == wr)).map Prod.fst)
    let r := (s.setSeq c { s.seqOf c with tlReq := none }).slotOwner c w
    let arm := match w.arm with
      | .free => 0
      | .move => 1
      | .held => 2
    ((((r.1.setG c 8 (Config.armPosWord arm w.pos % 2 ^ 32)).setG c 9 (xs false)).setG c 10 (xs true)).setG c 11
      r.2).seqEvent c 7

/-- PCB_MODE (R310, R311). -/
def execPcbMode (c : Cluster) (mask : BitVec 32) (mode : Fin 4) (act : BitVec 12) (s : State) : Res := s.run fun s =>
  s.queueMode c mask.toNat mode act.toNat

/-- STM_KICK (R310, R411). -/
def execStmKick (c : Cluster) (addr : BitVec 32) (s : State) : Res := s.run fun s => s.stmKick c addr.toNat

/-- BUDGET_CHECK (R310). -/
def execBudgetCheck (c : Cluster) (cells : BitVec 32) (owner : BitVec 32) (s : State) : Res := s.run fun s =>
  s.budgetCheck c cells.toNat owner.toNat

/-- PORT_TERMINAL (R141, R310). -/
def execPortTerminal (owner : BitVec 32) (status : BitVec 8) (s : State) : Res := s.run fun s =>
  s.portTerminal owner.toNat status.toNat

/-- PORT_DETAIL (R143, R310). -/
def execPortDetail (owner : BitVec 32) (s : State) : Res := s.run fun s => s.portDetail owner.toNat

/-- EVENT_LOG (R310). -/
def execEventLog (c : Cluster) (code : BitVec 16) (payload : BitVec 32) (s : State) : Res := s.run fun s =>
  s.seqLog c code.toNat payload.toNat

/-- POS_SET (R310). -/
def execPosSet (c : Cluster) (v : BitVec 32) (s : State) : Res := s.run fun s => s.posSet c v.toNat

/-- POS_HIT (R308): the data-region position counter reaches the compare value. -/
def execPosHit (c : Cluster) (s : State) : Res := s.run fun s =>
  if (s.seqOf c).posCmp.isSome then s.seqEvent c 21 else s

/-! ### Stretches between safe points (R318) -/

/-- The longest stretch so far, with the present one. -/
def State.safeMax (s : State) (c : Nat) : State :=
  let q := s.seqOf c
  (s.set (SEQ_SAFEMAX_WORDS c) (max (s.get (SEQ_SAFEMAX_WORDS c)) (min q.words 511))).set (SEQ_SAFEMAX_CYCLES c)
    (max (s.get (SEQ_SAFEMAX_CYCLES c)) (min q.cycles 2047))

/-- A safe point ends the stretch. -/
def State.safePoint (s : State) (c : Nat) : State :=
  (s.safeMax c).setSeq c { s.seqOf c with words := 0, cycles := 0, late := false }

/-- SEQ_SAFE_LATE (R318). -/
def execSeqSafeLate (c : Cluster) (s : State) : Res := s.run fun s =>
  let q := s.seqOf c
  if s.seqRuns c && !q.late && decide (256 < q.words ∨ 1600 < q.cycles) then
    let s := ((s.safeMax c).setSeq c { q with late := true }).set (SEQ_FAULT_SAFE_LATE c) 1
    (s.set (SEQ_FAULT_FADDR c) (s.get (SEQ_STAT_PC c))).raiseC kSAFE_LATE c q.words
  else s

/-! ### Faults (R320, R321) -/

/-- A fault that stops the sequencer: its FAULT bit, the address of the word, the source. -/
def State.seqFault (s : State) (c : Nat) (bit : Fld) (kind : Nat) : State :=
  let pc := s.get (SEQ_STAT_PC c)
  (((s.set bit 1).set (SEQ_FAULT_FADDR c) pc).seqStop c).raiseC kind c pc

/-! ### Interrupts (R316, R317) -/

/-- The interrupts that may be taken: pending and enabled, interrupt 0 always. -/
def State.seqReady (s : State) (c : Nat) : Nat :=
  s.get (SEQ_INTPEND_PEND c) &&& (s.get (SEQ_INTEN_EN c) ||| 1)

/-- The sequencer stands at a SAFE word: one has completed, or a SAFE WAIT holds. -/
def State.atSafe (s : State) (c : Nat) : Bool :=
  (s.seqOf c).safe || (s.is (SEQ_STAT_WAITING c) && (ctlOf (s.csWord c (s.get (SEQ_STAT_PC c)))).safe)

/-- An interrupt is to be taken before the next word. -/
def State.seqInterrupted (s : State) (c : Nat) : Bool :=
  s.atSafe c && s.seqReady c != 0 && !s.is (SEQ_STAT_IN_INT c)

/-- Pushing on the return stack. -/
def State.pushRet (s : State) (c : Nat) (r : Ret) : State :=
  let q := s.seqOf c
  (s.setSeq c { q with stack := r :: q.stack }).set (SEQ_STAT_DEPTH c) (q.stack.length + 1)

/-- Taking the lowest pending enabled interrupt. -/
def State.takeInterrupt (s : State) (c : Nat) : State :=
  let q := s.seqOf c
  if 4 ≤ q.stack.length then s.seqFault c (SEQ_FAULT_STACK c) kSTACK
  else
    let i := firstSet (s.seqReady c) 8 0
    let wait := s.is (SEQ_STAT_WAITING c)
    let s := s.pushRet c ⟨s.get (SEQ_STAT_PC c), some (q.tmo, q.tmoWedges), if wait then some q.timed else none⟩
    let s := s.setSeq c { s.seqOf c with safe := false, timed := false, cycles := (s.seqOf c).cycles + 2 }
    let s := (s.set (SEQ_STAT_WAITING c) 0).set (SEQ_STAT_IN_INT c) 1
    let s := s.set (SEQ_INTPEND_PEND c) (putBit (s.get (SEQ_INTPEND_PEND c)) i false)
    (s.set (SEQ_STAT_PC c) (8 + i)).countSat (SEQ_INTS_COUNT c)

/-- SEQ_INTERRUPT (R316). -/
def execSeqInterrupt (c : Cluster) (s : State) : Res := s.run fun s =>
  if s.seqRuns c && s.seqInterrupted c then s.takeInterrupt c else s

/-! ### The execution of a word (R303 to R307) -/

/-- The timeout counter after `n` QCLK cycles. -/
def Seq.pass (q : Seq) (n : Nat) : Seq := if q.tmoWedges then q else { q with tmo := q.tmo - n }

/-- The first cycle of a word: it counts, its ALU operation and its unit command act, its timeout loads. -/
def State.beginWord (s : State) (k : Cluster) (x : Ctl) : State :=
  let c := k.val
  let n := if s.get (SEQ_STAT_MODE c) = 2 then 1 else 2
  let a := s.g c x.uarg
  let b := s.g c (x.uarg + 1)
  let q := (s.seqOf c).pass n
  let q := if x.tload then { q with tmo := x.tmo, tmoWedges := x.tunit } else q
  let s := (s.setSeq c { q with words := q.words + 1, cycles := q.cycles + n, safe := false }).countSat (SEQ_WORDS_COUNT c)
  let s := s.alu c x.aluop x.dst x.srca x.operandB
  s.unitCmd k x a b

/-- A word completes: its successor, and its safe point. -/
def State.endWord (s : State) (c : Nat) (x : Ctl) (pc : Nat) : State :=
  let s := (s.set (SEQ_STAT_PC c) pc).set (SEQ_STAT_WAITING c) 0
  let s := s.setSeq c { s.seqOf c with timed := false, safe := x.safe }
  if x.safe then s.safePoint c else s

/-- Popping the return stack. -/
def State.popRet (s : State) (c : Nat) : State :=
  let q := s.seqOf c
  (s.setSeq c { q with stack := q.stack.tail }).set (SEQ_STAT_DEPTH c) (q.stack.length - 1)

/-- A WAIT that has been entered: `held` cycles pass, then it resolves or holds on. -/
def State.waitOn (s : State) (c : Nat) (x : Ctl) (held : Nat) : State :=
  let q := (s.seqOf c).pass held
  let s := s.setSeq c { q with cycles := if x.safe then q.cycles else q.cycles + held }
  let s := s.addSat (SEQ_WAITS_COUNT c) held
  if s.condOf c x then (s.consume c x).endWord c x x.succ else s.set (SEQ_STAT_WAITING c) 1

/-- IRET restores the address, the counter and a holding WAIT (R303, R316). A counter that no interrupt pushed is open. -/
def State.iret (s : State) (c : Nat) (x : Ctl) (r : Ret) : State :=
  let s := (s.popRet c).set (SEQ_STAT_IN_INT c) 0
  let s := s.endWord c x r.addr
  let p := match r.counter with
    | some p => (s, p)
    | none =>
      let d := s.draw (SEQ_STAT c)
      (d.1, (d.2 % 2 ^ 16, false))
  let s := p.1.setSeq c { p.1.seqOf c with tmo := p.2.1, tmoWedges := p.2.2, timed := r.holding.getD false }
  if r.holding.isSome then s.set (SEQ_STAT_WAITING c) 1 else s

/-- A legal word, from its first cycle, or a WAIT that holds. -/
def State.runWord (s : State) (k : Cluster) (x : Ctl) (held : Nat) : State :=
  let c := k.val
  match x.flow with
  | 0 => (s.beginWord k x).endWord c x x.succ
  | 1 =>
    let t := s.condOf c x
    ((s.consume c x).beginWord k x).endWord c x (if t then x.alt else x.succ)
  | 2 =>
    if s.is (SEQ_STAT_WAITING c) then s.waitOn c x held
    else
      let s := s.beginWord k x
      let s := s.setSeq c { s.seqOf c with timed := decide ((s.seqOf c).tmo ≠ 0) }
      s.waitOn c x held
  | 3 =>
    if 4 ≤ (s.seqOf c).stack.length then s.seqFault c (SEQ_FAULT_STACK c) kSTACK
    else ((s.beginWord k x).pushRet c ⟨x.succ, none, none⟩).endWord c x x.alt
  | 4 =>
    match (s.seqOf c).stack with
    | [] => s.seqFault c (SEQ_FAULT_STACK c) kSTACK
    | r :: _ => ((s.beginWord k x).popRet c).endWord c x r.addr
  | 5 =>
    match (s.seqOf c).stack with
    | [] => s.seqFault c (SEQ_FAULT_STACK c) kSTACK
    | r :: _ => (s.beginWord k x).iret c x r
  | 6 =>
    let s := s.beginWord k x
    let s := (s.setSeq c { s.seqOf c with stack := [] }).set (SEQ_STAT_DEPTH c) 0
    (s.set (SEQ_STAT_IN_INT c) 0).endWord c x x.succ
  | _ => s

/-- The fetch of the word at PC outside a holding WAIT: parity is checked except in RUN (R327), then legality (R320). -/
def State.runFetched (s : State) (k : Cluster) (held : Nat) : State :=
  let w := s.csWord k (s.get (SEQ_STAT_PC k))
  let wait := s.is (SEQ_STAT_WAITING k)
  if !wait && s.get (SEQ_STAT_MODE k) != 2 && !parityOk w then s.seqFault k (SEQ_FAULT_MCHECK k) kMCHECK
  else if !wait && !(ctlOf w).legal then s.seqFault k (SEQ_FAULT_ILLEGAL k) kILLEGAL
  else s.runWord k (ctlOf w) held

/-- The word at PC as the sequencer comes to it, where no interrupt is taken first: `p` says which words the command is
for. Upsets that have flipped stored bits of the word stand in `flips`. -/
def State.wordAt (s : State) (k : Cluster) (flips : BitVec 136) (held : Nat) (p : Ctl → Bool) : State :=
  let s := s.upsetCs k (s.get (SEQ_STAT_PC k)) flips
  if s.seqRuns k && !s.seqInterrupted k && p (ctlOf (s.csWord k (s.get (SEQ_STAT_PC k)))) then s.runFetched k held else s

/-- The command is for a legal word of one FLOW. -/
def flowIs (n : Nat) (x : Ctl) : Bool := x.legal && x.flow == n

/-- SEQ_GO (R303). -/
def execSeqGo (c : Cluster) (flips : BitVec 136) (s : State) : Res := s.run fun s => s.wordAt c flips 0 (flowIs 0)

/-- SEQ_BRANCH (R303, R308). -/
def execSeqBranch (c : Cluster) (flips : BitVec 136) (s : State) : Res := s.run fun s => s.wordAt c flips 0 (flowIs 1)

/-- SEQ_WAIT (R303, R304): the word is entered, or holds on for `held` cycles. -/
def execSeqWait (c : Cluster) (flips : BitVec 136) (held : BitVec 16) (s : State) : Res := s.run fun s =>
  s.wordAt c flips held.toNat (flowIs 2)

/-- SEQ_WAIT_TIMEOUT (R303, R309): the counter of a holding WAIT reaches 0; the condition wins where it is true. -/
def execSeqWaitTimeout (c : Cluster) (s : State) : Res := s.run fun s =>
  let q := s.seqOf c
  let x := ctlOf (s.csWord c (s.get (SEQ_STAT_PC c)))
  if s.seqRuns c && s.is (SEQ_STAT_WAITING c) && q.timed && (!q.tmoWedges || q.tmo == 0) then
    let s := s.waitOn c x (if q.tmoWedges then 0 else q.tmo)
    if s.is (SEQ_STAT_WAITING c) then (s.consume c x).endWord c x x.alt else s
  else s

/-- SEQ_CALL (R303, R306). -/
def execSeqCall (c : Cluster) (flips : BitVec 136) (s : State) : Res := s.run fun s => s.wordAt c flips 0 (flowIs 3)

/-- SEQ_RETURN (R303, R306). -/
def execSeqReturn (c : Cluster) (flips : BitVec 136) (s : State) : Res := s.run fun s => s.wordAt c flips 0 (flowIs 4)

/-- SEQ_IRET (R303, R306). -/
def execSeqIret (c : Cluster) (flips : BitVec 136) (s : State) : Res := s.run fun s => s.wordAt c flips 0 (flowIs 5)

/-- SEQ_JUMPCLR (R303). -/
def execSeqJumpclr (c : Cluster) (flips : BitVec 136) (s : State) : Res := s.run fun s => s.wordAt c flips 0 (flowIs 6)

/-- SEQ_ILLEGAL_WORD (R320). -/
def execSeqIllegalWord (c : Cluster) (flips : BitVec 136) (s : State) : Res := s.run fun s =>
  s.wordAt c flips 0 (fun x => !x.legal)

/-! ### ALU operations by themselves (R307) -/

def State.aluCmd (s : State) (c : Cluster) (op : Nat) (dst a : Fin 16) (b : AluB) : Res :=
  s.run fun s => if s.seqRuns c then s.alu c op dst a b else s

/-- ALU_MOV. -/
def execAluMov (c : Cluster) (dst : Fin 16) (b : AluB) (s : State) : Res := s.aluCmd c 1 dst 0 b
/-- ALU_ADD. -/
def execAluAdd (c : Cluster) (dst a : Fin 16) (b : AluB) (s : State) : Res := s.aluCmd c 2 dst a b
/-- ALU_SUB. -/
def execAluSub (c : Cluster) (dst a : Fin 16) (b : AluB) (s : State) : Res := s.aluCmd c 3 dst a b
/-- ALU_AND. -/
def execAluAnd (c : Cluster) (dst a : Fin 16) (b : AluB) (s : State) : Res := s.aluCmd c 4 dst a b
/-- ALU_OR. -/
def execAluOr (c : Cluster) (dst a : Fin 16) (b : AluB) (s : State) : Res := s.aluCmd c 5 dst a b
/-- ALU_XOR. -/
def execAluXor (c : Cluster) (dst a : Fin 16) (b : AluB) (s : State) : Res := s.aluCmd c 6 dst a b
/-- ALU_SHL. -/
def execAluShl (c : Cluster) (dst a : Fin 16) (b : AluB) (s : State) : Res := s.aluCmd c 7 dst a b
/-- ALU_SHR. -/
def execAluShr (c : Cluster) (dst a : Fin 16) (b : AluB) (s : State) : Res := s.aluCmd c 8 dst a b
/-- ALU_POPCNT. -/
def execAluPopcnt (c : Cluster) (dst : Fin 16) (b : AluB) (s : State) : Res := s.aluCmd c 9 dst 0 b
/-- ALU_FFS. -/
def execAluFfs (c : Cluster) (dst : Fin 16) (b : AluB) (s : State) : Res := s.aluCmd c 10 dst 0 b
/-- ALU_MIN. -/
def execAluMin (c : Cluster) (dst a : Fin 16) (b : AluB) (s : State) : Res := s.aluCmd c 11 dst a b

/-! ### Modes (R322, R323, R331) -/

/-- A sequencer begins in a mode at a word. -/
def State.seqBegin (s : State) (c mode pc : Nat) : State :=
  ((s.seqMode c mode).set (SEQ_STAT_PC c) pc).set (SEQ_STAT_WAITING c) 0

/-- A SEQ.CTL write that matches no row of R322. -/
def State.ctlReject (s : State) (o : Origin) (c v : Nat) : State :=
  (s.set (SEQ_FAULT_CTL_REJECT c) 1).logPriv o (SEQ_CTL c) v 1

/-- SEQ_RESTART (R322, R328, R331): a dirty store is reloaded first. -/
def execSeqRestart (o : Origin) (c : Cluster) (s : State) : Res := s.runOn (dieOf c) fun s =>
  let st := s.get (SRV_STAT_STATE c)
  if s.get (SEQ_STAT_MODE c) = 0 ∧ st ≠ 6 ∧ st ≠ 5 ∧ s.resetting.contains (.seq c) = false then
    let s := s.logPriv o (SEQ_CTL c) 1 0
    if s.is (SEQ_STAT_DIRTY c) then s.setSeq c { s.seqOf c with reloading := true } else s.seqBegin c 4 1
  else s.ctlReject o c 1

/-- The store takes the words of the die's copy (R36, R328). -/
def State.seqReload (s : State) (c : Nat) : State :=
  (s.setSeq c { s.seqOf c with store := (s.seqOf c).copy, reloading := false, reloadDue := false }).set (SEQ_STAT_DIRTY c) 0

/-- STORE_RELOAD_DONE (R328). -/
def execStoreReloadDone (c : Cluster) (s : State) : Res := s.run fun s =>
  if (s.seqOf c).reloading ∧ s.get (SEQ_STAT_MODE c) = 0 then (s.seqReload c).seqBegin c 4 1 else s

/-- SEQ_TEST (R322). -/
def execSeqTest (o : Origin) (c : Cluster) (s : State) : Res := s.runOn (dieOf c) fun s =>
  if s.get (SEQ_STAT_MODE c) = 0 ∧ s.isOpen c = false ∧ s.resetting.contains (.seq c) = false then
    (s.logPriv o (SEQ_CTL c) 2 0).seqBegin c 3 2
  else s.ctlReject o c 2

/-- SEQ_HALT (R321, R322). -/
def execSeqHalt (o : Origin) (c : Cluster) (s : State) : Res := s.runOn (dieOf c) fun s =>
  if s.get (SEQ_STAT_MODE c) = 3 then (s.logPriv o (SEQ_CTL c) 4 0).seqHalt c else s.ctlReject o c 4

/-- SEQ_STEP (R322): one word in TEST, or the interrupt that is taken before it. -/
def execSeqStep (o : Origin) (c : Cluster) (flips : BitVec 136) (s : State) : Res := s.runOn (dieOf c) fun s =>
  if s.get (SEQ_STAT_MODE c) = 3 then
    let s := s.logPriv o (SEQ_CTL c) 8 0
    let s := s.upsetCs c (s.get (SEQ_STAT_PC c)) flips
    if s.seqInterrupted c then s.takeInterrupt c else s.runFetched c 0
  else s.ctlReject o c 8

/-! ### The control store's port (R326 to R329) -/

/-- A CSCMD write: dropped and logged as BUSY while an operation runs. -/
def State.csCmd (s : State) (o : Origin) (c op : Nat) (f : State → State) : State :=
  if s.is (SEQ_CSSTAT_BUSY c) then s.logPriv o (SEQ_CSCMD c) op 2 else f s

/-- CS_READ. -/
def execCsRead (o : Origin) (c : Cluster) (flips : BitVec 136) (s : State) : Res := s.runOn (dieOf c) fun s =>
  s.csCmd o c 1 fun s =>
    let a := s.get (SEQ_CSADDR_ADDR c)
    let s := s.upsetCs c a flips
    let w := s.csWord c a
    let s := State.each s (fun i s => s.set (SEQ_CSDATA_DATA c i) (bitsOf w (32 * i) 32)) (List.range 4)
    ((s.set (SEQ_CSPAR_PAR c) (bitsOf w 128 8)).set (SEQ_CSSTAT_ERR c) 0).logPriv o (SEQ_CSCMD c) 1 0

/-- CS_WRITE: in TEST only. -/
def execCsWrite (o : Origin) (c : Cluster) (s : State) : Res := s.runOn (dieOf c) fun s =>
  s.csCmd o c 2 fun s =>
    if s.get (SEQ_STAT_MODE c) = 3 then
      let d (i : Nat) : Nat := s.get (SEQ_CSDATA_DATA c i) * 2 ^ (32 * i)
      let s := s.putCs c (s.get (SEQ_CSADDR_ADDR c)) (withParity (d 0 + d 1 + d 2 + d 3))
      ((s.set (SEQ_STAT_DIRTY c) 1).set (SEQ_CSSTAT_ERR c) 0).logPriv o (SEQ_CSCMD c) 2 0
    else (s.set (SEQ_CSSTAT_ERR c) 1).logPriv o (SEQ_CSCMD c) 2 1

/-- CS_VERIFY. -/
def execCsVerify (o : Origin) (c : Cluster) (s : State) : Res := s.runOn (dieOf c) fun s =>
  s.csCmd o c 3 fun s =>
    ((s.setSeq c { s.seqOf c with verifying := true }).set (SEQ_CSSTAT_BUSY c) 1).logPriv o (SEQ_CSCMD c) 3 0

/-- The first address at which a store and its copy differ; they can differ only where one of them lists a word. -/
def firstDiff (a b : Tab (Option (BitVec 136))) : Option Nat :=
  (((a.map Prod.fst ++ b.map Prod.fst).filter (fun k => storedWord a k != storedWord b k)).foldl (fun m k => match m with
    | some n => some (min n k)
    | none => some k) none)

/-- CS_VERIFY_DONE (R329): `flips` names stored words in which upsets have flipped bits. -/
def execCsVerifyDone (c : Cluster) (flips : List (BitVec 14 × BitVec 136)) (s : State) : Res := s.run fun s =>
  let s := flips.foldl (fun s p => s.upsetCs c p.1.toNat p.2) s
  if (s.seqOf c).verifying then
    let s := (s.setSeq c { s.seqOf c with verifying := false }).set (SEQ_CSSTAT_BUSY c) 0
    match firstDiff (s.seqOf c).store (s.seqOf c).copy with
    | none => s.set (SEQ_CSSTAT_ERR c) 0
    | some a =>
      (((s.set (SEQ_CSSTAT_ERR c) 2).set (SEQ_CSSTAT_MISADDR c) a).set (SEQ_FAULT_CS_MISMATCH c) 1).raiseC kCS_MISMATCH c a
  else s

/-- GFLAG_WRITE (R308, R317). -/
def execGflagWrite (o : Origin) (c : Cluster) (v : Fin 16) (s : State) : Res := s.runOn (dieOf c) fun s =>
  let s := (s.set (SEQ_GFLAG_GFLAG c) v).logPriv o (SEQ_GFLAG c) v 0
  let m := s.get (SEQ_STAT_MODE c)
  if v.val ≠ 0 ∧ (m = 3 ∨ m = 4) then s.seqIrq c 7 else s

end Sys2Proof.Machine
end

