-- ==== Sys2Proof/Machine/Boundary.lean ====
section
/-! DEFINITION. Machine/Boundary.lean: what a wedge boundary does to a cluster (R56, R92, R128, R162, R171, R182, R247,
R251, R338, R342, R350). -/

namespace Sys2Proof.Machine

/-- The stripes of a flush (R251, R463): as many on the log tracks as the ring's events after LOG.FLUSHc fill, and one on the
map tracks for the list's changes. -/
def State.logStripes (s : State) (c : Nat) : List CmdStripe :=
  let f := s.zFrags c 0
  let n := (s.log.ring.filter (fun e => decide (s.get (LOG_FLUSH_EVSEQ c) ≤ e.evseq))).length
  let slots := (List.range ((n + 1919) / 1920)).map (fun i => 2 ^ 32 + ((s.mediaOf c).logAt + i) % max 1 (8 * f)) ++
    (if (s.strOf c).listDirty then [2 ^ 32 + 8 * f] else [])
  slots.map (fun q => workStripe c q 0 (minus (2 ^ 32 - 1) (s.slotShut c q)) none)

/-- The recorder and the stripe engine place their flush as LOG-row work (R88, R251, R463); one that is placed already, or that
the row does not fund, waits. -/
def State.placeLog (s : State) (c : Nat) : State :=
  if (s.workOf .log c false).isSome || !s.isOpen c || (s.logStripes c).isEmpty then s
  else
    let t := s.placeWork (s.newWork .log c 0 (s.logStripes c)) c 0 (fun _ => true)
    if (t.workOf .log c false).isSome && decide (s.get (LOG_FLUSH_EVSEQ c) < s.nextEv) then
      { t with log := { t.log with flushTo := tset 0 t.log.flushTo c s.nextEv } }
    else t

/-- The refill of a revolution boundary, unless a step 6 of its tick has taken it ahead (R103). -/
def State.refillOnce (s : State) (c : Nat) : State :=
  if (s.tlOf c).filled = (s.tlOf c).now + 1 then s else s.refill c

/-- A revolution boundary of cluster c: budgets and maps, the junction temperature of the die's Loop engine, timing skews,
the tripped lanes' revolutions, and the comparison of the two spindle loops. -/
def State.revolution (s : State) (c : Nat) (b : Boundary) : State :=
  let s := if s.get (SEQ_STAT_MODE c) = 2 then ((s.refillOnce c).flushMaps c).placeLog c else s
  let hot := ((List.range 4).map (fun i => signed 16 (s.get (TOP_TJ_T (4 * dieOf c + i))))).foldl max (-32768)
  let s := s.set (LOOP_TEMP_T (dieOf c)) (unsign 16 hot)
  let s := b.skew.foldl (fun s e => s.set (LAN_SKEWEST_EST c e.1 e.2.1) e.2.2.toNat) s
  let s := (s.clrRevs c).seqEvent c 3
  if b.differ && s.refCluster == some c && !s.dieIsLost 0 then
    ((s.setSpin 1 (s.spinOf 0)).set LOOP_STAT_LOCKSTEP_ERR 1).raise srcLOCKSTEP 0 (orgInt 13 1 0)
  else s

/-- The stripes whose first XFER wedge begins. -/
def State.beginStripes (s : State) (c now : Nat) : State :=
  let go (x : Cmd) : Cmd := if x.phase = .queued then x else { x with stripes := x.stripes.map (beginStripe c now) }
  { s with ports := { s.ports with cmds := s.ports.cmds.map go } }

/-- WEDGE_BOUNDARY (R56). A cluster that has no anchor yet has no timeline in motion: only its lanes and its preamp bus
take the boundary. -/
def execWedgeBoundary (c : Cluster) (b : Boundary) (s : State) : Res := s.run fun s =>
  let s := s.pcbWedge c
  if !(s.servoOf c).anchored then s
  else
    let s := s.retire c
    let s := s.deferWrites c
    let now := (s.tlOf c).now
    let s := (s.beginStripes c now).clrLate c
    let s := if s.indexOf c now = 0 then s.revolution c b else s
    (s.beginCells c).tidy

end Sys2Proof.Machine
end

