-- ==== Sys2Proof/Machine/Ports.lean ====
section
/-! DEFINITION. Machine/Ports.lean: hoisting, the checks at the door, admission and verdicts, pops and the abort
(R50 to R53, R57, R65, R71 to R81, R109 to R136, R253). -/

namespace Sys2Proof.Machine

/-! ### An abort acts (R105, R128, R129) -/

/-- A stripe transfers on lane f in wedge n: in its first pass, or in the write pass that ends its work. -/
def CmdStripe.transfersIn (x : CmdStripe) (n f : Nat) : Bool :=
  (decide (x.w0 ≤ n ∧ n ≤ x.w1) && bitAt (if x.rmask = 0 then x.wmask else x.rmask) f) ||
    (decide (x.wEnd ≤ n + (x.w1 - x.w0) ∧ n ≤ x.wEnd) && bitAt (if x.wmask = 0 then x.rmask else x.wmask) f)

/-- An abort acts on a target that has a promise, in the cycle E (R105, R128, R129): stripes not begun are released;
where none was left unbegun the abort is too late. -/
def State.abortActs (s : State) (victim aborter : Nat) : State :=
  match s.cmd? victim, s.cmd? aborter with
  | some v, some a =>
    let begunCached := v.cached && v.burst
    let unbegun := if v.cached then !begunCached else v.stripes.any (fun x => x.st = .unbegun)
    if v.phase != .promised then s.endAbort a 2
    else if !unbegun then s.setCmd { a with status := 2 }
    else
      let begun := v.stripes.filter (fun x => x.st = .begun || x.st = .done)
      let s := State.each s (fun k s =>
        let last := (begun.filter (fun x => x.cluster == k)).foldl (fun m x => max m x.wEnd) 0
        let some? := begun.any (fun x => x.cluster == k)
        let t := s.tlOf k
        let s := if v.handle != 0 && t.owns v.handle then s.seqIrq k 5 else s
        s.releaseOn victim k (t.now + 1) (fun n f kind =>
          some? && (match kind with
            | .xfer => begun.any (fun x => x.cluster == k && x.transfersIn n f)
            | _ => decide (n ≤ last)))) v.clusters
      let s := (v.stripes.filter (fun x => x.st = .unbegun)).foldl (fun s x => s.undueStripe v x) s
      let s := if v.cached then s.dropJobs victim else s
      let v := (s.cmd? victim).getD v
      let v := { v with
        stripes := v.stripes.map (fun x => if x.st = .unbegun then { x with st := .released } else x)
        status := worse v.status 1, aborting := true }
      let s := (s.setCmd v).setCmd { a with status := 0 }
      (s.endIfSettled victim).tidy
  | _, _ => s

/-! ### The door (R113) -/

/-- A DEADLINE that R78 rejects. -/
def badDeadline (c : Cmd) : Bool :=
  let k := dlKind c.deadline
  decide (5 ≤ k) || (k == 0 && c.deadline % 2 ^ 28 == 0) || (k == 1 && c.writes)

/-- A rights entry of the burgee covers the range and permits the operation (row 9). -/
def State.rightsOk (s : State) (c : Cmd) : Bool :=
  s.ports.rights.any (fun p => let r := p.2
    r.valid && r.burgee == c.burgee && (if c.writes then r.wr else r.rd) &&
      decide (r.base ≤ c.lba ∧ c.lba + c.count ≤ r.base + r.cnt))

/-- TPT.CAPACITY, the highest LBA. -/
def State.capacity (s : State) : Nat := s.get TPT_CAPACITY_LO_CAP_LO + s.get TPT_CAPACITY_HI_CAP_HI * 2 ^ 32

/-- The slots a command names. -/
def Cmd.slots (c : Cmd) : List Nat := (List.range c.count).map (· + c.slot)

/-- A cluster takes new commands: OPEN, and for a WRITE in service for writes (R248). -/
def State.serves (s : State) (c : Cmd) (k : Nat) : Bool :=
  s.isOpen k && !(c.writes && (decide (192 < (s.strOf k).rbuf.length) || decide (983040 < (s.strOf k).rlist.length)))

/-- Entries of a die's range-lock table beside that of command `id` (R118). -/
def State.lockCount (s : State) (d id : Nat) : Nat :=
  (s.ports.cmds.filter (fun c => c.hoisted && c.locked && c.die == d && c.id != id)).length

/-- The admission queue of a die. -/
def State.adq (s : State) (d : Nat) : List Nat := if d = 0 then s.ports.adq0 else s.ports.adq1
def State.setAdq (s : State) (d : Nat) (l : List Nat) : State :=
  if d = 0 then { s with ports := { s.ports with adq0 := l } } else { s with ports := { s.ports with adq1 := l } }

/-- Rows 1 to 11 of R113 for the latched command `c`: row, reason and subcode of the first that holds. -/
def State.doorEarly (s : State) (c : Cmd) (opcode : Nat) : Option (Nat × Nat × Nat) :=
  let isAbort := match c.op with | .abort => true | _ => false
  if opcode ≠ 1 ∧ opcode ≠ 2 ∧ opcode ≠ 3 then some (1, 6, 1)
  else if (s.liveOf c.port).any (fun x => x.tag == c.tag && x.id != c.id) then some (2, 6, 2)
  else if isAbort && c.target == c.tag then some (3, 6, 3)
  else if isAbort then none
  else if (if c.writes then bitAt c.flags 1 == bitAt c.flags 2 else bitAt c.flags 1 || bitAt c.flags 2) then
    some (4, 6, 4)
  else if badDeadline c then some (5, 6, 5)
  else if c.count = 0 ∨ 7680 < c.count then some (6, 6, 6)
  else if s.capacity < c.lba + c.count - 1 then some (7, 6, 7)
  else if 2097151 < c.slot + c.count - 1 then some (8, 6, 8)
  else if !s.rightsOk c then some (9, 5, 1)
  else if !c.slots.all (s.granted c.burgee) then some (10, 5, 2)
  else if !c.slots.all (fun m => s.flag m == slotHOST || (!c.writes && s.flag m == slotFREE)) then some (11, 6, 9)
  else none

/-- Rows 12 and 13 of R113. -/
def State.doorLate (s : State) (c : Cmd) : Option (Nat × Nat × Nat) :=
  let isAbort := match c.op with | .abort => true | _ => false
  if !isAbort && !(clustersOf c.stripes).all (s.serves c) then some (12, 7, 0)
  else if 4096 ≤ s.lockCount c.die c.id then some (13, 3, 1)
  else if 4 ≤ (s.adq c.die).length then some (13, 3, 2)
  else none

/-- EARLIEST of a refusal at the door (R79). -/
def doorEarliest (reason : Nat) : Nat := if reason = 3 then 0 else 2 ^ 64 - 1

/-! ### The latch (R115, R116) -/

/-- Setting every slot of a command to DEVICE (R114). -/
def State.takeSlotFlags (s : State) : List Nat → State
  | [] => s
  | m :: ms => State.takeSlotFlags (s.setFlag m slotDEVICE) ms

/-- The command a port latches from its page. -/
def State.latched (s : State) (n : Nat) : Cmd :=
  let code := s.get (TP_CMD_OPCODE n)
  let op : CmdOp := if code = 2 then .write else if code = 3 then .abort else .read
  let lba := s.get (TP_LBA_LO_LBA_LO n) + s.get (TP_LBA_HI_LBA_HI n) * 2 ^ 32
  let count := s.get (TP_COUNT_COUNT n)
  { id := s.ports.nextId, op := op, code := code, port := n, die := portDie n, burgee := s.get (TPT_PORT_CFG_BURGEE n),
    tag := s.get (TP_CMD_TAG n), flags := s.get (TP_CMD_FLAGS n), lba := lba, count := count,
    slot := s.get (TP_SLOT_SLOT n), target := s.get (TP_TARGET_TARGET n),
    deadline := s.get (TP_DEADLINE_DEADLINE n), th := s.now, phase := .queued, tp := 0, dl := 0, tmedia := 0,
    handle := 0, cached := false, clusters := [],
    stripes := if op = .abort ∨ count = 0 then [] else stripesOf lba count, prior := [], rebuilt := 0, lost := [],
    status := 0, assume := s.assumeAt (s.get (TPT_PORT_CFG_BURGEE n)), preds := [], own := [], borrowed := [], popped := false,
    mediaDone := false, victim := none, aborting := false, burst := false, moved := [], detail := none }

/-- Promising an ABORT and letting it act (R126 to R130). -/
def State.hoistAbort (s : State) (c : Cmd) : State :=
  let tp := c.th + 5 * s.wt / 2 ^ 16 + s.term 7
  let v := (s.liveOf c.port).find? (fun x => x.tag == c.target && x.id != c.id)
  let c := { c with phase := .promised, tp := tp, dl := tp, victim := v.map Cmd.id }
  let s := (s.setCmd c).promiseRec c
  match v with
  | none => s.endAbort c 3
  | some x =>
    if x.phase = .queued then s
    else if x.phase = .promised then s.abortActs x.id c.id
    else s.endAbort c 2

/-- A WRITE latches: the prefetches in the machine install none of the blocks it covers (R396). -/
def State.blockPrefetch (s : State) (c : Cmd) : State :=
  let cover (x : Cmd) : List Nat := ((List.range 30).flatMap (fun r => x.stripes.map (fun y =>
    30 * (8 * y.q + y.cluster) + r))).filter (fun b => decide (c.lba ≤ b ∧ b < c.lba + c.count) && !x.moved.contains b)
  let go (x : Cmd) : Cmd := match x.op with
    | .prefetch => { x with moved := x.moved ++ cover x }
    | _ => x
  if c.writes then { s with ports := { s.ports with cmds := s.ports.cmds.map go } } else s

/-- The latch of a hoist and steps 3 and 4 of R50: two cells, the checks of the door, the slots, the lock, the queue. -/
def State.latch (s : State) (n : Nat) (src : Option (Nat × Nat)) : State :=
  let c := s.latched n
  let code := s.get (TP_CMD_OPCODE n)
  let s := (((s.blockPrefetch c).addCmd c).set (TP_HOIST_HOIST n) 0).takeCells c.die 2
  let s := match src with
    | some x => { s with link := { s.link with dblTo := tset (0, 0) s.link.dblTo n x } }
    | none => s
  let isAbort := match c.op with | .abort => true | _ => false
  match s.doorEarly c code with
  | some (row, reason, sub) =>
    s.refuse c reason sub 0 (doorEarliest reason)
      (if isAbort || row ≤ 5 then 0 else c.th + s.lengthOf c.deadline c.count)
  | none =>
    let prior := c.slots.map s.flag
    let c := if isAbort then c else { c with prior := prior }
    let s := if isAbort then s else s.takeSlotFlags c.slots
    let s := s.setCmd c
    match s.doorLate c with
    | some (_, reason, sub) =>
      s.refuse c reason sub 0 (doorEarliest reason) (if isAbort then 0 else c.th + s.lengthOf c.deadline c.count)
    | none =>
      if isAbort then s.hoistAbort c
      else
        let s := if c.writes then s else s.streamRead c.die c.burgee c.lba c.count
        s.setAdq c.die (s.adq c.die ++ [c.id])

/-- DEPTH of a port. -/
def State.depthOf (s : State) (n : Nat) : Nat := s.get (TPT_PORT_CFG_DEPTH n)

/-- The link port and function of an origin. -/
def originSource : Origin → Option (Nat × Nat)
  | .link p _ f _ => some (p.val, f.val)
  | _ => none

/-- A write of 1 to TPn.HOIST (R115, R117, R153). -/
def State.hoist (s : State) (o : Origin) (n : Nat) : State :=
  if !s.is (TPT_PORT_CFG_ENABLE n) || s.is (TP_HOIST_HOIST n) then s.countSat (TP_DROPS_DROPS n)
  else if s.depthOf n ≤ s.liveCount n then
    State.set { s with ports := { s.ports with held := s.ports.held ++ [(n, (originSource o))] } } (TP_HOIST_HOIST n) 1
  else s.latch n (originSource o)

/-- A hoist whose OPCODE is the row's. -/
def State.hoistRow (s : State) (o : Origin) (n : Nat) (p : Nat → Bool) : State :=
  if p (s.get (TP_CMD_OPCODE n)) then s.hoist o n else s

/-- HOIST_READ (R50, R113). -/
def execHoistRead (o : Origin) (n : TaskPort) (s : State) : Res := s.runOn (portDie n) fun s => s.hoistRow o n (· == 1)
/-- HOIST_WRITE (R50, R113). -/
def execHoistWrite (o : Origin) (n : TaskPort) (s : State) : Res := s.runOn (portDie n) fun s => s.hoistRow o n (· == 2)
/-- HOIST_ABORT (R126). -/
def execHoistAbort (o : Origin) (n : TaskPort) (s : State) : Res := s.runOn (portDie n) fun s => s.hoistRow o n (· == 3)
/-- HOIST_BAD_OPCODE (R113, row 1). -/
def execHoistBadOpcode (o : Origin) (n : TaskPort) (s : State) : Res := s.runOn (portDie n) fun s =>
  s.hoistRow o n (fun c => c != 1 && c != 2 && c != 3)

/-- HELD_HOIST_LATCH (R117): the cycle after the pop that lowered LIVE. -/
def execHeldHoistLatch (n : TaskPort) (s : State) : Res := s.run fun s =>
  match s.ports.held.find? (fun p => p.1 == n.val) with
  | none => s
  | some p =>
    if s.liveCount n < s.depthOf n then
      State.latch { s with ports := { s.ports with held := s.ports.held.filter (fun q => q.1 != n.val) } } n p.2
    else s

/-- The command's verdict is a PROMISE: its record, and what starts with it (R71, R127, R128, R385). -/
def State.promise (s : State) (c : Cmd) (unit : Nat) : State :=
  let s := (s.unqueue c.id).setCmd c
  let s := if c.hoisted then s.promiseRec c else s
  let s := if c.cached then s.serveCached c unit else if c.writes then s.intakeAll c else s
  State.each s (fun a s => s.abortActs c.id a)
    ((s.ports.cmds.filter (fun a => a.victim == some c.id && a.phase = .promised)).map Cmd.id)

/-- Reason, decisive cluster and EARLIEST of a command that its placement refuses (R79 to R81). -/
def Trial.verdict (r : Trial) (c : Cmd) (tp : Nat) : Nat × Nat × Nat :=
  let earliest := if r.placed then tp else 2 ^ 64 - 1
  let fits := r.per.all (fun p => p.2.1.isSome)
  let unfunded := (r.per.filter (fun p => match p.2.1 with
    | some q => !q.2
    | none => false)).map Prod.fst
  match fits, unfunded with
  | true, k :: _ => (2, k, earliest)
  | _, _ => (1, if r.placed then (r.lateOn c c.dl).headD (c.clusters.headD 0) else c.clusters.headD 0, earliest)

/-- Step 6 of R50 for a command that goes to the media: PROMISE, or REFUSAL with its reason, EARLIEST and decisive
cluster, and the release of what it had placed (R57, R70, R77, R80, R81, R86). -/
def State.admitMedia (s : State) (c : Cmd) (h unit : Nat) : State :=
  match s.freeHandle h with
  | none => s.refuse c 3 3 0 0 c.dl
  | some h =>
    let c := { c with handle := h, clusters := clustersOf c.stripes }
    let s0 := s.setCmd c
    let r := State.tryPlace false c.clusters ⟨s0, s0.overlay, c, 0, []⟩
    let tp := s.promiseOf c r.tmedia
    if r.placed ∧ tp ≤ c.dl then
      r.s.promise { r.c with phase := .promised, tp := tp, tmedia := r.tmedia } unit
    else
      let v := r.verdict c tp
      (s0.release (r.tent c c.dl)).refuse c v.1 0 v.2.1 v.2.2 c.dl

/-- The promise time a read would have as a media read (EARLIEST of NOT_CACHED, R79, R80). -/
def State.asMedia (s : State) (c : Cmd) : Nat :=
  let r := State.tryPlace false (clustersOf c.stripes) ⟨s, s.overlay, c, 0, []⟩
  if r.placed then r.tmedia else 2 ^ 64 - 1

/-- Step 6 of R50. -/
def State.weigh (s : State) (c : Cmd) (h unit : Nat) : State :=
  let c := { c with dl := c.th + s.lengthOf c.deadline c.count, preds := (s.predsOf c).map Cmd.id }
  if !(clustersOf c.stripes).all s.isOpen then s.refuse c 7 0 0 (2 ^ 64 - 1) c.dl
  else if !c.writes && !c.nocache && !(s.predsOf c).any (fun p => p.writes) &&
      (List.range c.count).all (fun i => s.present (c.lba + i)) then
    let tp := c.th + s.term 5 * ((c.count + 29) / 30) + s.term 7
    if tp ≤ c.dl then s.promise { c with phase := .promised, cached := true, tp := tp, tmedia := tp } unit
    else s.refuse c 1 0 ((clustersOf c.stripes).headD 0) tp c.dl
  else if dlKind c.deadline = 1 then s.refuse c 4 0 0 (s.asMedia c) c.dl
  else s.admitMedia c h unit

/-- The revolution boundary that begins in the tick of step 6 and comes after it in the queue refills before funding (R103). -/
def State.refillAhead (s : State) (mask : Nat) : State :=
  State.each s (fun k s =>
    let n := (s.tlOf k).now + 1
    if s.get (SEQ_STAT_MODE k) = 2 ∧ (s.servoOf k).anchored ∧ s.indexOf k n = 0 then
      let s := s.refill k
      s.setTl k { s.tlOf k with filled := n + 1 }
    else s) (setBits 8 mask)

/-- ADMISSION_UNIT_TAKE (R52, R57, R99, R103, R104, R120, R122): the head entry has waited out its 128 FCLK, and every
predecessor has been placed. `met` names the tentative placements of refused commands, newest first, that its placement
still meets; `edge` the clusters whose wedge boundary falls in this tick and follows in the queue. The handle and the Streamer
are the part's own choice (log 14). -/
def execAdmissionUnitTake (d : Die) (h : Fin 16384) (unit : Fin 4) (met edge : BitVec 8) (s : State) : Res := s.run fun s =>
  let s := (s.refillAhead edge.toNat).meeting met.toNat
  match s.adq d with
  | [] => s
  | id :: _ =>
    match s.cmd? id with
    | none => s
    | some c =>
      if s.now < c.th + 8 ∨ (s.predsOf c).any (fun p => p.phase = .queued) = true then s else s.weigh c h unit

/-- BUFFERED_TERMINAL (R253): the TERMINAL of a BUFFERED write at its promise time, its blocks still dirty. The record
of R393 begins with it. -/
def execBufferedTerminal (n : TaskPort) (tag : BitVec 16) (s : State) : Res := s.run fun s =>
  match (s.liveOf n).find? (fun c => c.tag == tag.toNat && c.writes && c.buffered && c.phase = .promised) with
  | none => s
  | some c =>
    if s.now < c.tp then s
    else
      let s := s.endCmd c.id
      if c.mediaDone then s.tidy
      else { s with bufRecs := s.bufRecs ++ [⟨c.id, c.burgee, c.lba, c.count⟩] }

/-! ### Popping (R131, R132, R136) -/

/-- What a read of TPn.CQ_POP returns. -/
def State.popValue (s : State) (n : Nat) : Nat :=
  match s.queueOf n with
  | [] => 0
  | r :: _ => r.words.headD 0

/-- What a read of TPn.CQ_POP does. -/
def State.pop (s : State) (n : Nat) : State :=
  match s.queueOf n with
  | [] => s
  | r :: rs =>
    let d := portDie n
    let s := State.each s (fun w s => s.set (TP_CQ_REC_WORD n w) (r.words.getD w 0)) (List.range 64)
    let s := { s with ports := { s.ports with recs := tset [] s.ports.recs n rs } }
    let s := s.freeCells d r.cells
    if r.isFinal then
      match r.owner with
      | some id => (match s.cmd? id with
        | some c => (s.setCmd { c with popped := true }).tidy
        | none => s)
      | none => s
    else s

/-- CQ_POP (R136). -/
def execCqPop (n : TaskPort) (s : State) : Res := s.runOn (portDie n) fun s => s.pop n

/-! ### Prefetch (R395) -/

/-- A stream entry waits for its own prefetch, which is still promised. -/
def State.streamBusy (s : State) (e : Stream) : Bool :=
  match e.busy with
  | some id => (match s.cmd? id with
    | some c => c.phase = .promised
    | none => false)
  | none => false

/-- The block a stream entry prefetches `ahead` strides past LAST. -/
def Stream.lba (e : Stream) (ahead : Nat) : Int := (e.last : Int) + ahead * e.stride

/-- The entry may issue: prefetch enabled, CONF at 2, no prefetch of its own, an empty admission queue, the distance
within DEPTH (R395). -/
def State.mayPrefetch (s : State) (d ahead : Nat) (e : Stream) : Bool :=
  s.is (CCH_CTL_PF_EN d) && s.is (CCH_STAT_ENABLED d) && decide (2 ≤ e.conf) && !s.streamBusy e && (s.adq d).isEmpty &&
    decide (ahead ≤ s.get (CCH_PFCFG_DEPTH d)) && decide (0 ≤ e.lba ahead)

/-- The prefetch command of a stream entry (R395). -/
def State.prefetchCmd (s : State) (d ahead : Nat) (e : Stream) : Cmd :=
  let lba := (e.lba ahead).toNat
  let c : Cmd := { s.latched 0 with
    op := .prefetch, code := 0, port := 0, die := d, burgee := e.burgee, tag := 0, flags := 0, lba := lba,
    count := e.count, slot := 0, target := 0, deadline := 4 * 2 ^ 28, stripes := stripesOf lba e.count }
  { c with dl := c.th + s.lengthOf c.deadline c.count, preds := (s.predsOf c).map Cmd.id, clusters := clustersOf c.stripes }

/-- The checks a prefetch passes before its placement (R395). -/
def State.prefetchOk (s : State) (c : Cmd) : Bool :=
  s.rightsOk c && decide (c.lba + c.count - 1 ≤ s.capacity) && c.clusters.all s.isOpen &&
    !(s.predsOf c).any (fun p => p.phase = .queued)

/-- The prefetch `c` of stream entry `i` is placed, or dropped (R395). -/
def State.placePrefetch (s : State) (d i : Nat) (c : Cmd) : State :=
  let s0 := s.addCmd c
  let r := State.tryPlace true c.clusters ⟨s0, s0.overlay, c, 0, []⟩
  if r.placed ∧ r.tmedia ≤ c.dl then
    let s := r.s.setCmd { r.c with phase := .promised, tp := r.tmedia, tmedia := r.tmedia }
    let x := s.cacheOf d
    let busy := fun (y : Stream) => { y with busy := some c.id }
    (s.setCache d { x with streams := x.streams.modify i busy }).countSat (CCH_PF_ISSUED_COUNT d)
  else (s.release (r.tent c c.dl)).countSat (CCH_PF_DROPPED_COUNT d)

/-- PREFETCH_ISSUE: stream entry i of die d issues its next prefetch, `k` strides ahead of LAST (R395); the handle is the
part's own choice. -/
def execPrefetchIssue (d : Die) (i : Fin 64) (k : Fin 16) (h : Fin 16384) (s : State) : Res := s.run fun s =>
  match (s.cacheOf d).streams[i.val]? with
  | none => s
  | some e =>
    let c := s.prefetchCmd d (k.val + 1) e
    if !s.mayPrefetch d (k.val + 1) e then s
    else if !s.prefetchOk c then s.countSat (CCH_PF_DROPPED_COUNT d)
    else if !(s.predsOf c).any (fun p => p.writes) && (List.range c.count).all (fun j => s.present (c.lba + j)) then
      s.countSat (CCH_PF_ISSUED_COUNT d)
    else match s.freeHandle h with
      | none => s.countSat (CCH_PF_DROPPED_COUNT d)
      | some h => s.placePrefetch d i { c with handle := h }

end Sys2Proof.Machine
end

