-- ==== Sys2Proof/Machine/Window.lean ====
section
/-! DEFINITION. Machine/Window.lean: slot operations, port configuration, rights, grants and the hold limit (R144 to
R155, R469, R514). -/

namespace Sys2Proof.Machine

/-- The link address of window slot m (R6). -/
def slotLink (m : Nat) : Nat := 0x1000000000 + 4096 * m

/-- A view violation of a burgee (R469, R470). -/
def State.viewViolation (s : State) (b origin addr : Nat) (write : Bool) (reason : Nat) : State :=
  (s.countSat LOG_VVCOUNT_COUNT).violation b origin 0x30
    [addr % 2 ^ 32, addr / 2 ^ 32, if write then 1 else 0, reason]

/-! ### Slot operations (R149) -/

/-- A write of TPn.SLOTOP with OP FREE or CLAIM. The VIEW_VIOLATION of a range that leaves the grants names the first slot
outside them, as a write, with reason 2 (log 82). -/
def State.slotOp (s : State) (o : Origin) (n num : Nat) (claim : Bool) : State :=
  if s.is (TP_SLOTRES_BUSY n) then s.countSat (TP_DROPS_DROPS n)
  else
    let first := s.get (TP_SLOTCMD_FIRST n)
    if num = 0 ∨ 2097151 < first + num - 1 then (s.set (TP_SLOTRES_RESULT n) 3).set (TP_SLOTRES_SKIPPED n) 0
    else
      let b := s.get (TPT_PORT_CFG_BURGEE n)
      let outside := ((List.range num).map (· + first)).find? (fun m => !s.granted b m)
      let s := s.set (TP_SLOTRES_BUSY n) 1
      let op : SlotOp := ⟨claim, first, num, 0, outside.isSome, orgOf o⟩
      let s := { s with ports := { s.ports with slotOps := tset none s.ports.slotOps n (some op) } }
      match outside with
      | some m => s.viewViolation b (orgOf o) (slotLink m) true 2
      | none => s

/-- SLOTOP_FREE (R149). -/
def execSlotopFree (o : Origin) (n : TaskPort) (num : Fin 4194304) (s : State) : Res := s.runOn (portDie n) fun s => s.slotOp o n num false
/-- SLOTOP_CLAIM (R149). -/
def execSlotopClaim (o : Origin) (n : TaskPort) (num : Fin 4194304) (s : State) : Res := s.runOn (portDie n) fun s => s.slotOp o n num true

/-- The slots of a range change in ascending order; the answer's second part counts those left unchanged. -/
def State.slotRun (s : State) (claim : Bool) : Nat → Nat → Nat → State × Nat
  | 0, _, k => (s, k)
  | n + 1, m, k =>
    let f := s.flag m
    if claim && f == slotFREE then State.slotRun (s.setFlag m slotHOST) claim n (m + 1) k
    else if !claim && (f == slotHOST || f == slotPOISONED) then State.slotRun (s.setFlag m slotFREE) claim n (m + 1) k
    else State.slotRun s claim n (m + 1) (k + 1)

/-- The next slots of a running operation, at most `k` of them. -/
def State.slotGo (s : State) (n k : Nat) : State :=
  match tget none s.ports.slotOps n with
  | none => s
  | some op =>
    if op.bad then s
    else
      let m := min k op.left
      let r := s.slotRun op.claim m op.next op.skipped
      { r.1 with ports := { r.1.ports with
        slotOps := tset none r.1.ports.slotOps n (some { op with next := op.next + m, left := op.left - m, skipped := r.2 }) } }

/-- A tick of every running slot operation: 16 slots in each of its 16 FCLK cycles (R149). -/
def State.slotsTick (s : State) : State := State.each s (fun n s => s.slotGo n 256) (s.ports.slotOps.map Prod.fst)

/-- SLOTOP_COMPLETE (R149): the operation ends. At most 256 slots are left for the cycles of this tick; an operation that
has more of its range before it has not reached its end. -/
def execSlotopComplete (n : TaskPort) (s : State) : Res := s.run fun s =>
  match tget none s.ports.slotOps n.val with
  | none => s
  | some op =>
    if !op.bad && decide (256 < op.left) then s
    else
      let s := s.slotGo n 256
      let op := (tget none s.ports.slotOps n.val).getD op
      let s := { s with ports := { s.ports with slotOps := tset none s.ports.slotOps n.val none } }
      let s := s.set (TP_SLOTRES_BUSY n) 0
      if op.bad then (s.set (TP_SLOTRES_RESULT n) 1).set (TP_SLOTRES_SKIPPED n) 0
      else (s.set (TP_SLOTRES_RESULT n) (if op.skipped = 0 then 0 else 2)).set (TP_SLOTRES_SKIPPED n) op.skipped

/-! ### Port configuration (R131, R153) -/

/-- DRAINING of a port. -/
def State.draining (s : State) (n : Nat) : Bool := !s.is (TPT_PORT_CFG_ENABLE n) && decide (0 < s.liveCount n)

/-- PORT_CFG_WRITE (R153). -/
def State.portCfg (s : State) (o : Origin) (n : Nat) (v : Nat) : State :=
  let d := portDie n
  let old := (s.rd (TPT_PORT_CFG n)).toNat
  let new := bitsOf v 0 21 + bitsOf v 31 1 * 2 ^ 31
  let en := bitAt v 31
  let wasEn := s.is (TPT_PORT_CFG_ENABLE n)
  let depth := bitsOf v 12 9
  let credit := s.get (TPT_CREDIT_CREDITED d)
  let mine := if wasEn then 2 * s.depthOf n else 0
  let want := if en then 2 * depth else 0
  let bad := (en && bitsOf v 0 12 == 0) || decide (depth = 0 ∨ 256 < depth) ||
    ((wasEn || s.draining n) && (bitsOf v 0 12 != bitsOf old 0 12 || depth != bitsOf old 12 9)) ||
    decide (98304 < credit - mine + want)
  let s := if bad then s.set (TPT_PORT_STAT_CFG_REJECT n) 1
    else
      let s := (s.wr (TPT_PORT_CFG n) (BitVec.ofNat 32 new)).set (TPT_CREDIT_CREDITED d) (credit - mine + want)
      if !en && s.ports.held.any (fun p => p.1 == n) then
        (State.set { s with ports := { s.ports with held := s.ports.held.filter (fun p => p.1 != n) } }
          (TP_HOIST_HOIST n) 0).countSat (TP_DROPS_DROPS n)
      else s
  s.event (orgOf o) 0x24 [n, old, new, if bad then 1 else 0]

def execPortCfgWrite (o : Origin) (n : TaskPort) (v : Word) (s : State) : Res := s.run fun s => s.portCfg o n v.toNat

/-! ### Rights (R154, R514) -/

/-- The payload of RIGHTS_CHANGE (R457). -/
def State.rightsEvent (s : State) (origin op result : Nat) : State :=
  s.event origin 0x23 [(s.rd TPT_RSEL).toNat, (s.rd TPT_RBASE_LO).toNat, (s.rd TPT_RBASE_HI).toNat,
    (s.rd TPT_RCNT_LO).toNat, (s.rd TPT_RCNT_HI).toNat, (s.rd TPT_ROWN).toNat, op + result * 2 ^ 16]

/-- An unused rights entry. -/
def Rights.init : Rights := ⟨false, 0, 0, 0, false, false⟩

/-- A write of TPT.RCMD (R154): its effect stands from its completion on; the staging registers cannot change before. -/
def State.rightsCmd (s : State) (o : Origin) (op : Nat) : State :=
  if s.is TPT_RSTAT_BUSY then s.rightsEvent (orgOf o) op 2
  else if op = 0 then s.logPriv o TPT_RCMD 0 0
  else
    let s := { s with ports := { s.ports with rcmd := some ⟨op, 0, orgOf o⟩ } }
    let s := s.set TPT_RSTAT_BUSY 1
    if op = 1 then s.logPriv o TPT_RCMD 1 0 else s

def execRightsRead (o : Origin) (s : State) : Res := s.run fun s => s.rightsCmd o 1
def execRightsSet (o : Origin) (s : State) : Res := s.run fun s => s.rightsCmd o 2
def execRightsClear (o : Origin) (s : State) : Res := s.run fun s => s.rightsCmd o 3

/-- The rights entry that the staging registers name. -/
def State.stagedRights (s : State) : Rights :=
  ⟨true, s.get TPT_RBASE_LO_BASE_LO + s.get TPT_RBASE_HI_BASE_HI * 2 ^ 32,
    s.get TPT_RCNT_LO_CNT_LO + s.get TPT_RCNT_HI_CNT_HI * 2 ^ 32, s.get TPT_ROWN_BURGEE, s.is TPT_ROWN_READ,
    s.is TPT_ROWN_WRITE⟩

/-- RIGHTS_CMD_COMPLETE (R154). -/
def execRightsCmdComplete (s : State) : Res := s.run fun s =>
  match s.ports.rcmd with
  | none => s
  | some r =>
    let s := { s with ports := { s.ports with rcmd := none } }
    let s := s.set TPT_RSTAT_BUSY 0
    let i := s.get TPT_RSEL_ENTRY
    if r.op = 1 then
      let e := tget Rights.init s.ports.rights i
      let s := ((s.set TPT_RBASE_LO_BASE_LO e.base).set TPT_RBASE_HI_BASE_HI (e.base / 2 ^ 32)).set TPT_RCNT_LO_CNT_LO e.cnt
      let s := ((s.set TPT_RCNT_HI_CNT_HI (e.cnt / 2 ^ 32)).set TPT_ROWN_BURGEE e.burgee).set TPT_ROWN_READ
        (if e.rd then 1 else 0)
      (s.set TPT_ROWN_WRITE (if e.wr then 1 else 0)).set TPT_RSTAT_ERR 0
    else if r.op = 2 then
      let e := s.stagedRights
      let bad := e.cnt = 0 ∨ s.capacity < e.base + e.cnt - 1 ∨ e.burgee = 0
      let err := if bad then 1 else 0
      let s := if bad then s else { s with ports := { s.ports with rights := tset Rights.init s.ports.rights i e } }
      (s.set TPT_RSTAT_ERR err).rightsEvent r.origin 2 err
    else
      (State.set { s with ports := { s.ports with rights := tset Rights.init s.ports.rights i Rights.init } }
        TPT_RSTAT_ERR 0).rightsEvent r.origin 3 0

/-! ### Grants (R147, R155) -/

def Grant.init : Grant := ⟨false, 0, 0, 0⟩

/-- The payload of GRANT_CHANGE (R457). -/
def State.grantEvent (s : State) (origin op result : Nat) : State :=
  s.event origin 0x22 [(s.rd WIN_GSEL).toNat, (s.rd WIN_GBASE).toNat, (s.rd WIN_GCNT).toNat, (s.rd WIN_GOWN).toNat, op,
    result]

/-- A write of WIN.GCMD. -/
def State.grantCmd (s : State) (o : Origin) (op : Nat) : State :=
  if s.is WIN_GSTAT_BUSY then s.grantEvent (orgOf o) op 4
  else if op = 0 then s.logPriv o WIN_GCMD 0 0
  else
    let s := State.set { s with win := { s.win with gcmd := some ⟨op, 0, orgOf o⟩ } } WIN_GSTAT_BUSY 1
    if op = 1 then s.logPriv o WIN_GCMD 1 0 else s

def execGrantRead (o : Origin) (s : State) : Res := s.run fun s => s.grantCmd o 1
def execGrantSet (o : Origin) (s : State) : Res := s.run fun s => s.grantCmd o 2
def execGrantRevoke (o : Origin) (s : State) : Res := s.run fun s => s.grantCmd o 3

/-- Slots of a range that a new range of the same entry does not keep. -/
def leaving (base num : Nat) (keep : Option (Nat × Nat)) : List Nat :=
  ((List.range num).map (· + base)).filter (fun m => match keep with
    | some (b, n) => !(decide (b ≤ m) && decide (m < b + n))
    | none => true)

/-- Revoking slots: each returns to FREE, in no grant (R144). -/
def State.revoke (s : State) : List Nat → State
  | [] => s
  | m :: ms => State.revoke (s.setFlag m slotFREE) ms

/-- The effect of a SET and its error (R147). A range that is empty, leaves the window or is given to burgee 0 answers RANGE;
for burgee 0 the spec names no code (log 83). -/
def State.grantSet (s : State) (i : Nat) (g : Grant) : State × Nat :=
  let old := tget Grant.init s.win.grants i
  if g.num = 0 ∨ 2097152 < g.base + g.num ∨ g.burgee = 0 then (s, 2)
  else if s.win.grants.any (fun p => p.1 != i && p.2.valid && decide (p.2.base < g.base + g.num) &&
      decide (g.base < p.2.base + p.2.num)) then (s, 1)
  else
    let gone := if old.valid then
        leaving old.base old.num (if old.burgee = g.burgee then some (g.base, g.num) else none)
      else []
    if gone.any (fun m => s.flag m == slotDEVICE) then (s, 3)
    else
      let s := s.revoke gone
      ({ s with win := { s.win with grants := tset Grant.init s.win.grants i g } }, 0)

/-- The effect of a REVOKE and its error (R147). -/
def State.grantRevoke (s : State) (i : Nat) : State × Nat :=
  let old := tget Grant.init s.win.grants i
  if !old.valid then (s, 2)
  else
    let gone := leaving old.base old.num none
    if gone.any (fun m => s.flag m == slotDEVICE) then (s, 3)
    else
      let s := s.revoke gone
      ({ s with win := { s.win with grants := tset Grant.init s.win.grants i Grant.init } }, 0)

/-- GRANT_CMD_COMPLETE (R147): the operation takes effect and ends. -/
def execGrantCmdComplete (s : State) : Res := s.run fun s =>
  match s.win.gcmd with
  | none => s
  | some r =>
    let s := State.set { s with win := { s.win with gcmd := none } } WIN_GSTAT_BUSY 0
    let i := s.get WIN_GSEL_ENTRY
    if r.op = 1 then
      let g := tget Grant.init s.win.grants i
      let s := ((s.set WIN_GBASE_BASE g.base).set WIN_GCNT_NUM g.num).set WIN_GOWN_BURGEE g.burgee
      (s.set WIN_GOWN_VALID (if g.valid then 1 else 0)).set WIN_GSTAT_ERR 0
    else
      let q := if r.op = 2 then s.grantSet i ⟨true, s.get WIN_GBASE_BASE, s.get WIN_GCNT_NUM, s.get WIN_GOWN_BURGEE⟩
        else s.grantRevoke i
      (q.1.set WIN_GSTAT_ERR q.2).grantEvent r.origin r.op q.2

/-! ### The hold limit (R150, R151) -/

/-- The sweep period in ticks: LIMIT_MS / 2 milliseconds, values 1 to 9 acting as 10. -/
def State.sweepPeriod (s : State) : Nat := (max 10 (s.get WIN_HOLD_LIMIT_MS)) * 50000

/-- One visit of a slot that is HOST: its age rises, and a breach is declared when it reaches 3. -/
def State.visit (s : State) (m : Nat) : State :=
  let a := tget 0 s.win.ages m
  if s.flag m ≠ slotHOST ∨ 3 ≤ a then s
  else
    let s := { s with win := { s.win with ages := tset 0 s.win.ages m (a + 1) } }
    if a + 1 = 3 then
      let b := ((s.grantOf? m).map Grant.burgee).getD 0
      ((s.countSat WIN_BREACH_COUNT).event (orgInt 9 0 0) 0x33 [m, b]).failAssumption 8 (fun x => x.burgee == b)
    else s

/-- HOLD_SWEEP (R150). -/
def execHoldSweep (s : State) : Res := s.run fun s =>
  if s.get WIN_HOLD_LIMIT_MS = 0 ∨ s.now < s.win.sweptAt + s.sweepPeriod then s
  else
    let s := { s with win := { s.win with sweptAt := s.now } }
    State.each s (fun m s => s.visit m) (s.win.flags.map Prod.fst)

/-- A write of WIN.HOLD.LIMIT_MS (R150). -/
def State.holdWrite (s : State) (o : Origin) (v : Nat) : State :=
  (State.set { s with win := { s.win with sweptAt := s.now } } WIN_HOLD_LIMIT_MS v).logPriv o WIN_HOLD v 0

/-- WIN_HOLD_WRITE (R150). -/
def execWinHoldWrite (o : Origin) (v : Word) (s : State) : Res := s.run fun s => s.holdWrite o v.toNat

end Sys2Proof.Machine
end

