-- ==== Sys2Proof/Machine/Blocks.lean ====
section
/-! DEFINITION. Machine/Blocks.lean: the clock root and its monitor, TIME replicas, asynchronous crossings, the end of block
resets and of their masks, the fault registers, and the supply and junction monitors (R27 to R48, R444, R447, R448, R502,
R503). -/

namespace Sys2Proof.Machine

/-! ### REFCLK and ROOT (R27 to R29) -/

/-- ROOT_LOCK falls after it has been 1: LOCK_LOST sets (TOP.CLKSTAT). -/
def State.lockFalls (s : State) : State :=
  s.when (s.is TOP_CLKSTAT_ROOT_LOCK) fun s => (s.set TOP_CLKSTAT_ROOT_LOCK 0).set TOP_CLKSTAT_LOCK_LOST 1

/-- REFCLK is found lost (R27): REF_OK clears, REFCLK_LOSS is raised while the collector runs, and a locked root PLL enters
holdover. The monitor and the root PLL work while RESET_N is low and in a HALT of start too. -/
def State.refclkLoss (s : State) : State :=
  let s := s.set TOP_CLKSTAT_REF_OK 0
  let s := s.when s.live fun s => s.raise srcREFCLK 0 (orgInt 0 0 0)
  if s.is TOP_CLKSTAT_ROOT_LOCK then (s.lockFalls.set TOP_CLKSTAT_HOLDOVER 1).failAssumption 1 (fun _ => true) else s

/-- Whether the monitor's window in progress holds a gap. -/
def State.gapInWindow (s : State) (b : Bool) : State := { s with clk := { s.clk with refLost := b } }

/-- REFCLK_GAP_TIMEOUT (R27): the window in progress is not a whole good one. -/
def execRefclkGapTimeout (s : State) : Res := .next (s.refclkLoss.gapInWindow true)

/-- REFCLK_WINDOW_END (R27): the frequency counted in the window is in range or not; REF_OK returns at the end of a whole
window in range without a gap. -/
def execRefclkWindowEnd (inRange : Bool) (s : State) : Res :=
  let t := s.gapInWindow false
  .next (if !inRange then t.refclkLoss else if s.clk.refLost then t else t.set TOP_CLKSTAT_REF_OK 1)

/-- ROOT_STOP (R29): ROOT_LOCK falls, and the monitor drives ERR_N low, whatever else the part is doing. -/
def execRootStop (s : State) : Res :=
  .next { s.lockFalls with clk := { s.lockFalls.clk with rootStopped := true, monErr := true } }

/-- A signed value held within 32 bits. -/
def sat32 (z : Int) : Nat := unsign 32 (satInt 32 z)

/-- TIME_REPLICA_COMPARE (R31): what the replica of a die reads as it is compared. -/
def execTimeReplicaCompare (d : Die) (rep : BitVec 64) (s : State) : Res := s.run fun s =>
  let s := if rep.toNat = s.now then s
    else s.raise (srcTIME d) (sat32 ((rep.toNat : Int) - s.now)) (orgInt 0 d 0)
  if d.val = 0 then { s with clk := { s.clk with rep0 := s.now } } else { s with clk := { s.clk with rep1 := s.now } }

/-! ### Crossings (R38 to R48) -/

/-- The loss of what stands behind a crossing whose foreign clock has stopped: a Halyard lane (R435), a preamp bus (R181),
the motor bus of the master (R189). -/
def State.crossingLost (s : State) (n : Nat) : State :=
  if n < 20 then s.loseLane n true 1
  else if n < 40 then s.loseLane (n - 20) false 5
  else if n < 48 then s.preampLost (n - 40)
  else if n = 48 ∧ s.is LOOP_MCB_STAT_MASTER = false ∨ n = 49 ∧ s.is LOOP_MCB_STAT_MASTER = true then s.motorLost
  else s

/-- CDC_CLOCK_TIMEOUT (R39): crossings 51 and up have no timeout; a side in reset stops the monitor, which restarts when the
crossing reopens (R45, R48). Items in flight are discarded: the replies of a preamp or of the motor driver that would come
over a closed crossing are not taken (`State.shutPcb`, `State.shutMcb`), and link flits come again by replay. -/
def execCdcClockTimeout (n : Crossing) (s : State) : Res := s.run fun s =>
  if 51 ≤ n.val ∨ s.is (TOP_CDC_STAT_CLOSED n) = true ∨ (s.crossOf n).reset = true ∨ (s.crossOf n).reopening = true then s
  else
    let s := ((s.set (TOP_CDC_STAT_CDC_TIMEOUT n) 1).set (TOP_CDC_STAT_CLOSED n) 1).set (TOP_CDC_STAT_CLK_PRESENT n) 0
    let s := s.setCross n { s.crossOf n with stopped := true, reopening := false }
    (s.raise (srcCDC n) 0 (orgInt 0 0 0)).crossingLost n

/-- FOREIGN_CLOCK_RETURN (R39, R40): an edge arrives; a closed crossing stays closed. -/
def execForeignClockReturn (n : Crossing) (s : State) : Res := s.run fun s =>
  if 51 ≤ n.val then s
  else (s.setCross n { s.crossOf n with stopped := false }).set (TOP_CDC_STAT_CLK_PRESENT n) 1

/-- CDC_PULSE (R41, R47): a pulse on one of the PULSE crossings; `busy` says that the one before is not yet acknowledged.
A delivered pulse of a receive lane counts an uncorrectable codeword. DESIGN CHOICE (log 65): R38 gives crossings 40 to 47
and 51 a PULSE path and names nothing that it feeds; a pulse delivered there has no further effect. -/
def execCdcPulse (n : Crossing) (busy : Bool) (s : State) : Res := s.run fun s =>
  let k := n.val
  if !(k < 20 || (40 ≤ k && k < 48) || k == 51) || s.is (TOP_CDC_STAT_CLOSED k) || (s.crossOf k).reset ||
      (s.crossOf k).reopening then s
  else if busy then s.set (TOP_CDC_STAT_OVERRUN k) 1
  else if k < 20 then s.countSat (LNK_LANE_UNCORR_COUNT k)
  else s

/-- CDC_REOPEN (R42): both sides are out of reset, and a foreign clock has been present for 64 destination cycles. -/
def execCdcReopen (n : Crossing) (s : State) : Res := s.run fun s =>
  let x := s.crossOf n
  if x.reopening ∧ x.reset = false ∧ x.stopped = false then s.setCross n { x with reopening := false } else s

/-! ### The end of block resets and masks (R34, R36, R448) -/

/-- A clearance loop after its engine's reset (R353): u stays, A and c are 0, and the lane enters RAMP from the last reading; one in
PROBATION begins it anew with its ramp (log 86), and TRIPPED and OFF stay. -/
def State.clrResume (s : State) (c f : Nat) : State :=
  let st := s.clrState c f
  let x := s.clrOf c f
  let s := s.setClr c f { x with
    integ := 0, mis := 0, same := 0, lostRun := 0, idleRun := 0, hold := 0, prob := 0, probRun := false }
  let s := (s.set (LAN_CLCTR_CENTER c f) 0).set (LAN_CLSTAT_SAT c f) 0
  if st = clrOFF ∨ st = clrTRIPPED then s
  else (s.clrRamp c f (s.get (LAN_CLSTAT_CLASS c f))).set (LAN_CLSTAT_STATE c f) (if st = clrPROBATION then st else clrRAMP)

/-- The loops of die d resume (R353): clearance, bias with A = 0 and BTRIM kept, and the spindle from the other die's state. -/
def State.loopResume (s : State) (d : Nat) : State :=
  let cs := (List.range 4).map (· + 4 * d)
  let s := State.each s (fun c s => State.each s (fun f s => s.clrResume c f) (List.range 32)) cs
  let s := State.each s (fun c s =>
    (State.set { s with biasA := tset 0 s.biasA c 0 } (LOOP_BCTR_CENTER c) 0).set (LOOP_BIAS_SAT c) 0) cs
  s.setSpin d (s.spinOf (1 - d))

/-- What resumes in a block as its window ends. -/
def State.blockResume (s : State) : BlockId → State
  | .lane c f => s.setLane c f { s.lane c f with codes := none }
  | .dec k d =>
    -- Neither active nor spare: lost (R229, step 4).
    if bitAt (s.get (DEC_K_ACTIVE_MASK k)) d || bitAt (s.get (DEC_K_SPARE_MASK k)) d then s
    else s.set (DEC_K_LOST_MASK k) (putBit (s.get (DEC_K_LOST_MASK k)) d true)
  | .seq c => if (s.seqOf c).reloadDue then s.seqReload c else s
  | .demod _ => s
  | .parity _ => s
  | .pcs n => (s.peerBack n).peerBack (20 + n)
  | .staff _ => s
  | .stm n => s.stmResetEnd n
  | .chan _ => s
  | .loop d => s.loopResume d

/-- A Halyard lane PCS whose window its retraining ends: held under R435, or training with its port. -/
def State.pcsHeld (s : State) : BlockId → Bool
  | .pcs n => (s.hlaneOf n).held || s.get (LNK_LANE_STAT_STATE n) == 1
  | _ => false

/-- The length of a block's reset window in ticks of TIME (R34): 640 ns, 160 ns, 2.56 µs or 1.28 µs. -/
def windowTicks : BlockId → Nat
  | .lane _ _ => 64
  | .dec _ _ => 16
  | .seq _ => 64
  | .demod _ => 64
  | .parity _ => 16
  | .pcs _ => 64
  | .staff _ => 256
  | .stm _ => 16
  | .chan _ => 128
  | .loop _ => 128

/-- BLOCK_RESET_END (R34, R36): a block's reset window has run its length. -/
def execBlockResetEnd (b : BlockId) (s : State) : Res := s.run fun s =>
  if s.resetting.contains b && !s.pcsHeld b && decide (s.windowAt b + windowTicks b ≤ s.now) then
    (s.endWindow b).blockResume b
  else s

/-- FAULT_MASK_END (R448): 64 FCLK after the window, which are four ticks. -/
def execFaultMaskEnd (b : BlockId) (s : State) : Res := s.run fun s =>
  if s.resetting.contains b || s.pcsHeld b || decide (s.now < s.windowAt b + 4) then s
  else { s with masked := s.masked.filter (· != b)
                clk := { s.clk with windows := s.clk.windows.filter (fun p => p.1 != b) } }

/-! ### The fault registers (R444, R447) -/

/-- FLT_FIRST_CLEAR (R447). -/
def execFltFirstClear (o : Origin) (s : State) : Res := s.run fun s =>
  let s := s.logPriv o FLT_FIRST (2 ^ 31) 0
  ((((s.wr FLT_FIRST 0).wr FLT_FIRST_TLO 0).wr FLT_FIRST_THI 0).wr FLT_FIRST_INFO 0).wr FLT_FIRST_ORIGIN 0

/-- FLT_PEND_CLEAR (R444): a W1C write to FLT.PENDk. -/
def execFltPendClear (o : Origin) (k : Fin 10) (v : BitVec 32) (s : State) : Res := s.run fun s =>
  (s.wr (FLT_PEND k) (s.rd (FLT_PEND k) &&& ~~~v)).logPriv o (FLT_PEND k) v.toNat 0

/-! ### Supplies and junctions (R502, R503) -/

/-- The range of each supply in mV (R498). -/
def supplyRange (v : Nat) : Nat × Nat :=
  [(728, 773), (970, 1030), (1140, 1260), (1067, 1133), (776, 824)].getD v (0, 4095)

/-- One supply's sample. -/
def State.supplySample (s : State) (v mv : Nat) : State :=
  let r := supplyRange v
  let bad := decide (mv < r.1 ∨ r.2 < mv)
  let s := (s.set (TOP_VMON_MV v) mv).set (TOP_VMON_MV_MIN v) (min mv (s.get (TOP_VMON_MV_MIN v)))
  let s := s.set TOP_MONSTAT_V_NOW (putBit (s.get TOP_MONSTAT_V_NOW) v bad)
  if bad then s.set TOP_MONSTAT_V_OUT (putBit (s.get TOP_MONSTAT_V_OUT) v true) else s

/-- One junction sensor's sample, in 1/16 °C. -/
def State.junctionSample (s : State) (i t : Nat) : State :=
  let hi := max (signed 16 t) (signed 16 (s.get (TOP_TJ_T_MAX i)))
  let s := (s.set (TOP_TJ_T i) t).set (TOP_TJ_T_MAX i) (unsign 16 hi)
  let s := if 105 * 16 < signed 16 t then s.set TOP_MONSTAT_TJ_HIGH 1 else s
  if 115 * 16 ≤ signed 16 t then (s.set TOP_MONSTAT_TJ_TRIP 1).set TOP_MONSTAT_TJ_ERR 1 else s

/-- Assumption A6 fails for every command that is live while a flag's cause lasts (R502). -/
def State.supplyFail (s : State) : State :=
  if s.outOfRange then s.failAssumption 6 (fun _ => true) else s

/-- MONITOR_SAMPLE (R502, R503): five supplies in mV and nine sensors. TEMPd takes the highest of die d's four. -/
def execMonitorSample (mv : Vector (BitVec 12) 5) (tj : Vector (BitVec 16) 9) (s : State) : Res := s.run fun s =>
  let t := tj.toList.map BitVec.toNat
  let s := State.each s (fun v s => s.supplySample v ((mv.toList.map BitVec.toNat).getD v 0)) (List.range 5)
  let s := State.each s (fun i s => s.junctionSample i (t.getD i 0)) (List.range 9)
  let s := if t.all (fun x => decide (signed 16 x < 105 * 16)) then s.set TOP_MONSTAT_TJ_ERR 0 else s
  s.supplyFail

/-! ### TIME (R30, R31) -/

/-- TIME and its replicas count while the root PLL runs, once ROOT_LOCK has been set (R30, R31). -/
def State.timeOn (s : State) : State :=
  { s with clk := { s.clk with
      time := (s.clk.time + 1) % 2 ^ 64, rep0 := (s.clk.rep0 + 1) % 2 ^ 64, rep1 := (s.clk.rep1 + 1) % 2 ^ 64 } }

/-- A tick of TIME (R30, R31), with the FCLK cycles in it of the slot operations that run (R149). -/
def State.timeTick (s : State) : State :=
  if s.clk.counting && !s.clk.rootStopped then (s.timeOn).slotsTick else s

/-- ERR_N is low: the collector, the monitor (R29, R484), or a junction trip (R503). -/
def State.errNLow (s : State) : Bool := s.errLow || s.clk.monErr || s.is TOP_MONSTAT_TJ_ERR

end Sys2Proof.Machine
end

