-- ==== Sys2Proof/Machine/Cal.lean ====
section
/-! DEFINITION. Machine/Cal.lean: calibration: loading the tables, sessions, STORE and the presence of CALREF_CLK (R487 to
R493). -/

namespace Sys2Proof.Machine

/-! ### Ranges (R487) -/

/-- The words of an entry lie in the ranges of their table. KMA has four fraction bits, as LANs.MAGAIN.KMA has. -/
def entryOk (t : Nat) (w : Nat → Nat) : Bool :=
  if t < 0x48 then
    [(1, 0), (1, 16), (2, 0), (2, 16)].all (fun (p : Nat × Nat) =>
      decide (0xF00 ≤ bitsOf (w p.1) p.2 16 ∧ bitsOf (w p.1) p.2 16 ≤ 0x10FF)) &&
      [0, 8, 16, 24].all (fun lo => decide (-64 ≤ signed 8 (bitsOf (w 3) lo 8) ∧ signed 8 (bitsOf (w 3) lo 8) ≤ 63))
  else if t < 0x50 then
    decide ((signed 16 (bitsOf (w 0) 0 16)).natAbs ≤ 300 ∧ (signed 16 (bitsOf (w 0) 16 16)).natAbs ≤ 500 ∧
      (signed 5 (bitsOf (w 1) 0 5)).natAbs ≤ 8)
  else if t < 0x58 then bitsOf (w 1) 0 16 != 0
  else if t < 0x60 then decide (16 ≤ bitsOf (w 0) 0 16 ∧ bitsOf (w 0) 0 16 ≤ 1820 * 16)
  else if t < 0x68 then bitsOf (w 0) 0 32 != 0
  else true

/-- Every entry of a table lies in range. -/
def tableOk (t : Nat) (get : Nat → Nat) : Bool :=
  (List.range (tblEntries t)).all (fun e => entryOk t (fun w => get (calKey t e w)))

/-! ### Loading at step 6 (R487) -/

/-- The copy taken first, and the other: the one with the higher GEN of those whose header passes. -/
def calOrder : List (Option CalCopy) → Option CalCopy × Option CalCopy
  | [some a, some b] => if a.gen < b.gen then (some b, some a) else (some a, some b)
  | [some a, none] => (some a, none)
  | [none, some b] => (some b, none)
  | _ => (none, none)

/-- The copy a table is taken from: the first, or the other where the table's CRC fails in the first. -/
def tableFrom (p : Option CalCopy × Option CalCopy) (t : Nat) : Option CalCopy :=
  match p.1 with
  | some a => if a.bad.contains t then p.2.filter (fun b => !b.bad.contains t) else some a
  | none => none

/-- The registers that show a table's values. -/
def State.showTable (s : State) (t : Nat) : State :=
  let w (f i : Nat) : Nat := s.calWork (calKey t f i)
  let c := t % 8
  if t < 0x48 then State.each s (fun f s => s.showAdc c f) (List.range 32)
  else if t < 0x50 then s
  else if t < 0x58 then
    State.each s (fun f s => ((s.set (LAN_CLCOEF3_R0 c f) (bitsOf (w f 0) 0 16)).set (LAN_CLCOEF2_HS c f)
      (bitsOf (w f 1) 0 16)).set (LAN_CLCOEF2_TS c f) (bitsOf (w f 1) 16 16)) (List.range 32)
  else if t < 0x60 then
    State.each s (fun f s => (s.set (LAN_MAGAIN_KMA c f) (w f 0)).set (LAN_MAGAIN_MA_LIMIT c f)
      (min 32767 (roundRat (18 * ((w f 0 % 2 ^ 16 : Nat) : Rat) / 16)).toNat)) (List.range 32)
  else if t < 0x68 then s.set (SRV_COEF_COEF c 3) (w 0 0)
  else s.set CAL_TRIM_TRIM (w 0 0)

/-- A table of a copy becomes the working value, the working target and the staged target, at once (R488). -/
def State.takeTable (s : State) (t : Nat) (x : CalCopy) : State :=
  let put (m : Tab Nat) : Tab Nat := (tblKeys t).foldl (fun m k => tset 0 m k (tget 0 x.words k)) m
  State.showTable { s with cal := { s.cal with work := put s.cal.work, target := put s.cal.target, staged := put s.cal.staged,
                                               records := tset [] s.cal.records t (tget [] x.records t) } } t

/-- Loading one table; the answer's second part says that it failed in both copies or fails its range check. -/
def State.loadTable (s : State) (p : Option CalCopy × Option CalCopy) (t : Nat) : State × Bool :=
  match tableFrom p t with
  | some x => if tableOk t (fun k => tget 0 x.words k) then (s.takeTable t x, false) else (s, true)
  | none => (s, true)

/-- The tables of one cluster, and the first of them that failed. -/
def State.loadCluster (s : State) (p : Option CalCopy × Option CalCopy) (c : Nat) : State × Option Nat :=
  [tblADC c, tblAFE c, tblHEAT c, tblMA c, tblVCM c].foldl (fun r t =>
    let q := r.1.loadTable p t
    (q.1, if r.2.isNone && q.2 then some t else r.2)) (s, none)

/-! ### Starting a session (R489, R490) -/

/-- A write of CAL.CTL or CAL.CMD while BUSY is dropped with RESULT BUSY. -/
def State.calBusy (s : State) (o : Origin) (a v : Nat) : State := (s.set CAL_STAT_RESULT 8).logPriv o a v 2

/-- The value written to CAL.CTL with GO. -/
def calCtl (kind c : Nat) (apply : Bool) : Nat := kind + c * 2 ^ 4 + (if apply then 2 ^ 8 else 0) + 2 ^ 31

/-- Starting a session: its fields are written, its prerequisite checked. A session of KIND 3 or 4 closes its cluster. -/
def State.calGo (s : State) (o : Origin) (kind c : Nat) (apply ready : Bool) : State :=
  let v := calCtl kind c apply
  if s.is CAL_STAT_BUSY then s.calBusy o CAL_CTL v
  else
    let s := ((s.set CAL_CTL_KIND kind).set CAL_CTL_CLUSTER c).set CAL_CTL_APPLY (if apply then 1 else 0)
    let s := s.logPriv o CAL_CTL v 0
    if !ready then s.set CAL_STAT_RESULT 4
    else
      let close := decide (3 ≤ kind)
      let s := { s with cal := { s.cal with session := some ⟨kind, c, apply, close, s.now⟩ } }
      let s := s.set CAL_STAT_BUSY 1
      if close then (s.set CAL_STAT_CLOSING 1).setOpen c false else s

/-- The package is in service: start has completed (R482). -/
def State.inService (s : State) : Bool := s.is IMG_STAT_DONE

/-- CAL_TIMEBASE (R489, R492). -/
def execCalTimebase (o : Origin) (c : Cluster) (apply : Bool) (s : State) : Res := s.run fun s =>
  s.calGo o 1 c apply (s.inService && s.is TOP_CLKSTAT_CALREF_PRESENT)

/-- CAL_REFDAC (R489); whether CALREF_V is applied is found by the session. -/
def execCalRefdac (o : Origin) (c : Cluster) (apply : Bool) (s : State) : Res := s.run fun s => s.calGo o 2 c apply s.inService

/-- CAL_ANALOG (R489, R490). -/
def execCalAnalog (o : Origin) (c : Cluster) (apply : Bool) (s : State) : Res := s.run fun s =>
  s.calGo o 3 c apply (s.is CAL_STAT_REFDAC_DONE)

/-- The cluster is in service for writes (R248). -/
def State.writesOk (s : State) (c : Nat) : Bool :=
  decide ((s.strOf c).rbuf.length ≤ 192 ∧ (s.strOf c).rlist.length ≤ 983040)

/-- CAL_MEDIA (R489, R490). -/
def execCalMedia (o : Origin) (c : Cluster) (apply : Bool) (s : State) : Res := s.run fun s =>
  s.calGo o 4 c apply (s.isOpen c && s.writesOk c)

/-- A live command has cells on a cluster. -/
def State.cellsOn (s : State) (c : Nat) : Bool :=
  s.ports.cmds.any (fun x => x.handle != 0 && (s.tlOf c).owns x.handle)

/-- CAL_CLUSTER_CLOSED (R490). -/
def execCalClusterClosed (s : State) : Res := s.run fun s =>
  match s.cal.session with
  | some x =>
    if x.closing && !s.cellsOn x.cluster then
      State.set { s with cal := { s.cal with session := some { x with closing := false } } } CAL_STAT_CLOSING 0
    else s
  | none => s

/-! ### The end of a session (R490 to R492) -/

/-- The OPEN bit of a session's cluster is set again unless the cluster has been kept out or lost. -/
def State.calReopen (s : State) (x : Session) : State :=
  if 3 ≤ x.kind && s.get (SEQ_STAT_MODE x.cluster) == 2 && s.get (SRV_STAT_STATE x.cluster) != 6 &&
      !bitAt (s.get IMG_OUT_CLUSTERS) x.cluster && !s.is LOOP_PF_STAT_PHASE then s.setOpen x.cluster true
  else s

/-- Staging one table with a new session record (R487, R491). -/
def State.stage (s : State) (t : Nat) (l : List (List Nat)) : State :=
  let m := (List.range (tblEntries t)).foldl (fun m e => (List.range (tblWords t)).foldl (fun m w =>
    tset 0 m (calKey t e w) ((l.getD e []).getD w 0 % 2 ^ 32)) m) s.cal.staged
  let r := [s.now, s.calAt s.now, s.get CAL_REFID_CLK_ID, s.get CAL_REFID_V_ID, s.get CAL_SESSIONS_COUNT]
  { s with cal := { s.cal with staged := m, records := tset [] s.cal.records t r } }

/-- A target of a loop coefficient (R351); none is listed where it equals the working value. -/
def State.slewTo (s : State) (x : Fld) (v : Nat) : State :=
  let rest := s.cal.slew.filter (fun q => q.1 != slewKey x)
  if v % 2 ^ x.w = s.get x then { s with cal := { s.cal with slew := rest } }
  else { s with cal := { s.cal with slew := tset (2 ^ 32) rest (slewKey x) (v % 2 ^ x.w) } }

/-- APPLY: the staged targets of a slewed table become its working targets (R488, R491). -/
def State.applyTable (s : State) (t : Nat) : State :=
  if t < 0x58 then
    let st (k : Nat) : Nat := tget 0 s.cal.staged k
    let s := { s with cal := { s.cal with target := (tblKeys t).foldl (fun m k => tset 0 m k (st k)) s.cal.target } }
    if t < 0x50 then s
    else
      let c := t % 8
      State.each s (fun f s => ((s.slewTo (LAN_CLCOEF3_R0 c f) (bitsOf (st (calKey t f 0)) 0 16)).slewTo (LAN_CLCOEF2_HS c f)
        (bitsOf (st (calKey t f 1)) 0 16)).slewTo (LAN_CLCOEF2_TS c f) (bitsOf (st (calKey t f 1)) 16 16)) (List.range 32)
  else s

/-- The end with RESULT OK: the session counts, its values are staged, and applied where APPLY was 1. -/
def State.calOk (s : State) (x : Session) (l : List (Nat × List (List Nat))) : State :=
  let s := (s.calEnd 0).count CAL_SESSIONS_COUNT
  let s := l.foldl (fun s p => s.stage p.1 p.2) s
  let s := if x.apply then l.foldl (fun s p => s.applyTable p.1) s else s
  s.calReopen x

/-- The end with another RESULT. -/
def State.calFails (s : State) (x : Session) (r : Nat) : State := (s.calEnd r).calReopen x

/-- The end of a session that measured tables: RANGE where a value fails its range check. -/
def State.calTables (s : State) (x : Session) (l : List (Nat × List (List Nat))) : State :=
  let ok := l.all (fun p => (List.range (tblEntries p.1)).all (fun e =>
    entryOk p.1 (fun w => (p.2.getD e []).getD w 0 % 2 ^ 32)))
  if ok then s.calOk x l else s.calFails x 6

/-- TRIM of R492; with no edge counted the quotient is not stated, and the value is free. -/
def State.trimOf (s : State) (n : Nat) : State × Int :=
  if n = 0 then
    let r := s.draw CAL_TRIM
    (r.1, signed 32 r.2)
  else (s, roundRat (((10 ^ 9 * ((10 ^ 8 : Nat) - (n : Int)) : Int) : Rat) / n))

/-- The end of a TIMEBASE session (R491, R492): TRIM is staged and reported even where it is out of range. -/
def State.calTimebase (s : State) (x : Session) (n : Nat) : State :=
  let r := s.trimOf n
  let v := unsign 32 r.2
  let s := r.1.set CAL_TRIM_TRIM v
  let s := s.when s.offFrequency (fun s => s.failAssumption 1 (fun _ => true))
  if 20000 < r.2.natAbs then (s.calEnd 3).stage tblTIMEBASE [[v]] else s.calOk x [(tblTIMEBASE, [[v]])]

/-- Words of an operand. -/
def natRows (l : List (List (BitVec 32))) : List (List Nat) := l.map (fun r => r.map BitVec.toNat)

/-- CAL_SESSION_END (R491, R492): what the session measured, a TIMEBASE session over 10^9 ticks. A measurement of another kind of
session ends nothing. -/
def execCalSessionEnd (m : Measured) (s : State) : Res := s.run fun s =>
  match s.cal.session with
  | none => s
  | some x =>
    let c := x.cluster
    if x.closing then s
    else match x.kind, m with
    | 1, .timebase n => if s.now < x.since + 10 ^ 9 then s else s.calTimebase x n.toNat
    | 2, .refdac d =>
      (match d with
      | none => s.calFails x 1
      | some v => if 200 < (v.toInt).natAbs then s.calFails x 2 else (s.calOk x []).set CAL_STAT_REFDAC_DONE 1)
    | 3, .analog adc afe => s.calTables x [(tblADC c, natRows adc), (tblAFE c, natRows afe)]
    | 4, .media heat ma ka =>
      s.calTables x [(tblHEAT c, natRows heat), (tblMA c, ma.map (fun v => [v.toNat])), (tblVCM c, [[ka.toNat]])]
    | _, _ => s

/-- CALREF_PRESENT_CHANGE: CALREF_CLK ceases or appears; a TIMEBASE session ends with NO_REF (R491). -/
def execCalrefPresentChange (present : Bool) (s : State) : Res := s.run fun s =>
  let s := s.set TOP_CLKSTAT_CALREF_PRESENT (if present then 1 else 0)
  match s.cal.session with
  | some x => if x.kind = 1 && !present then s.calFails x 1 else s
  | none => s

/-! ### STORE (R493) -/

/-- The copy STORE writes: one whose header fails, else the one with the lower GEN. -/
def storeCopy : List (Option CalCopy) → Nat
  | [none, _] => 0
  | [_, none] => 1
  | [some a, some b] => if a.gen ≤ b.gen then 0 else 1
  | _ => 0

/-- The higher GEN of the copies. -/
def topGen (l : List (Option CalCopy)) : Nat := (l.filterMap (fun c => c.map CalCopy.gen)).foldl max 0

/-- CAL_STORE (R493). -/
def execCalStore (o : Origin) (s : State) : Res := s.run fun s =>
  if s.is CAL_STAT_BUSY then s.calBusy o CAL_CMD 1
  else
    let i := storeCopy s.cal.copies
    let s := (s.logPriv o CAL_CMD 1 0).set CAL_STAT_BUSY 1
    { s with cal := { s.cal with storing := some i } }

/-- What STORE writes: every table with its staged targets, GEN one higher than the higher one. -/
def State.storedCopy (s : State) : CalCopy :=
  ⟨topGen s.cal.copies + 1, s.cal.staged, s.cal.records, []⟩

/-- CAL_STORE_DONE (R493): `same` says that the readback matched; where it did not, `left` is what the flash holds. -/
def execCalStoreDone (same : Bool) (left : Option CalCopy) (s : State) : Res := s.run fun s =>
  match s.cal.storing with
  | none => s
  | some i =>
    let x := if same then some s.storedCopy else left
    let s := { s with cal := { s.cal with copies := s.cal.copies.set i x, storing := none } }
    (s.set CAL_STAT_BUSY 0).set CAL_STAT_RESULT (if same then 0 else 7)

end Sys2Proof.Machine
end

