-- ==== Sys2Proof/Machine/Access.lean ====
section
/-! DEFINITION. Machine/Access.lean: reading and writing register space and window slots: the two views, the access codes,
the values registers read, and what each write starts (R6 to R13, R108, R110, R115, R145 to R149, R155, R381, R428 to
R431, R458, R468 to R471, R486, R514). -/

namespace Sys2Proof.Machine

/-! ### The views (R430, R468, R469, R471) -/

/-- The task port whose page holds an address (R11). -/
def pagePort (a : Nat) : Option Nat := if 0x2000000 ≤ a ∧ a < 0x2400000 then some ((a - 0x2000000) / 0x1000) else none

/-- The window slot that holds an address (R6). -/
def slotAt (a : Nat) : Option Nat := if 0x1000000000 ≤ a ∧ a < 0x1200000000 then some ((a - 0x1000000000) / 4096) else none

/-- Why an access lies outside its view, as VIEW_VIOLATION names it (R469), with the packet's burgee: 1 NOT_IN_VIEW,
2 SLOT_NOT_GRANTED, 4 PRIV_FUNCTION. `window` tells a WRD or WWR from a register access. -/
def State.outside (s : State) (o : Origin) (a : Nat) (window : Bool) : Option (Nat × Nat) :=
  match o with
  | .link p true f b => if bitAt (s.get (LNK_PORT_PRIV_FN p (f / 32))) (f % 32) then none else some (b, 4)
  | .link _ false _ b =>
    match pagePort a with
    | some n =>
      if s.get (TPT_PORT_CFG_BURGEE n) = b && (s.is (TPT_PORT_CFG_ENABLE n) || s.draining n) then none else some (b, 1)
    | none =>
      match slotAt a with
      | some m => if s.granted b m then none else some (b, if window then 2 else 1)
      | none => some (b, 1)
  | _ => none

/-- The burgee of an origin that acts in the tenant view. -/
def tenantOf : Origin → Option Nat
  | .link _ false _ b => some b.val
  | _ => none

/-- An access to a reserved address (R7). -/
def State.unmapped (s : State) (o : Origin) (a : Nat) (write : Bool) : State :=
  s.event (orgOf o) 0x32 [a % 2 ^ 32, a / 2 ^ 32, if write then 1 else 0]

/-- The logic die a register lies on, where it lies on one (R454): task-port pages, pool, cluster, decoder, cache,
Streamer and SRAM registers. -/
def dieOfReg (a : Nat) (ix : List Nat) : Option Nat :=
  let i := ix.headD 0
  if 0x2000000 ≤ a then some (portDie i)
  else if 0x1000000 ≤ a then some (dieOf i)
  else if 0xE00000 ≤ a ∧ a < 0xEF0000 then some (i / 2)
  else if 0xC00000 ≤ a ∧ a < 0xD00000 then some (i / 16)
  else if (0xB00000 ≤ a ∧ a < 0xC00000) ∨ (0x800000 ≤ a ∧ a < 0x900000) ∨ (0xA00400 ≤ a ∧ a < 0xA01000) then some i
  else none

/-- The register lies on a die that is lost. -/
def State.regLost (s : State) (a : Nat) (ix : List Nat) : Bool :=
  match dieOfReg a ix with
  | some d => s.dieIsLost d
  | none => false

/-! ### What a register reads (R12, R110) -/

/-- One bit of a register word. -/
def flagBit (b : Bool) (i : Nat) : Nat := if b then 2 ^ i else 0

/-- The flags of 16 slots from slot `m` on, two bits each (R110, WIN.FLAGSk). -/
def State.flags16 (s : State) (m : Nat) (p : Nat → Bool) : Nat :=
  (List.range 16).foldl (fun n i => if p (m + i) then n + s.flag (m + i) * 4 ^ i else n) 0

/-- The entry of the syndrome log that MEM.SYNSEL names. -/
def State.synSel (s : State) : Option SynEntry := s.memu.syn[s.get MEM_SYNSEL_ENTRY]?

/-- A number of the selected syndrome entry; 0 where the log holds none. -/
def State.synNum (s : State) (f : SynEntry → Nat) : Nat :=
  match s.synSel with
  | some e => f e
  | none => 0

/-- MEM.SYNINFO of an entry. -/
def SynEntry.info (e : SynEntry) : Nat :=
  e.syndrome % 2 ^ 7 + e.expected % 2 ^ 7 * 2 ^ 7 + flagBit e.injected 14 + flagBit e.unc 15 + e.foundBy % 4 * 2 ^ 16 +
    e.region % 16 * 2 ^ 18 + flagBit e.restored 22

/-- STR.SKENT of a cluster. -/
def State.skewWord (s : State) (c : Nat) : Nat :=
  let x := s.skewOf c (s.get (STR_SKSEL_REGION c)) (s.get (STR_SKSEL_SURFACE c))
  unsign 8 x.hoff + unsign 8 x.place * 2 ^ 8 + flagBit x.out 16 + flagBit x.moving 17 + flagBit x.near 18 +
    x.boundary % 2 ^ 10 * 2 ^ 19

/-- CAL.TDATAw (R488, CAL.TSEL): the working HEAT values stand in the loop's registers, the other working values and the
targets in the tables. -/
def State.calWord (s : State) (w : Nat) : Nat :=
  let t := s.get CAL_TSEL_TABLE_ID
  let e := s.get CAL_TSEL_ENTRY
  let k := calKey t e w
  if tblEntries t ≤ e ∨ tblWords t ≤ w then 0
  else match s.get CAL_TSEL_WHICH with
    | 0 =>
      if 0x50 ≤ t ∧ t < 0x58 then
        (if w = 0 then s.get (LAN_CLCOEF3_R0 (t % 8) e) else (s.rd (LAN_CLCOEF2 (t % 8) e)).toNat)
      else s.calWork k
    | 1 =>
      if 0x50 ≤ t ∧ t < 0x58 then
        let at' (x : Fld) : Nat := match s.cal.slew.find? (fun p => p.1 == slewKey x) with
          | some p => p.2
          | none => s.get x
        if w = 0 then at' (LAN_CLCOEF3_R0 (t % 8) e)
        else at' (LAN_CLCOEF2_HS (t % 8) e) + at' (LAN_CLCOEF2_TS (t % 8) e) * 2 ^ 16
      else tget 0 s.cal.target k
    | 2 => tget 0 s.cal.staged k
    | _ => 0

/-- The word of a register before its access codes apply: stored, or what the machine shows at the read. -/
def State.shown (s : State) (id : RegId) (ix : List Nat) (a : Nat) : Nat :=
  let i := ix.headD 0
  let w := (s.rd a).toNat
  match id with
  | .TOP_TIME_LO => s.now % 2 ^ 32
  | .TOP_TIME_HI => s.now / 2 ^ 32 % 2 ^ 32
  | .TOP_ID => putBits w 24 5 Config.stepping.toNat
  | .TOP_CLSUP => Config.clSup.toNat * 2
  | .TOP_UID_LO => Config.uid.toNat % 2 ^ 32
  | .TOP_UID_HI => Config.uid.toNat / 2 ^ 32
  | .IMG_IMGFLOOR => Config.imageFloor.toNat
  | .IMG_PATCHFLOOR => Config.patchFloor.toNat
  | .PRM_STATUS => putBits w 9 14 s.handlesUsed
  | .PRM_CLU_CAP => s.capOf % 2 ^ 16 + (s.tlOf i).shares % 2 ^ 16 * 2 ^ 16
  | .PRM_CLU_LEND => (s.tlOf i).lend % 2 ^ 16 + (s.tlOf i).tenantRows % 2 ^ 11 * 2 ^ 16
  | .TP_PSTAT => s.liveCount i + flagBit (s.liveCount i == s.depthOf i) 9 + flagBit (s.draining i) 10
  | .TPT_PORT_STAT => putBits w 0 10 (s.liveCount i + flagBit (s.draining i) 9)
  | .TP_CQ_POP => s.popValue i
  | .TP_CQ_COUNT => (s.queueOf i).length % 2 ^ 18
  | .CQ_DIE_SHARED => s.sharedFree i
  | .TP_FLAGR =>
    s.flags16 (s.get (TP_FLAGQ_SLOT i) / 16 * 16) (s.granted (s.get (TPT_PORT_CFG_BURGEE i)))
  | .TP_WVIOL => min (tget 0 s.ports.wviol (s.get (TPT_PORT_CFG_BURGEE i))) (2 ^ 32 - 1)
  | .WIN_BR => (List.range 32).foldl (fun n k => n + flagBit (s.inBreach (32 * i + k)) k) 0
  | .WIN_FLAGS => s.flags16 (16 * i) (fun _ => true)
  | .STR_STAT =>
    putBits (putBits w 0 3 (flagBit (s.writesOk i) 0 + flagBit (decide (192 < (s.strOf i).rbuf.length)) 1 +
      flagBit (decide (983040 < (s.strOf i).rlist.length)) 2)) 4 2 (popc 32 (s.lostMask i))
  | .STR_RLIST => (s.strOf i).rlist.length
  | .STR_RBUF => (s.strOf i).rbuf.length
  | .STR_REMAP => (s.strOf i).remap.length
  | .STR_SKENT => s.skewWord i
  | .STR_SKCTR => unsign 8 (s.centreOf i (s.get (STR_SKSEL_REGION i)))
  | .LOOP_SLEWING => s.cal.slew.length % 2 ^ 16
  | .MEM_SYNADDR_LO => s.synNum SynEntry.addr % 2 ^ 32
  | .MEM_SYNADDR_HI => s.synNum SynEntry.addr / 2 ^ 32 % 8 + s.synNum SynEntry.space % 4 * 2 ^ 30
  | .MEM_SYNINFO => s.synNum SynEntry.info
  | .MEM_SYNTIME_LO => s.synNum SynEntry.time % 2 ^ 32
  | .MEM_SYNTIME_HI => s.synNum SynEntry.time / 2 ^ 32 % 2 ^ 32
  | .CCH_LINES => (s.cacheOf i).cleans % 2 ^ 14 + (s.cacheOf i).dirties % 2 ^ 14 * 2 ^ 16
  | .CCH_QRES => s.qres i
  | .FLT_STAT => putBits w 0 2 (flagBit s.intLow 0 + flagBit s.errLow 1)
  | .CAL_TDATA => s.calWord i
  | _ => w

/-- The fields of a word that a read returns: a WO field reads 0 (R12). -/
def readable (w : Nat) : List FieldDef → Nat
  | [] => 0
  | f :: fs => (if f.acc = .wo then 0 else bitsOf w f.lo f.w * 2 ^ f.lo) + readable w fs

/-- A word with its RC fields cleared: each at the reset value of its table, so that TOP.VMONv.MV_MIN and TOP.TJs.T_MAX hold
the extremes of the samples since the read (R12, R502). -/
def clearRc (w : Nat) : List FieldDef → Nat
  | [] => w
  | f :: fs => clearRc (if f.acc = .rc then putBits w f.lo f.w f.rst else w) fs

/-- What a read does beside returning its value: RC fields clear, a read of TPn.CQ_POP pops (R136), one of TPn.WVIOL
clears the count on every page of the burgee, and one of the low word of a position latches its high word. -/
def State.afterRead (s : State) (r : RegDef) (ix : List Nat) (a : Nat) : State :=
  let i := ix.headD 0
  let j := ix.getD 1 0
  match r.id with
  | .TP_CQ_POP => s.pop i
  | .TP_WVIOL =>
    { s with ports := { s.ports with wviol := tset 0 s.ports.wviol (s.get (TPT_PORT_CFG_BURGEE i)) 0 } }
  | .SRV_POS_LO => s.set (SRV_POS_HI_POS_HI i) (s.servoOf i).posHi
  | .LAN_MAPOS_LO => s.set (LAN_MAPOS_HI_POS_HI i j) (tget LaneSrv.init (s.servoOf i).lanes j).posHi
  | _ => s.wr a (BitVec.ofNat 32 (clearRc (s.rd a).toNat r.fields))

/-- A register read that its view allows: the state after it, the word, and whether R7 refused it. -/
def State.readAt (s : State) (o : Origin) (a : Nat) : State × Nat × Bool :=
  match findReg a with
  | none => (s.unmapped o a false, 0, true)
  | some (r, ix) =>
    if s.regLost a ix then (s, 0, false) else (s.afterRead r ix a, readable (s.shown r.id ix a) r.fields, false)

/-- A register read (R12, R13, R469): a refused one returns 0 and clears nothing. -/
def State.readReg (s : State) (o : Origin) (a : Nat) : State × Nat × Bool :=
  match s.outside o a false with
  | some (b, why) => (s.viewViolation b (orgOf o) a false why, 0, true)
  | none => s.readAt o a

/-! ### Writes (R12) -/

/-- A written word taken into the fields of a register: RW, RWP and PO fields are set, W1C bits clear, reserved bits and
the other fields stay (R12, R14). -/
def takeWrite (old v : Nat) : List FieldDef → Nat
  | [] => old
  | f :: fs =>
    let x := bitsOf v f.lo f.w
    let y := bitsOf old f.lo f.w
    takeWrite (match f.acc with
      | .rw => putBits old f.lo f.w x
      | .rwp => putBits old f.lo f.w x
      | .po => putBits old f.lo f.w x
      | .w1c => putBits old f.lo f.w (y - (y &&& x))
      | _ => old) v fs

/-- A privileged write to register space outside the task-port pages is logged (R458, R471). -/
def State.logWrite (s : State) (o : Origin) (a v result : Nat) : State :=
  if (pagePort a).isSome then s else s.logPriv o a v result

/-- A write that acts by the access codes of the register's fields. -/
def State.plainWrite (s : State) (o : Origin) (r : RegDef) (a v : Nat) : State :=
  (s.wr a (BitVec.ofNat 32 (takeWrite (s.rd a).toNat v r.fields))).logWrite o a v 0

/-- A write to the page of task port n (R110, R115, R149). -/
def State.pageWrite (s : State) (o : Origin) (r : RegDef) (n a v : Nat) : State :=
  let off := a % 0x1000
  if off ≤ 0x20 ∧ s.is (TP_HOIST_HOIST n) then s.countSat (TP_DROPS_DROPS n)
  else match r.id with
    | .TP_HOIST => if bitAt v 0 then s.hoist o n else s
    | .TP_SLOTCMD => if s.is (TP_SLOTRES_BUSY n) then s.countSat (TP_DROPS_DROPS n) else s.plainWrite o r a v
    | .TP_SLOTOP =>
      if s.is (TP_SLOTRES_BUSY n) then s.countSat (TP_DROPS_DROPS n)
      else if bitsOf v 28 2 = 1 then s.slotOp o n (bitsOf v 0 22) false
      else if bitsOf v 28 2 = 2 then s.slotOp o n (bitsOf v 0 22) true
      else s
    | _ => s.plainWrite o r a v

/-- A write to MEM.INJ_CTL: DONE clears by its W1C bit, and ARM arms or disarms (R379, R381). -/
def State.injCtl (s : State) (o : Origin) (v : Nat) : State :=
  let s := if bitAt v 1 then s.set MEM_INJ_CTL_DONE 0 else s
  let arm := bitAt v 0
  if arm = s.is MEM_INJ_CTL_ARM then s.logPriv o MEM_INJ_CTL v 0
  else s.via (if arm then execInjectArm o s else execInjectDisarm o s)

/-- A write to CAL.CTL (R489): GO with a KIND of 1 to 4 starts a session; without GO, or with another KIND, only the
fields are written. -/
def State.calCtlWrite (s : State) (o : Origin) (r : RegDef) (v : Nat) : State :=
  let c : Cluster := ⟨bitsOf v 4 3 % 8, Nat.mod_lt _ (by decide)⟩
  let apply := bitAt v 8
  if s.is CAL_STAT_BUSY then s.calBusy o CAL_CTL v
  else if bitAt v 31 then
    match bitsOf v 0 4 with
    | 1 => s.via (execCalTimebase o c apply s)
    | 2 => s.via (execCalRefdac o c apply s)
    | 3 => s.via (execCalAnalog o c apply s)
    | 4 => s.via (execCalMedia o c apply s)
    | _ => s.plainWrite o r CAL_CTL v
  else s.plainWrite o r CAL_CTL v

/-- A write to a Streamer's registers (R397, R405). -/
def State.stmWrite (s : State) (o : Origin) (r : RegDef) (n a v : Nat) : State :=
  let k : StreamerNo := ⟨n % 32, Nat.mod_lt _ (by decide)⟩
  match r.id with
  | .STM_KICK_HI =>
    if bitAt v 31 then s.via (execStmGo o k ⟨bitsOf v 0 3 % 8, Nat.mod_lt _ (by decide)⟩ s) else s.plainWrite o r a v
  | .STM_CTL =>
    if bitAt v 1 then s.via (execStmStop o k (bitAt v 0) s)
    else if bitAt v 0 then s.via (execStmPause o k s) else s.via (execStmResume o k s)
  | .STM_CFG => if streamerClass n = 0 then s.logPriv o a v 1 else s.plainWrite o r a v
  | _ => s.plainWrite o r a v

/-- A write to the registers of cluster c's sequencer, preamp bus or lane f that start something (R170, R178, R322,
R329). -/
def State.cluWrite (s : State) (o : Origin) (r : RegDef) (c f a v : Nat) : State :=
  let k : Cluster := ⟨c % 8, Nat.mod_lt _ (by decide)⟩
  match r.id with
  | .LAN_CTL => s.laneCtl o c f (bitsOf v 0 2)
  | .SRV_PCB_REGCMD =>
    if bitsOf v 0 2 = 1 ∨ bitsOf v 0 2 = 2 then s.pcbReg o c (bitsOf v 0 2) else s.logPriv o a v 0
  | .SEQ_CTL =>
    if v % 16 = 1 then s.via (execSeqRestart o k s)
    else if v % 16 = 2 then s.via (execSeqTest o k s)
    else if v % 16 = 4 then s.via (execSeqHalt o k s)
    else if v % 16 = 8 then s.via (execSeqStep o k 0 s)
    else s.ctlReject o c v
  | .SEQ_GFLAG => s.via (execGflagWrite o k ⟨bitsOf v 0 4 % 16, Nat.mod_lt _ (by decide)⟩ s)
  | .SEQ_CSCMD =>
    if bitsOf v 0 2 = 1 then s.via (execCsRead o k 0 s)
    else if bitsOf v 0 2 = 2 then s.via (execCsWrite o k s)
    else if bitsOf v 0 2 = 3 then s.via (execCsVerify o k s)
    else s.logPriv o a v 0
  | _ => s.plainWrite o r a v

/-- A write to the other registers that start something, or that a running operation shuts (R89, R108, R147, R153 to R155,
R189, R379, R381, R390, R391, R444, R447, R461, R466, R467, R489, R493, R514). -/
def State.coreWrite (s : State) (o : Origin) (r : RegDef) (i a v : Nat) : State :=
  let d : Die := ⟨i % 2, Nat.mod_lt _ (by decide)⟩
  match r.id with
  | .PRM_BCMD => s.budgetCmd o (bitsOf v 0 2)
  | .PRM_BSEL => if s.is PRM_BSTAT_BUSY then s.budgetEvent (orgOf o) 5 else s.plainWrite o r a v
  | .PRM_BVAL => if s.is PRM_BSTAT_BUSY then s.budgetEvent (orgOf o) 5 else s.plainWrite o r a v
  | .PRM_BDEPTH => if s.is PRM_BSTAT_BUSY then s.budgetEvent (orgOf o) 5 else s.plainWrite o r a v
  | .WIN_GCMD => s.grantCmd o (bitsOf v 0 2)
  | .WIN_GSEL => if s.is WIN_GSTAT_BUSY then s.grantEvent (orgOf o) 0 4 else s.plainWrite o r a v
  | .WIN_GBASE => if s.is WIN_GSTAT_BUSY then s.grantEvent (orgOf o) 0 4 else s.plainWrite o r a v
  | .WIN_GCNT => if s.is WIN_GSTAT_BUSY then s.grantEvent (orgOf o) 0 4 else s.plainWrite o r a v
  | .WIN_GOWN => if s.is WIN_GSTAT_BUSY then s.grantEvent (orgOf o) 0 4 else s.plainWrite o r a v
  | .WIN_HOLD => s.holdWrite o (bitsOf v 0 16)
  | .TPT_PORT_CFG => s.portCfg o i v
  | .TPT_RCMD => s.rightsCmd o (bitsOf v 0 2)
  | .TPT_RSEL => if s.is TPT_RSTAT_BUSY then s.rightsEvent (orgOf o) 0 2 else s.plainWrite o r a v
  | .TPT_RBASE_LO => if s.is TPT_RSTAT_BUSY then s.rightsEvent (orgOf o) 0 2 else s.plainWrite o r a v
  | .TPT_RBASE_HI => if s.is TPT_RSTAT_BUSY then s.rightsEvent (orgOf o) 0 2 else s.plainWrite o r a v
  | .TPT_RCNT_LO => if s.is TPT_RSTAT_BUSY then s.rightsEvent (orgOf o) 0 2 else s.plainWrite o r a v
  | .TPT_RCNT_HI => if s.is TPT_RSTAT_BUSY then s.rightsEvent (orgOf o) 0 2 else s.plainWrite o r a v
  | .TPT_ROWN => if s.is TPT_RSTAT_BUSY then s.rightsEvent (orgOf o) 0 2 else s.plainWrite o r a v
  | .LOOP_MCB_REG =>
    if bitsOf v 24 2 = 1 ∨ bitsOf v 24 2 = 2 then s.mcbReg o (bitsOf v 24 2) (bitsOf v 0 8) (bitsOf v 8 16)
    else if s.is LOOP_MCB_REG_BUSY then s.logPriv o a v 2 else s.plainWrite o r a v
  | .MEM_INJ_ADDR_LO => if s.is MEM_INJ_CTL_ARM then s.injEvent (orgOf o) 2 else s.plainWrite o r a v
  | .MEM_INJ_ADDR_HI => if s.is MEM_INJ_CTL_ARM then s.injEvent (orgOf o) 2 else s.plainWrite o r a v
  | .MEM_INJ_MASK_LO => if s.is MEM_INJ_CTL_ARM then s.injEvent (orgOf o) 2 else s.plainWrite o r a v
  | .MEM_INJ_MASK_HI => if s.is MEM_INJ_CTL_ARM then s.injEvent (orgOf o) 2 else s.plainWrite o r a v
  | .MEM_INJ_CTL => s.injCtl o v
  | .CCH_CTL =>
    if bitAt v 0 then s.via (execCacheEnable o d (bitAt v 1) s) else s.via (execCacheDisable o d (bitAt v 1) s)
  | .CCH_CMD => if bitAt v 0 then s.via (execCacheInvalidate o d s) else s.logPriv o a v 0
  | .FLT_FIRST => if bitAt v 31 then s.via (execFltFirstClear o s) else s.logPriv o a v 0
  | .FLT_PEND => s.via (execFltPendClear o ⟨i % 10, Nat.mod_lt _ (by decide)⟩ (BitVec.ofNat 32 v) s)
  | .LOG_CTL => if bitAt v 0 then s.via (execLogFreeze o s) else s.via (execLogThaw o s)
  | .LOG_CALCMD =>
    if bitsOf v 0 2 = 1 then s.via (execCalendarSet o s)
    else if bitsOf v 0 2 = 2 then s.via (execCalendarClear o s)
    else s.logPriv o a v (if bitsOf v 0 2 = 3 then 1 else 0)
  | .LOG_RSEL => s.via (execLogReadSelect o (BitVec.ofNat 32 v) s)
  | .CAL_CTL => s.calCtlWrite o r v
  | .CAL_CMD =>
    if s.is CAL_STAT_BUSY then s.calBusy o a v
    else if bitAt v 0 then s.via (execCalStore o s) else s.logPriv o a v 0
  | _ => s.plainWrite o r a v

/-- A register write that its view allows (R7, R12, R454, R486). A tenant-view write to a register with an RWP or PO field is
dropped as a view violation. -/
def State.writeAt (s : State) (o : Origin) (a v : Nat) : State :=
  match findReg a with
  | none => s.unmapped o a true
  | some (r, ix) =>
    let i := ix.headD 0
    if s.regLost a ix then s
    else match tenantOf o with
      | some b =>
        if r.fields.any (fun f => f.acc = .rwp || f.acc = .po) then s.viewViolation b (orgOf o) a true 3
        else s.pageWrite o r i a v
      | none =>
        if 0x2000000 ≤ a then s.pageWrite o r i a v
        else if 0x1000000 ≤ a then s.cluWrite o r i (ix.getD 1 0) a v
        else if 0xC00000 ≤ a ∧ a < 0xD00000 then s.stmWrite o r i a v
        else s.coreWrite o r i a v

/-- A register write (R12, R469). -/
def State.writeReg (s : State) (o : Origin) (a v : Nat) : State :=
  match s.outside o a false with
  | some (b, why) => s.viewViolation b (orgOf o) a true why
  | none => s.writeAt o a v

/-- REGISTER_WRITE (R12, R43, R108, R110, R115, R149, R155, R381, R397, R458, R486, R489, R514). -/
def execRegisterWrite (o : Origin) (a : BitVec 48) (v : Word) (s : State) : Res := s.run fun s =>
  s.writeReg o a.toNat v.toNat

/-- RC_FIELD_READ (R12, R13). -/
def execRcFieldRead (o : Origin) (a : BitVec 48) (s : State) : Res := s.run fun s => (s.readReg o a.toNat).1

/-! ### Window slots (R145 to R148, R428, R429) -/

/-- An access of `n` words from an address lies within one window slot, word by word: the slot and the byte offset (R428). -/
def slotRange (a n : Nat) : Option (Nat × Nat) :=
  match slotAt a with
  | some m => if a % 4 = 0 ∧ a % 4096 + 4 * n ≤ 4096 then some (m, a % 4096) else none
  | none => none

/-- The words a slot holds, with the poison pattern in place of each poisoned word (R146). -/
def State.slotWords (s : State) (m off n : Nat) : List Nat :=
  (List.range n).map (fun i => ((s.stored (slotAddr m + off + 4 * i)).view).getD poisonPattern)

/-- Storing words in a slot. -/
def State.putSlot (s : State) (origin m off : Nat) : List Nat → State
  | [] => s
  | w :: ws => State.putSlot (s.putReq origin (slotAddr m + off) (freshWord w false)) origin m (off + 4) ws

/-- A violation of R145: counted on the pages of the burgee, and logged within R470. -/
def State.windowViolation (s : State) (b origin m : Nat) (write : Bool) : State :=
  let s := { s with ports := { s.ports with wviol := tset 0 s.ports.wviol b (tget 0 s.ports.wviol b + 1) } }
  (s.countSat LOG_VVCOUNT_COUNT).violation b origin 0x31 [m, s.flag m, if write then 1 else 0]

/-- A window read: the state, the words, and whether R7 or R469 refused it. -/
def State.readSlot (s : State) (o : Origin) (a n : Nat) : State × List Nat × Bool :=
  match s.outside o a true with
  | some (b, why) => (s.viewViolation b (orgOf o) a false why, List.replicate n 0, true)
  | none =>
    match slotRange a n with
    | none => (s.unmapped o a false, List.replicate n 0, true)
    | some (m, off) =>
      match tenantOf o with
      | none => (s, s.slotWords m off n, false)
      | some b =>
        if s.flag m = slotHOST then (s, s.slotWords m off n, false)
        else if s.flag m = slotPOISONED then (s, List.replicate n poisonPattern, false)
        else (s.windowViolation b (orgOf o) m false, List.replicate n poisonPattern, false)

/-- A write to a slot of burgee b by the flag rules of R145. -/
def State.writeOwned (s : State) (b origin m off : Nat) (ws : List Nat) : State :=
  if s.flag m = slotHOST then s.putSlot origin m off ws
  else if s.flag m = slotPOISONED then s
  else s.windowViolation b origin m true

/-- A window write (R145, R148). -/
def State.writeSlot (s : State) (o : Origin) (a : Nat) (ws : List Nat) : State :=
  match s.outside o a true with
  | some (b, why) => s.viewViolation b (orgOf o) a true why
  | none =>
    match slotRange a ws.length with
    | none => s.unmapped o a true
    | some (m, off) =>
      match s.grantOf? m with
      | some g => s.writeOwned g.burgee (orgOf o) m off ws
      | none => s.putSlot (orgOf o) m off ws

/-! ### Packets (R422, R425, R428 to R431) -/

/-- STATUS of an RSP (R429). -/
def rspStatus (rejected : Bool) (ws : List Nat) : Nat :=
  if rejected then 2 else if ws.any (· == poisonPattern) then 1 else 0

/-- A posted packet has been performed, and its credits are released (R422). -/
def State.donePosted (s : State) (p n : Nat) : State :=
  let x := s.linkOf p
  s.setLink p { x with posted := x.posted - n, prel := (x.prel + n) % 2 ^ 16 }

/-- A read packet has been performed: its credit is released and its RSP handed to the port. -/
def State.answer (s : State) (p : Nat) (k : Pkt) : State :=
  let x := s.linkOf p
  (s.setLink p { x with nonPosted := x.nonPosted - 1, nrel := (x.nrel + 1) % 2 ^ 16 }).sendPkt p k

/-- LINK_RREG (R7, R8, R12, R425, R428 to R431, R469 to R471). -/
def execLinkRreg (p : LinkPort) (view : Bool) (func : Fin 256) (burgee : Fin 4096) (tag : BitVec 12) (a : BitVec 48)
    (s : State) : Res := s.run fun s =>
  let r := s.readReg (.link p view func burgee) a.toNat
  r.1.answer p ⟨8, view, func, burgee, tag.toNat, rspStatus r.2.2 [r.2.1], a.toNat % 2 ^ 32, [r.2.1]⟩

/-- LINK_WREG (R428, R430, R431). A WREG carries its data in header word 3, so its address has 32 bits (R426). -/
def execLinkWreg (p : LinkPort) (view : Bool) (func : Fin 256) (burgee : Fin 4096) (a : BitVec 32) (v : Word) (s : State) :
    Res := s.run fun s => (s.writeReg (.link p view func burgee) a.toNat v.toNat).donePosted p 1

/-- LINK_WRD (R145, R146, R148, R428, R429): `lenw` is LENW, the words less 1. -/
def execLinkWrd (p : LinkPort) (view : Bool) (func : Fin 256) (burgee : Fin 4096) (tag : BitVec 12) (lenw : Fin 1024)
    (a : BitVec 48) (s : State) : Res := s.run fun s =>
  let r := s.readSlot (.link p view func burgee) a.toNat (lenw.val + 1)
  r.1.answer p ⟨8, view, func, burgee, tag.toNat, rspStatus r.2.2 r.2.1, a.toNat, r.2.1⟩

/-- LINK_WWR (R145, R148, R428). -/
def execLinkWwr (p : LinkPort) (view : Bool) (func : Fin 256) (burgee : Fin 4096) (a : BitVec 48) (data : List Word)
    (s : State) : Res := s.run fun s =>
  (s.writeSlot (.link p view func burgee) a.toNat (data.map BitVec.toNat)).donePosted p ((16 + 4 * data.length + 63) / 64)

end Sys2Proof.Machine
end

