-- ==== Sys2Proof/Machine/ImageBytes.lean ====
section
/-! DEFINITION. Machine/ImageBytes.lean: the bytes of a Virpol image: the slot header and its directory (R474 to R476), the tables
of a section (R478), and patches (R324, R325). SHA-384, ECDSA P-384 and AES-256-GCM are free functions of Config. -/

namespace Sys2Proof.Machine

/-- A little-endian number. -/
def leNum : List Nat → Nat
  | [] => 0
  | x :: xs => x + 2 ^ 8 * leNum xs

/-- The little-endian number in `n` bytes from an offset on. -/
def leAt (b : List (BitVec 8)) (off n : Nat) : Nat := leNum (((b.drop off).take n).map BitVec.toNat)

/-- Every byte of a range is 0. -/
def zerosAt (b : List (BitVec 8)) (off n : Nat) : Bool := ((b.drop off).take n).all (fun x => x == 0)

/-! ### Tables (R478) -/

/-- One bit into the CRC-32 of IEEE 802.3, least significant bit first. -/
def crc32Step (r : Nat) (b : Bool) : Nat := if xor (r % 2 = 1) b then r / 2 ^^^ 0xEDB88320 else r / 2

/-- The CRC-32 of IEEE 802.3 over bytes. -/
def crc32 (l : List (BitVec 8)) : Nat :=
  (l.foldl (fun r v => (bitsLsb 8 v.toNat).foldl crc32Step r) 0xFFFFFFFF) ^^^ 0xFFFFFFFF

/-- The tables that follow one another in a section: each a 16-byte header and a body of the header's LENGTH, with a CRC over the
header's bytes 0 to 11 and the body (R478). -/
def tablesOk : Nat → List (BitVec 8) → Bool
  | 0, _ => false
  | _ + 1, [] => true
  | k + 1, b =>
    let n := leAt b 8 4
    decide (16 + n ≤ b.length) && leAt b 12 4 == crc32 (b.take 12 ++ (b.drop 16).take n) && tablesOk k (b.drop (16 + n))

/-- Every table of a section passes. -/
def sectionTablesOk (b : List (BitVec 8)) : Bool := tablesOk (b.length + 1) b

/-! ### The slot header (R474 to R476) -/

/-- A directory entry (R476). -/
structure DirEntry where
  type : Nat
  steppings : Nat
  offset : Nat
  length : Nat
  digest : List (BitVec 8)
  deriving DecidableEq, Repr

/-- Directory entry `i` of a header, its 64 bytes from offset 384 + 64 × i on. -/
def dirEntry (b : List (BitVec 8)) (i : Nat) : DirEntry :=
  let o := 384 + 64 * i
  ⟨leAt b o 2, leAt b (o + 4) 4, leAt b (o + 8) 4, leAt b (o + 12) 4, (b.drop (o + 16)).take 48⟩

/-- MAGIC and FORMAT have their values, and every reserved byte of a header is 0 (R474, R475). -/
def headerForm (b : List (BitVec 8)) : Bool :=
  b.length == 4576 && leAt b 0 4 == 0x4D495056 && leAt b 4 2 == 1 && zerosAt b 7 1 && zerosAt b 36 28 &&
    leAt b 65 1 / 2 == 0 && zerosAt b 66 2 && zerosAt b 200 56 && zerosAt b 353 31 &&
    (List.range 64).all (fun i => zerosAt b (384 + 64 * i + 2) 2)

/-- The digest of PUBKEY is the fuse block's, and SIG verifies over bytes 0 to 4,479 (R475). -/
def headerSigned (b : List (BitVec 8)) : Bool :=
  let key := (b.drop 256).take 97
  Config.sha384 key == Config.keyDigest && Config.p384 key (b.take 4480) ((b.drop 4480).take 96)

/-- The directory of a header: its NSECT entries. -/
def headerDir (b : List (BitVec 8)) : List DirEntry := (List.range (leAt b 14 2)).map (dirEntry b)

/-- Two sections lie apart. -/
def DirEntry.apart (x y : DirEntry) : Bool := decide (x.offset + x.length ≤ y.offset ∨ y.offset + y.length ≤ x.offset)

/-- No two sections of a directory overlap. -/
def dirApart : List DirEntry → Bool
  | [] => true
  | x :: xs => xs.all x.apart && dirApart xs

/-- The entries of a TYPE. -/
def dirCount (l : List DirEntry) (t : Nat) : Nat := (l.filter (fun x => x.type == t)).length

/-- A directory as R476 requires it: places, types, STEPPINGS, and zeros from NSECT onward. -/
def dirOk (b : List (BitVec 8)) : Bool :=
  let l := headerDir b
  let n := leAt b 14 2
  let tot := leAt b 32 4
  decide (1 ≤ n ∧ n ≤ 64 ∧ tot ≤ 24 * 2 ^ 20) && zerosAt b (384 + 64 * n) (64 * (64 - n)) &&
    l.all (fun x => decide (0x2000 ≤ x.offset ∧ x.offset % 4096 = 0 ∧ x.offset + x.length ≤ tot ∧ 1 ≤ x.type ∧ x.type ≤ 10)
      && (x.type == 9 || x.steppings == 0)) &&
    (List.range' 1 7).all (fun t => dirCount l t == 1) && decide (dirCount l 8 ≤ 1 ∧ dirCount l 10 ≤ 1) && dirApart l

/-- The fields that start takes from a header's bytes, with the REPAIR section that start reads beside it (R377, R474). -/
def headerOf (h : SlotBytes) : Header :=
  let b := h.head
  let rep := (headerDir b).find? (fun x => x.type == 10)
  { head := b, cl := leAt b 6 1, board := leAt b 12 2, imgseq := leAt b 8 4
    ident := (List.range 4).map (fun w => leAt b (16 + 4 * w) 4)
    split := leAt b 64 1, autoReadd := leAt b 65 1 % 2 = 1, evtdst := leAt b 68 4
    priv := (List.range 32).map (fun w => leAt b (72 + 4 * w) 4)
    repairOk := match rep with
      | some x => (Config.sha384 h.repair).toNat == leAt x.digest.reverse 0 48 && sectionTablesOk h.repair
      | none => true
    repairs := if rep.isSome then h.repairs else [] }

/-- The digests of the sections match the directory, and the sections stand as R476 requires (check 1 of R479). -/
def sectionsOk (h : Header) (l : List (List (BitVec 8))) : Bool :=
  let d := headerDir h.head
  dirOk h.head && l.length == d.length &&
    (d.zip l).all (fun p => p.2.length == p.1.length && (Config.sha384 p.2).toNat == leAt p.1.digest.reverse 0 48)

/-- Every table of the sections other than patches passes (check 2 of R479). -/
def allTablesOk (h : Header) (l : List (List (BitVec 8))) : Bool :=
  ((headerDir h.head).zip l).all (fun p => p.1.type == 9 || sectionTablesOk p.2)

/-! ### Patches (R324, R325, R477) -/

/-- The runs of a patch's plaintext: a 16-byte header with START and COUNT - 1 and twelve zero bytes, then COUNT control words;
none where the plaintext has another form. -/
def patchRuns : Nat → List (BitVec 8) → Option (List (Nat × List (BitVec 128)))
  | 0, _ => none
  | _ + 1, [] => some []
  | k + 1, b =>
    let n := leAt b 2 2 + 1
    if b.length < 16 + 16 * n ∨ 16384 ≤ leAt b 0 2 ∨ zerosAt b 4 12 = false then none
    else
      let ws := (List.range n).map (fun i => BitVec.ofNat 128 (leAt b (16 + 16 * i) 16))
      (patchRuns k (b.drop (16 + 16 * n))).map (fun r => (leAt b 0 2, ws) :: r)

/-- A patch of an image whose directory entry names steppings, with the header's public key (R324, R325): what its checks
find. -/
def patchOf (key : List (BitVec 8)) (steppings : Nat) (b : List (BitVec 8)) : Patch :=
  let n := leAt b 20 4
  let plain := Config.aesGcm (leAt b 7 1) ((b.drop 24).take 12) (b.take 24) ((b.drop 64).take n) ((b.drop 36).take 16)
  let runs := plain.bind (fun x => patchRuns (x.length + 1) x)
  { dirSteppings := steppings, steppings := leAt b 8 4, clMin := leAt b 6 1, clusters := leAt b 12 1, seqno := leAt b 16 4
    signed := leAt b 0 4 == 0x53515054 && leAt b 4 2 == 1 && decide (leAt b 7 1 ≤ 3) && zerosAt b 13 3 && zerosAt b 52 12 &&
      n % 16 == 0 && b.length == 160 + n && Config.p384 key (b.take (64 + n)) (b.drop (64 + n))
    opened := runs.isSome
    runs := runs.getD [] }

/-- The patches that follow one another in a PATCH section. -/
def splitPatches : Nat → List (BitVec 8) → List (List (BitVec 8))
  | 0, _ => []
  | _ + 1, [] => []
  | k + 1, b => b.take (160 + leAt b 20 4) :: splitPatches k (b.drop (160 + leAt b 20 4))

/-- The patches of an image, in image order (R325, R477). -/
def patchesOf (h : Header) (l : List (List (BitVec 8))) : List Patch :=
  ((headerDir h.head).zip l).flatMap (fun p =>
    if p.1.type = 9 then (splitPatches (p.2.length + 1) p.2).map (patchOf ((h.head.drop 256).take 97) p.1.steppings) else [])

end Sys2Proof.Machine
end

