-- ==== Sys2Proof/Machine/ImageCheck.lean ====
section
/-! DEFINITION. Machine/ImageCheck.lean: what start checks before it uses a slot: the header (R475), the sections (R479) and
the patches (R325). The checks of the sections are made on the registers as the image's loads set them. -/

namespace Sys2Proof.Machine

/-! ### The header (R475) -/

/-- A header verifies. -/
def State.headerOk (s : State) (h : Header) : Bool :=
  headerForm h.head && headerSigned h.head && decide (Config.imageFloor.toNat ≤ h.imgseq) &&
    bitAt h.board (s.get TOP_PERSONA_STRAPS) &&
    decide (1 ≤ h.cl ∧ h.cl ≤ 31) && bitAt (Config.clSup.toNat * 2) h.cl

/-! ### The register loads (R476) -/

/-- The registers as an image loads them. -/
def State.load (s : State) : List (Nat × BitVec 32) → State
  | [] => s
  | p :: ps => State.load (s.wr p.1 p.2) ps

/-! ### Check 3: the zone tables (R165, R204 to R206, R233) -/

/-- Word `w` of entry `z` on one surface. -/
def State.zw (s : State) (c f z w : Nat) : Nat := s.get (RCH_ZTAB_WORD c f (16 * z + w))

/-- The reserved bits of an entry, used or not, are 0 (R205). -/
def State.zoneReserved (s : State) (c f z : Nat) : Bool :=
  let w (i : Nat) : Nat := s.zw c f z i
  decide (bitsOf (w 0) 26 6 = 0 ∧ bitsOf (w 1) 26 6 = 0 ∧ bitsOf (w 5) 24 8 = 0 ∧ bitsOf (w 6) 30 2 = 0 ∧
    bitsOf (w 7) 18 14 = 0 ∧ bitsOf (w 8) 20 12 = 0 ∧ bitsOf (w 9) 17 15 = 0 ∧ bitsOf (w 10) 16 16 = 0)

/-- The field ranges of a used entry (R205). -/
def State.zoneRanges (s : State) (c f z : Nat) : Bool :=
  let w (i : Nat) : Nat := s.zw c f z i
  decide (bitsOf (w 3) 20 4 ∈ List.range' 1 12) && decide (4 ≤ bitsOf (w 4) 0 8 ∧ bitsOf (w 4) 0 8 ≤ 32) &&
    decide (4 ≤ bitsOf (w 4) 8 5) && decide (bitsOf (w 4) 13 3 ≤ 6) && decide (bitsOf (w 3) 15 5 ≤ 24) &&
    decide (0x11DC477 ≤ w 2 ∧ w 2 ≤ 0x3333333)

/-- The entry's fragments fit the track (R206). -/
def State.zoneFits (s : State) (c z : Nat) : Bool :=
  decide (s.zFrags c z * (s.fragLen c z + 64) ≤ s.wpr * s.zData c z)

/-- The entry begins and ends on region boundaries (R233), above the entry before it (R204). -/
def State.zonePlaced (s : State) (c z : Nat) : Bool :=
  let base := s.get (STR_LAYOUT0_BASE_TRACK c)
  decide (base ≤ s.zStart c z ∧ s.zStart c z ≤ s.zEnd c z ∧ (s.zStart c z - base) % 1024 = 0 ∧
    (s.zEnd c z + 1 - base) % 1024 = 0) && (z == 0 || decide (s.zEnd c (z - 1) < s.zStart c z))

/-- The fields that are equal on all surfaces (R204) equal those of surface 0 of cluster 0. -/
def State.zoneEqual (s : State) (c f z : Nat) : Bool :=
  [(0, 0, 26), (1, 0, 26), (2, 0, 32), (3, 0, 11), (4, 0, 8), (9, 0, 17), (10, 0, 16)].all (fun (p : Nat × Nat × Nat) =>
    bitsOf (s.zw c f z p.1) p.2.1 p.2.2 == bitsOf (s.zw 0 0 z p.1) p.2.1 p.2.2)

/-- Check 3 of R479. -/
def State.zonesOk (s : State) : Bool :=
  (List.range 8).all (fun c => (List.range 64).all (fun z =>
    (List.range 32).all (fun f => s.zoneEqual c f z && s.zoneReserved c f z && (s.zFrags c z == 0 || s.zoneRanges c f z)) &&
      (s.zFrags c z == 0 || (s.zoneFits c z && s.zonePlaced c z))))

/-! ### Checks 4 to 7 -/

/-- Check 4: the wedges and the servo gaps (R271, R479). A gap is 480 ns, 4,608 ROOT cycles, or more, and holds the
392 servo bits. -/
def State.formatOk (s : State) : Bool :=
  decide (400 ≤ s.wpr ∧ s.wpr ≤ 720) && decide (666666 ≤ s.wpr * s.wt / 2 ^ 16 ∧ s.wpr * s.wt / 2 ^ 16 ≤ 833333) &&
    (List.range 8).all (fun c => (List.range 64).all (fun z => s.zFrags c z == 0 ||
      decide (4608 * 2 ^ 24 ≤ s.zf c z 10 0 16 * s.zf c z 2 0 32 ∧
        servoFields.sum * s.get (SRV_CFG0_SV_BITPER c) ≤ s.zf c z 10 0 16 * s.zf c z 2 0 32)))

/-- The rows of a seek table from row `i` on, after a row (dmax, wedges) (R287). -/
def State.seekRowsOk (s : State) (c : Nat) : Nat → Nat → Option (Nat × Nat) → Bool
  | 0, _, _ => false
  | n + 1, i, p =>
    let d := s.get (SRV_SEEK_D_DMAX c i)
    let w := s.get (SRV_SEEK_W_WEDGES c i)
    let asc := match p with
      | some q => decide (q.1 < d ∧ q.2 ≤ w)
      | none => true
    asc && decide (1 ≤ w) && (if d = 0x3FFFFFF then decide (w ≤ s.wpr * 64) else State.seekRowsOk s c n (i + 1) (some (d, w)))

/-- Check 5: the seek tables (R287). -/
def State.seeksOk (s : State) : Bool := (List.range 8).all (fun c => s.seekRowsOk c 32 0 none)

/-- WARM_W of one lane covers the ramp from the IDLE target to the READ target (R68, R479). -/
def State.warmCovers (s : State) (c f : Nat) : Bool :=
  decide (s.get (LAN_CLTGT1_IDLE c f) - s.get (LAN_CLTGT0_READ c f) ≤
    s.get (LAN_CLCOEF0_RAMP c f) * (s.get LOOP_CLCFG1_WARM_W - s.get LOOP_CLCFG_HOLDOFF - 1)) &&
    decide (s.get LOOP_CLCFG_HOLDOFF + 1 ≤ s.get LOOP_CLCFG1_WARM_W)

/-- Check 6: the loop coefficients (R68, R333, R347). -/
def State.loopsOk (s : State) : Bool :=
  (List.range 8).all (fun c => s.is (LOOP_BCOEF1_KI c) && (List.range 32).all (fun f =>
    s.is (LAN_CLCOEF1_KI c f) && s.warmCovers c f)) &&
    s.is LOOP_SPCOEF1_SP_KI && decide (s.get LOOP_SPREF_PHASE_CLAMP + 2 * s.get LOOP_SPCOEF0_SP_B ≤ s.term 6) &&
    decide (s.get LOOP_CLCFG1_WARM_W < s.get LOOP_CLCFG_IDLE_W)

/-- FRAGS_min of a cluster's zone table. -/
def State.fragsMin (s : State) (c : Nat) : Nat :=
  (((List.range 64).map (s.zFrags c)).filter (· != 0)).foldl min 2047

/-- DUMPMIN_US of a cluster (R255). -/
def State.dumpMin (s : State) (c : Nat) : Nat :=
  let f := s.fragsMin c
  let n := s.seek c 1024 + 2 + (258 * s.wpr + f - 1) / f
  (5 * s.wt * n + 400 * 2 ^ 16 - 1) / (400 * 2 ^ 16)

/-- Check 7: the power-fail phase (R255). -/
def State.powerFailOk (s : State) : Bool :=
  let w := s.get LOOP_PF_CFG_WRITE_MS
  decide (w ≤ 20) && (List.range 8).all (fun c => decide (s.dumpMin c ≤ w * 1000))

/-! ### Checks 8, 10 and 11 -/

/-- Check 8: the 297 reactions (R445). -/
def reactionsOk (l : List Nat) : Bool :=
  l.length == 297 && (List.range 297).all (fun n =>
    let r := l.getD n 0
    decide (r ≤ 4) && (r != 2 || (blockOf n 0).isSome) && (n != srcPFREC || r == 3))

/-- Check 10: the budget rows (R89). -/
def State.rowsOk (s : State) (rows : List ImgRow) : Bool :=
  rows.all (fun r => decide (r.cluster < 8 ∧ 1 ≤ r.key ∧ r.key < 4101 ∧ r.share ≤ r.ceiling ∧ r.ceiling ≤ s.capOf ∧ 1 ≤ r.depth
    ∧ r.depth ≤ 64)) &&
    (List.range 8).all (fun c =>
      let l := rows.filter (fun r => r.cluster == c)
      decide (l.foldl (fun n r => n + r.share) 0 ≤ s.capOf) &&
        decide ((l.filter (fun r => decide (r.key < 4096))).length ≤ 1024))

/-- The credits of a die's enabled ports (R131). -/
def portCredits (ports : List (Nat × BitVec 32)) (d : Nat) : Nat :=
  (ports.filter (fun p => portDie p.1 == d && bitAt p.2.toNat 31)).foldl (fun n p => n + 2 * bitsOf p.2.toNat 12 9) 0

/-- One port configuration is valid (R131, R153). -/
def portOk (p : Nat × BitVec 32) : Bool :=
  decide (p.1 < 1024) && decide (1 ≤ bitsOf p.2.toNat 12 9 ∧ bitsOf p.2.toNat 12 9 ≤ 256) &&
    (!bitAt p.2.toNat 31 || bitsOf p.2.toNat 0 12 != 0)

/-- Grants placed one after the other, each valid as a SET would be (R147). -/
def State.grantsOk (s : State) : List (Nat × Grant) → Bool
  | [] => true
  | p :: ps =>
    let r := s.grantSet p.1 p.2
    r.2 == 0 && State.grantsOk r.1 ps

/-- Check 11: the TENANT section (R131, R147, R153, R154). -/
def State.tenantsOk (s : State) (x : Image) : Bool :=
  x.ports.all portOk && (List.range 2).all (fun d => decide (portCredits x.ports d ≤ 98304)) &&
    x.rights.all (fun p => decide (p.2.cnt ≠ 0 ∧ p.2.base + p.2.cnt - 1 ≤ s.capacity ∧ p.2.burgee ≠ 0)) && s.grantsOk x.grants

/-- TPT.CAPACITY (R236). -/
def State.capacityOf (s : State) : Nat :=
  let n := (List.range 64).foldl (fun n z => n + s.zTracks 0 z * s.zFrags 0 z) 0
  240 * (n - s.get (STR_LAYOUT1_SYS_TRACKS 0) * s.zFrags 0 0) - 1

/-- The registers that step 6 computes from the image's loads (R236, R255). -/
def State.computed (s : State) : State :=
  let cap := s.capacityOf
  let s := (s.wr TPT_CAPACITY_LO (BitVec.ofNat 32 cap)).wr TPT_CAPACITY_HI (BitVec.ofNat 32 (cap / 2 ^ 32))
  State.each s (fun c s => s.set (STR_DUMPMIN_DUMPMIN_US c) (s.dumpMin c)) (List.range 8)

/-- The first check of R479 that an image fails, 0 for none. -/
def State.imageCheck (s : State) (h : Header) (x : Image) : Nat :=
  let t := (s.load x.loads).computed
  if !sectionsOk h x.sections then 1
  else if !allTablesOk h x.sections then 2
  else if !t.zonesOk then 3
  else if !t.formatOk then 4
  else if !t.seeksOk then 5
  else if !t.loopsOk then 6
  else if !t.powerFailOk then 7
  else if !reactionsOk x.react then 8
  else if h.split = 3 then 9
  else if !t.rowsOk x.rows then 10
  else if !t.tenantsOk x then 11
  else 0

/-! ### Patches (R325, R477) -/

/-- The runs of a patch lie apart and within the store. -/
def runsOk : List (Nat × List (BitVec 128)) → Bool
  | [] => true
  | r :: rs => decide (r.1 + r.2.length ≤ 16384) && rs.all (fun q => decide (r.1 + r.2.length ≤ q.1 ∨ q.1 + q.2.length ≤ r.1)) &&
    runsOk rs

/-- The boot firmware considers a patch section of an image (R477). -/
def Patch.considered (p : Patch) : Bool := bitAt p.dirSteppings Config.stepping.toNat

/-- A patch passes the checks of R325 at a compatibility level. -/
def Patch.passes (p : Patch) (cl : Nat) : Bool :=
  p.signed && decide (p.clMin ≤ cl) && bitAt p.steppings Config.stepping.toNat &&
    decide (Config.patchFloor.toNat ≤ p.seqno) && p.opened && runsOk p.runs

/-- The index of the first patch considered that fails. -/
def badPatch (cl : Nat) (l : List Patch) : Option Nat := l.findIdx? (fun p => p.considered && !p.passes cl)

end Sys2Proof.Machine
end

