-- ==== Sys2Proof/Machine/Start.lean ====
section
/-! DEFINITION. Machine/Start.lean: start, step by step (R480 to R485, R501), with what its steps do: the root lock (R30),
slot selection and repair (R377, R475, R481), the memories (R251, R366, R367), the image (R325, R326, R479), the tables
(R88, R91, R487), the drive electronics (R343), spin-up (R345), the recovery of each cluster (R253, R256, R263, R393, R462,
R464) and completion (R482, R483). -/

namespace Sys2Proof.Machine

/-! ### Failures and completion (R482 to R484) -/

/-- Origin of what start stores. -/
def orgImg : Nat := orgInt 1 0 0

/-- A result of R484: the IMAGE_LOAD event and IMG.RESULT. -/
def State.startResult (s : State) (code detail : Nat) : State :=
  let s := s.event orgImg 2 [s.get IMG_SEQ_IMGSEQ, code, detail]
  (s.set IMG_RESULT_CODE code).set IMG_RESULT_DETAIL detail

/-- Outside a freeze, what has arrived at the recorder is stored. -/
def State.drainNow (s : State) : State := if s.is LOG_STAT_FROZEN then s else s.drainIntake s.log.intake

/-- A failure of class HALT: start ends in place, ERR_N is low; what has arrived at the recorder is stored. -/
def State.startHalt (s : State) (code detail : Nat) : State :=
  let s := (s.startResult code detail).drainNow
  { s with clk := { s.clk with halted := true, monErr := true } }

/-- A cluster has been kept out. -/
def State.isOut (s : State) (c : Nat) : Bool := bitAt (s.get IMG_OUT_CLUSTERS) c

/-- A cluster is kept out: handled as at loss of its actuator, its servo state LOST (R482). -/
def State.keepOut (s : State) (c : Nat) : State :=
  if s.isOut c then s
  else (s.set IMG_OUT_CLUSTERS (putBit (s.get IMG_OUT_CLUSTERS) c true)).loseCluster c

/-- Every cluster has opened or been kept out: START is stored and DONE set (R482). -/
def State.startComplete (s : State) : State :=
  if !s.is IMG_STAT_DONE && (List.range 8).all (fun c => s.isOut c || tget 0 s.start.clu c == 12) then
    let test := if s.is TOP_PERSONA_TEST_MODE then [1] else []
    (s.event orgImg 1 ([(s.rd TOP_RSTCAUSE).toNat, s.get TOP_PERSONA_CL] ++ test)).set IMG_STAT_DONE 1
  else s

/-- Every cluster is kept out (class ALL), and start completes. -/
def State.allOut (s : State) : State := (State.each s (fun c s => s.keepOut c) (List.range 8)).startComplete

/-! ### Slots (R377, R475, R481) -/

/-- The header of the slot in use. -/
def State.hdr? (s : State) : Option Header := if s.is IMG_STAT_SLOT then s.start.hdrB else s.start.hdrA

/-- One DRAM row entry of a REPAIR section (R377). -/
def State.repairRow (s : State) (e : Nat × Bool) : State :=
  if s.start.repaired.contains e.1 then s
  else if e.2 then
    State.addCount { s with start := { s.start with repaired := s.start.repaired ++ [e.1] } } MEM_REPAIR_IMG_USED 1
  else (s.countSat MEM_REPAIR_SKIPPED).event orgImg 0x44 [e.1]

/-- The link fields of a header (R439, R474). -/
def State.linkFields (s : State) (h : Header) : State :=
  let s := ((s.set LNK_CFG_SPLIT h.split).set LNK_CFG_AUTO_READD (if h.autoReadd then 1 else 0)).wr LNK_EVTDST
    (BitVec.ofNat 32 h.evtdst)
  State.each s (fun i s => s.set (LNK_PORT_PRIV_FN (i / 8) (i % 8)) (h.priv.getD i 0)) (List.range 32)

/-- Two headers give the link the same fields. -/
def sameLink (a b : Header) : Bool :=
  a.split == b.split && a.autoReadd == b.autoReadd && a.evtdst == b.evtdst && a.priv == b.priv

/-- Link training begins with a header's fields; where another slot's differing fields were in force, the ports go to DOWN
first (R481). -/
def State.trainWith (s : State) (old : Option Header) (h : Header) : State :=
  match old with
  | some g =>
    if sameLink g h then s
    else
      let s := State.each s (fun p s => (s.setLink p LinkPortSt.init).setPortState p lkDOWN) s.linkPorts
      let s := s.linkFields h
      State.each s (fun p s => s.equalize p) s.linkPorts
  | none =>
    let s := s.linkFields h
    State.each s (fun p s => s.equalize p) s.linkPorts

/-- A failure of class FALLBACK (R481): start goes back to step 3 with the other slot, where its header verified and it has
not been tried; else NO_IMAGE. -/
def State.fallback (s : State) (code detail : Nat) : State :=
  let s := s.startResult code detail
  let other := if s.is IMG_STAT_SLOT then 0 else 1
  let h := if other = 0 then s.start.hdrA else s.start.hdrB
  if h.isSome && !bitAt s.start.tried other then
    ((s.set IMG_STAT_SLOT other).set IMG_STAT_FALLBACK 1).set IMG_STAT_STEP 3
  else ((s.set IMG_STAT_NO_IMAGE 1).set TOP_PERSONA_CL 0).allOut

/-- The work of step 3 on the slot selected: its identity, its link fields, its repairs. `old` is the slot that was in use. -/
def State.useSlot (s : State) (old : Option Header) : State :=
  match s.hdr? with
  | none => s
  | some h =>
    let i := s.get IMG_STAT_SLOT
    let s := { s with start := { s.start with tried := putBit s.start.tried i true } }
    let s := s.set IMG_SEQ_IMGSEQ h.imgseq
    let s := State.each s (fun w s => s.set (IMG_IDENT_IDENT w) (h.ident.getD w 0)) (List.range 4)
    let s := s.trainWith old h
    if !h.repairOk then s.fallback 4 0 else (h.repairs.foldl State.repairRow s).set IMG_STAT_STEP 4

/-- Step 3: the fuse block, the headers, the selection. -/
def State.stepHeaders (s : State) (fuse : Option (BitVec 12)) (a b : SlotBytes) : State :=
  match fuse with
  | none => s.startHalt 2 0
  | some n =>
    let s := s.set MEM_REPAIR_FUSE_USED n.toNat
    let ok (h : SlotBytes) : Option Header := (some (headerOf h)).filter s.headerOk
    let s := { s with start := { s.start with hdrA := ok a, hdrB := ok b } }
    match s.start.hdrA, s.start.hdrB with
    | none, none => (s.set TOP_PERSONA_CL 0).startHalt 3 0
    | some _, none => (s.set IMG_STAT_SLOT 0).useSlot none
    | none, some _ => (s.set IMG_STAT_SLOT 1).useSlot none
    | some x, some y => (s.set IMG_STAT_SLOT (if x.imgseq < y.imgseq then 1 else 0)).useSlot none

/-! ### Memory (R251, R366, R367) -/

/-- Step 4. `kept` names the channels found in self-refresh: of them, RLIST and RBUF stay; everything else of the DRAM stack
is written with clean zero words. A channel that was not kept has no steering map. -/
def State.stepMemory (s : State) (failed : Option (Fin 16)) (kept : Nat) (rl rb : Nat) : State :=
  match failed with
  | some ch =>
    let s := (s.startResult 5 ch.val).allOut
    { s with clk := { s.clk with monErr := true } }
  | none =>
    let all := decide (kept = 0xFFFF)
    let rl := if all then rl else 0xFF
    let rb := if all then rb else 0xFF
    let keep (k : Nat) : Bool := decide (0x600000000 ≤ k ∧ k < 0x630000000) && bitAt kept (channelOf k)
    let keepCell (p : Host.Cell) : Bool := decide (spaceKey 1 0 ≤ p.1) || keep p.1
    let s := { s with mem := s.mem.filter keepCell, memX := s.memX.filter keepCell
                      start := { s.start with badLists := rl } }
    let s := State.each s (fun ch s => if bitAt kept ch then s
      else (s.wr (MEM_CH_STAT ch) (resetWord (MEM_CH_STAT ch))).wr (MEM_CH_SWEEP ch) 0) (List.range 16)
    let s := State.each s (fun c s => if bitAt rb c then s.setStr c { s.strOf c with rbuf := [], rbufData := [] } else s)
      (List.range 8)
    let s := (s.set MEM_STAT_INIT_DONE 0xFFFF).set MEM_STAT_SELFREF_KEPT (if rl = 0 ∧ rb = 0 then 1 else 0)
    s.set IMG_STAT_STEP 5

/-! ### The image (R301, R325, R326, R479) -/

/-- The words of a run, from its START on. -/
def putRun (t : Tab (Option (BitVec 136))) (a : Nat) : List (BitVec 128) → Tab (Option (BitVec 136))
  | [] => t
  | w :: ws => putRun (tset none t a (some (withParity w.toNat))) (a + 1) ws

/-- The store of a cluster: the ROM's words with the patches named for the cluster, in image order; locked, and the die's
copy taken from it (R325, R326). -/
def State.loadStore (s : State) (ps : List Patch) (c : Nat) : State :=
  let mine := ps.filter (fun p => p.considered && bitAt p.clusters c)
  let store := mine.foldl (fun t p => p.runs.foldl (fun t r => putRun t r.1 r.2) t) []
  let s := s.setSeq c { s.seqOf c with loaded := true, store := store, copy := store }
  let s := (s.set (SEQ_PATCH_PATCHES c) mine.length).set (SEQ_PATCH_RUNS c)
    ((mine.map (fun p => p.runs.length)).foldl (· + ·) 0)
  (s.set (SEQ_PATCHSEQ_SEQNO c) ((mine.map Patch.seqno).foldl max 0)).set (SEQ_STAT_LOCKED c) 1

/-- Step 5. With the stores loaded the sequencers enter START, unless the TEST_MODE strap is high (R322, R483). -/
def State.stepImage (s : State) (x : Image) : State :=
  match s.hdr? with
  | none => s
  | some h =>
    let k := s.imageCheck h x
    if k ≠ 0 then s.fallback 6 k
    else match badPatch h.cl (patchesOf h x.sections) with
    | some i => s.fallback 7 i
    | none =>
      let s := (s.startResult 0 0).set TOP_PERSONA_CL h.cl
      let s := State.each s (fun c s => s.loadStore (patchesOf h x.sections) c) (List.range 8)
      let s := if s.is TOP_PERSONA_TEST_MODE then s else State.each s (fun c s => s.seqBegin c 1 0) (List.range 8)
      State.set { s with start := { s.start with image := some x } } IMG_STAT_STEP 6

/-! ### The tables (R88, R91, R445, R487) -/

/-- The rows of R88 where the image sets no others: key, SHARE = CEILING, DEPTH. -/
def ownRows : List (Nat × Nat × Nat) :=
  [(4096, 64, 16), (4097, 320, 16), (4098, 128, 64), (4099, 192, 64), (4100, 64, 4)]

/-- The budget rows of a cluster. -/
def State.loadRows (s : State) (rows : List ImgRow) (c : Nat) : State :=
  let t := s.tlOf c
  let dflt := ownRows.foldl (fun r p =>
    tset Row.init r p.1 { Row.init with used := true, share := p.2.1, ceiling := p.2.1, depth := p.2.2 }) []
  let rs := (rows.filter (fun r => r.cluster == c)).foldl (fun r p =>
    tset Row.init r p.key { Row.init with used := true, share := p.share, ceiling := p.ceiling, depth := p.depth }) dflt
  s.setTl c { t with rows := rs }

/-- A port of the TENANT section: its configuration and its credits (R131). -/
def State.loadPort (s : State) (p : Nat × BitVec 32) : State :=
  let d := portDie p.1
  let n := if bitAt p.2.toNat 31 then 2 * bitsOf p.2.toNat 12 9 else 0
  (s.wr (TPT_PORT_CFG p.1) p.2).set (TPT_CREDIT_CREDITED d) (s.get (TPT_CREDIT_CREDITED d) + n)

/-- A rights entry of the TENANT section. -/
def State.loadRights (s : State) (p : Nat × Rights) : State :=
  let e := { p.2 with valid := true }
  { s with ports := { s.ports with rights := tset Rights.init s.ports.rights p.1 e } }

/-- What an image gives the machine at step 6: register loads, reactions, budgets, tenants. -/
def State.applyImage (s : State) (x : Image) : State :=
  let s := (s.load x.loads).computed
  let s := State.each s (fun n s => s.set (FLT_SRC_REACT n) (x.react.getD n 0)) (List.range 297)
  let s := State.each s (fun c s => s.loadRows x.rows c) (List.range 8)
  let s := x.ports.foldl State.loadPort s
  let s := x.rights.foldl State.loadRights s
  x.grants.foldl (fun s p => (s.grantSet p.1 { p.2 with valid := true }).1) s

/-- A cluster's calibration tables; one that fails keeps the cluster out. -/
def State.calCluster (s : State) (p : Option CalCopy × Option CalCopy) (c : Nat) : State :=
  let r := s.loadCluster p c
  match r.2 with
  | none => r.1
  | some t => (r.1.startResult 9 t).keepOut c

/-- Step 6. -/
def State.stepTables (s : State) (prog : Option (Option CalCopy × Option CalCopy)) : State :=
  match s.start.image with
  | none => s
  | some x =>
    let s := s.applyImage x
    let s := match prog with
      | some p => { s with cal := { s.cal with copies := [p.1, p.2] } }
      | none => s
    let p := calOrder s.cal.copies
    match p.1 with
    | none => (s.startResult 8 0).allOut
    | some a =>
      let s := (s.set CAL_GEN_GEN a.gen).loadTable p tblTIMEBASE |>.1
      let s := State.each s (fun c s => s.calCluster p c) (List.range 8)
      ((s.set PRM_STATUS_ENGINE_UP 1).set IMG_STAT_STEP 7).startComplete

/-! ### Drive electronics and spin-up (R343, R345, R501) -/

/-- The work of step 7 on one cluster. -/
def State.preampUp (s : State) (answers : Nat) (c : Nat) : State :=
  if s.isOut c then s
  else if bitAt answers c then
    State.each (s.set (SRV_PCB_STAT_UP c) 1) (fun f s => s.clrStart c f) (List.range 32)
  else ((s.startResult 10 c).preampLost c).keepOut c

/-- Step 8 begins: start enables the spindle, and for 10 ms it only coasts and watches (R345). -/
def State.enterSpinup (s : State) : State :=
  ((s.spinBoth (fun x => { x with watching := true, since := s.now, seen3 := false, zeros := 0 })).queueSpmode 3 false).set
    IMG_STAT_STEP 8

/-- Step 7. With TEST_MODE high start ends here (R483); with PFAIL_N low it holds (R501). -/
def State.stepElectronics (s : State) (preamps : Nat) (motor : Bool) : State :=
  if !motor then ((s.startResult 11 0).raise srcMOTOR 0 (orgInt 13 0 0)).allOut
  else
    let s := State.each (s.set LOOP_MCB_STAT_UP 1) (fun c s => s.preampUp preamps c) (List.range 8)
    let s := { s with start := { s.start with armed := true } }
    if s.is TOP_PERSONA_TEST_MODE then s.allOut
    else if s.pf.low then { s with start := { s.start with pfHold := true } }
    else s.enterSpinup.startComplete

/-- The part of step 8 that follows SPEED_LOCK: the servos are enabled, and each cluster is in step 9. -/
def State.enableServo (s : State) (c : Nat) : State :=
  if s.isOut c then s
  else
    let s := s.set (SRV_STAT_STATE c) srvACQUIRE
    { s with start := { s.start with clu := tset 0 s.start.clu c 9 } }

/-- Step 8 ends with SPEED_LOCK, or fails with SPINUP_FAIL (R349). -/
def State.stepSpinup (s : State) : State :=
  if s.is LOOP_STAT_SPEED_LOCK then
    (State.each s (fun c s => s.enableServo c) (List.range 8)).set IMG_STAT_STEP 9
  else if s.is (FLT_SRC_COUNT srcSPINUP) || s.spState == spFAULT then (s.startResult 12 0).allOut
  else s

/-- START_PFAIL_HOLD_END (R501): PFAIL_N has been high for 10 ms, so it fell at least that long ago. -/
def execStartPfailHoldEnd (s : State) : Res := s.run fun s =>
  if s.start.pfHold ∧ s.pf.lowAt + 1000000 ≤ s.now then
    State.enterSpinup { s with start := { s.start with pfHold := false }, pf := { s.pf with low := false } }
  else s

/-! ### The clusters' own steps (R253, R256, R263, R393, R462, R464) -/

/-- A cluster goes on to a step; IMG.STAT.STEP shows the earliest step in which a cluster still is. -/
def State.clusterStep (s : State) (c n : Nat) : State :=
  let s := { s with start := { s.start with clu := tset 0 s.start.clu c n } }
  let steps := ((List.range 8).filter (fun k => !s.isOut k)).map (fun k => min 11 (tget 0 s.start.clu k))
  s.set IMG_STAT_STEP (steps.foldl min 11)

/-- A cluster that failed at steps 9 to 11 is kept out. -/
def State.clusterFails (s : State) (c : Nat) : State :=
  let s := s.keepOut c
  (s.clusterStep c 0).startComplete

/-- Home stripes of a cluster's dump. -/
def Media.dumpStripes (m : Media) : Nat :=
  ((m.dump.flatMap (fun i => match i.item with
    | .rbuf slot => [2 ^ 40 + slot]
    | .dirty l => l.map (fun p => p.1 / 30)
    | _ => [])).eraseDups).length

/-- Step 9 of one cluster: it has left START, or its servo was lost in acquiring. -/
def State.stepLocked (s : State) (c : Nat) : State :=
  if s.get (SRV_STAT_STATE c) = srvLOST then (s.startResult 13 c).clusterFails c
  else if (s.servoOf c).anchored && s.get (SEQ_STAT_MODE c) == 2 then
    (s.addSat IMG_RECOVER_STRIPES (s.mediaOf c).dumpStripes).clusterStep c 10
  else s

/-- A surface lost for the life of the module (R263): its lane reads and writes nothing; SURFACE_LOST is stored. -/
def State.surfaceWasLost (s : State) (c f : Nat) : State :=
  let s := ((s.set (LAN_STAT_LOST c f) 1).set (LAN_MACODE_CODE c f) 0).clrOff c f
  s.event orgImg 0x45 [c, f]

/-- The maps of a cluster: lost surfaces, remap table with its weak counts, skew table with the factory's where the map tracks
are blank, and the map-track repair list where step 4 found RLIST bad (R251, R263, R267). The changes in the header of a dump,
where `header` says that it can be read, are merged before the replay changes entries (R256). -/
def State.readMaps (s : State) (c : Nat) (header : Bool) : State :=
  let m := s.mediaOf c
  let head := if header then m.head else none
  let lost := m.lost ||| (head.map Prod.snd).getD 0
  let blank := m.skew.isEmpty && m.centre.isEmpty
  let mine {α : Type} (w : Nat) (t : Tab α) : Tab α :=
    (t.filter (fun p => p.1 / w == c)).map (fun p => (p.1 % w, p.2))
  let sk := (s.start.image.map Image.skew).getD []
  let ce := (s.start.image.map Image.centre).getD []
  let x := s.strOf c
  let s := s.setStr c { x with
    lostMap := lost, remap := m.remap, weak := m.weak
    skew := if blank then mine 65536 sk else m.skew
    centre := if blank then mine 2048 ce else m.centre
    rlist := if bitAt s.start.badLists c then (head.map Prod.fst).getD m.rlist else x.rlist }
  let s := s.set (STR_LOSTSURF_MASK c) lost
  (setBits 32 lost).foldl (fun s f => s.surfaceWasLost c f) s

/-- The stripe of R464 is copied to the log tracks. -/
def State.copyLogStripe (s : State) (c : Nat) : State :=
  let m := s.mediaOf c
  let all := m.log ++ m.logStripe
  let cap := 8 * s.zFrags c 0 * 1920
  let s := s.setMedia c { m with log := all.drop (all.length - cap), logStripe := [] }
  s.set (LOG_FLUSH_EVSEQ c) (max (s.get (LOG_FLUSH_EVSEQ c)) ((all.getLast?.map (fun e => e.evseq + 1)).getD 0))

/-- The home stripe of dumped blocks as its read pass leaves it (R240, R241). -/
def State.homeRead (s : State) (c slot : Nat) (h : HomePass) : OpenStripe :=
  let q := s.slotQ c slot
  let bad := h.erased.toNat ||| (s.repairOf c slot).stale ||| s.slotShut c slot
  { slot := slot, owner := 0, write := false, wset := 0, cut := 0, metas := [], wseq := 0, pq := false, present := false, settled := false
    gone := 0, testing := false
    data := (List.range 32).foldl (fun t r => tset [] t r ((h.data.getD r []).map BitVec.toNat)) []
    frags := (List.range 32).foldl (fun t r => tset .waiting t (surfOf q r) (if bitAt bad (surfOf q r) then .erased else .good)) [] }

/-- Dumped blocks, by ROLE, are written to their home stripe as a partial-stripe write, or as a full-stripe write where they are
all 30 (R243, R245, R246, R256). `lost` names the surfaces whose block is lost. -/
def State.replay (s : State) (c slot : Nat) (own : List (Nat × List Nat)) (lost : Nat) (h : HomePass) : State :=
  let q := s.slotQ c slot
  let roles := own.map Prod.fst
  let full := roles.length = 30
  let r := if full then ⟨[], [], [], []⟩ else s.settleOf c (s.homeRead c slot h)
  let d0 (i : Nat) : List Nat := match own.find? (fun p => p.1 == i) with
    | some p => p.2
    | none => if r.media.contains i then zeroFrag else tget [] r.data i
  let d (i : Nat) : List Nat := if i = 30 then parityP d0 else if i = 31 then parityQ d0 else d0 i
  let w := minus (maskOf ((roles ++ [30, 31]).map (surfOf q))) (s.slotShut c slot)
  let gone := minus (maskOf (r.media.map (surfOf q))) (maskOf (roles.map (surfOf q))) ||| lost
  ((s.nextWseq c 1).commitPass c slot w (h.cut.toNat &&& w) gone 0 d).1

/-- The pass over a home stripe that a finding holds; with none, nothing of the stripe can be read. -/
def MapsFound.home (m : MapsFound) (slot : Nat) : HomePass :=
  (m.homes.find? (fun h => h.slot.toNat == slot)).getD ⟨0, [], 0xFFFFFFFF, 0⟩

/-- The stripes of the repair buffer in a dump, and its blocks by home stripe, replayed (R256). -/
def State.replayAll (s : State) (c : Nat) (m : MapsFound) (done : List DumpStripe) : State :=
  let s := done.foldl (fun s i => match i.item with
    | .rbuf slot => s.replay c slot ((List.range 30).map (fun r => (r, i.frags.getD r zeroFrag))) (s.repairOf c slot).lost (m.home slot)
    | _ => s) s
  let blocks := done.flatMap (fun i => match i.item with
    | .dirty l => (l.map Prod.fst).zip i.frags
    | _ => [])
  ((blocks.map (fun b => b.1 / 240)).eraseDups).foldl (fun s q =>
    s.replay c (s.slotNo c q) ((blocks.filter (fun b => b.1 / 240 == q)).map (fun b => (b.1 % 30, b.2))) 0
      (m.home (s.slotNo c q))) s

/-- The blocks of a stripe of the dump: burgee and LBA. The burgees of a stripe of the repair buffer are not stated. -/
def State.itemBlocks (s : State) (c : Nat) : DumpItem → State × List (Nat × Nat)
  | .dirty l => (s, l.map (fun p => (p.2, p.1)))
  | .rbuf slot =>
    let r := s.draw (LOG_REV 9)
    (r.1, (List.range 30).map (fun k => (r.2 % 4096, lbaOf c (s.slotQ c slot) k)))
  | _ => (s, [])

/-- A block that neither its stripe nor the dump holds: LOST with MEMLOST (R253, R393). -/
def State.markLost (s : State) (c lba : Nat) : State :=
  let q := lba / 240
  let e := s.repairOf c (s.slotNo c q)
  s.putRepair c (s.slotNo c q) { e with lost := putBit e.lost (surfOf q (lba % 30)) true, memLost := true }

/-- Lost blocks of one burgee as ranges: first LBA and count. -/
def lbaRanges : List (Nat × Nat) → List (Nat × Nat × Nat)
  | [] => []
  | p :: ps =>
    match lbaRanges ps with
    | (b, l, n) :: rs => if b = p.1 ∧ l = p.2 + 1 then (b, p.2, n + 1) :: rs else (p.1, p.2, 1) :: (b, l, n) :: rs
    | [] => [(p.1, p.2, 1)]

/-- BUFFERED_LOST of a range. -/
def State.bufferedLost (s : State) (r : Nat × Nat × Nat) : State := s.event orgImg 0x42 ([r.1] ++ lohi r.2.1 ++ [r.2.2])

/-- The blocks of a cluster that the records of R393 name and no replayed item holds, and those of erased items. -/
def State.lostBlocks (s : State) (c : Nat) (done : List DumpStripe) : List (Nat × Nat) :=
  let recs := (s.bufRecs ++ (s.mediaOf c).buffered).filter (fun b => b.lba / 30 % 8 == c)
  let held := done.flatMap (fun i => match i.item with
    | .dirty l => l.map Prod.fst
    | _ => [])
  ((recs.map (fun b => (List.range b.count).map (fun k => (b.burgee, b.lba + k)))).flatten.filter (fun p =>
    !held.contains p.2)).eraseDups

/-- Recovery of one cluster (R480, step 10). -/
def State.recoverCluster (s : State) (c : Nat) (f : MapsFound) : State :=
  let m := s.mediaOf c
  let s := (s.readMaps c (!f.erased.contains 0)).copyLogStripe c
  let all := m.dump.zip (List.range m.dump.length)
  let done := (all.filter (fun i => !f.erased.contains i.2)).map Prod.fst
  let s := s.replayAll c f done
  let r := (all.filter (fun i => f.erased.contains i.2)).foldl (fun (r : State × List (Nat × Nat)) i =>
    let q := r.1.itemBlocks c i.1.item
    (q.1, r.2 ++ q.2)) (s, [])
  let lost := (r.1.lostBlocks c done ++ r.2).foldl (fun l p => insertBy Prod.snd p l) []
  let s := lost.foldl (fun s p => s.markLost c p.2) r.1
  let s := (lbaRanges (lost.eraseDups)).foldl State.bufferedLost s
  let s := { s with bufRecs := s.bufRecs.filter (fun b => b.lba / 30 % 8 != c) }
  let s := s.setMedia c { s.mediaOf c with dump := [], head := none, buffered := [] }
  s.set IMG_RECOVER_STRIPES (s.get IMG_RECOVER_STRIPES - m.dumpStripes)

/-- The event with a number below 4,096 as step 10 finds it: in the ring, on a cluster's media log, or as a LOG_GAP. -/
def State.firstEvent (s : State) (e : Nat) : Event :=
  let all := s.log.firstWait ++ s.log.ring ++ ((s.media.map (fun p => p.2.log)).flatten)
  match all.find? (fun x => x.evseq == e) with
  | some x => x
  | none => ⟨e, s.get LOG_OPSEC_OPSEC, s.get LOG_PCYCLE_PCYCLE, s.is LOG_STAT_CAL_VALID, s.now, s.calAt s.now, orgInt 4 0 0, 3,
      [e, 1]⟩

/-- The first area is completed up to the EVSEQ then current, once every cluster is past step 10 (R462). -/
def State.fillFirst (s : State) : State :=
  if s.start.firstFilled || !(List.range 8).all (fun c => s.isOut c || decide (11 ≤ tget 0 s.start.clu c)) then s
  else
    let s := { s with start := { s.start with firstFilled := true } }
    let es := ((List.range (min 4096 s.nextEv)).filter (fun e => !s.log.firstArea.any (fun x => x.evseq == e))).map s.firstEvent
    let s := es.foldl State.programFirst s
    { s with log := { s.log with firstWait := [] } }

/-- Step 10 of one cluster. A third lost surface leaves the cluster out of service (R265). -/
def State.stepRecovered (s : State) (c : Nat) (m : MapsFound) : State :=
  if s.get (SRV_STAT_STATE c) = srvLOST then s.clusterFails c
  else if !m.ok then (s.startResult 14 c).clusterFails c
  else
    let s := s.recoverCluster c m
    if 3 ≤ popc 32 (s.lostMask c) then s.clusterFails c else (s.clusterStep c 11).fillFirst

/-- Step 11 of one cluster; an accepted PFAIL_N keeps it shut. -/
def State.stepOpened (s : State) (c : Nat) : State :=
  if s.get (SRV_STAT_STATE c) = srvLOST then s.clusterFails c
  else if s.is LOOP_PF_STAT_PHASE then s
  else ((s.setOpen c true).clusterStep c 12).startComplete

/-! ### START_STEP_DONE -/

/-- The step a finding belongs to. -/
def Found.step : Found → Nat
  | .straps _ _ => 1
  | .root _ => 2
  | .headers _ _ _ => 3
  | .again => 3
  | .memory _ _ _ _ => 4
  | .image _ => 5
  | .tables _ => 6
  | .electronics _ _ => 7
  | .spinup => 8
  | .locked _ => 9
  | .recovered _ _ => 10
  | .opened _ => 11

/-- The cluster whose own step a finding ends. -/
def Found.cluster? : Found → Option Nat
  | .locked c => some c.val
  | .recovered c _ => some c.val
  | .opened c => some c.val
  | _ => none

/-- Start stands at the step that a finding belongs to. -/
def State.atStep (s : State) (f : Found) : Bool :=
  !s.is IMG_STAT_DONE && (match f.cluster? with
    | some c => tget 0 s.start.clu c == f.step && !s.isOut c
    | none => s.get IMG_STAT_STEP == f.step && !s.start.pfHold && s.get IMG_OUT_CLUSTERS != 0xFF)

/-- Step 2: the root PLL locks, and TIME counts from then on; or the start halts (R30, R484). -/
def State.stepRoot (s : State) (ok : Bool) : State :=
  if ok then
    let s := { s with clk := { s.clk with counting := true } }
    ((s.set TOP_CLKSTAT_ROOT_LOCK 1).set TOP_CLKSTAT_HOLDOVER 0).set IMG_STAT_STEP 3
  else s.startHalt 1 0

/-- What a finding does. -/
def State.startStep (s : State) : Found → State
  | .straps p t => ((s.set TOP_PERSONA_STRAPS p).set TOP_PERSONA_TEST_MODE (if t then 1 else 0)).set IMG_STAT_STEP 2
  | .root ok => s.stepRoot ok
  | .headers fuse a b => if s.start.tried = 0 then s.stepHeaders fuse a b else s
  | .again => if s.start.tried = 0 then s else s.useSlot (if s.is IMG_STAT_SLOT then s.start.hdrA else s.start.hdrB)
  | .memory failed kept rl rb => s.stepMemory failed kept.toNat rl.toNat rb.toNat
  | .image x => s.stepImage x
  | .tables p => s.stepTables p
  | .electronics p m => s.stepElectronics p.toNat m
  | .spinup => s.stepSpinup
  | .locked c => s.stepLocked c
  | .recovered c m => s.stepRecovered c m
  | .opened c => s.stepOpened c

/-- START_STEP_DONE (R480). -/
def execStartStepDone (f : Found) (s : State) : Res := s.run fun s => if s.atStep f then s.startStep f else s

end Sys2Proof.Machine
end

