-- ==== Sys2Proof/Machine/Dispatch.lean ====
section
/-! DEFINITION. Machine/Dispatch.lean: the meaning of each command, one arm per constructor. -/

namespace Sys2Proof.Machine

/-- The effect of a command on everything but the queue. -/
def exec (i : Instr) (s : State) : Host.Outcome State Fault Refusal :=
  match i with
  | .powerOnDetect => Sys2Proof.Machine.execPowerOnDetect s
  | .resetNAssert => Sys2Proof.Machine.execResetNAssert s
  | .resetNRelease => Sys2Proof.Machine.execResetNRelease s
  | .chipReset => Sys2Proof.Machine.execChipReset s
  | .startStepDone f => Sys2Proof.Machine.execStartStepDone f s
  | .startPfailHoldEnd => Sys2Proof.Machine.execStartPfailHoldEnd s
  | .refclkGapTimeout => Sys2Proof.Machine.execRefclkGapTimeout s
  | .refclkWindowEnd inRange => Sys2Proof.Machine.execRefclkWindowEnd inRange s
  | .rootStop => Sys2Proof.Machine.execRootStop s
  | .timeReplicaCompare d rep => Sys2Proof.Machine.execTimeReplicaCompare d rep s
  | .cdcClockTimeout n => Sys2Proof.Machine.execCdcClockTimeout n s
  | .cdcPulse n busy => Sys2Proof.Machine.execCdcPulse n busy s
  | .cdcReopen n => Sys2Proof.Machine.execCdcReopen n s
  | .blockResetEnd b => Sys2Proof.Machine.execBlockResetEnd b s
  | .faultMaskEnd b => Sys2Proof.Machine.execFaultMaskEnd b s
  | .fltFirstClear o => Sys2Proof.Machine.execFltFirstClear o s
  | .fltPendClear o k v => Sys2Proof.Machine.execFltPendClear o k v s
  | .registerWrite o a v => Sys2Proof.Machine.execRegisterWrite o a v s
  | .rcFieldRead o a => Sys2Proof.Machine.execRcFieldRead o a s
  | .hoistRead o n => Sys2Proof.Machine.execHoistRead o n s
  | .hoistWrite o n => Sys2Proof.Machine.execHoistWrite o n s
  | .hoistAbort o n => Sys2Proof.Machine.execHoistAbort o n s
  | .hoistBadOpcode o n => Sys2Proof.Machine.execHoistBadOpcode o n s
  | .heldHoistLatch n => Sys2Proof.Machine.execHeldHoistLatch n s
  | .admissionUnitTake d h unit met edge => Sys2Proof.Machine.execAdmissionUnitTake d h unit met edge s
  | .bufferedTerminal n tag => Sys2Proof.Machine.execBufferedTerminal n tag s
  | .cqPop n => Sys2Proof.Machine.execCqPop n s
  | .slotopFree o n num => Sys2Proof.Machine.execSlotopFree o n num s
  | .slotopClaim o n num => Sys2Proof.Machine.execSlotopClaim o n num s
  | .slotopComplete n => Sys2Proof.Machine.execSlotopComplete n s
  | .portCfgWrite o n v => Sys2Proof.Machine.execPortCfgWrite o n v s
  | .rightsRead o => Sys2Proof.Machine.execRightsRead o s
  | .rightsSet o => Sys2Proof.Machine.execRightsSet o s
  | .rightsClear o => Sys2Proof.Machine.execRightsClear o s
  | .rightsCmdComplete => Sys2Proof.Machine.execRightsCmdComplete s
  | .grantRead o => Sys2Proof.Machine.execGrantRead o s
  | .grantSet o => Sys2Proof.Machine.execGrantSet o s
  | .grantRevoke o => Sys2Proof.Machine.execGrantRevoke o s
  | .grantCmdComplete => Sys2Proof.Machine.execGrantCmdComplete s
  | .holdSweep => Sys2Proof.Machine.execHoldSweep s
  | .winHoldWrite o v => Sys2Proof.Machine.execWinHoldWrite o v s
  | .wedgeBoundary c b => Sys2Proof.Machine.execWedgeBoundary c b s
  | .bcmdRead o => Sys2Proof.Machine.execBcmdRead o s
  | .bcmdWrite o => Sys2Proof.Machine.execBcmdWrite o s
  | .bcmdComplete => Sys2Proof.Machine.execBcmdComplete s
  | .laneArmRead c mask slot => Sys2Proof.Machine.execLaneArmRead c mask slot s
  | .laneArmWrite c mask slot => Sys2Proof.Machine.execLaneArmWrite c mask slot s
  | .laneDisarm c mask => Sys2Proof.Machine.execLaneDisarm c mask s
  | .adcStuck c f => Sys2Proof.Machine.execAdcStuck c f s
  | .laneRetire o c f => Sys2Proof.Machine.execLaneRetire o c f s
  | .hostWinhWrite o c f b => Sys2Proof.Machine.execHostWinhWrite o c f b s
  | .pcbFrameSend c fits => Sys2Proof.Machine.execPcbFrameSend c fits s
  | .pcbAck c seq => Sys2Proof.Machine.execPcbAck c seq s
  | .pcbNak c ma passed => Sys2Proof.Machine.execPcbNak c ma passed s
  | .pcbSense c r => Sys2Proof.Machine.execPcbSense c r s
  | .pcbRdata c addr data => Sys2Proof.Machine.execPcbRdata c addr data s
  | .pcbFaultFrame c surfaces cause => Sys2Proof.Machine.execPcbFaultFrame c surfaces cause s
  | .pcbBadFrame c passed => Sys2Proof.Machine.execPcbBadFrame c passed s
  | .pcbExchangeTimeout c passed => Sys2Proof.Machine.execPcbExchangeTimeout c passed s
  | .pcbRegRead o c => Sys2Proof.Machine.execPcbRegRead o c s
  | .pcbRegWrite o c => Sys2Proof.Machine.execPcbRegWrite o c s
  | .pfltFall c => Sys2Proof.Machine.execPfltFall c s
  | .pfltNoFaultFrame c => Sys2Proof.Machine.execPfltNoFaultFrame c s
  | .mcbCycle drive angle => Sys2Proof.Machine.execMcbCycle drive angle s
  | .mcbAck seq echo => Sys2Proof.Machine.execMcbAck seq echo s
  | .mcbNak seq => Sys2Proof.Machine.execMcbNak seq s
  | .vcmMeas c seq cur emf => Sys2Proof.Machine.execVcmMeas c seq cur emf s
  | .spinMeas seq emf phase vbus zero => Sys2Proof.Machine.execSpinMeas seq emf phase vbus zero s
  | .mcbRdata seq addr data => Sys2Proof.Machine.execMcbRdata seq addr data s
  | .mcbFault seq payload => Sys2Proof.Machine.execMcbFault seq payload s
  | .mcbRegRead o addr => Sys2Proof.Machine.execMcbRegRead o addr s
  | .mcbRegWrite o addr data => Sys2Proof.Machine.execMcbRegWrite o addr data s
  | .masterTakeover => Sys2Proof.Machine.execMasterTakeover s
  | .pfailNFall => Sys2Proof.Machine.execPfailNFall s
  | .pfailGlitch => Sys2Proof.Machine.execPfailGlitch s
  | .pfailAccept => Sys2Proof.Machine.execPfailAccept s
  | .pfPhaseB wrote => Sys2Proof.Machine.execPfPhaseB wrote s
  | .pfBrake => Sys2Proof.Machine.execPfBrake s
  | .pfailRecover => Sys2Proof.Machine.execPfailRecover s
  | .fragmentReadStart c f raw => Sys2Proof.Machine.execFragmentReadStart c f raw s
  | .syncWindowClose c f raw => Sys2Proof.Machine.execSyncWindowClose c f raw s
  | .resyncSearch c f before after => Sys2Proof.Machine.execResyncSearch c f before after s
  | .fragmentEnd c f raw => Sys2Proof.Machine.execFragmentEnd c f raw s
  | .landingHead c f => Sys2Proof.Machine.execLandingHead c f s
  | .decodeDispatch k d => Sys2Proof.Machine.execDecodeDispatch k d s
  | .decodeEnd k d checker => Sys2Proof.Machine.execDecodeEnd k d checker s
  | .decodeDeadline c f => Sys2Proof.Machine.execDecodeDeadline c f s
  | .decoderTimeout k d => Sys2Proof.Machine.execDecoderTimeout k d s
  | .stripeSettle c slot => Sys2Proof.Machine.execStripeSettle c slot s
  | .parityEncodeDone c => Sys2Proof.Machine.execParityEncodeDone c s
  | .commitTestDone c log => Sys2Proof.Machine.execCommitTestDone c log s
  | .calSkewUpdate c r hoff h => Sys2Proof.Machine.execCalSkewUpdate c r hoff h s
  | .relocTrackCopy c r f h => Sys2Proof.Machine.execRelocTrackCopy c r f h s
  | .repairWrite c slot cut h => Sys2Proof.Machine.execRepairWrite c slot cut h s
  | .patrolRead c erased spare cut h => Sys2Proof.Machine.execPatrolRead c erased spare cut h s
  | .servoWd c xs lane => Sys2Proof.Machine.execServoWd c xs lane s
  | .servoMidw c => Sys2Proof.Machine.execServoMidw c s
  | .reacquireTimeout c => Sys2Proof.Machine.execReacquireTimeout c s
  | .seqGo c flips => Sys2Proof.Machine.execSeqGo c flips s
  | .seqBranch c flips => Sys2Proof.Machine.execSeqBranch c flips s
  | .seqWait c flips held => Sys2Proof.Machine.execSeqWait c flips held s
  | .seqWaitTimeout c => Sys2Proof.Machine.execSeqWaitTimeout c s
  | .seqCall c flips => Sys2Proof.Machine.execSeqCall c flips s
  | .seqReturn c flips => Sys2Proof.Machine.execSeqReturn c flips s
  | .seqIret c flips => Sys2Proof.Machine.execSeqIret c flips s
  | .seqJumpclr c flips => Sys2Proof.Machine.execSeqJumpclr c flips s
  | .seqIllegalWord c flips => Sys2Proof.Machine.execSeqIllegalWord c flips s
  | .aluMov c dst b => Sys2Proof.Machine.execAluMov c dst b s
  | .aluAdd c dst a b => Sys2Proof.Machine.execAluAdd c dst a b s
  | .aluSub c dst a b => Sys2Proof.Machine.execAluSub c dst a b s
  | .aluAnd c dst a b => Sys2Proof.Machine.execAluAnd c dst a b s
  | .aluOr c dst a b => Sys2Proof.Machine.execAluOr c dst a b s
  | .aluXor c dst a b => Sys2Proof.Machine.execAluXor c dst a b s
  | .aluShl c dst a b => Sys2Proof.Machine.execAluShl c dst a b s
  | .aluShr c dst a b => Sys2Proof.Machine.execAluShr c dst a b s
  | .aluPopcnt c dst b => Sys2Proof.Machine.execAluPopcnt c dst b s
  | .aluFfs c dst b => Sys2Proof.Machine.execAluFfs c dst b s
  | .aluMin c dst a b => Sys2Proof.Machine.execAluMin c dst a b s
  | .timelineRead c wedge => Sys2Proof.Machine.execTimelineRead c wedge s
  | .timelineReadDone c => Sys2Proof.Machine.execTimelineReadDone c s
  | .servoMove c track => Sys2Proof.Machine.execServoMove c track s
  | .servoHold c => Sys2Proof.Machine.execServoHold c s
  | .pcbMode c mask mode act => Sys2Proof.Machine.execPcbMode c mask mode act s
  | .strOpen c slot => Sys2Proof.Machine.execStrOpen c slot s
  | .strWriteset c mask => Sys2Proof.Machine.execStrWriteset c mask s
  | .strCommitTest c => Sys2Proof.Machine.execStrCommitTest c s
  | .strClose c => Sys2Proof.Machine.execStrClose c s
  | .stmKick c addr => Sys2Proof.Machine.execStmKick c addr s
  | .budgetCheck c cells owner => Sys2Proof.Machine.execBudgetCheck c cells owner s
  | .portTerminal owner status => Sys2Proof.Machine.execPortTerminal owner status s
  | .portDetail owner => Sys2Proof.Machine.execPortDetail owner s
  | .eventLog c code payload => Sys2Proof.Machine.execEventLog c code payload s
  | .posSet c v => Sys2Proof.Machine.execPosSet c v s
  | .seqInterrupt c => Sys2Proof.Machine.execSeqInterrupt c s
  | .seqSafeLate c => Sys2Proof.Machine.execSeqSafeLate c s
  | .seqRestart o c => Sys2Proof.Machine.execSeqRestart o c s
  | .seqTest o c => Sys2Proof.Machine.execSeqTest o c s
  | .seqHalt o c => Sys2Proof.Machine.execSeqHalt o c s
  | .seqStep o c flips => Sys2Proof.Machine.execSeqStep o c flips s
  | .csRead o c flips => Sys2Proof.Machine.execCsRead o c flips s
  | .csWrite o c => Sys2Proof.Machine.execCsWrite o c s
  | .csVerify o c => Sys2Proof.Machine.execCsVerify o c s
  | .csVerifyDone c flips => Sys2Proof.Machine.execCsVerifyDone c flips s
  | .gflagWrite o c v => Sys2Proof.Machine.execGflagWrite o c v s
  | .clrRetry c f => Sys2Proof.Machine.execClrRetry c f s
  | .spinWatchEnd => Sys2Proof.Machine.execSpinWatchEnd s
  | .spinAlignEnd => Sys2Proof.Machine.execSpinAlignEnd s
  | .sprefEdge frac => Sys2Proof.Machine.execSprefEdge frac s
  | .sprefLost => Sys2Proof.Machine.execSprefLost s
  | .spinNoZeroCrossing => Sys2Proof.Machine.execSpinNoZeroCrossing s
  | .spinupTimeout => Sys2Proof.Machine.execSpinupTimeout s
  | .memoryRead m => Sys2Proof.Machine.execMemoryRead m s
  | .memoryWrite o m v => Sys2Proof.Machine.execMemoryWrite o m v s
  | .memoryPartialWrite o m mask v => Sys2Proof.Machine.execMemoryPartialWrite o m mask v s
  | .scrubRead m row last => Sys2Proof.Machine.execScrubRead m row last s
  | .lineSweepBurst ch addr flips => Sys2Proof.Machine.execLineSweepBurst ch addr flips s
  | .scrubRefetch lba data h => Sys2Proof.Machine.execScrubRefetch lba data h s
  | .injectArm o => Sys2Proof.Machine.execInjectArm o s
  | .injectDisarm o => Sys2Proof.Machine.execInjectDisarm o s
  | .cacheInvalidate o d => Sys2Proof.Machine.execCacheInvalidate o d s
  | .cacheEnable o d pfEn => Sys2Proof.Machine.execCacheEnable o d pfEn s
  | .cacheDisable o d pfEn => Sys2Proof.Machine.execCacheDisable o d pfEn s
  | .cacheDrainEnd d => Sys2Proof.Machine.execCacheDrainEnd d s
  | .evictionWriteDone d => Sys2Proof.Machine.execEvictionWriteDone d s
  | .prefetchIssue d j k h => Sys2Proof.Machine.execPrefetchIssue d j k h s
  | .stmGo o n hi => Sys2Proof.Machine.execStmGo o n hi s
  | .stmPause o n => Sys2Proof.Machine.execStmPause o n s
  | .stmResume o n => Sys2Proof.Machine.execStmResume o n s
  | .stmStop o n pause => Sys2Proof.Machine.execStmStop o n pause s
  | .stmBurstIssue n => Sys2Proof.Machine.execStmBurstIssue n s
  | .stmBurstAck n => Sys2Proof.Machine.execStmBurstAck n s
  | .stmBurstTimeout n => Sys2Proof.Machine.execStmBurstTimeout n s
  | .stmDescEnd n => Sys2Proof.Machine.execStmDescEnd n s
  | .stmLinkReread n => Sys2Proof.Machine.execStmLinkReread n s
  | .stmStatusRead n => Sys2Proof.Machine.execStmStatusRead n s
  | .linkCodeword n info errs skew => Sys2Proof.Machine.execLinkCodeword n info errs skew s
  | .linkDataFlit p => Sys2Proof.Machine.execLinkDataFlit p s
  | .linkIdleFlit p => Sys2Proof.Machine.execLinkIdleFlit p s
  | .linkCtrlFlit p => Sys2Proof.Machine.execLinkCtrlFlit p s
  | .linkReplayTimer p => Sys2Proof.Machine.execLinkReplayTimer p s
  | .linkRreg p view func burgee tag a => Sys2Proof.Machine.execLinkRreg p view func burgee tag a s
  | .linkWreg p view func burgee a v => Sys2Proof.Machine.execLinkWreg p view func burgee a v s
  | .linkWrd p view func burgee tag lenw a => Sys2Proof.Machine.execLinkWrd p view func burgee tag lenw a s
  | .linkWwr p view func burgee a data => Sys2Proof.Machine.execLinkWwr p view func burgee a data s
  | .linkDblSend n => Sys2Proof.Machine.execLinkDblSend n s
  | .linkEvtSend d => Sys2Proof.Machine.execLinkEvtSend d s
  | .linkMapApply p rx => Sys2Proof.Machine.execLinkMapApply p rx s
  | .linkLaneRetrain n passed => Sys2Proof.Machine.execLinkLaneRetrain n passed s
  | .linkEqualizeDone p ok inv => Sys2Proof.Machine.execLinkEqualizeDone p ok inv s
  | .linkAlignDone p => Sys2Proof.Machine.execLinkAlignDone p s
  | .linkConfigDone p pcred => Sys2Proof.Machine.execLinkConfigDone p pcred s
  | .linkTrainTimeout p => Sys2Proof.Machine.execLinkTrainTimeout p s
  | .linkRetrainDone p => Sys2Proof.Machine.execLinkRetrainDone p s
  | .linkPortDown p => Sys2Proof.Machine.execLinkPortDown p s
  | .staffHeartbeatTimeout j => Sys2Proof.Machine.execStaffHeartbeatTimeout j s
  | .staffBootDone j => Sys2Proof.Machine.execStaffBootDone j s
  | .dieHeartbeatTimeout d => Sys2Proof.Machine.execDieHeartbeatTimeout d s
  | .eventStore => Sys2Proof.Machine.execEventStore s
  | .opsecIncrement => Sys2Proof.Machine.execOpsecIncrement s
  | .lifeRecordPeriodic => Sys2Proof.Machine.execLifeRecordPeriodic s
  | .firstAreaProgram => Sys2Proof.Machine.execFirstAreaProgram s
  | .calendarSet o => Sys2Proof.Machine.execCalendarSet o s
  | .calendarClear o => Sys2Proof.Machine.execCalendarClear o s
  | .logFreeze o => Sys2Proof.Machine.execLogFreeze o s
  | .logThaw o => Sys2Proof.Machine.execLogThaw o s
  | .logFreezeTimeout => Sys2Proof.Machine.execLogFreezeTimeout s
  | .logReadSelect o v => Sys2Proof.Machine.execLogReadSelect o v s
  | .logReadDone => Sys2Proof.Machine.execLogReadDone s
  | .calTimebase o c apply => Sys2Proof.Machine.execCalTimebase o c apply s
  | .calRefdac o c apply => Sys2Proof.Machine.execCalRefdac o c apply s
  | .calAnalog o c apply => Sys2Proof.Machine.execCalAnalog o c apply s
  | .calMedia o c apply => Sys2Proof.Machine.execCalMedia o c apply s
  | .calClusterClosed => Sys2Proof.Machine.execCalClusterClosed s
  | .calSessionEnd m => Sys2Proof.Machine.execCalSessionEnd m s
  | .calStore o => Sys2Proof.Machine.execCalStore o s
  | .calStoreDone same left => Sys2Proof.Machine.execCalStoreDone same left s
  | .monitorSample mv tj => Sys2Proof.Machine.execMonitorSample mv tj s
  | .foreignClockReturn n => Sys2Proof.Machine.execForeignClockReturn n s
  | .calrefPresentChange present => Sys2Proof.Machine.execCalrefPresentChange present s
  | .pfltRise c => Sys2Proof.Machine.execPfltRise c s
  | .mcbBadReply => Sys2Proof.Machine.execMcbBadReply s
  | .storeReloadDone c => Sys2Proof.Machine.execStoreReloadDone c s
  | .invalidateDone d => Sys2Proof.Machine.execInvalidateDone d s
  | .steeringHoldEnd ch => Sys2Proof.Machine.execSteeringHoldEnd ch s
  | .fragmentWriteStart c f early => Sys2Proof.Machine.execFragmentWriteStart c f early s
  | .posHit c => Sys2Proof.Machine.execPosHit c s

end Sys2Proof.Machine
end

