-- ==== Sys2Proof/Safety.lean ====
section
/-! DEFINITION. Safety.lean: the words that statements about the part are made of: the parts of its state, a command that
answers a next state, what a command leaves alone, and the canonical form of the tables that hold memory. -/

namespace Sys2Proof.Machine

/-- The parts of the state, one for each field of State; TIME is apart from the other clock state. -/
inductive Part where
  | pending | time | clk | regs | log | staff | resetting | masked | ports | win | tl | mem | memX | memu | lanes |
  pcb | mcb | pf | cantons | str | servo | seq | clr | biasA | spin | cache | staged | bufRecs | streamers | link |
  cross | start | cal | media | draws
  deriving DecidableEq, Repr

/-- A part of the state is the same in two states. -/
def Part.same (s t : State) : Part → Prop
  | .pending => t.pending = s.pending
  | .time => t.clk.time = s.clk.time
  | .clk => { t.clk with time := s.clk.time } = s.clk
  | .regs => t.regs = s.regs
  | .log => t.log = s.log
  | .staff => t.staff = s.staff
  | .resetting => t.resetting = s.resetting
  | .masked => t.masked = s.masked
  | .ports => t.ports = s.ports
  | .win => t.win = s.win
  | .tl => t.tl = s.tl
  | .mem => t.mem = s.mem
  | .memX => t.memX = s.memX
  | .memu => t.memu = s.memu
  | .lanes => t.lanes = s.lanes
  | .pcb => t.pcb = s.pcb
  | .mcb => t.mcb = s.mcb
  | .pf => t.pf = s.pf
  | .cantons => t.cantons = s.cantons
  | .str => t.str = s.str
  | .servo => t.servo = s.servo
  | .seq => t.seq = s.seq
  | .clr => t.clr = s.clr
  | .biasA => t.biasA = s.biasA
  | .spin => t.spin = s.spin
  | .cache => t.cache = s.cache
  | .staged => t.staged = s.staged
  | .bufRecs => t.bufRecs = s.bufRecs
  | .streamers => t.streamers = s.streamers
  | .link => t.link = s.link
  | .cross => t.cross = s.cross
  | .start => t.start = s.start
  | .cal => t.cal = s.cal
  | .media => t.media = s.media
  | .draws => t.draws = s.draws

/-- The answer is a next state, and `P` holds of it. -/
def Answers (r : Res) (P : State → Prop) : Prop := ∃ t, r = .next t ∧ P t

/-- Where the answer is a next state, every part of `s` outside `L` is as it was. -/
def LeavesAllBut (L : List Part) (s : State) (r : Res) : Prop := ∀ t, r = .next t → ∀ p, p ∉ L → p.same s t

/-- The parts that stopping a cluster's sequencer and its commands may change. -/
def stopParts : List Part :=
  [.regs, .ports, .win, .tl, .lanes, .pcb, .cantons, .str, .seq, .bufRecs, .streamers, .link, .cal, .draws]

/-- The parts that a loss (of a lane, a die, a link port, a cluster) may change. -/
def lossParts : List Part :=
  [.clk, .regs, .staff, .resetting, .masked, .ports, .win, .tl, .memu, .lanes, .pcb, .cantons, .str, .servo, .seq,
   .bufRecs, .streamers, .link, .cross, .cal, .draws]

/-- The parts that raising a fault, with its reaction, may change. -/
def raiseParts : List Part :=
  [.clk, .regs, .log, .staff, .resetting, .masked, .ports, .win, .tl, .memu, .lanes, .pcb, .cantons, .str, .servo,
   .seq, .bufRecs, .streamers, .link, .cross, .cal, .draws]

/-- Registers outside the listed addresses read as before. -/
def RegsBut (L : List Nat) (s t : State) : Prop := ∀ a, a ∉ L → t.rd a = s.rd a

/-- The canonical form of a memory: strictly rising keys, no entry equal to the byte an unlisted key reads as. -/
def Memory.wf (m : List Host.Cell) : Bool := Tab.wf (fun _ => 0) m

/-- Both memory tables are in canonical form. -/
def State.canonical (s : State) : Prop := Memory.wf s.mem = true ∧ Memory.wf s.memX = true

end Sys2Proof.Machine
end

