-- ==== Sys2Proof/Certificates/Slice0/Obligations.lean ====
section
/-! DEFINITION. Certificates/Slice0/Obligations.lean: the statements about this model. -/

open Sys2Proof Sys2Proof.Machine

/-- A step carries out the command at the front of the queue, on the state with the queue's rest (log 1). -/
def Obligations.StepRunsFrontCommand : Prop :=
  ∀ (c : Instr) (rest : List Instr) (s : State),
    step { s with pending := c :: rest } = exec c { s with pending := rest }

/-- Where a step answers a next state, the queue of that state is the queue's rest: no command of the table adds, drops or
reorders waiting commands (log 1). -/
def Obligations.StepLeavesQueueRest : Prop :=
  ∀ (s t : State) (c : Instr) (rest : List Instr), s.pending = c :: rest → step s = .next t → t.pending = rest

/-- TIME is cleared only by the power-on detector (R30): every other command leaves it as it is. -/
def Obligations.OnlyPowerOnClearsTime : Prop :=
  (∀ (i : Instr) (s t : State), i ≠ .powerOnDetect → exec i s = .next t → t.clk.time = s.clk.time) ∧
  (∀ s t : State, exec .powerOnDetect s = .next t → t.clk.time = 0)

/-- A step on an empty queue is a tick of TIME (R30, R31; log 1), with the slot operations' work in it (R149; log 15). -/
def Obligations.TickCountsTime : Prop :=
  ∀ s : State, s.pending = [] →
    (∀ u : State, u = { s with clk := { s.clk with
        time := (s.clk.time + 1) % 2 ^ 64, rep0 := (s.clk.rep0 + 1) % 2 ^ 64, rep1 := (s.clk.rep1 + 1) % 2 ^ 64 } } →
      s.clk.counting = true → s.clk.rootStopped = false →
      step s = .next (State.each u (fun n t => t.slotGo n 256) (s.ports.slotOps.map Prod.fst)) ∧
      (s.ports.slotOps = [] → step s = .next u)) ∧
    (s.clk.counting = false ∨ s.clk.rootStopped = true → step s = .next s)

/-- The resets of the whole part: POWER_ON_DETECT, RESET_N_ASSERT, RESET_N_RELEASE and CHIP_RESET complete, and what each
leaves (R30, R34, R444, R499). -/
def Obligations.PackageResetsComplete : Prop :=
  (∀ s : State, Answers (exec .powerOnDetect s) fun t =>
    t.clk.time = 0 ∧ t.clk.counting = false ∧ t.get TOP_RSTCAUSE_POR = 1 ∧ t.mem = [] ∧ t.memX = [] ∧ t.media = s.media ∧
      t.clk.resetLow = s.clk.resetLow ∧ t.pf.low = s.pf.low) ∧
  (∀ s : State, s.clk.resetLow = false → Answers (exec .resetNAssert s) fun t =>
    t.live = false ∧ t.get TOP_RSTCAUSE_PIN = 1 ∧ t.clk.time = s.clk.time ∧ t.media = s.media) ∧
  (∀ s : State, exec .resetNRelease s = .next { s with clk := { s.clk with resetLow := false } }) ∧
  (∀ s : State, s.live = true → s.clk.chipResetReq = true → s.log.intake = [] → Answers (exec .chipReset s) fun t =>
    t.clk.chipResetReq = false ∧ t.get TOP_RSTCAUSE_CHIP = 1 ∧ t.clk.time = s.clk.time ∧ t.media = s.media)

/-- The clock monitor, the TIME replicas and the asynchronous crossings (R27, R29, R31, R38 to R42). -/
def Obligations.ClocksAndCrossingsComplete : Prop :=
  (∀ (s u t : State), u = (if s.live = true then (s.set TOP_CLKSTAT_REF_OK 0).raise srcREFCLK 0 (orgInt 0 0 0)
        else s.set TOP_CLKSTAT_REF_OK 0) →
    t = (if u.is TOP_CLKSTAT_ROOT_LOCK = true then
        (((u.set TOP_CLKSTAT_ROOT_LOCK 0).set TOP_CLKSTAT_LOCK_LOST 1).set TOP_CLKSTAT_HOLDOVER 1).failAssumption 1
          (fun _ => true) else u) →
    exec .refclkGapTimeout s = .next { t with clk := { t.clk with refLost := true } } ∧
    (∀ r : State, s = { r with clk := { r.clk with refLost := false } } →
      exec (.refclkWindowEnd false) r = .next t)) ∧
  (∀ s : State, s.clk.refLost = true →
    exec (.refclkWindowEnd true) s = .next { s with clk := { s.clk with refLost := false } }) ∧
  (∀ s : State, s.clk.refLost = false → exec (.refclkWindowEnd true) s = .next (s.set TOP_CLKSTAT_REF_OK 1)) ∧
  (∀ s : State, Answers (exec .rootStop s) fun t =>
    t.clk = { s.clk with rootStopped := true, monErr := true } ∧ t.errNLow = true ∧
      (s.is TOP_CLKSTAT_ROOT_LOCK = false → t = { s with clk := t.clk }) ∧
      (s.is TOP_CLKSTAT_ROOT_LOCK = true → t = { (s.set TOP_CLKSTAT_ROOT_LOCK 0).set TOP_CLKSTAT_LOCK_LOST 1 with
        clk := t.clk })) ∧
  (∀ (d : Die) (rep : BitVec 64) (s : State), s.live = true → Answers (exec (.timeReplicaCompare d rep) s) fun t =>
    (rep.toNat = s.clk.time →
      t = { s with clk := { s.clk with rep0 := if d.val = 0 then s.clk.time else s.clk.rep0,
                                       rep1 := if d.val = 0 then s.clk.rep1 else s.clk.time } }) ∧
    (d.val = 0 → t.clk.rep0 = s.clk.time) ∧ (d.val = 1 → t.clk.rep1 = s.clk.time) ∧
    (rep.toNat ≠ s.clk.time →
      t.regs = (s.raise (srcTIME d) (sat32 ((rep.toNat : Int) - s.clk.time)) (orgInt 0 d 0)).regs)) ∧
  (∀ (n : Crossing) (s : State), s.live = true → n.val < 51 → s.is (TOP_CDC_STAT_CLOSED n) = false →
    (s.crossOf n).reset = false → (s.crossOf n).reopening = false → ∀ u : State,
    u = (((s.set (TOP_CDC_STAT_CDC_TIMEOUT n) 1).set (TOP_CDC_STAT_CLOSED n) 1).set (TOP_CDC_STAT_CLK_PRESENT n) 0).setCross
      n { s.crossOf n with stopped := true, reopening := false } →
    u.get (TOP_CDC_STAT_CLOSED n) = 1 ∧ u.get (TOP_CDC_STAT_CDC_TIMEOUT n) = 1 ∧
      exec (.cdcClockTimeout n) s = .next ((u.raise (srcCDC n) 0 (orgInt 0 0 0)).crossingLost n)) ∧
  (∀ (n : Crossing) (s : State), s.live = true → n.val < 51 → Answers (exec (.foreignClockReturn n) s) fun t =>
    t.get (TOP_CDC_STAT_CLK_PRESENT n) = 1 ∧ (t.crossOf n).stopped = false ∧
      t.get (TOP_CDC_STAT_CLOSED n) = s.get (TOP_CDC_STAT_CLOSED n)) ∧
  (∀ (n : Crossing) (s : State), s.live = true → (n.val < 20 ∨ (40 ≤ n.val ∧ n.val < 48) ∨ n.val = 51) →
    s.is (TOP_CDC_STAT_CLOSED n) = false → (s.crossOf n).reset = false → (s.crossOf n).reopening = false →
    exec (.cdcPulse n true) s = .next (s.set (TOP_CDC_STAT_OVERRUN n) 1) ∧
    exec (.cdcPulse n false) s = .next (if n.val < 20 then s.countSat (LNK_LANE_UNCORR_COUNT n) else s)) ∧
  (∀ (n : Crossing) (s : State), s.live = true → (s.crossOf n).reopening = true → (s.crossOf n).reset = false →
    (s.crossOf n).stopped = false →
    exec (.cdcReopen n) s = .next (s.setCross n { s.crossOf n with reopening := false }))

/-- The end of block resets and masks, the fault registers, and the supply and junction monitors (R36, R444, R447, R448,
R471, R502, R503). -/
def Obligations.BlocksAndFaultRegistersComplete : Prop :=
  (∀ (b : BlockId) (s : State), s.live = true → s.resetting.contains b = true → s.pcsHeld b = false →
    s.windowAt b + windowTicks b ≤ s.clk.time →
    exec (.blockResetEnd b) s =
      .next (State.blockResume (State.markWindow { s with resetting := s.resetting.filter (· != b) } b) b)) ∧
  (∀ (b : BlockId) (s : State), s.live = true → s.resetting.contains b = false → s.pcsHeld b = false →
    s.windowAt b + 4 ≤ s.clk.time → Answers (exec (.faultMaskEnd b) s) fun t =>
      t = { s with masked := t.masked, clk := { s.clk with windows := t.clk.windows } } ∧ t.masked.contains b = false ∧
        ∀ x, x ≠ b → t.masked.contains x = s.masked.contains x) ∧
  (∀ (o : Origin) (s : State), s.live = true → Answers (exec (.fltFirstClear o) s) fun t =>
    t.rd FLT_FIRST = 0 ∧ t.rd FLT_FIRST_TLO = 0 ∧ t.rd FLT_FIRST_THI = 0 ∧ t.rd FLT_FIRST_INFO = 0 ∧
      t.rd FLT_FIRST_ORIGIN = 0 ∧ t.log = (s.logPriv o FLT_FIRST (2 ^ 31) 0).log ∧
      (∀ a, a ∉ [FLT_FIRST, FLT_FIRST_TLO, FLT_FIRST_THI, FLT_FIRST_INFO, FLT_FIRST_ORIGIN] →
        t.rd a = (s.logPriv o FLT_FIRST (2 ^ 31) 0).rd a)) ∧
  (∀ (o : Origin) (k : Fin 10) (v : BitVec 32) (s : State), s.live = true →
    exec (.fltPendClear o k v) s =
      .next ((s.wr (FLT_PEND k) (s.rd (FLT_PEND k) &&& ~~~v)).logPriv o (FLT_PEND k) v.toNat 0)) ∧
  (∀ (mv : Vector (BitVec 12) 5) (tj : Vector (BitVec 16) 9) (s : State), s.live = true →
    ∀ u : State, u = State.each
      (State.each s (fun v s => s.supplySample v ((mv.toList.map BitVec.toNat).getD v 0)) (List.range 5))
      (fun i s => s.junctionSample i ((tj.toList.map BitVec.toNat).getD i 0)) (List.range 9) →
    exec (.monitorSample mv tj) s = .next (State.supplyFail
      (if (tj.toList.map BitVec.toNat).all (fun x => decide (signed 16 x < 105 * 16)) = true
        then u.set TOP_MONSTAT_TJ_ERR 0 else u)))

/-- The task ports: hoists, the admission unit, the TERMINAL of a buffered write, pops, and prefetches. -/
def Obligations.TaskPortsComplete : Prop :=
  (∀ (o : Origin) (n : TaskPort) (s : State), s.live = true → bitAt (s.get FLT_STAT_DIE_LOST) (portDie n) = false →
    s.is (TPT_PORT_CFG_ENABLE n) = true → s.is (TP_HOIST_HOIST n) = false →
    ∀ t : State, t = (if s.liveCount n < s.depthOf n then s.latch n (originSource o) else
      State.set { s with ports := { s.ports with held := s.ports.held ++ [(n.val, originSource o)] } } (TP_HOIST_HOIST n) 1) →
    (s.get (TP_CMD_OPCODE n) = 1 → exec (.hoistRead o n) s = .next t) ∧
    (s.get (TP_CMD_OPCODE n) = 2 → exec (.hoistWrite o n) s = .next t) ∧
    (s.get (TP_CMD_OPCODE n) = 3 → exec (.hoistAbort o n) s = .next t) ∧
    (s.get (TP_CMD_OPCODE n) ∉ [1, 2, 3] → exec (.hoistBadOpcode o n) s = .next t)) ∧
  (∀ (o : Origin) (n : TaskPort) (s : State), s.live = true → bitAt (s.get FLT_STAT_DIE_LOST) (portDie n) = false →
    (s.is (TPT_PORT_CFG_ENABLE n) = false ∨ s.is (TP_HOIST_HOIST n) = true) →
    (s.get (TP_CMD_OPCODE n) = 1 → exec (.hoistRead o n) s = .next (s.countSat (TP_DROPS_DROPS n))) ∧
    (s.get (TP_CMD_OPCODE n) = 2 → exec (.hoistWrite o n) s = .next (s.countSat (TP_DROPS_DROPS n))) ∧
    (s.get (TP_CMD_OPCODE n) = 3 → exec (.hoistAbort o n) s = .next (s.countSat (TP_DROPS_DROPS n))) ∧
    (s.get (TP_CMD_OPCODE n) ∉ [1, 2, 3] →
      exec (.hoistBadOpcode o n) s = .next (s.countSat (TP_DROPS_DROPS n)))) ∧
  (∀ (n : TaskPort) (s : State) (src : Option (Nat × Nat)), s.live = true →
    s.ports.held.find? (fun p => p.1 == n.val) = some (n.val, src) → s.liveCount n < s.depthOf n →
    exec (.heldHoistLatch n) s = .next (State.latch
      { s with ports := { s.ports with held := s.ports.held.filter (fun q => q.1 != n.val) } } n src)) ∧
  (∀ (d : Die) (h : Fin 16384) (unit : Fin 4) (met edge : BitVec 8) (s u : State) (id : Nat) (ids : List Nat) (c : Cmd),
    s.live = true → u = (s.refillAhead edge.toNat).meeting met.toNat →
    u.adq d = id :: ids → u.cmd? id = some c → c.th + 8 ≤ u.clk.time →
    (u.predsOf c).any (fun p => p.phase = .queued) = false →
    exec (.admissionUnitTake d h unit met edge) s = .next (u.weigh c h unit)) ∧
  (∀ (n : TaskPort) (tag : BitVec 16) (s : State) (c : Cmd), s.live = true →
    (s.liveOf n).find? (fun c => c.tag == tag.toNat && c.writes && c.buffered && c.phase = .promised) = some c →
    c.tp ≤ s.clk.time →
    exec (.bufferedTerminal n tag) s = .next (if c.mediaDone = true then (s.endCmd c.id).tidy else
      { s.endCmd c.id with bufRecs := (s.endCmd c.id).bufRecs ++ [⟨c.id, c.burgee, c.lba, c.count⟩] })) ∧
  (∀ (n : TaskPort) (s : State), s.live = true → bitAt (s.get FLT_STAT_DIE_LOST) (portDie n) = false →
    exec (.cqPop n) s = .next (s.pop n) ∧ (s.queueOf n = [] → exec (.cqPop n) s = .next s)) ∧
  (∀ (d : Die) (i : Fin 64) (k : Fin 16) (h : Fin 16384) (s : State) (e : Stream) (x : Nat), s.live = true →
    (s.cacheOf d).streams[i.val]? = some e → s.mayPrefetch d (k.val + 1) e = true →
    ∀ c : Cmd, c = s.prefetchCmd d (k.val + 1) e → s.prefetchOk c = true →
    (List.range c.count).all (fun j => s.present (c.lba + j)) = false → s.freeHandle h = some x →
    exec (.prefetchIssue d i k h) s = .next (s.placePrefetch d i { c with handle := x }))

/-- Slot operations, port configuration, rights entries, grants and the hold limit (R147 to R154). -/
def Obligations.WindowAndRightsComplete : Prop :=
  (∀ (o : Origin) (n : TaskPort) (num : Fin 4194304) (s : State) (u : Bool → Bool → State), s.live = true →
    bitAt (s.get FLT_STAT_DIE_LOST) (portDie n) = false → s.is (TP_SLOTRES_BUSY n) = false → num.val ≠ 0 →
    s.get (TP_SLOTCMD_FIRST n) + num.val ≤ 2097152 →
    (∀ claim bad, u claim bad = { s.set (TP_SLOTRES_BUSY n) 1 with ports := { s.ports with
      slotOps := tset none s.ports.slotOps n.val (some ⟨claim, s.get (TP_SLOTCMD_FIRST n), num, 0, bad, orgOf o⟩) } }) →
    ((∀ m, s.get (TP_SLOTCMD_FIRST n) ≤ m → m < s.get (TP_SLOTCMD_FIRST n) + num.val →
        s.granted (s.get (TPT_PORT_CFG_BURGEE n)) m = true) →
      exec (.slotopFree o n num) s = .next (u false false) ∧ exec (.slotopClaim o n num) s = .next (u true false)) ∧
    (∀ m, s.get (TP_SLOTCMD_FIRST n) ≤ m → m < s.get (TP_SLOTCMD_FIRST n) + num.val →
      s.granted (s.get (TPT_PORT_CFG_BURGEE n)) m = false →
      (∀ k, s.get (TP_SLOTCMD_FIRST n) ≤ k → k < m → s.granted (s.get (TPT_PORT_CFG_BURGEE n)) k = true) →
      exec (.slotopFree o n num) s = .next
        (State.viewViolation (u false true) (s.get (TPT_PORT_CFG_BURGEE n)) (orgOf o) (slotLink m) true 2) ∧
      exec (.slotopClaim o n num) s = .next
        (State.viewViolation (u true true) (s.get (TPT_PORT_CFG_BURGEE n)) (orgOf o) (slotLink m) true 2))) ∧
  (∀ (n : TaskPort) (s : State) (op : SlotOp), s.live = true → tget none s.ports.slotOps n.val = some op →
    (op.bad = false → op.left ≤ 256 → ∀ u : State × Nat, u = s.slotRun op.claim op.left op.next op.skipped →
      exec (.slotopComplete n) s = .next ((((State.set { u.1 with ports := { s.ports with
        slotOps := tset none s.ports.slotOps n.val none } } (TP_SLOTRES_BUSY n) 0).set (TP_SLOTRES_RESULT n)
          (if u.2 = 0 then 0 else 2)).set (TP_SLOTRES_SKIPPED n) u.2))) ∧
    (op.bad = true → exec (.slotopComplete n) s = .next (((State.set { s with ports := { s.ports with
        slotOps := tset none s.ports.slotOps n.val none } } (TP_SLOTRES_BUSY n) 0).set (TP_SLOTRES_RESULT n) 1).set
          (TP_SLOTRES_SKIPPED n) 0))) ∧
  (∀ (o : Origin) (n : TaskPort) (v : Word) (s : State), s.live = true →
    s.is (TPT_PORT_CFG_ENABLE n) = false → s.draining n = false → s.ports.held.any (fun p => p.1 == n.val) = false →
    bitAt v.toNat 31 = true → bitsOf v.toNat 0 12 ≠ 0 →
    bitsOf v.toNat 12 9 ≠ 0 → bitsOf v.toNat 12 9 ≤ 256 →
    s.get (TPT_CREDIT_CREDITED (portDie n)) + 2 * bitsOf v.toNat 12 9 ≤ 98304 →
    ∀ w : Nat, w = bitsOf v.toNat 0 21 + bitsOf v.toNat 31 1 * 2 ^ 31 →
    exec (.portCfgWrite o n v) s = .next (State.event ((s.wr (TPT_PORT_CFG n) (BitVec.ofNat 32 w)).set
      (TPT_CREDIT_CREDITED (portDie n)) (s.get (TPT_CREDIT_CREDITED (portDie n)) + 2 * bitsOf v.toNat 12 9)) (orgOf o) 0x24
      [n, (s.rd (TPT_PORT_CFG n)).toNat, w, 0])) ∧
  (∀ (o : Origin) (s : State) (u : Nat → State), s.live = true → s.is TPT_RSTAT_BUSY = false →
    (∀ op, u op = State.set { s with ports := { s.ports with rcmd := some ⟨op, 0, orgOf o⟩ } } TPT_RSTAT_BUSY 1) →
    exec (.rightsRead o) s = .next ((u 1).logPriv o TPT_RCMD 1 0) ∧ exec (.rightsSet o) s = .next (u 2) ∧
      exec (.rightsClear o) s = .next (u 3)) ∧
  (∀ (s u : State) (r : Running) (e : Rights), s.live = true → s.ports.rcmd = some r →
    u = State.set { s with ports := { s.ports with rcmd := none } } TPT_RSTAT_BUSY 0 →
    e = tget Rights.init s.ports.rights (s.get TPT_RSEL_ENTRY) →
    (r.op = 1 → exec .rightsCmdComplete s = .next (((((((((u.set TPT_RBASE_LO_BASE_LO e.base).set TPT_RBASE_HI_BASE_HI
      (e.base / 2 ^ 32)).set TPT_RCNT_LO_CNT_LO e.cnt).set TPT_RCNT_HI_CNT_HI (e.cnt / 2 ^ 32)).set TPT_ROWN_BURGEE
      e.burgee).set TPT_ROWN_READ (if e.rd then 1 else 0)).set TPT_ROWN_WRITE (if e.wr then 1 else 0)).set
      TPT_RSTAT_ERR 0))) ∧
    (r.op = 2 → 0 < s.stagedRights.cnt → s.stagedRights.base + s.stagedRights.cnt - 1 ≤ s.capacity →
      0 < s.stagedRights.burgee → exec .rightsCmdComplete s = .next ((State.set { u with ports := { u.ports with
        rights := tset Rights.init s.ports.rights (s.get TPT_RSEL_ENTRY) s.stagedRights } } TPT_RSTAT_ERR 0).rightsEvent
          r.origin 2 0)) ∧
    (r.op = 2 → (s.stagedRights.cnt = 0 ∨ s.capacity < s.stagedRights.base + s.stagedRights.cnt - 1 ∨
      s.stagedRights.burgee = 0) → exec .rightsCmdComplete s = .next ((u.set TPT_RSTAT_ERR 1).rightsEvent r.origin 2 1)) ∧
    (r.op = 3 → exec .rightsCmdComplete s = .next ((State.set { u with ports := { u.ports with
        rights := tset Rights.init s.ports.rights (s.get TPT_RSEL_ENTRY) Rights.init } } TPT_RSTAT_ERR 0).rightsEvent
          r.origin 3 0))) ∧
  (∀ (o : Origin) (s : State) (u : Nat → State), s.live = true → s.is WIN_GSTAT_BUSY = false →
    (∀ op, u op = State.set { s with win := { s.win with gcmd := some ⟨op, 0, orgOf o⟩ } } WIN_GSTAT_BUSY 1) →
    exec (.grantRead o) s = .next ((u 1).logPriv o WIN_GCMD 1 0) ∧ exec (.grantSet o) s = .next (u 2) ∧
      exec (.grantRevoke o) s = .next (u 3)) ∧
  (∀ (s u : State) (r : Running) (q : State × Nat) (g : Grant), s.live = true → s.win.gcmd = some r →
    u = State.set { s with win := { s.win with gcmd := none } } WIN_GSTAT_BUSY 0 →
    q = (if r.op = 2 then u.grantSet (u.get WIN_GSEL_ENTRY)
        ⟨true, u.get WIN_GBASE_BASE, u.get WIN_GCNT_NUM, u.get WIN_GOWN_BURGEE⟩ else u.grantRevoke (u.get WIN_GSEL_ENTRY)) →
    g = tget Grant.init u.win.grants (u.get WIN_GSEL_ENTRY) →
    (r.op = 1 → exec .grantCmdComplete s = .next (((((u.set WIN_GBASE_BASE g.base).set WIN_GCNT_NUM g.num).set
      WIN_GOWN_BURGEE g.burgee).set WIN_GOWN_VALID (if g.valid then 1 else 0)).set WIN_GSTAT_ERR 0)) ∧
    (r.op = 2 ∨ r.op = 3 →
      exec .grantCmdComplete s = .next ((q.1.set WIN_GSTAT_ERR q.2).grantEvent r.origin r.op q.2))) ∧
  (∀ s : State, s.live = true → s.get WIN_HOLD_LIMIT_MS ≠ 0 → s.win.sweptAt + s.sweepPeriod ≤ s.clk.time →
    exec .holdSweep s = .next (State.each { s with win := { s.win with sweptAt := s.clk.time } }
      (fun m s => s.visit m) (s.win.flags.map Prod.fst))) ∧
  (∀ (o : Origin) (v : Word) (s : State), s.live = true →
    exec (.winHoldWrite o v) s = .next ((State.set { s with win := { s.win with sweptAt := s.clk.time } }
      WIN_HOLD_LIMIT_MS v.toNat).logPriv o WIN_HOLD v.toNat 0))

/-- Register and window accesses: REGISTER_WRITE, RC_FIELD_READ, LINK_RREG, LINK_WREG, LINK_WRD and LINK_WWR. -/
def Obligations.AccessesComplete : Prop :=
  (∀ (o : Origin) (a : BitVec 48) (v : Word) (s : State), s.live = true →
    (s.outside o a.toNat false = none → exec (.registerWrite o a v) s = .next (s.writeAt o a.toNat v.toNat)) ∧
    (∀ b why, s.outside o a.toNat false = some (b, why) →
      exec (.registerWrite o a v) s = .next (s.viewViolation b (orgOf o) a.toNat true why))) ∧
  (∀ (o : Origin) (a : BitVec 48) (s : State) (r : RegDef) (ix : List Nat), s.live = true →
    s.outside o a.toNat false = none → findReg a.toNat = some (r, ix) → s.regLost a.toNat ix = false →
    exec (.rcFieldRead o a) s = .next (s.afterRead r ix a.toNat)) ∧
  (∀ (o : Origin) (a : BitVec 48) (s : State) (b why : Nat), s.live = true → s.outside o a.toNat false = some (b, why) →
    exec (.rcFieldRead o a) s = .next (s.viewViolation b (orgOf o) a.toNat false why)) ∧
  (∀ (p : LinkPort) (view : Bool) (func : Fin 256) (burgee : Fin 4096) (tag : BitVec 12) (a : BitVec 48) (s : State)
    (r : RegDef) (ix : List Nat), s.live = true → s.outside (.link p view func burgee) a.toNat false = none →
    findReg a.toNat = some (r, ix) → s.regLost a.toNat ix = false →
    ∀ w : Nat, w = readable (s.shown r.id ix a.toNat) r.fields →
    exec (.linkRreg p view func burgee tag a) s = .next ((s.afterRead r ix a.toNat).answer p
      ⟨8, view, func, burgee, tag.toNat, if w = poisonPattern then 1 else 0, a.toNat % 2 ^ 32, [w]⟩)) ∧
  (∀ (p : LinkPort) (view : Bool) (func : Fin 256) (burgee : Fin 4096) (tag : BitVec 12) (a : BitVec 48) (s : State)
    (b why : Nat), s.live = true → s.outside (.link p view func burgee) a.toNat false = some (b, why) →
    exec (.linkRreg p view func burgee tag a) s =
      .next ((s.viewViolation b (orgOf (.link p view func burgee)) a.toNat false why).answer p
        ⟨8, view, func, burgee, tag.toNat, 2, a.toNat % 2 ^ 32, [0]⟩)) ∧
  (∀ (p : LinkPort) (view : Bool) (func : Fin 256) (burgee : Fin 4096) (a : BitVec 32) (v : Word) (s : State),
    s.live = true → exec (.linkWreg p view func burgee a v) s =
      .next ((s.writeReg (.link p view func burgee) a.toNat v.toNat).donePosted p 1)) ∧
  (∀ (p : LinkPort) (func : Fin 256) (burgee : Fin 4096) (tag : BitVec 12) (lenw : Fin 1024) (a : BitVec 48)
    (s : State) (m off : Nat), s.live = true → s.outside (.link p true func burgee) a.toNat true = none →
    slotRange a.toNat (lenw.val + 1) = some (m, off) → ∀ ws : List Nat, ws = s.slotWords m off (lenw.val + 1) →
    exec (.linkWrd p true func burgee tag lenw a) s = .next (s.answer p
      ⟨8, true, func, burgee, tag.toNat, rspStatus false ws, a.toNat, ws⟩)) ∧
  (∀ (p : LinkPort) (func : Fin 256) (burgee : Fin 4096) (tag : BitVec 12) (lenw : Fin 1024) (a : BitVec 48)
    (s : State) (m off : Nat), s.live = true → s.outside (.link p false func burgee) a.toNat true = none →
    slotRange a.toNat (lenw.val + 1) = some (m, off) → s.flag m = slotHOST →
    ∀ ws : List Nat, ws = s.slotWords m off (lenw.val + 1) →
    exec (.linkWrd p false func burgee tag lenw a) s = .next (s.answer p
      ⟨8, false, func, burgee, tag.toNat, rspStatus false ws, a.toNat, ws⟩)) ∧
  (∀ (p : LinkPort) (func : Fin 256) (burgee : Fin 4096) (a : BitVec 48) (data : List Word) (s : State) (m off : Nat),
    s.live = true → s.outside (.link p true func burgee) a.toNat true = none →
    slotRange a.toNat data.length = some (m, off) → s.grantOf? m = none →
    exec (.linkWwr p true func burgee a data) s =
      .next ((s.putSlot (orgOf (.link p true func burgee)) m off (data.map BitVec.toNat)).donePosted p
        ((16 + 4 * data.length + 63) / 64))) ∧
  (∀ (p : LinkPort) (view : Bool) (func : Fin 256) (burgee : Fin 4096) (a : BitVec 48) (data : List Word) (s : State)
    (m off : Nat) (g : Grant), s.live = true → s.outside (.link p view func burgee) a.toNat true = none →
    slotRange a.toNat data.length = some (m, off) → s.grantOf? m = some g → s.flag m = slotHOST →
    exec (.linkWwr p view func burgee a data) s =
      .next ((s.putSlot (orgOf (.link p view func burgee)) m off (data.map BitVec.toNat)).donePosted p
        ((16 + 4 * data.length + 63) / 64)))

/-- R12, the RC row of its table. -/
def Obligations.RcFieldClearsOnRead : Prop :=
  ∀ (o : Origin) (a : BitVec 48) (s : State) (r : RegDef) (ix : List Nat) (f : FieldDef), s.live = true →
    s.outside o a.toNat false = none → findReg a.toNat = some (r, ix) → s.regLost a.toNat ix = false →
    f ∈ r.fields → f.acc = .rc →
    Answers (exec (.rcFieldRead o a) s) fun t =>
      (r.id = .TP_CQ_POP → t = s.pop (ix.headD 0)) ∧
      (r.id = .TP_WVIOL → tget 0 t.ports.wviol (s.get (TPT_PORT_CFG_BURGEE (ix.headD 0))) = 0) ∧
      (r.id ≠ .TP_CQ_POP → r.id ≠ .TP_WVIOL → bitsOf (t.rd a.toNat).toNat f.lo f.w = f.rst ∧
        (r.id ∉ [.TOP_VMON, .TOP_TJ] → f.rst = 0))

/-- R13. -/
def Obligations.RefusedReadClearsNothing : Prop :=
  ∀ (o : Origin) (a : BitVec 48) (s : State), s.live = true →
    (findReg a.toNat = none ∨ (s.outside o a.toNat false).isSome = true) →
    ∀ res : List Res, res = exec (.rcFieldRead o a) s :: (match o with
      | .link p view func burgee => [exec (.linkRreg p view func burgee 0 a) s]
      | _ => []) →
    ∀ x ∈ res, Answers x fun t => t.ports = s.ports ∧
      ∀ (b : Nat) (r : RegDef) (ix : List Nat) (f : FieldDef), findReg b = some (r, ix) → f ∈ r.fields → f.acc = .rc →
        (b ∉ [LOG_VVCOUNT, LOG_VVSUPP, LOG_INLOST] →
          bitsOf (t.rd b).toNat f.lo f.w = bitsOf (s.rd b).toNat f.lo f.w) ∧
        (b ∈ [LOG_VVCOUNT, LOG_VVSUPP] → bitsOf (s.rd b).toNat f.lo f.w ≤ bitsOf (t.rd b).toNat f.lo f.w) ∧
        (b = LOG_INLOST → s.get LOG_INLOST_COUNT + 1 < 2 ^ 32 →
          bitsOf (s.rd b).toNat f.lo f.w ≤ bitsOf (t.rd b).toNat f.lo f.w)

/-- The LANE unit, write starts, and the loss and the inhibit of a lane. -/
def Obligations.LaneCommandsComplete : Prop :=
  (∀ (c : Cluster) (f : Surface) (slot : BitVec 32) (s : State), s.live = true → s.laneIsLost c f = false →
    s.resetting.contains (.lane c f) = false → s.cmdByHandle? ((s.tlOf c).cellAt (s.tlOf c).now f).owner = none →
    s.is LOOP_PF_STAT_PHASE = false → ∀ t : Bool → State,
    t = (fun write => State.setLane s c f
      { s.lane c f with arm := some ⟨write, slot.toNat, ((s.tlOf c).cellAt (s.tlOf c).now f).owner⟩, ended := false }) →
    exec (.laneArmRead c (1#32 <<< f.val) slot) s = .next ((t false).seqEvent c 10) ∧
    exec (.laneArmWrite c (1#32 <<< f.val) slot) s = .next ((t true).seqEvent c 10)) ∧
  (∀ (c : Cluster) (mask slot : BitVec 32) (s : State), s.live = true →
    exec (.laneArmRead c mask slot) s = .next ((State.each s (fun f s => s.armLane c slot.toNat false f)
      (setBits 32 mask.toNat)).seqEvent c 10) ∧
    exec (.laneArmWrite c mask slot) s = .next ((State.each s (fun f s => s.armLane c slot.toNat true f)
      (setBits 32 mask.toNat)).seqEvent c 10) ∧
    exec (.laneDisarm c mask) s = .next (State.each s (fun f s => s.disarm c f) (setBits 32 mask.toNat))) ∧
  (∀ (c : Cluster) (f : Surface) (s : State) (a : LaneArm), s.live = true → (s.lane c f).arm = some a → a.write = true →
    (s.lane c f).ended = false → (s.lane c f).writing = false → s.get LOOP_PF_STAT_PHASE < 2 →
    s.get (LAN_STAT_MODE c f) = 3 → s.is (LAN_STAT_WINH c f) = false → (s.lane c f).idle = false →
    (s.lane c f).held = false → s.laneIsLost c f = false →
    exec (.fragmentWriteStart c f true) s =
      .next ((s.loadWriteZone c f a.slot).setLane c f { s.lane c f with writing := true, out := s.writeBits c f a.slot }) ∧
    (s.loadWriteZone c f a.slot).get (LAN_WRATE_WRATE c f) =
      s.get (RCH_ZTAB_WORD c f (16 * s.slotZone c a.slot + 2)) % 2 ^ (LAN_WRATE_WRATE c f).w) ∧
  (∀ (c : Cluster) (f : Surface) (s : State) (a : LaneArm), s.live = true → (s.lane c f).arm = some a → a.write = true →
    (s.lane c f).ended = false → (s.lane c f).writing = false → s.is (LAN_STAT_WINH c f) = true →
    s.get (LAN_STAT_MODE c f) = 3 → ∀ x, x = s.strOf c →
    exec (.fragmentWriteStart c f true) s = .next ((((s.setStr c { x with opened := markCut a.slot f x.opened }).setLane
      c f { s.lane c f with ended := true }).count (LAN_WCUT_COUNT c f)).fragEnd c)) ∧
  (∀ (c : Cluster) (f : Surface) (s : State), s.live = true → (s.lane c f).read.isSome = true →
    exec (.adcStuck c f) s = .next ((s.set (LAN_FAULT_ADC_STUCK c f) 1).surfaceLost c f)) ∧
  (∀ (o : Origin) (c : Cluster) (f : Surface) (b : Bool) (s : State), s.live = true →
    bitAt (s.get FLT_STAT_DIE_LOST) (dieOf c) = false →
    exec (.hostWinhWrite o c f b) s = .next (((s.set (LAN_CTL_HOST_WINH c f) (if b then 1 else 0)).setWhy c f 3
      b).logPriv o (LAN_CTL c f) (if b then 1 else 0) 0)) ∧
  (∀ (o : Origin) (c : Cluster) (f : Surface) (s : State), s.live = true →
    bitAt (s.get FLT_STAT_DIE_LOST) (dieOf c) = false →
    exec (.laneRetire o c f) s = .next ((State.set ((State.setWhy (s.set (LAN_CTL_HOST_WINH c f)
      (s.get (LAN_CTL_HOST_WINH c f))) c f 3 (s.is (LAN_CTL_HOST_WINH c f))).logPriv o (LAN_CTL c f)
      (2 + s.get (LAN_CTL_HOST_WINH c f)) 0) (LAN_CTL_RETIRE c f) 1).surfaceLost c f))

/-- The preamp control bus. -/
def Obligations.PreampBusCompletes : Prop :=
  (∀ (c : Cluster) (fits : Bool) (s : State), s.live = true → s.is (SRV_PCB_STAT_UP c) = true →
    (s.pcbOf c).maDue = true → (s.pcbOf c).queue.any PcbFrame.reheat = false →
    Answers (exec (.pcbFrameSend c fits) s) fun t =>
      t.pcbOf c = { s.pcbOf c with
        maDue := false, seqNo := ((s.pcbOf c).seqNo + 1) % 16
        line := pcbBits PcbKind.ma.code (s.pcbOf c).seqNo (s.maWords c) } ∧ t.regs = s.regs) ∧
  (∀ (c : Cluster) (s : State), s.live = true → s.is (SRV_PCB_STAT_UP c) = true →
    (s.pcbOf c).maDue = false → (s.pcbOf c).heatDue = true →
    exec (.pcbFrameSend c true) s = .next (((s.setPcb c { s.pcbOf c with heatDue := false }).noteHeat c).pcbSend c
      ⟨.heat, s.heatWords c, 0, 0, 0, 0, false⟩)) ∧
  (∀ (c : Cluster) (s : State) (q : PcbFrame), s.live = true → s.is (SRV_PCB_STAT_UP c) = true →
    (s.pcbOf c).maDue = false → (s.pcbOf c).heatDue = false →
    firstFrame (s.pcbOf c).queue = some q → q.kind = .mode →
    Answers (exec (.pcbFrameSend c true) s) fun t =>
      t.pcbOf c = { s.pcbOf c with
        queue := (s.pcbOf c).queue.erase q, seqNo := ((s.pcbOf c).seqNo + 1) % 16
        line := pcbBits PcbKind.mode.code (s.pcbOf c).seqNo (s.modeWords c q)
        wait := (s.pcbOf c).wait ++ [{ q with words := s.modeWords c q, seq := (s.pcbOf c).seqNo }] }) ∧
  (∀ (c : Cluster) (seq : Fin 16) (s : State) (q : PcbFrame) (qs : List PcbFrame), s.live = true →
    s.is (TOP_CDC_STAT_CLOSED (40 + c)) = false → (s.pcbOf c).wait = q :: qs → q.seq = seq.val →
    ∀ u : State, u = s.setPcb c { s.pcbOf c with wait := qs, fails := 0 } →
    (q.kind = .mode → exec (.pcbAck c seq) s =
      .next ((State.each u (fun f s => s.set (LAN_STAT_MODE c f) q.mode) (setBits 32 q.mask)).seqEvent c 8)) ∧
    (q.kind = .wreg → exec (.pcbAck c seq) s = .next (u.pcbRegEnd c false)) ∧
    (q.kind = .ping → exec (.pcbAck c seq) s = .next u)) ∧
  (∀ (c : Cluster) (s : State) (q : PcbFrame) (qs : List PcbFrame), s.live = true →
    s.is (TOP_CDC_STAT_CLOSED (40 + c)) = false → (s.pcbOf c).wait = q :: qs →
    ∀ u : State, u = s.setPcb c { s.pcbOf c with wait := qs, fails := 0 } →
    (∀ r : Vector (BitVec 16) 32, q.kind = .heat →
      exec (.pcbSense c r) s = .next (u.senseAll c (r.toList.map BitVec.toNat))) ∧
    (∀ addr data : BitVec 16, q.kind = .rreg → q.words = [addr.toNat] → Answers (exec (.pcbRdata c addr data) s) fun t =>
      t = (u.pcbRegEnd c false).set (SRV_PCB_REGD_DATA c) data.toNat ∧ t.get (SRV_PCB_REGD_DATA c) = data.toNat ∧
      t.get (SRV_PCB_REGSTAT_BUSY c) = 0 ∧ t.get (SRV_PCB_REGSTAT_ERR c) = 0)) ∧
  (∀ (c : Cluster) (passed : BitVec 12) (s : State), s.live = true → s.is (TOP_CDC_STAT_CLOSED (40 + c)) = false →
    exec (.pcbNak c false passed) s = .next ((s.count (SRV_PCB_NAKS_COUNT c)).pcbHeadFails c passed.toNat) ∧
    exec (.pcbNak c true passed) s = .next ((s.count (SRV_PCB_NAKS_COUNT c)).pcbFail c none 0) ∧
    exec (.pcbBadFrame c passed) s = .next ((s.count (SRV_PCB_CRCERR_COUNT c)).pcbHeadFails c passed.toNat) ∧
    ((s.pcbOf c).wait ≠ [] → exec (.pcbExchangeTimeout c passed) s =
      .next ((s.count (SRV_PCB_NORESP_COUNT c)).pcbHeadFails c passed.toNat))) ∧
  (∀ (o : Origin) (c : Cluster) (s : State), s.live = true → bitAt (s.get FLT_STAT_DIE_LOST) (dieOf c) = false →
    s.is (SRV_PCB_REGSTAT_BUSY c) = false →
    (Answers (exec (.pcbRegRead o c) s) fun t => t.get (SRV_PCB_REGSTAT_BUSY c) = 1 ∧ t.get (SRV_PCB_REGSTAT_ERR c) = 0 ∧
      (t.pcbOf c).queue = (s.pcbOf c).queue ++ [⟨.rreg, [s.get (SRV_PCB_REGA_ADDR c)], 0, 0, 0, 0, false⟩]) ∧
    (Answers (exec (.pcbRegWrite o c) s) fun t => t.get (SRV_PCB_REGSTAT_BUSY c) = 1 ∧ t.get (SRV_PCB_REGSTAT_ERR c) = 0 ∧
      (t.pcbOf c).queue = (s.pcbOf c).queue ++
        [⟨.wreg, [s.get (SRV_PCB_REGA_ADDR c), s.get (SRV_PCB_REGD_DATA c)], 0, 0, 0, 0, false⟩])) ∧
  (∀ (c : Cluster) (surfaces : BitVec 32) (cause : BitVec 8) (s : State), s.live = true →
    s.is (TOP_CDC_STAT_CLOSED (40 + c)) = false →
    ∀ (m k : Nat) (u : State), m = surfaces.toNat → k = cause.toNat →
    u = (State.raiseC (((s.set (SRV_PCB_FAULT_SURFACES c 0) (m % 2 ^ 16)).set (SRV_PCB_FAULT_SURFACES c 1)
      (m / 2 ^ 16)).set (SRV_PCB_FCAUSE_CAUSE c) k) kPREAMP_FAULT c k) →
    ∀ v : State, v = State.each (State.each ((u.setPcb c { u.pcbOf c with pflt := none }).seqIrq c 2)
        (fun f s => s.setLane c f { s.lane c f with resume := (s.lane c f).idle })
        ((List.range 32).filter (fun f => !bitAt m f))) (fun f s => s.faultSurface c k f) (setBits 32 m) →
    exec (.pcbFaultFrame c surfaces cause) s = .next (if k = 0 ∨ 6 < k then v.preampLost c else v)) ∧
  (∀ (c : Cluster) (s : State), s.live = true →
    exec (.pfltFall c) s = .next (State.seqIrq (State.each ((s.set (SRV_PCB_STAT_PFLT c) 1).setPcb c
      { s.pcbOf c with pflt := some 0 }) (fun f s => (s.cutWrite c f).setLane c f
        { (s.cutWrite c f).lane c f with idle := true, resume := false }) (List.range 32)) c 2) ∧
    exec (.pfltRise c) s = .next (s.set (SRV_PCB_STAT_PFLT c) 0) ∧
    ((s.pcbOf c).pflt = some 4 → exec (.pfltNoFaultFrame c) s = .next (s.preampLost c)))

/-- The motor command bus. -/
def Obligations.MotorBusCompletes : Prop :=
  (∀ (drive angle : BitVec 12) (s : State), s.live = true → s.is LOOP_MCB_STAT_UP = true → s.clk.time % 50 = 0 →
    s.dieIsLost (s.get LOOP_MCB_STAT_MASTER) = false →
    exec (.mcbCycle drive angle) s = .next (s.mcbTurn (s.clk.time / 50) drive.toNat angle.toNat) ∧
    (∀ q qs, s.mcb.spmode = none → s.clk.time / 50 % 16 ≠ 0 → s.mcb.vcm = q :: qs →
      exec (.mcbCycle drive angle) s =
        .next (State.parkDone { s with mcb := { s.mcb with
          vcm := qs, flight := s.mcb.flight ++ [{ q with seq := s.clk.time / 50 % 16 }]
          line := mcbBits q.kind.code q.target (s.clk.time / 50 % 16) q.payload } })) ∧
    (∀ q, s.mcb.spmode = some q → q.pf = true → exec (.mcbCycle drive angle) s = .next { s with mcb := { s.mcb with
          spmode := none, flight := s.mcb.flight ++ [{ q with seq := s.clk.time / 50 % 16 }]
          line := mcbBits q.kind.code q.target (s.clk.time / 50 % 16) q.payload } })) ∧
  (∀ (s : State) (q : McbFrame) (qs : List McbFrame) (n : Fin 16), s.live = true → s.mcb.flight = q :: qs → q.seq = n.val →
    s.is (TOP_CDC_STAT_CLOSED (48 + s.get LOOP_MCB_STAT_MASTER)) = false →
    s.dieIsLost (s.get LOOP_MCB_STAT_MASTER) = false →
    ∀ u : State, u = { s with mcb := { s.mcb with flight := qs, fails := 0 } } →
    (∀ echo : BitVec 24, q.payload = echo.toNat →
      (q.kind = .wreg → Answers (exec (.mcbAck n echo) s) fun t =>
        t = u.set LOOP_MCB_REG_BUSY 0 ∧ t.get LOOP_MCB_REG_BUSY = 0) ∧
      (q.kind = .spmode ∨ q.kind = .nop → exec (.mcbAck n echo) s = .next u)) ∧
    (∀ (c : Cluster) (cur emf : BitVec 12), q.kind = .vcm → q.target = c.val →
      Answers (exec (.vcmMeas c n cur emf) s) fun t => tget (0, 0) t.mcb.meas c = (cur.toNat, emf.toNat) ∧
        t.mcb.flight = qs ∧ t.mcb.fails = 0 ∧ t.regs = s.regs) ∧
    (∀ (emf : BitVec 12) (phase : Fin 3) (vbus : BitVec 10), q.kind = .spin → ∀ v : State,
      v = { u with mcb := { u.mcb with spin := (emf.toNat, phase.val, vbus.toNat) } } →
      exec (.spinMeas n emf phase vbus none) s = .next v ∧
      (∀ (up : Bool) (k : Fin 16), exec (.spinMeas n emf phase vbus (some (up, k))) s =
        .next (if s.spinRuns then v.spinZero up (16 * s.clk.time + k.val) else v))) ∧
    (∀ (addr : BitVec 8) (data : BitVec 16), q.kind = .rreg → q.payload = addr.toNat →
      Answers (exec (.mcbRdata n addr data) s) fun t =>
        t.get LOOP_MCB_REG_DATA = data.toNat ∧ t.get LOOP_MCB_REG_BUSY = 0 ∧ t.mcb = u.mcb) ∧
    (∀ payload : BitVec 24, Answers (exec (.mcbFault n payload) s) fun t => t.get LOOP_MCB_FCODE_FAULT = payload.toNat ∧
      t.get LOOP_MCB_STAT_DRV_FAULT = 1 ∧ t.mcb = (u.mcbAgain q).mcb) ∧
    (s.mcb.fails + 1 < 64 → q.kind = .vcm ∨ q.kind = .spin ∨ q.kind = .nop →
      ∀ t : State, t = State.count { s with mcb := { s.mcb with flight := qs, fails := s.mcb.fails + 1 } }
        LOOP_MCB_FAILS_COUNT →
      exec (.mcbNak n) s = .next t ∧ exec .mcbBadReply s = .next t) ∧
    (s.mcb.fails + 1 = 64 → q.kind = .vcm ∨ q.kind = .spin ∨ q.kind = .nop →
      ∀ t : State, t = State.count { s with mcb := { s.mcb with flight := qs, fails := s.mcb.fails + 1 } }
        LOOP_MCB_FAILS_COUNT →
      exec (.mcbNak n) s = .next t.motorLost ∧ exec .mcbBadReply s = .next t.motorLost)) ∧
  (∀ (o : Origin) (addr : BitVec 8) (data : BitVec 16) (s : State), s.live = true → s.is LOOP_MCB_REG_BUSY = false →
    (Answers (exec (.mcbRegRead o addr) s) fun t => t.get LOOP_MCB_REG_BUSY = 1 ∧
      t.get LOOP_MCB_REG_ADDR = addr.toNat ∧ t.get LOOP_MCB_REG_DATA = s.get LOOP_MCB_REG_DATA ∧
      t.mcb = { s.mcb with reg := some ⟨.rreg, 0, addr.toNat, 0, 0, false⟩ }) ∧
    (Answers (exec (.mcbRegWrite o addr data) s) fun t => t.get LOOP_MCB_REG_BUSY = 1 ∧
      t.get LOOP_MCB_REG_ADDR = addr.toNat ∧ t.get LOOP_MCB_REG_DATA = data.toNat ∧
      t.mcb = { s.mcb with reg := some ⟨.wreg, 0, addr.toNat + data.toNat * 2 ^ 8, 0, 0, false⟩ })) ∧
  (∀ s : State, s.live = true → s.dieIsLost 0 = true → s.is LOOP_MCB_STAT_MASTER = false →
    (s.is (TOP_CDC_STAT_CLOSED 49) = false → exec .masterTakeover s = .next (s.set LOOP_MCB_STAT_MASTER 1)) ∧
    (s.is (TOP_CDC_STAT_CLOSED 49) = true →
      exec .masterTakeover s = .next (s.set LOOP_MCB_STAT_MASTER 1).motorLost))

/-- The power-fail sequence. -/
def Obligations.PowerFailCompletes : Prop :=
  (∀ s : State, s.live = true →
    exec .pfailNFall s = .next { s with pf := { s.pf with low := true, lowAt := s.clk.time } }) ∧
  (∀ s : State, s.live = true → s.pf.low = true →
    (s.get LOOP_PF_STAT_PHASE = 0 ∨ s.pf.acceptedAt < s.pf.lowAt → s.clk.time ≤ s.pf.lowAt + 4 → exec .pfailGlitch s =
      .next (State.count { s with pf := { s.pf with low := false } } LOOP_PF_GLITCH_COUNT)) ∧
    (s.get LOOP_PF_STAT_PHASE = 0 → s.start.armed = true → s.pf.lowAt + 4 ≤ s.clk.time → ∀ u v w : State,
      u = { s with pf := { s.pf with
        acceptedAt := s.clk.time, todo := (List.range 8).foldl (fun t c => tset [] t c (s.dumpStripes c)) [] } } →
      v = State.queueSpmode ((State.failAssumption (State.failAssumption (((u.raise srcPFAIL 0 orgPfail).lifeEntry
        .pfail).set LOOP_PF_STAT_PHASE 1) 6 (fun _ => true)) 2 (fun _ => true)).set PRM_STATUS_OPEN 0) 1 true →
      w = (if v.cal.session.isSome then v.calEnd 5 else v) →
      exec .pfailAccept s = .next (State.each (if w.spState = spFAULT then w else w.set LOOP_STAT_SP_STATE spGENERATE)
        (fun c s => s.seqIrq c 0) (List.range 8)))) ∧
  (∀ (wrote : List (Cluster × Nat × Nat)) (s : State), s.live = true → s.get LOOP_PF_STAT_PHASE = 1 →
    s.pf.acceptedAt + s.get LOOP_PF_CFG_WRITE_MS * 100000 ≤ s.clk.time → ∀ u v : State,
    u = wrote.foldl (fun s w => s.dumped w.1 w.2.1 w.2.2) s →
    v = State.set { u with pf := { u.pf with todo := [] } } LOOP_PF_STAT_PHASE 2 →
    exec (.pfPhaseB wrote) s = .next (State.each (State.each v (fun c s => s.phaseBEnd c) (List.range 8))
      (fun c s => s.headsOff c) (List.range 8))) ∧
  (∀ s : State, s.live = true → s.get LOOP_PF_STAT_PHASE = 3 → ∀ u : State,
    u = (s.queueSpmode 2 true).set LOOP_PF_STAT_PHASE 4 → exec .pfBrake s =
      .next (State.lifeEntry (if u.spState = spGENERATE then u.set LOOP_STAT_SP_STATE spBRAKE else u) .close)) ∧
  (∀ s : State, s.live = true → s.get LOOP_PF_STAT_PHASE = 4 →
    Answers (exec .pfailRecover s) fun t => t.clk.chipResetReq = true ∧ t.pf.low = false ∧
      ∀ u : State, u = State.raise { s with pf := { s.pf with low := false } } srcPFREC 0 orgPfail →
        t = { u with clk := { u.clk with chipResetReq := true } })

/-- The read channel, the landing slots and the decoders. -/
def Obligations.ReadChannelCompletes : Prop :=
  (∀ (c : Cluster) (f : Surface) (raw : List (BitVec 7)) (s : State) (a : LaneArm), s.live = true →
    (s.lane c f).arm = some a → a.write = false → (s.lane c f).ended = false → (s.lane c f).read = none →
    s.laneIsLost c f = false → (s.lane c f).held = false → ∀ (u v : State) (ch : Chan),
    (u, ch) = s.loadZone c f (s.slotZone c a.slot) →
    v = ((u.set (RCH_STAT_ACTIVE c f) 1).set (RCH_STAT_PHASE c f) 1).countRaw c f raw →
    exec (.fragmentReadStart c f raw) s =
      .next (v.putRead c f ⟨a.slot, a.owner, .gate, 0, none, false, (v.chanCfg c f).feed ch raw⟩)) ∧
  (∀ (c : Cluster) (f : Surface) (raw : List (BitVec 7)) (s : State) (r x : ReadFrag),
    s.live = true → (s.lane c f).read = some r → r.phase = .gate → s.get (RCH_STAT_PHASE c f) ≠ 3 →
    x = { r with ch := (s.chanCfg c f).feed r.ch raw } → ∀ u : State, u = (s.countRaw c f raw).putRead c f x →
    (ranked x.ch.cands = [] →
      exec (.syncWindowClose c f raw) s = .next ((u.countSat (RCH_SYNC_MISS_COUNT c f)).noSync c f x)) ∧
    (∀ a, ranked x.ch.cands = [a] → exec (.syncWindowClose c f raw) s = .next ((u.set (RCH_STAT_PHASE c f) 2).putRead c f
      { x with phase := .synced, h0 := a.1, h1 := none })) ∧
    (∀ a b more, ranked x.ch.cands = a :: b :: more → exec (.syncWindowClose c f raw) s =
      .next ((((u.countSat (RCH_SYNC_DUAL_COUNT c f)).addSat (RCH_SYNC_EXTRA_COUNT c f) more.length).set
        (RCH_STAT_PHASE c f) 2).putRead c f { x with phase := .synced, h0 := a.1, h1 := some b.1 }))) ∧
  (∀ (c : Cluster) (f : Surface) (before after : List (BitVec 7)) (s : State) (r : ReadFrag), s.live = true →
    (s.lane c f).read = some r → s.get (RCH_STAT_PHASE c f) = 3 → ∀ (a b : Chan) (n : Nat) (u : State),
    a = (s.chanCfg c f).feed r.ch before → b = (s.chanCfg c f).feed a.newRegion after →
    n = (if r.phase = .gate then 1 else 2) →
    u = State.set ((s.countRaw c f before).countRaw c f after) (RCH_STAT_PHASE c f) n →
    (∀ p l, ranked (b.resyncCands a.bit) = p :: l → exec (.resyncSearch c f before after) s =
      .next (u.putRead c f { r with ch := b.resynced a.bit ((a.bit : Int) + 48 + p.1).toNat })) ∧
    (ranked (b.resyncCands a.bit) = [] → r.phase ≠ .noSlot → exec (.resyncSearch c f before after) s =
      .next ((u.countSat (RCH_RESYNC_MISS_COUNT c f)).noSync c f { r with ch := b })) ∧
    (ranked (b.resyncCands a.bit) = [] → r.phase = .noSlot → exec (.resyncSearch c f before after) s =
      .next (u.putRead c f { r with phase := .dropped, ch := b }))) ∧
  (∀ (c : Cluster) (f : Surface) (raw : List (BitVec 7)) (s : State) (r x : ReadFrag), s.live = true →
    (s.lane c f).read = some r → r.phase ≠ .gate → s.get (RCH_STAT_PHASE c f) ≠ 3 → (r.phase = .synced → r.sent = true) →
    x = { r with ch := (s.chanCfg c f).feed r.ch raw } → exec (.fragmentEnd c f raw) s = .next
      (((((s.countRaw c f raw).putRead c f x).readEnd c f x).keepChan c f x).gateClose c f)) ∧
  (∀ (c : Cluster) (f : Surface) (raw : List (BitVec 7)) (s : State), s.live = true → (s.lane c f).read = none →
    (s.lane c f).writing = true → ∀ n, n = (((s.lane c f).out.map (fun p => (s.serialize c f p).clamps)).foldl (· + ·) 0) →
    exec (.fragmentEnd c f raw) s = .next (((s.addCount (LAN_WCLAMP_COUNT c f) n).setLane c f
      { s.lane c f with writing := false, ended := true, out := [] }).fragEnd c)) ∧
  (∀ (c : Cluster) (f : Surface) (s : State) (r : ReadFrag), s.live = true → (s.lane c f).read = some r →
    r.phase = .synced → r.sent = false → ∀ u : State, u = s.countSat (RCH_FRAGS_COUNT c f) →
    (160 ≤ (s.cantonOf (c.val / 2)).slots.length → ∀ v : State,
      v = (u.countSat (RCH_NOSLOT_COUNT c f)).fragResult c r.slot f .erased → exec (.landingHead c f) s =
      .next (v.setLane c f { v.lane c f with read := some { r with phase := .noSlot, sent := true } })) ∧
    ((s.cantonOf (c.val / 2)).slots.length < 160 → Answers (exec (.landingHead c f) s) fun t => ∃ p : Packet,
      (t.cantonOf (c.val / 2)).slots = (s.cantonOf (c.val / 2)).slots ++ [p] ∧ p.isOf c f r.slot = true ∧
      p.owner = r.owner ∧ p.h0 = .waiting ∧ p.h1 = (if r.h1.isSome then .waiting else .absent) ∧ p.last = none)) ∧
  (∀ (k : CantonNo) (d : Fin 20) (s : State) (p : Packet) (second : Bool), s.live = true →
    bitAt (s.get (DEC_K_ACTIVE_MASK k)) d = true → s.resetting.contains (.dec k d) = false →
    (s.cantonOf k).slots.any (fun p => p.on d) = false → ∀ u : State, u = s.dropAllPq k →
    u.nextFraming (u.cantonOf k) = some (p, second) →
    exec (.decodeDispatch k d) s = .next (u.setCanton k ((u.cantonOf k).update p (fun q =>
      if second then { q with h1 := .running d (16 * u.clk.time) false }
      else { q with h0 := .running d (16 * u.clk.time) false })))) ∧
  (∀ (k : CantonNo) (d : Fin 20) (s : State) (p : Packet) (h1 x : Bool) (since : Nat), s.live = true →
    (s.cantonOf k).slots.find? (fun p => p.on d) = some p → p.job d = some (h1, since, x) →
    (∀ (checker : Bool) (e : PassEnd), e = p.pass (16 * s.deadlineOf p) since h1 x → e.fin ≤ 16 * s.clk.time →
      s.clk.time ≤ s.deadlineOf p →
      exec (.decodeEnd k d checker) s = .next (s.passResult k d p (h1, since, x) e checker)) ∧
    (∀ (checker : Bool) (e : PassEnd) (u : State), u = s.addSat (DEC_K_ITERSUM_COUNT k) e.iters →
      (∀ b, e.bytes = some b → s.passResult k d p (h1, since, x) e checker =
        if fragOk p.seed p.role b = true then if checker then u.decLost k d else u.framing k d p (.passed b)
        else if p.h1 ≠ .absent then u.framing k d p .failed else u.fragBad p DEC_K_ER_MISCORRECT_COUNT) ∧
      (e.bytes = none → s.passResult k d p (h1, since, x) e checker =
        if e.full = true ∧ x = false ∧ e.fin + 576 ≤ 16 * u.deadlineOf p then
          (u.countSat (DEC_K_PASS2_COUNT k)).setCanton k
            ((u.cantonOf k).update p (fun q => q.settle d (.running d since true)))
        else u.undecoded k d p)) ∧
    (since + 6400 ≤ 16 * s.clk.time → exec (.decoderTimeout k d) s = .next (s.decLost k d))) ∧
  (∀ (c : Cluster) (f : Surface) (s : State) (p : Packet), s.live = true → (s.cantonOf (c.val / 2)).slots.find?
      (fun p => p.cluster == c.val && p.surface == f.val && p.last.isSome) = some p → s.deadlineOf p ≤ s.clk.time →
    exec (.decodeDeadline c f) s = .next (s.judge p true))

/-- The stripe engine: settling, encoding, the commit test, skew, relocation, repair and patrol. -/
def Obligations.StripeCommandsComplete : Prop :=
  (∀ (c : Cluster) (slot : BitVec 32) (s : State) (o : OpenStripe), s.live = true →
    (s.strOf c).opened.find? (fun o => o.slot == slot.toNat) = some o → o.settled = false → o.write = false →
    o.complete = true → ∀ (r : Settled) (u v : State), r = s.settleOf c o →
    u = State.addSat ((s.setStr c { s.strOf c with opened := (s.strOf c).opened.map (fun y =>
        if y.slot = slot.toNat then { y with
          settled := true, data := r.data, gone := maskOf (r.media.map (surfOf (s.slotQ c slot.toNat))) } else y) }).seqEvent c 13)
      (STR_REBUILT_COUNT c) r.rebuilt.length →
    v = (if r.media.isEmpty then u else u.countSat (STR_STRIPES_LOST_COUNT c)) →
    (v.cmdByHandle? o.owner = none → exec (.stripeSettle c slot) s = .next v) ∧
    (∀ x y, v.cmdByHandle? o.owner = some x → v.stripeIn c slot.toNat x = some y → x.isActivity = false →
      x.writes = false →
      exec (.stripeSettle c slot) s = .next ((v.deliverStripe c (s.slotQ c slot.toNat) x y r
        (v.repairOf c slot.toNat).memLost).installStripe c (s.slotQ c slot.toNat) x r))) ∧
  (∀ (c : Cluster) (s : State) (o : OpenStripe), s.live = true → (s.strOf c).cur? = some o → o.write = true →
    o.pq = false → s.resetting.contains (.parity c) = false → s.blocksPresent c o = true →
    ∀ t : Tab (List Nat), t = s.passData c o →
    exec (.parityEncodeDone c) s = .next ((State.setStr (s.evbServed c o) c ((s.strOf c).curUpdate (fun o => { o with
      data := tset [] (tset [] t 30 (parityP (fun r => tget [] t r))) 31 (parityQ (fun r => tget [] t r))
      pq := true }))).seqEvent c 12)) ∧
  (∀ (c : Cluster) (s : State) (x : Cmd), s.live = true → s.workOf .log c false = some x → x.stripes.all s.passed = true →
    exec (.commitTestDone c true) s = .next (s.logDone c x)) ∧
  (∀ (c : Cluster) (s : State) (o : OpenStripe), s.live = true → (s.strOf c).cur? = some o → o.write = true →
    o.testing = true → s.writer c o = none → ∀ r : State × Bool,
    r = s.commitPass c o.slot (minus o.wset (minus (s.slotShut c o.slot) o.cut)) (o.cut &&& o.wset)
      (minus o.gone 0) 0
      (fun r => tget [] o.data r) →
    exec (.commitTestDone c false) s = .next (((r.1.setStr c ((r.1.strOf c).curUpdate (fun o =>
      { o with testing := false }))).set (SEQ_GREG_G c 7) (Config.commitResult r.2 % 2 ^ 32)).seqEvent c 14)) ∧
  (∀ (c : Cluster) (r : Fin 2048) (hoff : Option (Surface × Bool)) (h : Fin 16384) (s : State), s.live = true →
    (s.workOf .cal c false = none → exec (.calSkewUpdate c r hoff h) s =
      .next (s.placeWork (s.newWork .cal c r (s.calStripe c r)) c h (fun _ => true))) ∧
    (∀ x, s.workOf .cal c false = some x → x.lba = r.val → x.stripes.all s.passed = true →
      exec (.calSkewUpdate c r hoff h) s = .next ((s.calSkew c r hoff).endWork x))) ∧
  (∀ (c : Cluster) (r : Fin 2048) (f : Surface) (up : Bool) (s : State) (rev : Nat),
    rev = ((s.tlOf c).base + (s.tlOf c).now) / max s.wpr 1 + 1 →
    tget 0 (s.strOf c).calAt r = 0 ∨ tget 0 (s.strOf c).calAt r + 64 ≤ rev → ∀ u : State,
    u = s.setStr c { s.strOf c with calAt := tset 0 (s.strOf c).calAt r rev } →
    (∀ h : Int, h = max (-64) (min 63 ((u.skewOf c r f).hoff + (if up then 1 else -1))) →
      s.calSkew c r (some (f, up)) = State.classRegion
        ((u.setSkew c r f { u.skewOf c r f with hoff := h }).shiftPhi c r f (h - (u.skewOf c r f).hoff)) c r) ∧
    (∀ k m : Int, k = u.centreOf c r → m = u.medianK c r →
      s.calSkew c r none = State.classRegion (u.setStr c { u.strOf c with
        centre := tset 0 (u.strOf c).centre r (if k < m then k + 1 else if m < k then k - 1 else k) }) c r)) ∧
  (∀ (c : Cluster) (r : Fin 2048) (f : Surface) (h : Fin 16384) (s : State), s.live = true →
    (∀ (x : Skew) (t : Int × Bool) (u : State), s.workOf .reloc c true = none → x = s.skewOf c r f →
      x.near = true ∨ x.out = true → x.moving = false → t = s.relocTarget c r f → t.1 ≠ x.place →
      u = s.setSkew c r f { x with
        target := t.1, moving := true, clamped := t.2, boundary := if x.place < t.1 then 991 else 0 } →
      u.noRepair c = true → exec (.relocTrackCopy c r f h) s = .next
        (u.placeWork (u.newWork .reloc c (32 * r + f) (u.relocStripes c r f)) c h
          (fun y => some y.q == (u.relocStripes c r f).head?.map CmdStripe.q))) ∧
    (∀ x, s.workOf .reloc c true = some x → x.lba = 32 * r.val + f.val → x.stripes.all s.passed = true →
      exec (.relocTrackCopy c r f h) s = .next ((s.relocDone c r f x.stripes.length).endWork x))) ∧
  (∀ (c : Cluster) (r : Fin 2048) (f : Surface) (n : Nat) (s : State) (x : Skew), x = s.skewOf c r f → x.place < x.target →
    ∀ u : State, u = (s.freshen c (s.relocTrack c r f) f).nextWseq c n →
    (x.boundary ≠ 0 → s.relocDone c r f n = u.setSkew c r f { x with boundary := x.boundary - 1 }) ∧
    (x.boundary = 0 → x.clamped = false → s.relocDone c r f n = (u.setSkew c r f { x with
      place := x.target, moving := false, target := 0, boundary := 0, clamped := false }).classRegion c r)) ∧
  (∀ (c : Cluster) (slot cut : BitVec 32) (h : Fin 16384) (s : State), s.live = true →
    (s.workOf .reloc c false = none → exec (.repairWrite c slot cut h) s =
      .next (s.placeWork (s.newWork .reloc c 0 (s.nextRepair c slot.toNat)) c h (fun _ => true))) ∧
    (∀ x, s.workOf .reloc c false = some x → x.stripes.all s.passed = true → exec (.repairWrite c slot cut h) s =
      .next ((x.stripes.foldl (fun s y => s.repaired c y cut.toNat) s).endWork x))) ∧
  (∀ (c : Cluster) (y : CmdStripe) (cut : Nat) (s u : State), u = s.nextWseq c 1 → ∀ w xs : Nat,
    ((s.strOf c).rbuf.contains y.q = true → w = minus (2 ^ 32 - 1) (u.slotShut c y.q) → xs = cut &&& w →
      s.repaired c y cut = State.addSat (u.commitPass c y.q w xs 0 0
        (fun r => tget [] (s.strOf c).rbufData (32 * y.q + r))).1 (STR_REPAIRED_COUNT c) (popc 32 (minus w xs))) ∧
    ((s.strOf c).rbuf.contains y.q = false → u.repairable c y.q = true →
      w = minus (u.repairOf c y.q).stale (u.slotShut c y.q) → xs = cut &&& w →
      s.repaired c y cut = State.addSat (u.putRepair c y.q { u.repairOf c y.q with
        stale := minus (u.repairOf c y.q).stale (minus w xs) }) (STR_REPAIRED_COUNT c) (popc 32 (minus w xs)))) ∧
  (∀ (c : Cluster) (erased spare cut : BitVec 32) (h : Fin 16384) (s : State), s.live = true →
    (s.workOf .patrol c false = none → exec (.patrolRead c erased spare cut h) s =
      .next (s.placeWork (s.newWork .patrol c 0 (s.nextPatrol c)) c h (fun _ => true))) ∧
    (∀ x, s.workOf .patrol c false = some x → x.stripes.all s.passed = true →
      ((s.strOf c).moveTo = none → exec (.patrolRead c erased spare cut h) s =
        .next ((s.patrolled c erased.toNat spare.toNat).endWork x)) ∧
      (∀ q v, (s.strOf c).moveTo = some (q, v) → exec (.patrolRead c erased spare cut h) s =
        .next (((s.setStr c { s.strOf c with moveTo := none }).remapTo c q v cut.toNat).endWork x)))) ∧
  (∀ (c : Cluster) (spare : Nat) (s : State) (q : Nat), q = (s.strOf c).patrol →
    ∀ u : State, u = s.putRepair c (s.slotNo c q) (s.repairOf c (s.slotNo c q)) →
    ((List.range 32).filter (fun f => decide (3 ≤ tget 0 (u.strOf c).weak (32 * s.slotNo c q + f)))).length < 2 →
    s.patrolled c 0 spare = u.setStr c { u.strOf c with
      patrol := if q + 1 < u.stripeCount then q + 1 else 0 })

/-- R307. -/
def Obligations.AluResultsAndFlags : Prop :=
  (∀ (c : Cluster) (dst a : Fin 16) (b : AluB) (s : State) (x y : BitVec 32), s.live = true → s.seqRuns c = true →
    x = BitVec.ofNat 32 (s.get (SEQ_GREG_G c a)) →
    y = (match b with
      | .reg r => BitVec.ofNat 32 (s.get (SEQ_GREG_G c r))
      | .imm v => v) →
    ∀ sets : BitVec 32 → State → Prop, sets = (fun r t => t.get (SEQ_GREG_G c dst) = r.toNat ∧
      (t.seqOf c).zero = (r == 0) ∧ (t.seqOf c).neg = r.getLsbD 31 ∧
      ∀ z : Fld, z.addr ≠ SEQ_GREG c dst → t.get z = s.get z) →
    (Answers (exec (.aluMov c dst b) s) fun t => t.get (SEQ_GREG_G c dst) = y.toNat ∧ t.seqOf c = s.seqOf c ∧
      ∀ z : Fld, z.addr ≠ SEQ_GREG c dst → t.get z = s.get z) ∧
    (Answers (exec (.aluAdd c dst a b) s) fun t => sets (x + y) t ∧
      (t.seqOf c).carry = decide (2 ^ 32 ≤ x.toNat + y.toNat)) ∧
    (Answers (exec (.aluSub c dst a b) s) fun t => sets (x - y) t ∧ (t.seqOf c).carry = decide (x.toNat < y.toNat)) ∧
    Answers (exec (.aluAnd c dst a b) s) (sets (x &&& y)) ∧
    Answers (exec (.aluOr c dst a b) s) (sets (x ||| y)) ∧
    Answers (exec (.aluXor c dst a b) s) (sets (x ^^^ y)) ∧
    Answers (exec (.aluShl c dst a b) s) (sets (x <<< (y.toNat % 32))) ∧
    Answers (exec (.aluShr c dst a b) s) (sets (x >>> (y.toNat % 32))) ∧
    Answers (exec (.aluPopcnt c dst b) s)
      (sets (BitVec.ofNat 32 ((List.range 32).filter (fun i => y.getLsbD i)).length)) ∧
    Answers (exec (.aluFfs c dst b) s)
      (sets (BitVec.ofNat 32 (((List.range 32).find? (fun i => y.getLsbD i)).getD 32))) ∧
    Answers (exec (.aluMin c dst a b) s) (sets (if x.toNat ≤ y.toNat then x else y))) ∧
  (∀ (c : Cluster) (dst a : Nat) (b : AluB) (s : State), s.alu c 0 dst a b = s) ∧
  (∀ w : Nat, 12 ≤ (ctlOf w).aluop → (ctlOf w).legal = false)

/-- The execution of control words, interrupts and the stretch limit. -/
def Obligations.SequencerWordsComplete : Prop :=
  (∀ (k : Cluster) (s : State) (x : Ctl), s.live = true → s.seqRuns k = true → s.seqInterrupted k = false →
    x = ctlOf (s.csWord k (s.get (SEQ_STAT_PC k))) → x.legal = true →
    (s.get (SEQ_STAT_MODE k) = 2 ∨ parityOk (s.csWord k (s.get (SEQ_STAT_PC k))) = true) →
    (x.flow = 0 → exec (.seqGo k 0) s = .next ((s.beginWord k x).endWord k x x.succ)) ∧
    (x.flow = 1 → exec (.seqBranch k 0) s = .next (((s.consume k x).beginWord k x).endWord k x
      (if s.condOf k x then x.alt else x.succ))) ∧
    (x.flow = 2 → ∀ held : BitVec 16,
      (s.is (SEQ_STAT_WAITING k) = true → exec (.seqWait k 0 held) s = .next (s.waitOn k x held.toNat)) ∧
      (s.is (SEQ_STAT_WAITING k) = false → ∀ u : State, u = s.beginWord k x →
        exec (.seqWait k 0 held) s = .next (State.waitOn
          (u.setSeq k { u.seqOf k with timed := decide ((u.seqOf k).tmo ≠ 0) }) k x held.toNat))) ∧
    (x.flow = 3 → (s.seqOf k).stack.length < 4 → exec (.seqCall k 0) s =
      .next (((s.beginWord k x).pushRet k ⟨x.succ, none, none⟩).endWord k x x.alt)) ∧
    (x.flow = 3 → 4 ≤ (s.seqOf k).stack.length →
      exec (.seqCall k 0) s = .next (s.seqFault k (SEQ_FAULT_STACK k) kSTACK)) ∧
    (∀ r rs, (s.seqOf k).stack = r :: rs →
      (x.flow = 4 → exec (.seqReturn k 0) s = .next (((s.beginWord k x).popRet k).endWord k x r.addr)) ∧
      (x.flow = 5 → exec (.seqIret k 0) s = .next ((s.beginWord k x).iret k x r))) ∧
    ((s.seqOf k).stack = [] →
      (x.flow = 4 → exec (.seqReturn k 0) s = .next (s.seqFault k (SEQ_FAULT_STACK k) kSTACK)) ∧
      (x.flow = 5 → exec (.seqIret k 0) s = .next (s.seqFault k (SEQ_FAULT_STACK k) kSTACK))) ∧
    (x.flow = 6 → ∀ u : State, u = s.beginWord k x → exec (.seqJumpclr k 0) s = .next (State.endWord
      (((u.setSeq k { u.seqOf k with stack := [] }).set (SEQ_STAT_DEPTH k) 0).set (SEQ_STAT_IN_INT k) 0) k x x.succ))) ∧
  (∀ (k : Cluster) (s : State), s.live = true → s.seqRuns k = true → s.seqInterrupted k = false →
    s.is (SEQ_STAT_WAITING k) = false → (ctlOf (s.csWord k (s.get (SEQ_STAT_PC k)))).legal = false →
    (s.get (SEQ_STAT_MODE k) = 2 ∨ parityOk (s.csWord k (s.get (SEQ_STAT_PC k))) = true) →
    exec (.seqIllegalWord k 0) s = .next (s.seqFault k (SEQ_FAULT_ILLEGAL k) kILLEGAL)) ∧
  (∀ (k : Cluster) (s : State) (x : Ctl), s.live = true → s.seqRuns k = true → s.is (SEQ_STAT_WAITING k) = true →
    x = ctlOf (s.csWord k (s.get (SEQ_STAT_PC k))) → (s.seqOf k).timed = true → (s.seqOf k).tmoWedges = false →
    ∀ u : State, u = s.waitOn k x (s.seqOf k).tmo → exec (.seqWaitTimeout k) s =
      .next (if u.is (SEQ_STAT_WAITING k) = true then (u.consume k x).endWord k x x.alt else u)) ∧
  (∀ (k : Cluster) (s : State), s.live = true → s.seqRuns k = true → s.seqInterrupted k = true →
    (s.seqOf k).stack.length < 4 → exec (.seqInterrupt k) s = .next (s.takeInterrupt k) ∧
    (s.takeInterrupt k).get (SEQ_STAT_PC k) = 8 + firstSet (s.seqReady k) 8 0 ∧
    (s.takeInterrupt k).get (SEQ_STAT_IN_INT k) = 1 ∧ ((s.takeInterrupt k).seqOf k).stack.length =
      (s.seqOf k).stack.length + 1) ∧
  (∀ (k : Cluster) (s : State), s.live = true → s.seqRuns k = true → (s.seqOf k).late = false →
    256 < (s.seqOf k).words ∨ 1600 < (s.seqOf k).cycles → ∀ u : State,
    u = (((s.safeMax k).setSeq k { s.seqOf k with late := true }).set (SEQ_FAULT_SAFE_LATE k) 1) →
    exec (.seqSafeLate k) s = .next (State.raiseC (u.set (SEQ_FAULT_FADDR k) (u.get (SEQ_STAT_PC k))) kSAFE_LATE k
      (s.seqOf k).words)) ∧
  (∀ (k : Cluster) (s : State) (n : Nat), s.live = true → (s.seqOf k).posCmp = some n →
    exec (.posHit k) s = .next (s.seqEvent k 21))

/-- The servo and the SERVO unit. -/
def Obligations.ServoCommandsComplete : Prop :=
  (∀ (c : Cluster) (xs : Vector (Option Sample) 32) (lane : Surface) (s : State), s.live = true → ∀ u : State,
    u = s.coastLanes c → ∀ found : List (Option Reading), found = u.demodAll c xs.toList →
    (u.servoRuns c = true → exec (.servoWd c xs lane) s =
      .next ((u.servoWd c found (u.wtrOf c (found.getD lane none))).calWd c)) ∧
    (u.servoRuns c = false → exec (.servoWd c xs lane) s = .next (u.calWd c))) ∧
  (∀ (c : Cluster) (s : State), s.live = true → s.servoRuns c = true → ∀ u : State,
    u = (s.maUpdate c).vcmUpdate c →
    exec (.servoMidw c) s = .next ((u.setPcb c { u.pcbOf c with maDue := true }).seqEvent c 2)) ∧
  (∀ (c : Cluster) (s : State), s.live = true → s.get (SRV_STAT_STATE c) = 1 ∨ s.get (SRV_STAT_STATE c) = 4 →
    s.get (SRV_THR3_REACQ_REVS c) * s.wpr ≤ (s.servoOf c).lostWedges → exec (.reacquireTimeout c) s =
      .next (((s.raiseC kSERVO_LOST c 0).queueVcm c (vcmPayload 0 2)).loseCluster c)) ∧
  (∀ (c : Cluster) (track : BitVec 26) (s : State), s.live = true →
    s.get (SRV_STAT_STATE c) = 2 ∨ s.get (SRV_STAT_STATE c) = 3 →
    Answers (exec (.servoMove c track) s) fun t => t.get (SRV_TGT_TARGET c) = track.toNat ∧
      t.get (SRV_STAT_SETTLED c) = 0 ∧
      (t.get (SRV_STAT_STATE c) = 2 ∨ t.get (SRV_STAT_STATE c) = 3) ∧
      ∃ m : Move, (t.servoOf c).move = some m ∧ m.owner = ((s.tlOf c).cellAt (s.tlOf c).now 0).owner ∧
        m.dist = ((track.toNat : Int) - s.get (SRV_TGT_TARGET c)).natAbs ∧ m.taken = 0) ∧
  (∀ (c : Cluster) (s : State), s.live = true →
    (s.get (SRV_STAT_STATE c) = 3 → ∀ x : Rat, x = (s.armAt c (16 * ((s.clk.time : Nat) : Rat))).1 →
      exec (.servoHold c) s = .next (s.set (SRV_STAT_STATE c)
        (if ((s.get (SRV_THR1_D_SW c) : Nat) : Rat) < |(s.get (SRV_TGT_TARGET c) : Nat) - x| then 3 else 2))) ∧
    (s.get (SRV_STAT_STATE c) = 2 → exec (.servoHold c) s = .next s))

/-- The commands of the units TIMELINE, PCB, STR, STM, BUDGET, PORT, EVENT and POS. -/
def Obligations.UnitCommandsComplete : Prop :=
  (∀ (c : Cluster) (v : BitVec 32) (s : State), s.live = true →
    exec (.timelineRead c v) s = .next (s.setSeq c { s.seqOf c with tlReq := some v.toNat }) ∧
    exec (.posSet c v) s = .next (s.setSeq c { s.seqOf c with posCmp := some v.toNat }) ∧
    exec (.stmKick c v) s = .next (s.stmKick c v.toNat)) ∧
  (∀ (c : Cluster) (s : State) (n : Nat) (w : WSlot), s.live = true → (s.seqOf c).tlReq = some n →
    w = (s.tlOf c).slotAt (nearWedge (s.tlOf c).now n) →
    (∀ p ∈ w.cells, p.2.kind = .free ∨ ∀ q ∈ w.cells, q.2.kind = .free ∨ q.2.owner = p.2.owner) →
    Answers (exec (.timelineReadDone c) s) fun t =>
      t.get (SEQ_GREG_G c 9) = maskOf ((w.cells.filter (fun p => p.2.kind = .xfer && p.2.wr == false)).map Prod.fst) % 2 ^ 32 ∧
      t.get (SEQ_GREG_G c 10) = maskOf ((w.cells.filter (fun p => p.2.kind = .xfer && p.2.wr == true)).map Prod.fst) % 2 ^ 32 ∧
      t.get (SEQ_GREG_G c 11) =
        (((w.cells.filter (fun p => p.2.kind != .free)).map (fun p => p.2.owner)).headD 0) % 2 ^ 32 ∧
      (t.seqOf c).tlReq = none ∧ bitAt (t.seqOf c).events 7 = true) ∧
  (∀ (c : Cluster) (mask : BitVec 32) (mode : Fin 4) (act : BitVec 12) (s : State), s.live = true →
    exec (.pcbMode c mask mode act) s = .next (s.queueMode c mask.toNat mode act.toNat)) ∧
  (∀ (c : Cluster) (slot : BitVec 32) (s : State), s.live = true → ∀ (gone : Nat) (o : OpenStripe),
    gone = s.slotShut c slot.toNat ||| (s.repairOf c slot.toNat).stale →
    o = ⟨slot.toNat, s.stripeOwner c slot.toNat, false, 0, 0, [], [],
      (setBits 32 gone).foldl (fun t f => tset .waiting t f .erased) [], 0, false, false, false, 0, false⟩ →
    exec (.strOpen c slot) s = .next (s.setStr c { s.strOf c with
      opened := (s.strOf c).opened.filter (fun y => y.slot != slot.toNat) ++ [o], cur := some slot.toNat })) ∧
  (∀ (c : Cluster) (mask : BitVec 32) (s : State), s.live = true →
    (∀ w : Nat, w = ((s.strOf c).wseq + 1) % 2 ^ 32 → (s.strOf c).cur?.isSome = true →
      exec (.strWriteset c mask) s = .next (s.setStr c { (s.strOf c).curUpdate (fun o => { o with
        write := true, wset := mask.toNat &&& (mask.toNat ^^^ s.slotShut c o.slot), cut := 0, pq := false, wseq := w })
        with wseq := w })) ∧
    exec (.strCommitTest c) s = .next (s.setStr c ((s.strOf c).curUpdate (fun o => { o with testing := o.write }))) ∧
    exec (.strClose c) s = .next (s.setStr c { s.strOf c with
      opened := (s.strOf c).opened.filter (fun o => (s.strOf c).cur != some o.slot), cur := none })) ∧
  (∀ (c : Cluster) (cells owner : BitVec 32) (s : State) (x : Cmd), s.live = true →
    s.cmdByHandle? owner.toNat = some x → ∀ r : Row, r = tget Row.init (s.tlOf c).rows x.rowKey →
    exec (.budgetCheck c cells owner) s = .next (s.setSeq c { s.seqOf c with
      budgetOk := !r.closed && decide (r.spent + cells.toNat ≤ s.booked c x.rowKey) })) ∧
  (∀ (owner : BitVec 32) (status : BitVec 8) (s : State) (x : Cmd), s.live = true →
    s.cmdByHandle? owner.toNat = some x → x.phase = .promised →
    exec (.portTerminal owner status) s = .next (((s.setCmd { x with status := worse x.status status.toNat }).endCmd x.id).tidy) ∧
    (x.hoisted = true → exec (.portDetail owner) s = .next (s.setCmd { x with detail := some true }))) ∧
  (∀ (c : Cluster) (code : BitVec 16) (payload : BitVec 32) (s : State), s.live = true →
    exec (.eventLog c code payload) s = .next (s.event (orgClu c 0) code.toNat [payload.toNat]))

/-- SEQ.CTL, SEQ.CSCMD, SEQ.GFLAG and the reload of a dirty store. -/
def Obligations.SequencerControlCompletes : Prop :=
  (∀ (o : Origin) (c : Cluster) (s : State), s.live = true → bitAt (s.get FLT_STAT_DIE_LOST) (dieOf c) = false →
    (s.get (SEQ_STAT_MODE c) = 0 → s.get (SRV_STAT_STATE c) ∉ [5, 6] → s.resetting.contains (.seq c) = false →
      ∀ u : State, u = s.logPriv o (SEQ_CTL c) 1 0 →
      (u.is (SEQ_STAT_DIRTY c) = false → exec (.seqRestart o c) s = .next (u.seqBegin c 4 1)) ∧
      (u.is (SEQ_STAT_DIRTY c) = true → exec (.seqRestart o c) s =
        .next (u.setSeq c { u.seqOf c with reloading := true }))) ∧
    (s.get (SEQ_STAT_MODE c) = 0 → s.isOpen c = false → s.resetting.contains (.seq c) = false →
      exec (.seqTest o c) s = .next ((s.logPriv o (SEQ_CTL c) 2 0).seqBegin c 3 2)) ∧
    (s.get (SEQ_STAT_MODE c) = 3 → exec (.seqHalt o c) s = .next ((s.logPriv o (SEQ_CTL c) 4 0).seqHalt c)) ∧
    (s.get (SEQ_STAT_MODE c) = 3 → ∀ u : State, u = s.logPriv o (SEQ_CTL c) 8 0 →
      u.seqInterrupted c = false → exec (.seqStep o c 0) s = .next (u.runFetched c 0)) ∧
    (s.get (SEQ_STAT_MODE c) ≠ 3 →
      exec (.seqHalt o c) s = .next ((s.set (SEQ_FAULT_CTL_REJECT c) 1).logPriv o (SEQ_CTL c) 4 1) ∧
      exec (.seqStep o c 0) s = .next ((s.set (SEQ_FAULT_CTL_REJECT c) 1).logPriv o (SEQ_CTL c) 8 1))) ∧
  (∀ (c : Cluster) (s : State), s.live = true → (s.seqOf c).reloading = true → s.get (SEQ_STAT_MODE c) = 0 →
    exec (.storeReloadDone c) s = .next ((s.seqReload c).seqBegin c 4 1) ∧
    ((s.seqReload c).seqOf c).store = (s.seqOf c).copy ∧ (s.seqReload c).get (SEQ_STAT_DIRTY c) = 0) ∧
  (∀ (o : Origin) (c : Cluster) (s : State), s.live = true → bitAt (s.get FLT_STAT_DIE_LOST) (dieOf c) = false →
    s.is (SEQ_CSSTAT_BUSY c) = false →
    (∀ w : Nat, w = s.csWord c (s.get (SEQ_CSADDR_ADDR c)) → Answers (exec (.csRead o c 0) s) fun t =>
      (∀ i < 4, t.get (SEQ_CSDATA_DATA c i) = bitsOf w (32 * i) 32) ∧ t.get (SEQ_CSPAR_PAR c) = bitsOf w 128 8 ∧
      t.get (SEQ_CSSTAT_ERR c) = 0) ∧
    (s.get (SEQ_STAT_MODE c) = 3 → Answers (exec (.csWrite o c) s) fun t => t.get (SEQ_STAT_DIRTY c) = 1 ∧
      t.get (SEQ_CSSTAT_ERR c) = 0 ∧ storedWord (t.seqOf c).store (s.get (SEQ_CSADDR_ADDR c)) =
        withParity (s.get (SEQ_CSDATA_DATA c 0) + s.get (SEQ_CSDATA_DATA c 1) * 2 ^ 32 +
          s.get (SEQ_CSDATA_DATA c 2) * 2 ^ 64 + s.get (SEQ_CSDATA_DATA c 3) * 2 ^ 96)) ∧
    (s.get (SEQ_STAT_MODE c) ≠ 3 → Answers (exec (.csWrite o c) s) fun t => t.get (SEQ_CSSTAT_ERR c) = 1 ∧
      t.seq = s.seq) ∧
    (Answers (exec (.csVerify o c) s) fun t => t.get (SEQ_CSSTAT_BUSY c) = 1 ∧ (t.seqOf c).verifying = true)) ∧
  (∀ (c : Cluster) (s : State), s.live = true → (s.seqOf c).verifying = true →
    (firstDiff (s.seqOf c).store (s.seqOf c).copy = none → Answers (exec (.csVerifyDone c []) s) fun t =>
      t.get (SEQ_CSSTAT_BUSY c) = 0 ∧ t.get (SEQ_CSSTAT_ERR c) = 0 ∧ (t.seqOf c).verifying = false) ∧
    (∀ a, firstDiff (s.seqOf c).store (s.seqOf c).copy = some a → ∃ u : State,
      exec (.csVerifyDone c []) s = .next (u.raiseC kCS_MISMATCH c a) ∧ u.get (SEQ_CSSTAT_ERR c) = 2 ∧
      u.get (SEQ_CSSTAT_MISADDR c) = a % 2 ^ (SEQ_CSSTAT_MISADDR c).w ∧ u.get (SEQ_FAULT_CS_MISMATCH c) = 1)) ∧
  (∀ (o : Origin) (c : Cluster) (v : Fin 16) (s : State), s.live = true →
    bitAt (s.get FLT_STAT_DIE_LOST) (dieOf c) = false → ∀ u : State,
    u = (s.set (SEQ_GFLAG_GFLAG c) v).logPriv o (SEQ_GFLAG c) v 0 → exec (.gflagWrite o c v) s =
      .next (if v.val ≠ 0 ∧ (u.get (SEQ_STAT_MODE c) = 3 ∨ u.get (SEQ_STAT_MODE c) = 4) then u.seqIrq c 7 else u))

/-- CLR_RETRY, the spindle's steps and SPREF. -/
def Obligations.LoopCommandsComplete : Prop :=
  (∀ (c : Cluster) (f : Surface) (s : State), s.live = true → s.get (LAN_CLSTAT_STATE c f) = 4 →
    s.get (LAN_CLSTAT_RETRIES c f) < 3 → s.get LOOP_SUPCFG0_RETRY_REVS ≤ (s.clrOf c f).revs →
    exec (.clrRetry c f) s = .next (((s.clrRamp c f 1).set (LAN_CLSTAT_STATE c f) 5).setClr c f
      { s.clrOf c f with prob := 0, probRun := false, mis := 0, same := 0, lostRun := 0 })) ∧
  (∀ s : State, s.live = true → s.get LOOP_STAT_SP_STATE = 0 → s.spin0.watching = true →
    s.spin0.since + 1000000 ≤ s.clk.time → Answers (exec .spinWatchEnd s) fun t =>
      t.get LOOP_STAT_SP_STATE = (if s.spin0.seen3 then 3 else 1) ∧ ∀ d : Die, t.spinOf d = { s.spinOf d with
        watching := false, enabled := true, left := s.clk.time, since := s.clk.time, aligned := false }) ∧
  (∀ s : State, s.live = true → s.get LOOP_STAT_SP_STATE = 1 →
    s.spin0.since + s.get LOOP_SPCFG_ALIGN_MS * 100000 ≤ s.clk.time → Answers (exec .spinAlignEnd s) fun t =>
      t.get LOOP_STAT_SP_STATE = 2 ∧ ∀ d : Die, t.spinOf d = { s.spinOf d with
        zeros := 0, since := s.clk.time, aligned := false }) ∧
  (∀ s : State, s.live = true →
    (s.get LOOP_STAT_SP_STATE = 3 ∨ s.get LOOP_STAT_SP_STATE = 4 →
      4 * s.periodTarget ≤ (s.halvesPerRev : Rat) *
        ((16 * s.clk.time : Nat) - (max (16 * s.spin0.since) (s.spin0.cross.getD 0) : Nat) : Int) →
      exec .spinNoZeroCrossing s = .next
        (((s.set LOOP_STAT_SP_STATE 7).raise srcSPINDLE 0 (orgInt 13 0 0)).loseSpindle)) ∧
    (s.spin0.enabled = true → s.spin0.everLocked = false → s.get LOOP_STAT_SP_STATE ∈ [1, 2, 3] →
      s.spin0.left + s.get LOOP_SPCFG_SPINUP_MAX_S * 100000000 ≤ s.clk.time →
      exec .spinupTimeout s = .next (s.raise srcSPINUP 0 (orgInt 13 0 0)))) ∧
  (∀ (s : State) (frac : Fin 16) (e : Nat), s.live = true → s.is LOOP_SPCFG_SPREF_EN = true →
    e = 16 * s.clk.time + frac.val →
    (s.spin0.lastEdge = none → exec (.sprefEdge frac) s = .next (s.sprefAccept e)) ∧
    (∀ p, s.spin0.lastEdge = some p → ∀ off : Nat, off = (((e : Int) - p) * 2 ^ 16 - s.nominal).natAbs →
      (off * 1000000 ≤ s.nominal * s.get LOOP_SPREF_SPREF_TOL → exec (.sprefEdge frac) s = .next (s.sprefAccept e)) ∧
      (s.nominal * s.get LOOP_SPREF_SPREF_TOL < off * 1000000 → exec (.sprefEdge frac) s =
        .next ((s.spinBoth (fun x => { x with run := 0 })).countSat LOOP_SPREF_MISS_COUNT)) ∧
      (p * 2 ^ 16 + 3 * s.nominal ≤ 16 * s.clk.time * 2 ^ 16 → exec .sprefLost s = .next (((s.spinBoth (fun x =>
        { x with lastEdge := none, run := 0, periods := [] })).set LOOP_STAT_SPREF_OK 0).raise srcSPREFLOST 0
          (orgInt 13 0 0)))))

/-- The memory commands. -/
def Obligations.MemoryCommandsComplete : Prop :=
  (∀ (m : MemAt) (s : State), m.exists? = true → s.live = true → s.chanHeld m = false → s.wordLost m.key = false →
    ∀ (u : State) (old w : Stored), u = (if m.space = 0 then s.burst (channelOf m.at) else s) → old = u.stored m.key →
    w = old.flip m.flips.toNat →
    (w.classOf = .clean → exec (.memoryRead m) s = .next u ∧
      ∀ (o : Origin) (mask : BitVec 4) (v : Word), mask ≠ 15 → exec (.memoryPartialWrite o m mask v) s =
        .next (u.putReq (orgOf o) m.key (freshWord (mergeBytes w.data v.toNat mask.toNat) w.poison))) ∧
    (∀ x, w.classOf = .corrected x → exec (.memoryRead m) s = .next (u.corr m 0 w x) ∧
      ∀ (o : Origin) (mask : BitVec 4) (v : Word), mask ≠ 15 → exec (.memoryPartialWrite o m mask v) s =
        .next ((u.corr m 2 w x).putReq (orgOf o) m.key (freshWord (mergeBytes x.data v.toNat mask.toNat) x.poison))) ∧
    (w.classOf = .uncorrectable → ∀ g : Stored, g = freshWord old.data old.poison →
      exec (.memoryRead m) s = .next (u.unc m 0 w g) ∧
      ∀ (o : Origin) (mask : BitVec 4) (v : Word), mask ≠ 15 → exec (.memoryPartialWrite o m mask v) s =
        .next ((u.unc m 2 w g).putReq (orgOf o) m.key (freshWord (mergeBytes w.data v.toNat mask.toNat) true))) ∧
    (∀ (o : Origin) (v : Word), exec (.memoryWrite o m v) s = .next (u.putReq (orgOf o) m.key (freshWord v.toNat false)) ∧
      exec (.memoryPartialWrite o m 15 v) s = exec (.memoryWrite o m v) s) ∧
    (∀ row, s.is MEM_SCRUB_CFG_EN = true → m.space ≠ 0 → exec (.scrubRead m row false) s = .next (s.readWord m 1) ∧
      exec (.scrubRead m row true) s = .next ((s.readWord m 1).count MEM_SCRUB_PASSES_SRAM)) ∧
    (∀ (row : BitVec 32) (last : Bool), s.is MEM_SCRUB_CFG_EN = true → m.space = 0 →
      tget 0 s.memu.scrubbed (channelOf m.at) < 2 ^ 29 → ∀ (v : State) (f : Nat × Nat), v = s.readWord m 1 →
      f = tget (0, 0) v.memu.rows row.toNat → exec (.scrubRead m row last) s = .next (State.scrubStep (State.rowSuspect
        { v with memu := { v.memu with rows := tset (0, 0) v.memu.rows row.toNat
                                        (f.1 + (s.scrubFound m).1, f.2 + (s.scrubFound m).2) } }
        row.toNat m.at) (channelOf m.at)))) ∧
  (∀ (ch : Channel) (addr : BitVec 35) (flips : List (BitVec 40)) (s : State) (a : Nat), s.live = true →
    s.is (MEM_CH_STAT_SWEEPING ch) = true → s.memu.held.contains ch.val = false → a = addr.toNat / 128 * 128 →
    channelOf a = ch.val → s.dieIsLost (ch.val / 8) = false → tget 0 s.memu.lineAt ch + 4 ≤ s.clk.time → ∀ u : State,
    u = State.each { s with memu := { s.memu with lineAt := tset 0 s.memu.lineAt ch s.clk.time } } (fun i s =>
      s.readWord ⟨0, BitVec.ofNat 35 (a + 4 * i), .plain, flips.getD i 0⟩ 3) (List.range 32) →
    exec (.lineSweepBurst ch addr flips) s = .next (if u.get (MEM_CH_SWEEP_BURST ch) = 16777215 then
      u.set (MEM_CH_STAT_SWEEPING ch) 0 else u.set (MEM_CH_SWEEP_BURST ch) (u.get (MEM_CH_SWEEP_BURST ch) + 1))) ∧
  (∀ (lba : BitVec 48) (data : List (BitVec 32)) (h : Fin 16384) (s : State) (c i : Nat), s.live = true →
    c = lba.toNat / 30 % 8 → s.markedLine lba.toNat = some i →
    (s.workOf .scrub c false = none → exec (.scrubRefetch lba data h) s = .next (s.placeWork (s.newWork .scrub c lba.toNat
      [workStripe c (s.slotNo c (lba.toNat / 240)) (minus (2 ^ 32 - 1) (s.lostMask c)) 0 none]) c h (fun _ => true))) ∧
    (∀ x, s.workOf .scrub c false = some x → x.lba = lba.toNat → x.stripes.all s.passed = true →
      ∀ (d : Nat) (u v : State), d = homeDie lba.toNat →
      u = s.putFrag (orgInt 11 d 0) (lineKey d i) (data.map BitVec.toNat) →
      v = u.setCache d ((u.cacheOf d).setLine i { (u.cacheOf d).line i with marked := false }) →
      exec (.scrubRefetch lba data h) s = .next (v.endWork x))) ∧
  (∀ (ch : Channel) (s : State), s.live = true → s.memu.held.contains ch.val = true →
    tget 0 s.memu.lineAt ch + 32 ≤ s.clk.time → exec (.steeringHoldEnd ch) s = .next (s.freeChan ch)) ∧
  (∀ (o : Origin) (s : State), s.live = true →
    (s.is MEM_INJ_CTL_ARM = false → Answers (exec (.injectArm o) s) fun t => t.get MEM_INJ_CTL_ARM = 1 ∧
      t.memu = { s.memu with armedBy := orgOf o }) ∧
    (s.is MEM_INJ_CTL_ARM = true → Answers (exec (.injectDisarm o) s) fun t => t.get MEM_INJ_CTL_ARM = 0 ∧
      t.memu = s.memu))

/-- The front cache. -/
def Obligations.CacheCommandsComplete : Prop :=
  (∀ (o : Origin) (d : Die) (s : State), s.live = true → bitAt (s.get FLT_STAT_DIE_LOST) d = false →
    s.is (CCH_STAT_ENABLED d) = false → s.is (CCH_STAT_DRAINING d) = false → (s.cacheOf d).evb = [] →
    exec (.cacheInvalidate o d) s =
      .next ((s.setCache d { s.cacheOf d with invalidating := true }).logPriv o (CCH_CMD d) 1 0)) ∧
  (∀ (d : Die) (s : State), s.live = true → (s.cacheOf d).invalidating = true →
    Answers (exec (.invalidateDone d) s) fun t => t.get (CCH_STAT_INV_DONE d) = 1 ∧ (t.cacheOf d).lines = [] ∧
      (t.cacheOf d).invalidating = false) ∧
  (∀ (o : Origin) (d : Die) (pf : Bool) (s : State), s.live = true → bitAt (s.get FLT_STAT_DIE_LOST) d = false →
    (s.is (CCH_STAT_ENABLED d) = true → Answers (exec (.cacheEnable o d pf) s) fun t =>
      t.get (CCH_CTL_PF_EN d) = (if pf then 1 else 0) ∧ t.get (CCH_CTL_EN d) = s.get (CCH_CTL_EN d)) ∧
    (s.is (CCH_STAT_ENABLED d) = false → s.is (CCH_STAT_INV_DONE d) = true → s.is (CCH_STAT_DRAINING d) = false →
      Answers (exec (.cacheEnable o d pf) s) fun t => t.get (CCH_CTL_PF_EN d) = (if pf then 1 else 0) ∧
        t.get (CCH_CTL_EN d) = 1 ∧ t.get (CCH_STAT_ENABLED d) = 1) ∧
    (s.is (CCH_STAT_ENABLED d) = false → s.is (CCH_STAT_INV_DONE d) = false →
      Answers (exec (.cacheEnable o d pf) s) fun t => t.get (CCH_CTL_EN d) = 0 ∧ t.get (CCH_STAT_EN_REJECT d) = 1 ∧
        t.get (CCH_STAT_ENABLED d) = 0) ∧
    Answers (exec (.cacheDisable o d pf) s) (fun t => t.get (CCH_CTL_PF_EN d) = (if pf then 1 else 0) ∧
      t.get (CCH_CTL_EN d) = 0 ∧ t.get (CCH_STAT_ENABLED d) = 0 ∧ t.get (CCH_STAT_INV_DONE d) = 0 ∧
      t.get (CCH_STAT_DRAINING d) = (if (s.cacheOf d).drained then s.get (CCH_STAT_DRAINING d) else 1) ∧
      t.cache = s.cache)) ∧
  (∀ (d : Die) (s : State), s.live = true → s.is (CCH_STAT_DRAINING d) = true → ∀ u : State,
    u = s.drainLines d ((s.cacheOf d).lines.map Prod.fst) → ∀ v : State,
    v = (u.setCache d { u.cacheOf d with evb := [] }).set (CCH_EVB_USED d) 0 →
    exec (.cacheDrainEnd d) s = .next (if (v.cacheOf d).drained then v.set (CCH_STAT_DRAINING d) 0 else v)) ∧
  (∀ (d : Die) (s : State), s.live = true → exec (.evictionWriteDone d) s =
    .next ((s.setCache d { s.cacheOf d with evb := (s.cacheOf d).evb.tail }).set (CCH_EVB_USED d)
      (s.cacheOf d).evb.tail.length))

/-- The Streamers' commands. -/
def Obligations.StreamerCommandsComplete : Prop :=
  (∀ (o : Origin) (n : StreamerNo) (s : State), s.live = true → bitAt (s.get FLT_STAT_DIE_LOST) (n.val / 16) = false →
    streamerClass n = 3 →
    (∀ hi : Fin 8, ∀ u : State, u = s.set (STM_KICK_HI_ADDR_HI n) hi → u.stmState n = 0 ∨ u.stmState n = 3 →
      u.resetting.contains (.stm n) = false → exec (.stmGo o n hi) s = .next ((u.logPriv o (STM_KICK_HI n) (hi.val + 2 ^ 31) 0).stmBegin n
        (.chain (u.get (STM_KICK_LO_ADDR_LO n) * 64 + hi.val * 2 ^ 32)))) ∧
    (s.stmState n = 1 ∨ s.stmState n = 2 → Answers (exec (.stmPause o n) s) fun t => t.get (STM_CTL_PAUSE n) = 1 ∧
      t.stmState n = (if (s.stmOf n).out.isEmpty then 5 else 4) ∧ (t.stmOf n).waited = (s.stmState n == 2)) ∧
    (s.stmState n = 5 → Answers (exec (.stmResume o n) s) fun t => t.get (STM_CTL_PAUSE n) = 0 ∧
      t.stmState n = (if (s.stmOf n).waited then 2 else 1)) ∧
    (∀ b : Bool, s.stmState n = 6 → Answers (exec (.stmStop o n b) s) fun t => t.stmState n = 0) ∧
    (∀ b : Bool, s.stmState n ≠ 6 → exec (.stmStop o n b) s = .next
      (((s.set (STM_CTL_PAUSE n) (if b then 1 else 0)).withdraw n).logPriv o (STM_CTL n) (2 + (if b then 1 else 0)) 0))) ∧
  (∀ (o : Origin) (n : StreamerNo) (s : State), s.live = true → bitAt (s.get FLT_STAT_DIE_LOST) (n.val / 16) = false →
    streamerClass n ≠ 3 → exec (.stmPause o n) s =
      .next ((s.set (STM_STAT_REJECT n) 1).logPriv o (STM_CTL n) 1 1)) ∧
  (∀ (n : StreamerNo) (s : State) (j : Job) (d : Desc), s.live = true → (s.stmOf n).job = some j →
    (s.stmOf n).desc = some d → s.stmState n = 1 → (s.stmOf n).withdrawn = false →
    ((s.stmOf n).issued = false → s.resetting.contains (.stm n) = false → s.burstAt n < 16 * s.clk.time + 16 →
      exec (.stmBurstIssue n) s = .next (s.issueBurst n (s.stmOf n) j d)) ∧
    ((s.stmOf n).issued = true → (s.stmOf n).out = [] → exec (.stmDescEnd n) s = .next (s.stmDescEnd n))) ∧
  (∀ (n : StreamerNo) (s : State) (len at' : Nat) (rest : List (Nat × Nat)), s.live = true →
    (s.stmOf n).out = (len, at') :: rest →
    (s.stmOf n).trail = [] → (s.stmOf n).withdrawn = false → ∀ u : State, u = s.stmBytes n len →
    ∀ v : State, v = u.setStm n { u.stmOf n with out := rest } →
    (rest ≠ [] ∨ v.stmState n ≠ 4 → exec (.stmBurstAck n) s = .next v) ∧
    (rest = [] → v.stmState n = 4 → exec (.stmBurstAck n) s = .next (v.set (STM_STAT_STATE n) 5))) ∧
  (∀ (n : StreamerNo) (s : State) (j : Job) (len at' : Nat) (rest : List (Nat × Nat)), s.live = true →
    (s.stmOf n).out = (len, at') :: rest → (s.stmOf n).trail = [] → (s.stmOf n).job = some j →
    at' + 256 ≤ s.clk.time → exec (.stmBurstTimeout n) s = .next (((s.stmFault n 4 j ((s.stmOf n).desc.getD (s.jobDesc j))
      true).raise (srcSTMTO (n / 16)) n (orgInt 12 (n / 16) n)).stmNext n)) ∧
  (∀ (n : StreamerNo) (s : State) (a l h : Nat), s.live = true → s.stmState n = 2 →
    (s.stmOf n).linkAt + 4 ≤ s.clk.time → a = s.get (STM_CUR_LO_CUR n) + s.get (STM_CUR_HI_CUR n) * 2 ^ 32 →
    (s.stored (descKey 0 (a + 56))).view = some l → (s.stored (descKey 0 (a + 60))).view = some h →
    (l / 64 * 64 + h % 8 * 2 ^ 32 = 0 → exec (.stmLinkReread n) s = .next (State.stmNext ((s.setStm n
      { s.stmOf n with job := none, desc := none, issued := false }).set (STM_STAT_STATE n) 3) n)) ∧
    (l / 64 * 64 + h % 8 * 2 ^ 32 ≠ 0 → exec (.stmLinkReread n) s = .next (((s.countSat (STM_RELINK_COUNT n)).stmBegin n
      (.chain (l / 64 * 64 + h % 8 * 2 ^ 32))).stmNext n))) ∧
  (∀ (n : StreamerNo) (s : State), exec (.stmStatusRead n) s = .next s)

/-- The link layer. -/
def Obligations.LinkCommandsComplete : Prop :=
  (∀ (n : HLane) (info : BitVec 5140) (errs : Fin 545) (skew : BitVec 8) (s : State), s.live = true →
    (s.hlaneOf n).held = false → s.resetting.contains (.pcs n) = false → s.is (TOP_CDC_STAT_CLOSED n) = false →
    (s.crossOf n).reopening = false → s.get (LNK_LANE_STAT_STATE n) ≠ 2 →
    (15 < errs.val → exec (.linkCodeword n info errs skew) s = .next (s.setHlane n
      { s.hlaneOf n with unc := (true :: (s.hlaneOf n).unc).take 64 })) ∧
    (errs.val ≤ 15 → cwMark info.toNat = 10 → cwLane info.toNat = n.val → Answers (exec (.linkCodeword n info errs skew) s)
      fun t => t.get (LNK_LANE_SKEW_WORDS n) = skew.toNat % 2 ^ (LNK_LANE_SKEW_WORDS n).w ∧
        t.get (LNK_LANE_CORR_COUNT n) = (s.addSat (LNK_LANE_CORR_COUNT n) errs).get (LNK_LANE_CORR_COUNT n) ∧
        t.hlaneOf n = { s.hlaneOf n with badHdr := 0, unc := (false :: (s.hlaneOf n).unc).take 64 })) ∧
  (∀ (p : LinkPort) (ws : List Nat) (s : State), s.live = true → s.portState p = 4 → (s.linkOf p).head = some ws →
    ws ≠ [] → ∀ v : LinkPortSt, v = { s.linkOf p with stream := (s.linkOf p).stream.drop 4 } →
    (flitGood ws = false → ∀ t : State, t = s.setLink p { v with nak := true } →
      exec (.linkDataFlit p) s = .next t ∧ exec (.linkIdleFlit p) s = .next t ∧ exec (.linkCtrlFlit p) s = .next t) ∧
    (flitGood ws = true → ∀ (u : State) (x : LinkPortSt), u = (s.setLink p v).ackNak p (flitAck ws) (flitNak ws) →
      x = u.linkOf p →
      (flitKind ws = 0 → flitSeq ws = (x.rxAck + 1) % 4096 → ∀ l : List (List Nat) × List Nat,
        l = splitPackets 64 (x.part ++ flitContent ws) → exec (.linkDataFlit p) s = .next
          ((u.setLink p { x with rxAck := flitSeq ws, nak := false, part := l.2 }).takePkts p
            (l.1.map (fun k => k.map (BitVec.ofNat 32))))) ∧
      (flitKind ws = 0 → flitSeq ws ≠ (x.rxAck + 1) % 4096 →
        ((x.rxAck + 4096 - flitSeq ws) % 4096 < 2048 → exec (.linkDataFlit p) s = .next u) ∧
        (2048 ≤ (x.rxAck + 4096 - flitSeq ws) % 4096 →
          exec (.linkDataFlit p) s = .next (u.setLink p { x with nak := true }))) ∧
      (flitKind ws = 1 → exec (.linkIdleFlit p) s = .next u) ∧
      (flitKind ws = 2 → ∀ y : LinkPortSt, y = { x with pcred := bitsOf (ws.getD 0 0) 0 16 } →
        ∀ item arg cw : Nat, item = bitsOf (ws.getD 1 0) 0 4 → arg = bitsOf (ws.getD 1 0) 4 20 →
        cw = bitsOf (ws.getD 2 0) 0 11 →
        (item = 0 → exec (.linkCtrlFlit p) s = .next (u.setLink p y)) ∧
        (1 ≤ item → item ≤ 3 → x.item = some (item, arg, cw) → x.acted = false →
          exec (.linkCtrlFlit p) s = .next ((u.setLink p { y with acted := true }).actItem p item arg cw)) ∧
        (1 ≤ item → item ≤ 3 → x.item ≠ some (item, arg, cw) →
          exec (.linkCtrlFlit p) s = .next (u.setLink p { y with item := some (item, arg, cw), acted := false }))))) ∧
  (∀ (p : LinkPort) (s : State), s.live = true → s.portState p = 4 → (s.linkOf p).sent ≠ [] →
    (s.linkOf p).ackAt + 400 ≤ s.clk.time → exec (.linkReplayTimer p) s = .next (s.resend p)) ∧
  (∀ (n : TaskPort) (p : LinkPort) (f : Nat) (s : State), s.live = true → s.link.doorbells.contains n.val = true →
    tget (none : Option (Nat × Nat)) (s.link.dblTo.map (fun q => (q.1, some q.2))) n = some (p.val, f) →
    s.portState p = 4 → (s.linkOf p).room ≠ 0 → ∀ u : State,
    u = (s.setLink p { s.linkOf p with pused := ((s.linkOf p).pused + 1) % 2 ^ 16 }).sendPkt p
      ⟨10, false, f, s.get (TPT_PORT_CFG_BURGEE n), 0, 0, n, [(s.queueOf n).length % 2 ^ 18]⟩ →
    exec (.linkDblSend n) s = .next { u with link := { u.link with
      doorbells := u.link.doorbells.filter (· != n.val) } }) ∧
  (∀ (s : State) (e : Nat × Nat) (es : List (Nat × Nat)) (p : Nat), s.live = true → p = s.get LNK_EVTDST_PORT →
    s.portState p = 4 → (s.linkOf p).room ≠ 0 → ∀ u : State,
    u = (s.setLink p { s.linkOf p with pused := ((s.linkOf p).pused + 1) % 2 ^ 16 }).sendPkt p
      ⟨9, true, s.get LNK_EVTDST_FUNC, 0, 0, 0, 0, lohi e.1 ++ [e.2, 0]⟩ →
    (s.link.evt0 = e :: es → exec (.linkEvtSend 0) s = .next { u with link := { u.link with evt0 := es } }) ∧
    (s.link.evt1 = e :: es → exec (.linkEvtSend 1) s = .next { u with link := { u.link with evt1 := es } })) ∧
  (∀ (p : LinkPort) (s : State) (m w : Nat), s.live = true →
    ((s.linkOf p).rxPend = some (m, w) → ((s.linkOf p).round + 2048 - w) % 2048 < 1024 → exec (.linkMapApply p true) s =
      .next ((s.setLink p { s.linkOf p with rxPend := none, sending := none }).putRx p m)) ∧
    ((s.linkOf p).txPend = some m → (s.linkOf p).itemAt + 38 ≤ s.clk.time → exec (.linkMapApply p false) s =
      .next ((s.setLink p { s.linkOf p with txPend := none, sending := none }).putTx p m))) ∧
  (∀ (n : HLane) (s : State), s.live = true → s.is LNK_CFG_AUTO_READD = true → s.get (LNK_LANE_STAT_STATE n) = 0 →
    s.portState (s.lanePort n) = 4 → s.get (LNK_LANE_READDS_TRIES n) < 15 → (s.hlaneOf n).held = true →
    (s.hlaneOf n).triedAt + 10 ^ 7 ≤ s.clk.time → ∀ u : State,
    u = s.setHlane n { s.hlaneOf n with triedAt := s.clk.time } → exec (.linkLaneRetrain n false) s = .next
      (u.set (LNK_LANE_READDS_TRIES n) (u.get (LNK_LANE_READDS_TRIES n) + 1)) ∧
    Answers (exec (.linkLaneRetrain n true) s) fun t => t.get (LNK_LANE_STAT_STATE n) = 2 ∧
      t.get (LNK_LANE_READDS_TRIES n) = s.get (LNK_LANE_READDS_TRIES n) + 1 ∧
      (t.linkOf (s.lanePort n)).sending = some (3, n.val)) ∧
  (∀ (p : LinkPort) (ok inv : BitVec 20) (s : State) (ls : List Nat), s.live = true → s.trainLate p = false → s.portState p = 1 →
    ls = (s.portLanes p).filter (fun n => bitAt ok.toNat n) → ls ≠ [] → ∀ u : State,
    u = State.each s (fun n s => if ls.contains n then s.set (LNK_LANE_STAT_POLARITY n) (if bitAt inv.toNat n then 1 else 0)
      else (s.set (LNK_LANE_STAT_POLARITY n) (if bitAt inv.toNat n then 1 else 0)).set (LNK_LANE_STAT_STATE n) 0)
      (s.portLanes p) →
    exec (.linkEqualizeDone p ok inv) s = .next (((u.putRx p (maskOf ls)).putTx p (maskOf ls)).setPortState p 2)) ∧
  (∀ (p : LinkPort) (s : State), s.live = true → s.trainLate p = false →
    (s.portState p = 2 → exec (.linkAlignDone p) s = .next (s.setPortState p 3)) ∧
    (s.portState p = 5 → exec (.linkAlignDone p) s = .next (s.setLink p { s.linkOf p with
      reAligned := true, got := [], stream := [] })) ∧
    (∀ pcred : BitVec 16, s.portState p = 3 → ∀ u : State, u = State.lanesIn
      ((s.setLink p { LinkPortSt.init with pcred := pcred.toNat }).setPortState p 4) p →
      exec (.linkConfigDone p pcred) s = .next (if (s.linkOf p).redbl then u.redoorbell else u)) ∧
    (s.portState p = 5 → (s.linkOf p).reAligned = true → ∀ u : State, u = (s.setPortState p 4).lanesIn p →
      exec (.linkRetrainDone p) s = .next (u.setLink p
        (LinkPortSt.pump { u.linkOf p with resends := 0, nakAt := none } (u.linkOf p).wait)))) ∧
  (∀ (p : LinkPort) (s : State), s.live = true → s.trainLate p = true →
    (s.portState p = 1 ∨ s.portState p = 2 ∨ s.portState p = 3 →
      exec (.linkTrainTimeout p) s = .next ((s.equalize p).countSat (LNK_PORT_RETRAINS_COUNT p))) ∧
    (s.portState p = 5 → exec (.linkPortDown p) s = .next ((((s.setPortState p 0).setLink p
      { LinkPortSt.init with redbl := true }).raise (srcPORTDOWN p) 0 (orgLnk p)).equalize p)))

/-- START_STEP_DONE and START_PFAIL_HOLD_END (R480 and on). -/
def Obligations.StartStepsComplete : Prop :=
  (∀ (f : Found) (s : State), s.live = true →
    exec (.startStepDone f) s = .next (if s.atStep f then s.startStep f else s)) ∧
  (∀ (p : Fin 16) (t : Bool) (s : State), s.live = true → s.is IMG_STAT_DONE = false → s.get IMG_STAT_STEP = 1 →
    s.start.pfHold = false → s.get IMG_OUT_CLUSTERS ≠ 0xFF → Answers (exec (.startStepDone (.straps p t)) s) fun u =>
      u.get TOP_PERSONA_STRAPS = p.val ∧ u.is TOP_PERSONA_TEST_MODE = t ∧ u.get IMG_STAT_STEP = 2) ∧
  (∀ s : State, s.live = true → s.is IMG_STAT_DONE = false → s.get IMG_STAT_STEP = 2 →
    s.start.pfHold = false → s.get IMG_OUT_CLUSTERS ≠ 0xFF → Answers (exec (.startStepDone (.root true)) s) fun u =>
      u.get TOP_CLKSTAT_ROOT_LOCK = 1 ∧ u.get TOP_CLKSTAT_HOLDOVER = 0 ∧ u.clk.counting = true ∧
      u.get IMG_STAT_STEP = 3) ∧
  (∀ s : State, s.live = true → s.is IMG_STAT_DONE = false → s.get IMG_STAT_STEP = 8 →
    s.start.pfHold = false → s.get IMG_OUT_CLUSTERS ≠ 0xFF → s.is LOOP_STAT_SPEED_LOCK = true →
    Answers (exec (.startStepDone .spinup) s) fun u => u.get IMG_STAT_STEP = 9) ∧
  (∀ s : State, s.live = true → s.start.pfHold = true → s.pf.lowAt + 1000000 ≤ s.clk.time →
    Answers (exec .startPfailHoldEnd s) fun u =>
    u.get IMG_STAT_STEP = 8 ∧ u.start.pfHold = false ∧ u.pf.low = false ∧
    ∀ d : Die, (u.spinOf d).watching = true)

/-- WEDGE_BOUNDARY and PRM.BCMD (R56, R89). -/
def Obligations.BoundaryAndBudgetComplete : Prop :=
  (∀ (c : Cluster) (b : Boundary) (s : State), s.live = true → ((s.pcbWedge c).servoOf c).anchored = false →
    exec (.wedgeBoundary c b) s = .next (s.pcbWedge c)) ∧
  (∀ (c : Cluster) (b : Boundary) (s t u : State), s.live = true → ((s.pcbWedge c).servoOf c).anchored = true →
    t = ((s.pcbWedge c).retire c).deferWrites c → u = (t.beginStripes c (t.tlOf c).now).clrLate c →
    (u.indexOf c (t.tlOf c).now ≠ 0 → exec (.wedgeBoundary c b) s = .next (u.beginCells c).tidy) ∧
    (u.indexOf c (t.tlOf c).now = 0 → exec (.wedgeBoundary c b) s = .next ((u.revolution c b).beginCells c).tidy)) ∧
  (∀ (o : Origin) (s : State), s.live = true →
    (s.is PRM_BSTAT_BUSY = true → exec (.bcmdRead o) s = .next (s.budgetEvent (orgOf o) 5) ∧
      exec (.bcmdWrite o) s = .next (s.budgetEvent (orgOf o) 5)) ∧
    (s.is PRM_BSTAT_BUSY = false →
      (Answers (exec (.bcmdRead o) s) fun t => t.get PRM_BSTAT_BUSY = 1 ∧ t.ports.bcmd = some ⟨1, 0, orgOf o⟩) ∧
      (Answers (exec (.bcmdWrite o) s) fun t => t.get PRM_BSTAT_BUSY = 1 ∧ t.ports.bcmd = some ⟨2, 0, orgOf o⟩))) ∧
  (∀ (s : State) (q : Running), s.live = true → s.ports.bcmd = some q →
    (∀ (k : Nat) (r : Row), q.op = 1 → s.selRow = some k → r = tget Row.init (s.tlOf (s.get PRM_BSEL_CLUSTER)).rows k →
      r.share < 2 ^ 16 → r.ceiling < 2 ^ 16 → r.depth < 2 ^ 7 → r.borrowed < 2 ^ 16 →
      Answers (exec .bcmdComplete s) fun t => t.get PRM_BSTAT_BUSY = 0 ∧ t.ports.bcmd = none ∧
        t.get PRM_BVAL_SHARE = r.share ∧ t.get PRM_BVAL_CEILING = r.ceiling ∧ t.get PRM_BDEPTH_DEPTH = r.depth ∧
        t.get PRM_BBAL_BALANCE = unsign 32 r.balance ∧ t.get PRM_BBOR_BORROWED = r.borrowed ∧
        t.get PRM_BSTAT_ERR = 0) ∧
    (q.op = 1 → s.selRow = none → Answers (exec .bcmdComplete s) fun t => t.get PRM_BSTAT_BUSY = 0 ∧
      t.ports.bcmd = none ∧ t.get PRM_BSTAT_ERR = 4) ∧
    (q.op = 2 → Answers (exec .bcmdComplete s) fun t => t.get PRM_BSTAT_BUSY = 0 ∧ t.ports.bcmd = none ∧
      t.get PRM_BSTAT_ERR = s.rowError (s.tlOf (s.get PRM_BSEL_CLUSTER)) s.selRow ∧
      (∀ k, s.selRow = some k → t.get PRM_BSTAT_ERR = 0 →
        (tget Row.init (t.tlOf (s.get PRM_BSEL_CLUSTER)).rows k).staged =
          some (s.get PRM_BVAL_SHARE, s.get PRM_BVAL_CEILING, s.get PRM_BDEPTH_DEPTH)) ∧
      (t.get PRM_BSTAT_ERR ≠ 0 → t.tl = s.tl)))

/-- STAFF_HEARTBEAT_TIMEOUT, STAFF_BOOT_DONE and DIE_HEARTBEAT_TIMEOUT (R451, R454). -/
def Obligations.HeartbeatCommandsComplete : Prop :=
  (∀ (i : Fin 4) (s t u : State), s.live = true →
    ((s.core i).lost = true → exec (.staffHeartbeatTimeout i) s = .next s) ∧
    ((s.core i).lost = false →
      t = ((s.raise (srcSTAFF i) 1 (orgInt 3 (i / 2) i)).interruption (15 * 16 ^ ((i : Nat) / 2)) 1356).blockReset (.staff i) →
      u = t.setCore i { t.core i with mode := if (s.core i).lostOnce then .fenced else .booting
                                      lostOnce := true
                                      takenOver := false } →
      ((u.core (otherCore i)).lost = true → exec (.staffHeartbeatTimeout i) s = .next (u.dieLost (i / 2) 2)) ∧
      ((u.core (otherCore i)).lost = false → exec (.staffHeartbeatTimeout i) s =
        .next (u.setCore (otherCore i) { u.core (otherCore i) with mode := .inService, takenOver := true })))) ∧
  (∀ (i : Fin 4) (s : State), s.live = true → (s.core i).mode = .booting → s.resetting.contains (.staff i) = false →
    exec (.staffBootDone i) s = .next (s.setCore i { s.core i with mode := .standby })) ∧
  (∀ (d : Die) (s : State), s.live = true →
    (s.dieIsLost d = true → exec (.dieHeartbeatTimeout d) s = .next s) ∧
    (∀ u : State, s.dieIsLost d = false → u = s.raise (srcDIE d) 1 (orgInt 3 d 0) →
      exec (.dieHeartbeatTimeout d) s =
        .next (State.each ((u.set FLT_STAT_DIE_LOST (putBit (u.get FLT_STAT_DIE_LOST) d true)).loseDie d)
          (fun n v => if (v.hlaneOf n).held then v else v.loseLane n true 1) ((List.range 10).map (· + 10 * d)))))

/-- The recorder's commands (R459 to R467). -/
def Obligations.RecorderCommandsComplete : Prop :=
  (∀ (s : State) (a : Arrival) (as : List Arrival), s.live = true →
    (s.is LOG_STAT_FROZEN = true → exec .eventStore s = .next s) ∧
    (s.is LOG_STAT_FROZEN = false → s.log.intake = a :: as →
      exec .eventStore s = .next ({ s with log := { s.log with intake := as } }.store a))) ∧
  (∀ s : State, s.live = true → s.log.opsecAt + 100000000 ≤ s.now → s.get LOG_OPSEC_OPSEC + 1 < 2 ^ 32 →
    Answers (exec .opsecIncrement s) fun t => t.get LOG_OPSEC_OPSEC = s.get LOG_OPSEC_OPSEC + 1 ∧
      t.log.opsecAt = s.log.opsecAt + 100000000) ∧
  (∀ s : State, s.live = true → (s.log.lifeOpsec + 4096 ≤ s.get LOG_OPSEC_OPSEC ∨ 2 ^ 20 ≤ s.log.sinceLife) →
    Answers (exec .lifeRecordPeriodic s) fun t => t.log.life.getLast? =
      some ⟨s.get LOG_NEXT_EVSEQ, s.get LOG_OPSEC_OPSEC, s.get LOG_PCYCLE_PCYCLE, .periodic⟩ ∧ t.log.sinceLife = 0) ∧
  (∀ (s : State) (e : Event) (es : List Event), s.live = true → s.log.firstWait = e :: es →
    s.log.firstArea.any (fun x => x.evseq == e.evseq) = false → Answers (exec .firstAreaProgram s) fun t =>
      t.log.firstWait = es ∧ t.log.firstArea = s.log.firstArea ++ [e]) ∧
  (∀ (o : Origin) (s : State), s.live = true →
    (Answers (exec (.calendarSet o) s) fun t =>
      t.log.calSet = s.get LOG_CAL_LO_CAL_LO + s.get LOG_CAL_HI_CAL_HI * 2 ^ 32 ∧ t.log.calTick = s.clk.time ∧
      t.get LOG_STAT_CAL_VALID = 1) ∧
    (Answers (exec (.calendarClear o) s) fun t => t.get LOG_STAT_CAL_VALID = 0)) ∧
  (∀ (o : Origin) (s : State), s.live = true →
    (s.is LOG_STAT_FROZEN = true → exec (.logFreeze o) s = .next (s.logPriv o LOG_CTL 1 0)) ∧
    (s.is LOG_STAT_FROZEN = false → Answers (exec (.logFreeze o) s) fun t => t.get LOG_STAT_FROZEN = 1 ∧
      t.get LOG_FRZLOST_COUNT = 0 ∧ t.log.frozenAt = t.clk.time ∧ ∃ e, t.log.ring.getLast? = some e ∧ e.code = 4) ∧
    (s.is LOG_STAT_FROZEN = true → Answers (exec (.logThaw o) s) fun t => t.get LOG_STAT_FROZEN = 0 ∧
      t.get LOG_CTL_FREEZE = 0 ∧
      t.log.intake = ⟨s.clk.time, orgOf o, 5, [s.get LOG_FRZLOST_COUNT]⟩ :: s.log.intake) ∧
    (s.is LOG_STAT_FROZEN = true → s.log.frozenAt + 1000000000 ≤ s.clk.time →
      Answers (exec .logFreezeTimeout s) fun t => t.get LOG_STAT_FROZEN = 0 ∧ t.get LOG_CTL_FREEZE = 0 ∧
        t.log.intake = ⟨s.clk.time, orgInt 4 0 0, 5, [s.get LOG_FRZLOST_COUNT]⟩ :: s.log.intake)) ∧
  (∀ (o : Origin) (v : Word) (s : State), s.live = true →
    (Answers (exec (.logReadSelect o v) s) fun t => t.get LOG_RSTAT_BUSY = 1 ∧ t.rd LOG_RSEL = v ∧
      t.log.readSel = some (v.toNat, s.get LOG_RSRC_AREA))) ∧
  (∀ (e area : Nat) (s : State), s.live = true → s.log.readSel = some (e, area) →
    (∀ x ∈ s.log.ring, x.evseq ≠ e) → (∀ x ∈ s.log.firstArea, x.evseq ≠ e) →
    Answers (exec .logReadDone s) fun t => t.get LOG_RSTAT_BUSY = 0 ∧ t.get LOG_RSTAT_WHERE = 0 ∧
      t.log.readSel = none ∧ ∀ w : Fin 16, t.get (LOG_REV_WORD w) = 0) ∧
  (∀ (e : Nat) (x : Event) (s : State), s.live = true → s.log.readSel = some (e, 0) →
    s.log.ring.find? (fun x => x.evseq == e) = some x → (∀ w : Fin 16, x.words.getD w 0 < 2 ^ 32) →
    Answers (exec .logReadDone s) fun t => t.get LOG_RSTAT_BUSY = 0 ∧ t.get LOG_RSTAT_WHERE = 1 ∧
      t.log.readSel = none ∧ ∀ w : Fin 16, t.get (LOG_REV_WORD w) = x.words.getD w 0)

/-- The calibration commands (R489 to R493). -/
def Obligations.CalibrationCommandsComplete : Prop :=
  (∀ (o : Origin) (c : Cluster) (a : Bool) (s : State), s.live = true → s.is CAL_STAT_BUSY = true →
    exec (.calTimebase o c a) s = .next ((s.set CAL_STAT_RESULT 8).logPriv o CAL_CTL (calCtl 1 c a) 2) ∧
    exec (.calRefdac o c a) s = .next ((s.set CAL_STAT_RESULT 8).logPriv o CAL_CTL (calCtl 2 c a) 2) ∧
    exec (.calAnalog o c a) s = .next ((s.set CAL_STAT_RESULT 8).logPriv o CAL_CTL (calCtl 3 c a) 2) ∧
    exec (.calMedia o c a) s = .next ((s.set CAL_STAT_RESULT 8).logPriv o CAL_CTL (calCtl 4 c a) 2) ∧
    exec (.calStore o) s = .next ((s.set CAL_STAT_RESULT 8).logPriv o CAL_CMD 1 2)) ∧
  (∀ (o : Origin) (c : Cluster) (a : Bool) (s : State), s.live = true → s.is CAL_STAT_BUSY = false →
    (s.is IMG_STAT_DONE = true → s.is TOP_CLKSTAT_CALREF_PRESENT = true → Answers (exec (.calTimebase o c a) s) fun t =>
      t.cal.session = some ⟨1, c, a, false, s.clk.time⟩ ∧ t.get CAL_STAT_BUSY = 1) ∧
    (s.is IMG_STAT_DONE = true → Answers (exec (.calRefdac o c a) s) fun t =>
      t.cal.session = some ⟨2, c, a, false, s.clk.time⟩ ∧ t.get CAL_STAT_BUSY = 1) ∧
    (s.is CAL_STAT_REFDAC_DONE = true → Answers (exec (.calAnalog o c a) s) fun t =>
      t.cal.session = some ⟨3, c, a, true, s.clk.time⟩ ∧ t.get CAL_STAT_BUSY = 1 ∧ t.get CAL_STAT_CLOSING = 1 ∧
      t.isOpen c = false) ∧
    (s.isOpen c = true → s.writesOk c = true → Answers (exec (.calMedia o c a) s) fun t =>
      t.cal.session = some ⟨4, c, a, true, s.clk.time⟩ ∧ t.get CAL_STAT_BUSY = 1 ∧ t.get CAL_STAT_CLOSING = 1 ∧
      t.isOpen c = false) ∧
    ((s.is IMG_STAT_DONE = false ∨ s.is TOP_CLKSTAT_CALREF_PRESENT = false) →
      Answers (exec (.calTimebase o c a) s) fun t => t.cal = s.cal ∧ t.get CAL_STAT_RESULT = 4) ∧
    (s.is IMG_STAT_DONE = false → Answers (exec (.calRefdac o c a) s) fun t =>
      t.cal = s.cal ∧ t.get CAL_STAT_RESULT = 4) ∧
    (s.is CAL_STAT_REFDAC_DONE = false → Answers (exec (.calAnalog o c a) s) fun t =>
      t.cal = s.cal ∧ t.get CAL_STAT_RESULT = 4) ∧
    ((s.isOpen c = false ∨ s.writesOk c = false) → Answers (exec (.calMedia o c a) s) fun t =>
      t.cal = s.cal ∧ t.get CAL_STAT_RESULT = 4) ∧
    (Answers (exec (.calStore o) s) fun t => t.get CAL_STAT_BUSY = 1 ∧
      t.cal = { s.cal with storing := some (storeCopy s.cal.copies) })) ∧
  (∀ (x : Session) (s : State), s.live = true → s.cal.session = some x → x.closing = true → s.cellsOn x.cluster = false →
    Answers (exec .calClusterClosed s) fun t => t.cal.session = some { x with closing := false } ∧
      t.get CAL_STAT_CLOSING = 0) ∧
  (∀ (x : Session) (s : State), s.live = true → s.cal.session = some x → x.kind = 2 → x.closing = false →
    (Answers (exec (.calSessionEnd (.refdac none)) s) fun t => t.get CAL_STAT_RESULT = 1 ∧ t.get CAL_STAT_BUSY = 0 ∧
      t.cal = { s.cal with session := none }) ∧
    (∀ v, 200 < v.toInt.natAbs → Answers (exec (.calSessionEnd (.refdac (some v))) s) fun t =>
      t.get CAL_STAT_RESULT = 2 ∧ t.get CAL_STAT_BUSY = 0 ∧ t.cal = { s.cal with session := none }) ∧
    (∀ v, v.toInt.natAbs ≤ 200 → Answers (exec (.calSessionEnd (.refdac (some v))) s) fun t =>
      t.get CAL_STAT_RESULT = 0 ∧ t.get CAL_STAT_BUSY = 0 ∧ t.get CAL_STAT_REFDAC_DONE = 1 ∧
      t.cal.session = none)) ∧
  (∀ (x : Session) (s : State), s.live = true → s.cal.session = some x → x.closing = false →
    (∀ n, x.kind = 1 → x.since + 10 ^ 9 ≤ s.clk.time →
      exec (.calSessionEnd (.timebase n)) s = .next (s.calTimebase x n.toNat)) ∧
    (∀ adc afe, x.kind = 3 → exec (.calSessionEnd (.analog adc afe)) s =
      .next (s.calTables x [(tblADC x.cluster, natRows adc), (tblAFE x.cluster, natRows afe)])) ∧
    (∀ heat ma ka, x.kind = 4 → exec (.calSessionEnd (.media heat ma ka)) s =
      .next (s.calTables x [(tblHEAT x.cluster, natRows heat), (tblMA x.cluster, ma.map (fun v => [v.toNat])),
        (tblVCM x.cluster, [[ka.toNat]])]))) ∧
  (∀ (same : Bool) (l : Option CalCopy) (i : Nat) (s : State), s.live = true → s.cal.storing = some i →
    Answers (exec (.calStoreDone same l) s) fun t => t.get CAL_STAT_BUSY = 0 ∧
      t.get CAL_STAT_RESULT = (if same then 0 else 7) ∧ t.cal = { s.cal with
        storing := none
        copies := s.cal.copies.set i (if same then some s.storedCopy else l) }) ∧
  (∀ (p : Bool) (s : State), s.live = true →
    (s.cal.session = none → Answers (exec (.calrefPresentChange p) s) fun t =>
      t.get TOP_CLKSTAT_CALREF_PRESENT = (if p then 1 else 0)) ∧
    (∀ x, s.cal.session = some x → x.kind = 1 → Answers (exec (.calrefPresentChange false) s) fun t =>
      t.cal.session = none ∧ t.get CAL_STAT_RESULT = 1 ∧ t.get TOP_CLKSTAT_CALREF_PRESENT = 0))

/-- The frames of each command of the family: the parts it may change. -/
def Obligations.ClockAndStartFrames : Prop :=
  (∀ (s : State), LeavesAllBut [.time, .clk, .regs, .log, .staff, .resetting, .masked, .ports, .win, .tl, .mem,
    .memX, .memu, .lanes, .pcb, .mcb, .pf, .cantons, .str, .servo, .seq, .clr, .biasA, .spin, .cache, .staged,
    .bufRecs, .streamers, .link, .cross, .start, .cal] s (exec .powerOnDetect s)) ∧
  (∀ (s : State), LeavesAllBut [.clk, .regs, .log, .staff, .resetting, .masked, .ports, .win, .tl, .mem, .memX,
    .memu, .lanes, .pcb, .mcb, .pf, .cantons, .str, .servo, .seq, .clr, .biasA, .spin, .cache, .staged, .bufRecs,
    .streamers, .link, .cross, .start, .cal] s (exec .resetNAssert s)) ∧
  (∀ (s : State), LeavesAllBut [.clk, .regs, .log, .staff, .resetting, .masked, .ports, .win, .tl, .mem, .memX,
    .memu, .lanes, .pcb, .mcb, .pf, .cantons, .str, .servo, .seq, .clr, .biasA, .spin, .cache, .staged, .bufRecs,
    .streamers, .link, .cross, .start, .cal] s (exec .chipReset s)) ∧
  (∀ (s : State), LeavesAllBut [.clk] s (exec .resetNRelease s)) ∧
  (∀ (f : Found) (s : State), LeavesAllBut (raiseParts.append [.mem, .memX, .mcb, .clr, .spin, .start, .media]) s
    (exec (.startStepDone f) s)) ∧
  (∀ (s : State), LeavesAllBut [.regs, .mcb, .pf, .spin, .start] s (exec .startPfailHoldEnd s)) ∧
  (∀ (s : State), LeavesAllBut raiseParts s (exec .refclkGapTimeout s)) ∧
  (∀ (inRange : Bool) (s : State), LeavesAllBut raiseParts s (exec (.refclkWindowEnd inRange) s)) ∧
  (∀ (d : Die) (rep : BitVec 64) (s : State), LeavesAllBut raiseParts s (exec (.timeReplicaCompare d rep) s)) ∧
  (∀ (n : Crossing) (s : State), LeavesAllBut raiseParts s (exec (.cdcClockTimeout n) s)) ∧
  (∀ (s : State), LeavesAllBut [.clk, .regs] s (exec .rootStop s)) ∧
  (∀ (n : Crossing) (busy : Bool) (s : State), LeavesAllBut [.regs] s (exec (.cdcPulse n busy) s)) ∧
  (∀ (n : Crossing) (s : State), LeavesAllBut [.cross] s (exec (.cdcReopen n) s)) ∧
  (∀ (b : BlockId) (s : State), LeavesAllBut (raiseParts.append [.clr, .biasA, .spin, .cache, .staged]) s (exec
    (.blockResetEnd b) s)) ∧
  (∀ (b : BlockId) (s : State), LeavesAllBut [.clk, .masked] s (exec (.faultMaskEnd b) s)) ∧
  (∀ (o : Origin) (s : State), LeavesAllBut [.regs, .log] s (exec (.fltFirstClear o) s)) ∧
  (∀ (o : Origin) (k : Fin 10) (v : BitVec 32) (s : State), LeavesAllBut [.regs, .log] s (exec (.fltPendClear o k v)
    s)) ∧
  (∀ (n : Crossing) (s : State), LeavesAllBut [.regs, .cross] s (exec (.foreignClockReturn n) s))

/-- The frames of each command of the family: the parts it may change. -/
def Obligations.PortAndWindowFrames : Prop :=
  (∀ (o : Origin) (a : BitVec 48) (s : State), LeavesAllBut [.regs, .log, .ports, .tl] s (exec (.rcFieldRead o a)
    s)) ∧
  (∀ (o : Origin) (n : TaskPort) (s : State), LeavesAllBut (raiseParts.append [.cache, .staged]) s (exec (.hoistRead
    o n) s)) ∧
  (∀ (o : Origin) (n : TaskPort) (s : State), LeavesAllBut (raiseParts.append [.cache, .staged]) s (exec
    (.hoistWrite o n) s)) ∧
  (∀ (o : Origin) (n : TaskPort) (s : State), LeavesAllBut (raiseParts.append [.cache, .staged]) s (exec
    (.hoistAbort o n) s)) ∧
  (∀ (o : Origin) (n : TaskPort) (s : State), LeavesAllBut (raiseParts.append [.cache, .staged]) s (exec
    (.hoistBadOpcode o n) s)) ∧
  (∀ (n : TaskPort) (s : State), LeavesAllBut (raiseParts.append [.cache, .staged]) s (exec (.heldHoistLatch n) s)) ∧
  (∀ (d : Die) (h : Fin 16384) (unit : Fin 4) (met : BitVec 8) (edge : BitVec 8) (s : State), LeavesAllBut
    (raiseParts.append [.mem, .memX, .cache, .staged]) s (exec (.admissionUnitTake d h unit met edge) s)) ∧
  (∀ (n : TaskPort) (tag : BitVec 16) (s : State), LeavesAllBut [.regs, .ports, .win, .tl, .bufRecs, .link] s (exec
    (.bufferedTerminal n tag) s)) ∧
  (∀ (n : TaskPort) (s : State), LeavesAllBut [.regs, .ports, .tl] s (exec (.cqPop n) s)) ∧
  (∀ (o : Origin) (n : TaskPort) (num : Fin 4194304) (s : State), LeavesAllBut [.regs, .log, .ports] s (exec
    (.slotopFree o n num) s)) ∧
  (∀ (o : Origin) (n : TaskPort) (num : Fin 4194304) (s : State), LeavesAllBut [.regs, .log, .ports] s (exec
    (.slotopClaim o n num) s)) ∧
  (∀ (o : Origin) (n : TaskPort) (v : Word) (s : State), LeavesAllBut [.regs, .log, .ports] s (exec (.portCfgWrite o
    n v) s)) ∧
  (∀ (o : Origin) (s : State), LeavesAllBut [.regs, .log, .ports] s (exec (.rightsRead o) s)) ∧
  (∀ (o : Origin) (s : State), LeavesAllBut [.regs, .log, .ports] s (exec (.rightsSet o) s)) ∧
  (∀ (o : Origin) (s : State), LeavesAllBut [.regs, .log, .ports] s (exec (.rightsClear o) s)) ∧
  (∀ (s : State), LeavesAllBut [.regs, .log, .ports] s (exec .rightsCmdComplete s)) ∧
  (∀ (n : TaskPort) (s : State), LeavesAllBut [.regs, .ports, .win] s (exec (.slotopComplete n) s)) ∧
  (∀ (o : Origin) (s : State), LeavesAllBut [.regs, .log, .win] s (exec (.grantRead o) s)) ∧
  (∀ (o : Origin) (s : State), LeavesAllBut [.regs, .log, .win] s (exec (.grantSet o) s)) ∧
  (∀ (o : Origin) (s : State), LeavesAllBut [.regs, .log, .win] s (exec (.grantRevoke o) s)) ∧
  (∀ (s : State), LeavesAllBut [.regs, .log, .win] s (exec .grantCmdComplete s)) ∧
  (∀ (o : Origin) (v : Word) (s : State), LeavesAllBut [.regs, .log, .win] s (exec (.winHoldWrite o v) s)) ∧
  (∀ (s : State), LeavesAllBut [.regs, .log, .ports, .win] s (exec .holdSweep s)) ∧
  (∀ (d : Die) (i : Fin 64) (k : Fin 16) (h : Fin 16384) (s : State), LeavesAllBut [.regs, .ports, .tl, .cache] s
    (exec (.prefetchIssue d i k h) s)) ∧
  (∀ (owner : BitVec 32) (status : BitVec 8) (s : State), LeavesAllBut [.regs, .ports, .win, .tl, .link] s (exec
    (.portTerminal owner status) s)) ∧
  (∀ (owner : BitVec 32) (s : State), LeavesAllBut [.ports] s (exec (.portDetail owner) s))

/-- The frames of each command of the family: the parts it may change. -/
def Obligations.BoundaryAndBudgetFrames : Prop :=
  (∀ (o : Origin) (a : BitVec 48) (v : Word) (s : State), LeavesAllBut (raiseParts.append [.mcb, .clr, .cache,
    .staged]) s (exec (.registerWrite o a v) s)) ∧
  (∀ (p : LinkPort) (view : Bool) (func : Fin 256) (burgee : Fin 4096) (a : BitVec 32) (v : Word) (s : State),
    LeavesAllBut (raiseParts.append [.mcb, .clr, .cache, .staged]) s (exec (.linkWreg p view func burgee a v) s)) ∧
  (∀ (c : Cluster) (b : Boundary) (s : State), LeavesAllBut (raiseParts.append [.clr, .spin, .media]) s (exec
    (.wedgeBoundary c b) s)) ∧
  (∀ (o : Origin) (s : State), LeavesAllBut [.regs, .log, .ports] s (exec (.bcmdRead o) s)) ∧
  (∀ (o : Origin) (s : State), LeavesAllBut [.regs, .log, .ports] s (exec (.bcmdWrite o) s)) ∧
  (∀ (s : State), LeavesAllBut [.regs, .log, .ports, .tl] s (exec .bcmdComplete s)) ∧
  (∀ (p : LinkPort) (view : Bool) (func : Fin 256) (burgee : Fin 4096) (tag : BitVec 12) (a : BitVec 48) (s :
    State), LeavesAllBut [.regs, .log, .ports, .tl, .link] s (exec (.linkRreg p view func burgee tag a) s)) ∧
  (∀ (p : LinkPort) (view : Bool) (func : Fin 256) (burgee : Fin 4096) (tag : BitVec 12) (lenw : Fin 1024) (a :
    BitVec 48) (s : State), LeavesAllBut [.regs, .log, .ports, .link] s (exec (.linkWrd p view func burgee tag lenw
    a) s)) ∧
  (∀ (p : LinkPort) (view : Bool) (func : Fin 256) (burgee : Fin 4096) (a : BitVec 48) (data : List Word) (s :
    State), LeavesAllBut [.regs, .log, .ports, .mem, .memX, .memu, .link] s (exec (.linkWwr p view func burgee a
    data) s))

/-- The frames of each command of the family: the parts it may change. -/
def Obligations.LaneAndPreampFrames : Prop :=
  (∀ (c : Cluster) (mask : BitVec 32) (slot : BitVec 32) (s : State), LeavesAllBut raiseParts s (exec (.laneArmRead
    c mask slot) s)) ∧
  (∀ (c : Cluster) (mask : BitVec 32) (slot : BitVec 32) (s : State), LeavesAllBut raiseParts s (exec (.laneArmWrite
    c mask slot) s)) ∧
  (∀ (c : Cluster) (s : State), LeavesAllBut raiseParts s (exec (.pfltNoFaultFrame c) s)) ∧
  (∀ (c : Cluster) (mask : BitVec 32) (s : State), LeavesAllBut [.regs, .lanes, .cantons, .str, .seq, .draws] s
    (exec (.laneDisarm c mask) s)) ∧
  (∀ (c : Cluster) (f : Surface) (s : State), LeavesAllBut (raiseParts.append [.clr]) s (exec (.adcStuck c f) s)) ∧
  (∀ (o : Origin) (c : Cluster) (f : Surface) (s : State), LeavesAllBut (raiseParts.append [.clr]) s (exec
    (.laneRetire o c f) s)) ∧
  (∀ (o : Origin) (c : Cluster) (f : Surface) (b : Bool) (s : State), LeavesAllBut (raiseParts.append [.clr]) s
    (exec (.hostWinhWrite o c f b) s)) ∧
  (∀ (c : Cluster) (fits : Bool) (s : State), LeavesAllBut (raiseParts.append [.clr]) s (exec (.pcbFrameSend c fits)
    s)) ∧
  (∀ (c : Cluster) (ma : Bool) (passed : BitVec 12) (s : State), LeavesAllBut (raiseParts.append [.clr]) s (exec
    (.pcbNak c ma passed) s)) ∧
  (∀ (c : Cluster) (r : Vector (BitVec 16) 32) (s : State), LeavesAllBut (raiseParts.append [.clr]) s (exec
    (.pcbSense c r) s)) ∧
  (∀ (c : Cluster) (surfaces : BitVec 32) (cause : BitVec 8) (s : State), LeavesAllBut (raiseParts.append [.clr]) s
    (exec (.pcbFaultFrame c surfaces cause) s)) ∧
  (∀ (c : Cluster) (passed : BitVec 12) (s : State), LeavesAllBut (raiseParts.append [.clr]) s (exec (.pcbBadFrame c
    passed) s)) ∧
  (∀ (c : Cluster) (passed : BitVec 12) (s : State), LeavesAllBut (raiseParts.append [.clr]) s (exec
    (.pcbExchangeTimeout c passed) s)) ∧
  (∀ (c : Cluster) (seq : Fin 16) (s : State), LeavesAllBut [.regs, .pcb, .seq] s (exec (.pcbAck c seq) s)) ∧
  (∀ (c : Cluster) (addr : BitVec 16) (data : BitVec 16) (s : State), LeavesAllBut [.regs, .pcb] s (exec (.pcbRdata
    c addr data) s)) ∧
  (∀ (o : Origin) (c : Cluster) (s : State), LeavesAllBut [.regs, .log, .pcb] s (exec (.pcbRegRead o c) s)) ∧
  (∀ (o : Origin) (c : Cluster) (s : State), LeavesAllBut [.regs, .log, .pcb] s (exec (.pcbRegWrite o c) s)) ∧
  (∀ (c : Cluster) (s : State), LeavesAllBut [.regs, .lanes, .pcb, .str, .seq, .draws] s (exec (.pfltFall c) s)) ∧
  (∀ (c : Cluster) (s : State), LeavesAllBut [.regs] s (exec (.pfltRise c) s)) ∧
  (∀ (c : Cluster) (f : Surface) (early : Bool) (s : State), LeavesAllBut [.regs, .lanes, .str, .seq] s (exec
    (.fragmentWriteStart c f early) s))

/-- The frames of each command of the family: the parts it may change. -/
def Obligations.MotorAndPowerFrames : Prop :=
  (∀ (drive : BitVec 12) (angle : BitVec 12) (s : State), LeavesAllBut [.regs, .mcb, .spin] s (exec (.mcbCycle drive
    angle) s)) ∧
  (∀ (s : State), LeavesAllBut [.regs, .mcb, .spin] s (exec .spinWatchEnd s)) ∧
  (∀ (seq : Fin 16) (echo : BitVec 24) (s : State), LeavesAllBut [.regs, .mcb] s (exec (.mcbAck seq echo) s)) ∧
  (∀ (seq : Fin 16) (addr : BitVec 8) (data : BitVec 16) (s : State), LeavesAllBut [.regs, .mcb] s (exec (.mcbRdata
    seq addr data) s)) ∧
  (∀ (seq : Fin 16) (payload : BitVec 24) (s : State), LeavesAllBut [.regs, .mcb] s (exec (.mcbFault seq payload)
    s)) ∧
  (∀ (seq : Fin 16) (s : State), LeavesAllBut (raiseParts.append [.mcb]) s (exec (.mcbNak seq) s)) ∧
  (∀ (s : State), LeavesAllBut (raiseParts.append [.mcb]) s (exec .mcbBadReply s)) ∧
  (∀ (c : Cluster) (seq : Fin 16) (cur : BitVec 12) (emf : BitVec 12) (s : State), LeavesAllBut [.mcb] s (exec
    (.vcmMeas c seq cur emf) s)) ∧
  (∀ (seq : Fin 16) (emf : BitVec 12) (phase : Fin 3) (vbus : BitVec 10) (zero : Option (Bool × Fin 16)) (s :
    State), LeavesAllBut (raiseParts.append [.mcb, .spin]) s (exec (.spinMeas seq emf phase vbus zero) s)) ∧
  (∀ (o : Origin) (addr : BitVec 8) (s : State), LeavesAllBut [.regs, .log, .mcb] s (exec (.mcbRegRead o addr) s)) ∧
  (∀ (o : Origin) (addr : BitVec 8) (data : BitVec 16) (s : State), LeavesAllBut [.regs, .log, .mcb] s (exec
    (.mcbRegWrite o addr data) s)) ∧
  (∀ (s : State), LeavesAllBut [.regs, .log, .mcb] s (exec .pfBrake s)) ∧
  (∀ (s : State), LeavesAllBut raiseParts s (exec .masterTakeover s)) ∧
  (∀ (s : State), LeavesAllBut raiseParts s (exec .spinNoZeroCrossing s)) ∧
  (∀ (s : State), LeavesAllBut raiseParts s (exec .spinupTimeout s)) ∧
  (∀ (s : State), LeavesAllBut [.pf] s (exec .pfailNFall s)) ∧
  (∀ (s : State), LeavesAllBut [.regs, .pf] s (exec .pfailGlitch s)) ∧
  (∀ (s : State), LeavesAllBut (raiseParts.append [.mcb, .pf]) s (exec .pfailAccept s)) ∧
  (∀ (wrote : List (Cluster × Nat × Nat)) (s : State), LeavesAllBut [.regs, .ports, .win, .tl, .pcb, .mcb, .pf,
    .str, .clr, .bufRecs, .link, .media] s (exec (.pfPhaseB wrote) s)) ∧
  (∀ (s : State), LeavesAllBut (raiseParts.append [.pf]) s (exec .pfailRecover s)) ∧
  (∀ (c : Cluster) (f : Surface) (s : State), LeavesAllBut [.regs, .clr] s (exec (.clrRetry c f) s)) ∧
  (∀ (s : State), LeavesAllBut [.regs, .spin] s (exec .spinAlignEnd s)) ∧
  (∀ (frac : Fin 16) (s : State), LeavesAllBut (raiseParts.append [.spin]) s (exec (.sprefEdge frac) s)) ∧
  (∀ (s : State), LeavesAllBut (raiseParts.append [.spin]) s (exec .sprefLost s)) ∧
  (∀ (mv : Vector (BitVec 12) 5) (tj : Vector (BitVec 16) 9) (s : State), LeavesAllBut [.regs, .ports] s (exec
    (.monitorSample mv tj) s))

/-- The frames of each command of the family: the parts it may change. -/
def Obligations.ReadChannelAndStripeFrames : Prop :=
  (∀ (c : Cluster) (f : Surface) (raw : List (BitVec 7)) (s : State), LeavesAllBut [.regs, .lanes] s (exec
    (.fragmentReadStart c f raw) s)) ∧
  (∀ (c : Cluster) (f : Surface) (raw : List (BitVec 7)) (s : State), LeavesAllBut [.regs, .lanes, .cantons, .str] s
    (exec (.syncWindowClose c f raw) s)) ∧
  (∀ (c : Cluster) (f : Surface) (before : List (BitVec 7)) (after : List (BitVec 7)) (s : State), LeavesAllBut
    [.regs, .lanes, .cantons, .str] s (exec (.resyncSearch c f before after) s)) ∧
  (∀ (c : Cluster) (f : Surface) (s : State), LeavesAllBut [.regs, .lanes, .cantons, .str] s (exec (.landingHead c
    f) s)) ∧
  (∀ (c : Cluster) (f : Surface) (raw : List (BitVec 7)) (s : State), LeavesAllBut [.regs, .lanes, .cantons, .str,
    .seq] s (exec (.fragmentEnd c f raw) s)) ∧
  (∀ (k : CantonNo) (d : Fin 20) (s : State), LeavesAllBut [.regs, .cantons, .str] s (exec (.decodeDispatch k d) s)) ∧
  (∀ (c : Cluster) (f : Surface) (s : State), LeavesAllBut [.regs, .cantons, .str] s (exec (.decodeDeadline c f) s)) ∧
  (∀ (k : CantonNo) (d : Fin 20) (checker : Bool) (s : State), LeavesAllBut raiseParts s (exec (.decodeEnd k d
    checker) s)) ∧
  (∀ (k : CantonNo) (d : Fin 20) (s : State), LeavesAllBut raiseParts s (exec (.decoderTimeout k d) s)) ∧
  (∀ (c : Cluster) (r : Fin 2048) (hoff : Option (Surface × Bool)) (h : Fin 16384) (s : State), LeavesAllBut
    raiseParts s (exec (.calSkewUpdate c r hoff h) s)) ∧
  (∀ (c : Cluster) (r : Fin 2048) (f : Surface) (h : Fin 16384) (s : State), LeavesAllBut raiseParts s (exec
    (.relocTrackCopy c r f h) s)) ∧
  (∀ (c : Cluster) (slot : BitVec 32) (s : State), LeavesAllBut [.regs, .log, .ports, .win, .mem, .memX, .memu,
    .str, .seq, .cache, .staged, .link] s (exec (.stripeSettle c slot) s)) ∧
  (∀ (c : Cluster) (s : State), LeavesAllBut [.regs, .str, .seq] s (exec (.parityEncodeDone c) s)) ∧
  (∀ (c : Cluster) (log : Bool) (s : State), LeavesAllBut (stopParts.append [.cache, .staged, .media]) s (exec
    (.commitTestDone c log) s)) ∧
  (∀ (c : Cluster) (slot : BitVec 32) (cut : BitVec 32) (h : Fin 16384) (s : State), LeavesAllBut stopParts s (exec
    (.repairWrite c slot cut h) s)) ∧
  (∀ (c : Cluster) (erased : BitVec 32) (spare : BitVec 32) (cut : BitVec 32) (h : Fin 16384) (s : State),
    LeavesAllBut stopParts s (exec (.patrolRead c erased spare cut h) s))

/-- The frames of each command of the family: the parts it may change. -/
def Obligations.ServoAndUnitFrames : Prop :=
  (∀ (c : Cluster) (xs : Vector (Option Sample) 32) (lane : Surface) (s : State), LeavesAllBut (raiseParts.append
    [.mcb, .clr, .biasA, .spin]) s (exec (.servoWd c xs lane) s)) ∧
  (∀ (c : Cluster) (s : State), LeavesAllBut [.regs, .pcb, .mcb, .servo, .seq] s (exec (.servoMidw c) s)) ∧
  (∀ (c : Cluster) (s : State), LeavesAllBut (raiseParts.append [.mcb]) s (exec (.reacquireTimeout c) s)) ∧
  (∀ (c : Cluster) (wedge : BitVec 32) (s : State), LeavesAllBut [.seq] s (exec (.timelineRead c wedge) s)) ∧
  (∀ (c : Cluster) (cells : BitVec 32) (owner : BitVec 32) (s : State), LeavesAllBut [.seq] s (exec (.budgetCheck c
    cells owner) s)) ∧
  (∀ (c : Cluster) (v : BitVec 32) (s : State), LeavesAllBut [.seq] s (exec (.posSet c v) s)) ∧
  (∀ (c : Cluster) (s : State), LeavesAllBut [.regs, .seq, .draws] s (exec (.timelineReadDone c) s)) ∧
  (∀ (c : Cluster) (track : BitVec 26) (s : State), LeavesAllBut [.regs, .servo] s (exec (.servoMove c track) s)) ∧
  (∀ (c : Cluster) (s : State), LeavesAllBut [.regs] s (exec (.servoHold c) s)) ∧
  (∀ (c : Cluster) (mask : BitVec 32) (mode : Fin 4) (act : BitVec 12) (s : State), LeavesAllBut [.pcb] s (exec
    (.pcbMode c mask mode act) s)) ∧
  (∀ (c : Cluster) (slot : BitVec 32) (s : State), LeavesAllBut [.str] s (exec (.strOpen c slot) s)) ∧
  (∀ (c : Cluster) (mask : BitVec 32) (s : State), LeavesAllBut [.str] s (exec (.strWriteset c mask) s)) ∧
  (∀ (c : Cluster) (s : State), LeavesAllBut [.str] s (exec (.strCommitTest c) s)) ∧
  (∀ (c : Cluster) (s : State), LeavesAllBut [.str] s (exec (.strClose c) s)) ∧
  (∀ (c : Cluster) (addr : BitVec 32) (s : State), LeavesAllBut (raiseParts.append [.cache, .staged]) s (exec
    (.stmKick c addr) s)) ∧
  (∀ (c : Cluster) (code : BitVec 16) (payload : BitVec 32) (s : State), LeavesAllBut [.regs, .log] s (exec
    (.eventLog c code payload) s))

/-- The frames of each command of the family: the parts it may change. -/
def Obligations.SequencerFrames : Prop :=
  (∀ (c : Cluster) (flips : BitVec 136) (s : State), LeavesAllBut (raiseParts.append [.cache, .staged]) s (exec
    (.seqGo c flips) s)) ∧
  (∀ (c : Cluster) (flips : BitVec 136) (s : State), LeavesAllBut (raiseParts.append [.cache, .staged]) s (exec
    (.seqBranch c flips) s)) ∧
  (∀ (c : Cluster) (flips : BitVec 136) (held : BitVec 16) (s : State), LeavesAllBut (raiseParts.append [.cache,
    .staged]) s (exec (.seqWait c flips held) s)) ∧
  (∀ (c : Cluster) (flips : BitVec 136) (s : State), LeavesAllBut (raiseParts.append [.cache, .staged]) s (exec
    (.seqCall c flips) s)) ∧
  (∀ (c : Cluster) (flips : BitVec 136) (s : State), LeavesAllBut (raiseParts.append [.cache, .staged]) s (exec
    (.seqReturn c flips) s)) ∧
  (∀ (c : Cluster) (flips : BitVec 136) (s : State), LeavesAllBut (raiseParts.append [.cache, .staged]) s (exec
    (.seqIret c flips) s)) ∧
  (∀ (c : Cluster) (flips : BitVec 136) (s : State), LeavesAllBut (raiseParts.append [.cache, .staged]) s (exec
    (.seqJumpclr c flips) s)) ∧
  (∀ (c : Cluster) (flips : BitVec 136) (s : State), LeavesAllBut (raiseParts.append [.cache, .staged]) s (exec
    (.seqIllegalWord c flips) s)) ∧
  (∀ (o : Origin) (c : Cluster) (flips : BitVec 136) (s : State), LeavesAllBut (raiseParts.append [.cache, .staged])
    s (exec (.seqStep o c flips) s)) ∧
  (∀ (c : Cluster) (s : State), LeavesAllBut [.regs, .seq] s (exec (.seqWaitTimeout c) s)) ∧
  (∀ (c : Cluster) (dst : Fin 16) (b : AluB) (s : State), LeavesAllBut [.regs, .seq] s (exec (.aluMov c dst b) s)) ∧
  (∀ (c : Cluster) (dst : Fin 16) (a : Fin 16) (b : AluB) (s : State), LeavesAllBut [.regs, .seq] s (exec (.aluAdd c
    dst a b) s)) ∧
  (∀ (c : Cluster) (dst : Fin 16) (a : Fin 16) (b : AluB) (s : State), LeavesAllBut [.regs, .seq] s (exec (.aluSub c
    dst a b) s)) ∧
  (∀ (c : Cluster) (dst : Fin 16) (a : Fin 16) (b : AluB) (s : State), LeavesAllBut [.regs, .seq] s (exec (.aluAnd c
    dst a b) s)) ∧
  (∀ (c : Cluster) (dst : Fin 16) (a : Fin 16) (b : AluB) (s : State), LeavesAllBut [.regs, .seq] s (exec (.aluOr c
    dst a b) s)) ∧
  (∀ (c : Cluster) (dst : Fin 16) (a : Fin 16) (b : AluB) (s : State), LeavesAllBut [.regs, .seq] s (exec (.aluXor c
    dst a b) s)) ∧
  (∀ (c : Cluster) (dst : Fin 16) (a : Fin 16) (b : AluB) (s : State), LeavesAllBut [.regs, .seq] s (exec (.aluShl c
    dst a b) s)) ∧
  (∀ (c : Cluster) (dst : Fin 16) (a : Fin 16) (b : AluB) (s : State), LeavesAllBut [.regs, .seq] s (exec (.aluShr c
    dst a b) s)) ∧
  (∀ (c : Cluster) (dst : Fin 16) (b : AluB) (s : State), LeavesAllBut [.regs, .seq] s (exec (.aluPopcnt c dst b)
    s)) ∧
  (∀ (c : Cluster) (dst : Fin 16) (b : AluB) (s : State), LeavesAllBut [.regs, .seq] s (exec (.aluFfs c dst b) s)) ∧
  (∀ (c : Cluster) (dst : Fin 16) (a : Fin 16) (b : AluB) (s : State), LeavesAllBut [.regs, .seq] s (exec (.aluMin c
    dst a b) s)) ∧
  (∀ (c : Cluster) (s : State), LeavesAllBut [.regs, .seq] s (exec (.storeReloadDone c) s)) ∧
  (∀ (c : Cluster) (s : State), LeavesAllBut raiseParts s (exec (.seqInterrupt c) s)) ∧
  (∀ (c : Cluster) (s : State), LeavesAllBut raiseParts s (exec (.seqSafeLate c) s)) ∧
  (∀ (c : Cluster) (flips : List (BitVec 14 × BitVec 136)) (s : State), LeavesAllBut raiseParts s (exec
    (.csVerifyDone c flips) s)) ∧
  (∀ (o : Origin) (c : Cluster) (s : State), LeavesAllBut [.regs, .log, .seq] s (exec (.seqRestart o c) s)) ∧
  (∀ (o : Origin) (c : Cluster) (flips : BitVec 136) (s : State), LeavesAllBut [.regs, .log, .seq] s (exec (.csRead
    o c flips) s)) ∧
  (∀ (o : Origin) (c : Cluster) (s : State), LeavesAllBut [.regs, .log, .seq] s (exec (.csWrite o c) s)) ∧
  (∀ (o : Origin) (c : Cluster) (s : State), LeavesAllBut [.regs, .log, .seq] s (exec (.csVerify o c) s)) ∧
  (∀ (o : Origin) (c : Cluster) (s : State), LeavesAllBut [.regs, .log] s (exec (.seqTest o c) s)) ∧
  (∀ (o : Origin) (c : Cluster) (v : Fin 16) (s : State), LeavesAllBut [.regs, .log] s (exec (.gflagWrite o c v) s)) ∧
  (∀ (o : Origin) (c : Cluster) (s : State), LeavesAllBut [.regs, .log, .lanes, .pcb, .cantons, .str, .seq,
    .streamers, .draws] s (exec (.seqHalt o c) s)) ∧
  (∀ (c : Cluster) (s : State), LeavesAllBut [.seq] s (exec (.posHit c) s))

/-- The frames of each command of the family: the parts it may change. -/
def Obligations.MemoryAndCacheFrames : Prop :=
  (∀ (m : MemAt) (s : State), LeavesAllBut (raiseParts.append [.mem, .memX, .cache, .staged]) s (exec (.memoryRead
    m) s)) ∧
  (∀ (o : Origin) (m : MemAt) (v : Word) (s : State), LeavesAllBut (raiseParts.append [.mem, .memX, .cache,
    .staged]) s (exec (.memoryWrite o m v) s)) ∧
  (∀ (o : Origin) (m : MemAt) (mask : BitVec 4) (v : Word) (s : State), LeavesAllBut (raiseParts.append [.mem,
    .memX, .cache, .staged]) s (exec (.memoryPartialWrite o m mask v) s)) ∧
  (∀ (m : MemAt) (row : BitVec 32) (last : Bool) (s : State), LeavesAllBut (raiseParts.append [.mem, .memX, .cache,
    .staged]) s (exec (.scrubRead m row last) s)) ∧
  (∀ (ch : Channel) (addr : BitVec 35) (flips : List (BitVec 40)) (s : State), LeavesAllBut (raiseParts.append
    [.mem, .memX, .cache, .staged]) s (exec (.lineSweepBurst ch addr flips) s)) ∧
  (∀ (ch : Channel) (s : State), LeavesAllBut (raiseParts.append [.mem, .memX, .cache, .staged]) s (exec
    (.steeringHoldEnd ch) s)) ∧
  (∀ (lba : BitVec 48) (data : List (BitVec 32)) (h : Fin 16384) (s : State), LeavesAllBut [.regs, .log, .ports,
    .tl, .mem, .memX, .memu, .cache] s (exec (.scrubRefetch lba data h) s)) ∧
  (∀ (o : Origin) (s : State), LeavesAllBut [.regs, .log, .memu] s (exec (.injectArm o) s)) ∧
  (∀ (o : Origin) (s : State), LeavesAllBut [.regs, .log] s (exec (.injectDisarm o) s)) ∧
  (∀ (o : Origin) (d : Die) (pfEn : Bool) (s : State), LeavesAllBut [.regs, .log] s (exec (.cacheEnable o d pfEn)
    s)) ∧
  (∀ (o : Origin) (d : Die) (pfEn : Bool) (s : State), LeavesAllBut [.regs, .log] s (exec (.cacheDisable o d pfEn)
    s)) ∧
  (∀ (o : Origin) (d : Die) (s : State), LeavesAllBut [.regs, .log, .cache] s (exec (.cacheInvalidate o d) s)) ∧
  (∀ (d : Die) (s : State), LeavesAllBut [.regs, .log, .mem, .memX, .memu, .cache, .staged] s (exec (.cacheDrainEnd
    d) s)) ∧
  (∀ (d : Die) (s : State), LeavesAllBut [.regs, .cache] s (exec (.evictionWriteDone d) s)) ∧
  (∀ (d : Die) (s : State), LeavesAllBut [.regs, .cache] s (exec (.invalidateDone d) s))

/-- The frames of each command of the family: the parts it may change. -/
def Obligations.StreamerAndLinkFrames : Prop :=
  (∀ (o : Origin) (n : StreamerNo) (hi : Fin 8) (s : State), LeavesAllBut (raiseParts.append [.cache, .staged]) s
    (exec (.stmGo o n hi) s)) ∧
  (∀ (n : StreamerNo) (s : State), LeavesAllBut (raiseParts.append [.cache, .staged]) s (exec (.stmBurstAck n) s)) ∧
  (∀ (n : StreamerNo) (s : State), LeavesAllBut (raiseParts.append [.cache, .staged]) s (exec (.stmBurstTimeout n)
    s)) ∧
  (∀ (n : StreamerNo) (s : State), LeavesAllBut (raiseParts.append [.cache, .staged]) s (exec (.stmDescEnd n) s)) ∧
  (∀ (n : StreamerNo) (s : State), LeavesAllBut (raiseParts.append [.cache, .staged]) s (exec (.stmLinkReread n) s)) ∧
  (∀ (o : Origin) (n : StreamerNo) (s : State), LeavesAllBut [.regs, .log, .streamers] s (exec (.stmPause o n) s)) ∧
  (∀ (o : Origin) (n : StreamerNo) (pause : Bool) (s : State), LeavesAllBut [.regs, .log, .streamers] s (exec
    (.stmStop o n pause) s)) ∧
  (∀ (o : Origin) (n : StreamerNo) (s : State), LeavesAllBut [.regs, .log] s (exec (.stmResume o n) s)) ∧
  (∀ (n : StreamerNo) (s : State), LeavesAllBut [.regs, .log, .ports, .win, .mem, .memX, .memu, .str, .seq, .cache,
    .staged, .streamers, .link] s (exec (.stmBurstIssue n) s)) ∧
  (∀ (n : StreamerNo) (s : State), LeavesAllBut [] s (exec (.stmStatusRead n) s)) ∧
  (∀ (n : HLane) (info : BitVec 5140) (errs : Fin 545) (skew : BitVec 8) (s : State), LeavesAllBut raiseParts s
    (exec (.linkCodeword n info errs skew) s)) ∧
  (∀ (p : LinkPort) (s : State), LeavesAllBut raiseParts s (exec (.linkDataFlit p) s)) ∧
  (∀ (p : LinkPort) (s : State), LeavesAllBut raiseParts s (exec (.linkCtrlFlit p) s)) ∧
  (∀ (p : LinkPort) (s : State), LeavesAllBut raiseParts s (exec (.linkPortDown p) s)) ∧
  (∀ (p : LinkPort) (s : State), LeavesAllBut lossParts s (exec (.linkIdleFlit p) s)) ∧
  (∀ (p : LinkPort) (s : State), LeavesAllBut lossParts s (exec (.linkReplayTimer p) s)) ∧
  (∀ (p : LinkPort) (rx : Bool) (s : State), LeavesAllBut lossParts s (exec (.linkMapApply p rx) s)) ∧
  (∀ (p : LinkPort) (ok : BitVec 20) (inv : BitVec 20) (s : State), LeavesAllBut lossParts s (exec
    (.linkEqualizeDone p ok inv) s)) ∧
  (∀ (n : TaskPort) (s : State), LeavesAllBut [.link] s (exec (.linkDblSend n) s)) ∧
  (∀ (d : Die) (s : State), LeavesAllBut [.link] s (exec (.linkEvtSend d) s)) ∧
  (∀ (n : HLane) (passed : Bool) (s : State), LeavesAllBut [.clk, .regs, .resetting, .link, .cross] s (exec
    (.linkLaneRetrain n passed) s)) ∧
  (∀ (p : LinkPort) (pcred : BitVec 16) (s : State), LeavesAllBut [.clk, .regs, .resetting, .link, .cross] s (exec
    (.linkConfigDone p pcred) s)) ∧
  (∀ (p : LinkPort) (s : State), LeavesAllBut [.clk, .regs, .resetting, .link, .cross] s (exec (.linkRetrainDone p)
    s)) ∧
  (∀ (p : LinkPort) (s : State), LeavesAllBut [.regs, .link] s (exec (.linkAlignDone p) s)) ∧
  (∀ (p : LinkPort) (s : State), LeavesAllBut [.regs, .link] s (exec (.linkTrainTimeout p) s))

/-- The frames of each command of the family: the parts it may change. -/
def Obligations.RecorderAndCalibrationFrames : Prop :=
  (∀ (i : Fin 4) (s : State), LeavesAllBut raiseParts s (exec (.staffHeartbeatTimeout i) s)) ∧
  (∀ (d : Die) (s : State), LeavesAllBut raiseParts s (exec (.dieHeartbeatTimeout d) s)) ∧
  (∀ (i : Fin 4) (s : State), LeavesAllBut [.staff] s (exec (.staffBootDone i) s)) ∧
  (∀ (s : State), LeavesAllBut [.regs, .log] s (exec .eventStore s)) ∧
  (∀ (s : State), LeavesAllBut [.regs, .log] s (exec .opsecIncrement s)) ∧
  (∀ (s : State), LeavesAllBut [.regs, .log] s (exec .firstAreaProgram s)) ∧
  (∀ (o : Origin) (s : State), LeavesAllBut [.regs, .log] s (exec (.calendarSet o) s)) ∧
  (∀ (o : Origin) (s : State), LeavesAllBut [.regs, .log] s (exec (.calendarClear o) s)) ∧
  (∀ (o : Origin) (s : State), LeavesAllBut [.regs, .log] s (exec (.logFreeze o) s)) ∧
  (∀ (o : Origin) (s : State), LeavesAllBut [.regs, .log] s (exec (.logThaw o) s)) ∧
  (∀ (s : State), LeavesAllBut [.regs, .log] s (exec .logFreezeTimeout s)) ∧
  (∀ (o : Origin) (v : Word) (s : State), LeavesAllBut [.regs, .log] s (exec (.logReadSelect o v) s)) ∧
  (∀ (s : State), LeavesAllBut [.regs, .log] s (exec .logReadDone s)) ∧
  (∀ (s : State), LeavesAllBut [.log] s (exec .lifeRecordPeriodic s)) ∧
  (∀ (o : Origin) (c : Cluster) (apply : Bool) (s : State), LeavesAllBut [.regs, .log, .cal] s (exec (.calTimebase o
    c apply) s)) ∧
  (∀ (o : Origin) (c : Cluster) (apply : Bool) (s : State), LeavesAllBut [.regs, .log, .cal] s (exec (.calRefdac o c
    apply) s)) ∧
  (∀ (o : Origin) (c : Cluster) (apply : Bool) (s : State), LeavesAllBut [.regs, .log, .cal] s (exec (.calAnalog o c
    apply) s)) ∧
  (∀ (o : Origin) (c : Cluster) (apply : Bool) (s : State), LeavesAllBut [.regs, .log, .cal] s (exec (.calMedia o c
    apply) s)) ∧
  (∀ (o : Origin) (s : State), LeavesAllBut [.regs, .log, .cal] s (exec (.calStore o) s)) ∧
  (∀ (s : State), LeavesAllBut [.regs, .cal] s (exec .calClusterClosed s)) ∧
  (∀ (same : Bool) (left : Option CalCopy) (s : State), LeavesAllBut [.regs, .cal] s (exec (.calStoreDone same left)
    s)) ∧
  (∀ (present : Bool) (s : State), LeavesAllBut [.regs, .cal] s (exec (.calrefPresentChange present) s)) ∧
  (∀ (m : Measured) (s : State), LeavesAllBut [.regs, .ports, .cal, .draws] s (exec (.calSessionEnd m) s))

/-- The memory tables keep the canonical form of log 8. -/
def Obligations.StepKeepsMemoryCanonical : Prop :=
  ∀ s t : State, s.canonical → step s = .next t → t.canonical

/-- Reset (R30, R480). -/
def Obligations.ResetState : Prop :=
  State.reset.canonical ∧ State.reset.pending = [] ∧ State.reset.mem = [] ∧ State.reset.memX = [] ∧
  State.reset.clk.time = 0 ∧
  State.reset.get IMG_STAT_STEP = 1 ∧ State.reset.is IMG_STAT_DONE = false ∧ State.reset.ports.cmds = [] ∧
  (∀ c : Cluster, (State.reset.servoOf c).anchored = false ∧ (State.reset.seqOf c).stack = [] ∧
    State.reset.get (SEQ_STAT_MODE c) = 0) ∧
  (∀ m : Nat, State.reset.flag m = 0)

/-- The model's choice for a part that is not running (log 5). -/
def Obligations.HeldPartIgnoresCommands : Prop :=
  ∀ (c : Instr) (s t : State), s.live = false → c ≠ .powerOnDetect → c ≠ .resetNAssert → c ≠ .resetNRelease →
    c ≠ .rootStop → c ≠ .refclkGapTimeout → (∀ b, c ≠ .refclkWindowEnd b) → exec c s = .next t → t = s

/-- MEMORY_WRITE (R355, R359, R379). -/
def Obligations.MemoryWriteStores : Prop :=
  ∀ (o : Origin) (m : MemAt) (v : Word) (s : State), s.live = true → m.exists? = true → s.chanHeld m = false →
    s.wordLost m.key = false →
    (s.is MEM_INJ_CTL_ARM = false → Answers (exec (.memoryWrite o m v) s) fun t =>
      t.stored m.key = freshWord v.toNat false ∧
      (∀ a, a < m.key ∨ m.key + 4 ≤ a → byteAt t.mem a = byteAt s.mem a) ∧
      (∀ a, a ≠ m.key → byteAt t.memX a = byteAt s.memX a)) ∧
    (s.is MEM_INJ_CTL_ARM = true → s.injKey = m.key → Answers (exec (.memoryWrite o m v) s) fun t =>
      t.stored m.key = (freshWord v.toNat false).flip s.injMask ∧ t.is MEM_INJ_CTL_ARM = false ∧
      t.is MEM_INJ_CTL_DONE = true)

/-- The one stop of the model: a word that no memory has. -/
def Obligations.OutsideMemoriesFault : Prop :=
  ∀ (o : Origin) (m : MemAt) (s : State), m.exists? = false →
    (exec (.memoryRead m) s = .fault .noSuchWord) ∧ (∀ v, exec (.memoryWrite o m v) s = .fault .noSuchWord) ∧
    (∀ k v, exec (.memoryPartialWrite o m k v) s = .fault .noSuchWord) ∧
    (∀ row last, exec (.scrubRead m row last) s = .fault .noSuchWord)

/-- R357. -/
def Obligations.SyndromeClasses : Prop :=
  ∀ w : Stored, w.data < 2 ^ 32 → w.check < 2 ^ 7 →
    (w.syndrome = eccOf w.data w.poison ^^^ w.check) ∧
    (w.syndrome = 0 → w.classOf = .clean ∧ w.view = (if w.poison then none else some w.data)) ∧
    (∀ i, i < 32 → w.syndrome = eccColumns.getD i 0 →
      ∃ u : Stored, w.classOf = .corrected u ∧ u.data = w.data ^^^ 2 ^ i ∧ u.poison = w.poison ∧
        w.view = (if w.poison then none else some (w.data ^^^ 2 ^ i))) ∧
    (w.syndrome = eccColumns.getD 32 0 → ∃ u : Stored, w.classOf = .corrected u ∧ u.data = w.data ∧
      u.poison = !w.poison ∧ w.view = (if w.poison then some w.data else none)) ∧
    (∀ i, i < 7 → w.syndrome = 2 ^ i → ∃ u : Stored, w.classOf = .corrected u ∧ u.data = w.data ∧
      u.poison = w.poison ∧ w.view = (if w.poison then none else some w.data)) ∧
    (w.syndrome ≠ 0 → w.syndrome ∉ eccColumns → (∀ i, i < 7 → w.syndrome ≠ 2 ^ i) → w.classOf = .uncorrectable ∧
      w.view = none)

/-- The code of R355 to R357 corrects one error and detects two. -/
def Obligations.SingleErrorsCorrected : Prop :=
  ∀ (v : Nat) (p : Bool), v < 2 ^ 32 →
    (∀ i, i < 40 → ((freshWord v p).flip (2 ^ i)).view = (if p then none else some v)) ∧
    (∀ i j, i < 40 → j < 40 → i ≠ j → ((freshWord v p).flip (2 ^ i + 2 ^ j)).classOf = .uncorrectable)

/-- R149 over the flags of R144. -/
def Obligations.SlotRunChangesFlags : Prop :=
  ∀ (claim : Bool) (n m k : Nat) (s : State),
    (∀ i, (s.slotRun claim n m k).1.flag i =
      if m ≤ i ∧ i < m + n ∧ claim = true ∧ s.flag i = slotFREE then slotHOST
      else if m ≤ i ∧ i < m + n ∧ claim = false ∧ (s.flag i = slotHOST ∨ s.flag i = slotPOISONED) then slotFREE
      else s.flag i) ∧
    (s.slotRun claim n m k).2 = k + ((List.range n).filter (fun j =>
      if claim then s.flag (m + j) != slotFREE
      else s.flag (m + j) != slotHOST && s.flag (m + j) != slotPOISONED)).length

/-- R56 over the timeline's representation, which lists only the slots that are not FREE. -/
def Obligations.BoundaryReopensSlot : Prop :=
  ∀ (c n : Nat) (s : State), n = (s.tlOf c).now → 0 < s.wpr →
    (∀ p ∈ (s.tlOf c).slots, n ≤ p.1 ∧ p.1 < n + 64 * s.wpr) → Tab.wf (fun _ => WSlot.init) (s.tlOf c).slots = true →
    ((s.retire c).tlOf c).now = n + 1 ∧ (∀ p ∈ ((s.retire c).tlOf c).slots, n < p.1 ∧ p ∈ (s.tlOf c).slots) ∧
    (((s.retire c).tlOf c).slotAt (n + 64 * s.wpr)).cells = [] ∧
    (((s.retire c).tlOf c).slotAt (n + 64 * s.wpr)).pos =
      (((s.retire c).tlOf c).slotAt (n + 64 * s.wpr - 1)).pos ∧
    (∀ m, n < m → ((s.retire c).tlOf c).slotAt m = (s.tlOf c).slotAt m)

/-- R391. -/
def Obligations.CacheEnableRule : Prop :=
  (∀ (o : Origin) (d : Die) (p : Bool) (s : State), s.live = true → s.dieIsLost d = false →
    (s.is (CCH_STAT_ENABLED d) = false →
      (s.is (CCH_STAT_INV_DONE d) = true → s.is (CCH_STAT_DRAINING d) = false →
        Answers (exec (.cacheEnable o d p) s) fun t => t.is (CCH_CTL_EN d) = true ∧ t.is (CCH_STAT_ENABLED d) = true ∧
          t.is (CCH_STAT_EN_REJECT d) = s.is (CCH_STAT_EN_REJECT d)) ∧
      (s.is (CCH_STAT_INV_DONE d) = false ∨ s.is (CCH_STAT_DRAINING d) = true →
        Answers (exec (.cacheEnable o d p) s) fun t => t.is (CCH_CTL_EN d) = false ∧
          t.is (CCH_STAT_ENABLED d) = false ∧ t.is (CCH_STAT_EN_REJECT d) = true)) ∧
    (s.is (CCH_STAT_ENABLED d) = true → Answers (exec (.cacheEnable o d p) s) fun t =>
      t.is (CCH_CTL_EN d) = s.is (CCH_CTL_EN d) ∧ t.is (CCH_STAT_ENABLED d) = true) ∧
    (Answers (exec (.cacheDisable o d p) s) fun t => t.is (CCH_STAT_INV_DONE d) = false ∧
      t.is (CCH_CTL_EN d) = false ∧ t.is (CCH_STAT_ENABLED d) = false)) ∧
  (∀ (d : Die) (s : State), s.packageReset.is (CCH_STAT_INV_DONE d) = false)

/-- R449. -/
def Obligations.FirstErrorLatchSurvives : Prop :=
  ∀ (s : State) (a : Nat), a ∈ [FLT_FIRST, FLT_FIRST_TLO, FLT_FIRST_THI, FLT_FIRST_INFO, FLT_FIRST_ORIGIN] →
    (Answers (exec .resetNAssert s) fun t => t.rd a = s.rd a) ∧
    (s.live = true → s.clk.chipResetReq = true → s.log.intake = [] → Answers (exec .chipReset s) fun t =>
      t.rd a = s.rd a ∧ t.is TOP_RSTCAUSE_CHIP = true) ∧
    (Answers (exec .powerOnDetect s) fun t => t.rd a = 0)

/-- R108. -/
def Obligations.BusyBudgetWritesDropped : Prop :=
  ∀ (o : Origin) (a : BitVec 48) (v : Word) (s : State), s.live = true → s.outside o a.toNat false = none →
    tenantOf o = none → s.is PRM_BSTAT_BUSY = true → a.toNat ∈ [PRM_BSEL, PRM_BVAL, PRM_BDEPTH, PRM_BCMD] →
    exec (.registerWrite o a v) s = .next (s.event (orgOf o) 0x21
      [(s.rd PRM_BSEL).toNat, (s.rd PRM_BVAL).toNat, (s.rd PRM_BDEPTH).toNat, 5])

/-- R465. -/
def Obligations.RecorderSurvivesPackageReset : Prop :=
  ∀ s : State,
    (Answers (exec .resetNAssert s) fun t => t.log.ring = s.log.ring ∧ t.rd LOG_NEXT = s.rd LOG_NEXT ∧
      t.rd LOG_OPSEC = s.rd LOG_OPSEC ∧ t.rd LOG_PCYCLE = s.rd LOG_PCYCLE ∧
      ∀ c : Cluster, t.rd (LOG_FLUSH c) = s.rd (LOG_FLUSH c)) ∧
    (s.live = true → s.clk.chipResetReq = true → s.log.intake = [] → Answers (exec .chipReset s) fun t =>
      t.log.ring = s.log.ring ∧ t.rd LOG_NEXT = s.rd LOG_NEXT ∧
      t.rd LOG_OPSEC = s.rd LOG_OPSEC ∧ t.rd LOG_PCYCLE = s.rd LOG_PCYCLE ∧
      ∀ c : Cluster, t.rd (LOG_FLUSH c) = s.rd (LOG_FLUSH c)) ∧
    (Answers (exec .powerOnDetect s) fun t => t.log.ring = [])

/-- Which registers the recorder's and the calibration's commands may change. -/
def Obligations.RecorderRegisterFrames : Prop :=
  ∀ (o : Origin) (c : Cluster) (a same : Bool) (left : Option CalCopy) (v : Word) (s t : State) (ev : List Nat),
    ev = [LOG_FRZLOST, LOG_INLOST] →
    (exec .eventStore s = .next t → RegsBut (LOG_NEXT :: ev) s t) ∧
    (exec .opsecIncrement s = .next t → RegsBut [LOG_OPSEC] s t) ∧
    (exec .lifeRecordPeriodic s = .next t → RegsBut [] s t) ∧
    (exec .firstAreaProgram s = .next t → RegsBut [LOG_STAT] s t) ∧
    (exec (.calendarSet o) s = .next t → RegsBut (LOG_STAT :: ev) s t) ∧
    (exec (.calendarClear o) s = .next t → RegsBut (LOG_STAT :: ev) s t) ∧
    (exec (.logFreeze o) s = .next t → RegsBut (LOG_CTL :: LOG_STAT :: LOG_NEXT :: ev) s t) ∧
    (exec (.logThaw o) s = .next t → RegsBut (LOG_CTL :: LOG_STAT :: ev) s t) ∧
    (exec .logFreezeTimeout s = .next t → RegsBut [LOG_CTL, LOG_STAT] s t) ∧
    (exec (.logReadSelect o v) s = .next t → RegsBut (LOG_RSEL :: LOG_RSTAT :: ev) s t) ∧
    (exec .logReadDone s = .next t → RegsBut (LOG_RSTAT :: (List.range 16).map LOG_REV) s t) ∧
    (exec (.calTimebase o c a) s = .next t → RegsBut (CAL_CTL :: CAL_STAT :: ev) s t) ∧
    (exec (.calRefdac o c a) s = .next t → RegsBut (CAL_CTL :: CAL_STAT :: ev) s t) ∧
    (exec (.calAnalog o c a) s = .next t → RegsBut (PRM_STATUS :: CAL_CTL :: CAL_STAT :: ev) s t) ∧
    (exec (.calMedia o c a) s = .next t → RegsBut (PRM_STATUS :: CAL_CTL :: CAL_STAT :: ev) s t) ∧
    (exec .calClusterClosed s = .next t → RegsBut [CAL_STAT] s t) ∧
    (exec (.calStore o) s = .next t → RegsBut (CAL_STAT :: ev) s t) ∧
    (exec (.calStoreDone same left) s = .next t → RegsBut [CAL_STAT] s t)

/-- Which registers the budget, rights, grant, injection and ALU commands may change. -/
def Obligations.CommandRegisterFrames : Prop :=
  ∀ (o : Origin) (c : Cluster) (dst x : Fin 16) (b : AluB) (m : MemAt) (v : Word) (s t : State) (ev : List Nat),
    ev = [LOG_FRZLOST, LOG_INLOST] →
    (exec (.bcmdRead o) s = .next t → RegsBut (PRM_BSTAT :: ev) s t) ∧
    (exec (.bcmdWrite o) s = .next t → RegsBut (PRM_BSTAT :: ev) s t) ∧
    (exec .bcmdComplete s = .next t → RegsBut (PRM_BSTAT :: PRM_BVAL :: PRM_BDEPTH :: PRM_BBAL :: PRM_BBOR :: ev) s t) ∧
    (exec (.rightsRead o) s = .next t → RegsBut (TPT_RSTAT :: ev) s t) ∧
    (exec (.rightsSet o) s = .next t → RegsBut (TPT_RSTAT :: ev) s t) ∧
    (exec (.rightsClear o) s = .next t → RegsBut (TPT_RSTAT :: ev) s t) ∧
    (exec .rightsCmdComplete s = .next t → RegsBut (TPT_RSTAT :: TPT_RBASE_LO :: TPT_RBASE_HI :: TPT_RCNT_LO ::
      TPT_RCNT_HI :: TPT_ROWN :: ev) s t) ∧
    (exec (.grantRead o) s = .next t → RegsBut (WIN_GSTAT :: ev) s t) ∧
    (exec (.grantSet o) s = .next t → RegsBut (WIN_GSTAT :: ev) s t) ∧
    (exec (.grantRevoke o) s = .next t → RegsBut (WIN_GSTAT :: ev) s t) ∧
    (exec .grantCmdComplete s = .next t → RegsBut (WIN_GSTAT :: WIN_GBASE :: WIN_GCNT :: WIN_GOWN :: ev) s t) ∧
    (exec (.injectArm o) s = .next t → RegsBut (MEM_INJ_CTL :: ev) s t) ∧
    (exec (.injectDisarm o) s = .next t → RegsBut (MEM_INJ_CTL :: ev) s t) ∧
    (exec (.memoryWrite o m v) s = .next t → RegsBut (MEM_INJ_CTL :: ev) s t) ∧
    (exec (.aluMov c dst b) s = .next t → RegsBut [SEQ_GREG c dst] s t) ∧
    (exec (.aluAdd c dst x b) s = .next t → RegsBut [SEQ_GREG c dst] s t) ∧
    (exec (.aluFfs c dst b) s = .next t → RegsBut [SEQ_GREG c dst] s t)
end

