-- ==== Sys2Proof/Laws/Tab.lean ====
section
/-! SUPPORT. Laws/Tab.lean: sparse tables: a read after a write, a write elsewhere, and that writes keep the canonical
form. -/

namespace Sys2Proof.Machine

theorem Tab.get_drop_same {α : Type} (d : Nat → α) (t : Tab α) (k : Nat) : Tab.get d (Tab.drop t k) k = d k := by
  induction t with
  | nil => rfl
  | cons p t ih =>
    unfold Tab.drop
    split
    · exact ih
    · rename_i h
      rw [Tab.get, if_neg h, ih]

theorem Tab.get_drop_other {α : Type} (d : Nat → α) (t : Tab α) (k j : Nat) (h : j ≠ k) :
    Tab.get d (Tab.drop t k) j = Tab.get d t j := by
  induction t with
  | nil => rfl
  | cons p t ih =>
    unfold Tab.drop
    split
    · rename_i e
      rw [ih, Tab.get, if_neg (by omega)]
    · rw [Tab.get, Tab.get, ih]

theorem Tab.get_insert_same {α : Type} (d : Nat → α) (t : Tab α) (k : Nat) (v : α) :
    Tab.get d (Tab.insert t k v) k = v := by
  induction t with
  | nil => exact if_pos rfl
  | cons p t ih =>
    unfold Tab.insert
    split
    · exact if_pos rfl
    · split
      · exact if_pos rfl
      · rename_i h
        rw [Tab.get, if_neg h, ih]

theorem Tab.get_insert_other {α : Type} (d : Nat → α) (t : Tab α) (k j : Nat) (v : α) (h : j ≠ k) :
    Tab.get d (Tab.insert t k v) j = Tab.get d t j := by
  induction t with
  | nil => exact if_neg h
  | cons p t ih =>
    unfold Tab.insert
    split
    · exact if_neg h
    · split
      · rename_i e
        rw [Tab.get, if_neg h, Tab.get, if_neg (by omega)]
      · rw [Tab.get, Tab.get, ih]

/-- Reading a key after a write to it. -/
theorem Tab.get_put_same {α : Type} [DecidableEq α] (d : Nat → α) (t : Tab α) (k : Nat) (v : α) :
    Tab.get d (Tab.put d t k v) k = v := by
  unfold Tab.put
  split
  · rename_i h
    rw [Tab.get_drop_same, h]
  · exact Tab.get_insert_same d t k v

/-- Reading a key after a write to another. -/
theorem Tab.get_put_other {α : Type} [DecidableEq α] (d : Nat → α) (t : Tab α) (k j : Nat) (v : α) (h : j ≠ k) :
    Tab.get d (Tab.put d t k v) j = Tab.get d t j := by
  unfold Tab.put
  split
  · exact Tab.get_drop_other d t k j h
  · exact Tab.get_insert_other d t k j v h

/-- Reading any key after a write. -/
theorem Tab.get_put {α : Type} [DecidableEq α] (d : Nat → α) (t : Tab α) (k j : Nat) (v : α) :
    Tab.get d (Tab.put d t k v) j = if j = k then v else Tab.get d t j := by
  split
  · rename_i h
    rw [h, Tab.get_put_same]
  · rename_i h
    exact Tab.get_put_other d t k j v h

theorem Tab.above_drop {α : Type} (b : Nat) (t : Tab α) (k : Nat) (h : Tab.above b t = true) :
    Tab.above b (Tab.drop t k) = true := by
  induction t with
  | nil => rfl
  | cons p t ih =>
    simp only [Tab.above, List.all_cons, Bool.and_eq_true] at h ih
    unfold Tab.drop
    split
    · exact ih h.2
    · simp only [Tab.above, List.all_cons, Bool.and_eq_true]
      exact ⟨h.1, ih h.2⟩

theorem Tab.above_insert {α : Type} (b : Nat) (t : Tab α) (k : Nat) (v : α) (h : Tab.above b t = true) (hk : b < k) :
    Tab.above b (Tab.insert t k v) = true := by
  induction t with
  | nil => simp only [Tab.insert, Tab.above, List.all_cons, List.all_nil, hk, decide_true, Bool.and_self]
  | cons p t ih =>
    simp only [Tab.above, List.all_cons, Bool.and_eq_true] at h ih
    unfold Tab.insert
    split
    · simp only [Tab.above, List.all_cons, Bool.and_eq_true]
      exact ⟨decide_eq_true hk, h⟩
    · split
      · simp only [Tab.above, List.all_cons, Bool.and_eq_true]
        exact ⟨decide_eq_true hk, h.2⟩
      · simp only [Tab.above, List.all_cons, Bool.and_eq_true]
        exact ⟨h.1, ih h.2⟩

theorem Tab.above_mono {α : Type} {b c : Nat} (t : Tab α) (h : Tab.above c t = true) (hb : b ≤ c) :
    Tab.above b t = true := by
  simp only [Tab.above, List.all_eq_true, decide_eq_true_eq] at h ⊢
  intro x hx
  have := h x hx
  omega

theorem Tab.wf_drop {α : Type} [DecidableEq α] (d : Nat → α) (t : Tab α) (k : Nat) (h : Tab.wf d t = true) :
    Tab.wf d (Tab.drop t k) = true := by
  induction t with
  | nil => rfl
  | cons p t ih =>
    simp only [Tab.wf, Bool.and_eq_true] at h
    unfold Tab.drop
    split
    · exact ih h.2
    · simp only [Tab.wf, Bool.and_eq_true]
      exact ⟨⟨h.1.1, Tab.above_drop p.1 t k h.1.2⟩, ih h.2⟩

theorem Tab.wf_insert {α : Type} [DecidableEq α] (d : Nat → α) (t : Tab α) (k : Nat) (v : α) (hv : v ≠ d k)
    (h : Tab.wf d t = true) : Tab.wf d (Tab.insert t k v) = true := by
  induction t with
  | nil =>
    simp only [Tab.insert, Tab.wf, Tab.above, List.all_nil, Bool.and_true, decide_eq_true_eq]
    exact hv
  | cons p t ih =>
    have h' := h
    simp only [Tab.wf, Bool.and_eq_true] at h
    unfold Tab.insert
    split
    · rename_i hlt
      simp only [Tab.wf, Bool.and_eq_true]
      refine ⟨⟨decide_eq_true hv, ?_⟩, h⟩
      simp only [Tab.above, List.all_cons, Bool.and_eq_true]
      exact ⟨decide_eq_true hlt, Tab.above_mono t h.1.2 (Nat.le_of_lt hlt)⟩
    · split
      · rename_i e
        simp only [Tab.wf, Bool.and_eq_true]
        exact ⟨⟨decide_eq_true hv, by rw [e]; exact h.1.2⟩, h.2⟩
      · simp only [Tab.wf, Bool.and_eq_true]
        exact ⟨⟨h.1.1, Tab.above_insert p.1 t k v h.1.2 (by omega)⟩, ih h.2⟩

/-- A write keeps the canonical form. -/
theorem Tab.wf_put {α : Type} [DecidableEq α] (d : Nat → α) (t : Tab α) (k : Nat) (v : α) (h : Tab.wf d t = true) :
    Tab.wf d (Tab.put d t k v) = true := by
  unfold Tab.put
  split
  · exact Tab.wf_drop d t k h
  · rename_i hv
    exact Tab.wf_insert d t k v hv h

/-- Keeping some of the entries keeps the canonical form. -/
theorem Tab.wf_filter {α : Type} [DecidableEq α] (d : Nat → α) (t : Tab α) (f : Nat × α → Bool)
    (h : Tab.wf d t = true) : Tab.wf d (t.filter f) = true := by
  induction t with
  | nil => rfl
  | cons p t ih =>
    simp only [Tab.wf, Bool.and_eq_true] at h
    rw [List.filter_cons]
    split
    · simp only [Tab.wf, Bool.and_eq_true]
      refine ⟨⟨h.1.1, ?_⟩, ih h.2⟩
      have ha := h.1.2
      simp only [Tab.above, List.all_eq_true, decide_eq_true_eq] at ha ⊢
      intro x hx
      exact ha x (List.mem_of_mem_filter hx)
    · exact ih h.2

/-- Taking a key out after listing it. -/
theorem Tab.drop_insert {α : Type} (t : Tab α) (k : Nat) (v : α) : Tab.drop (Tab.insert t k v) k = Tab.drop t k := by
  induction t with
  | nil => simp [Tab.insert, Tab.drop]
  | cons p t ih =>
    unfold Tab.insert
    split
    · simp [Tab.drop]
    · split
      · rename_i h
        simp [Tab.drop, h]
      · rename_i h
        rw [Tab.drop, Tab.drop, if_neg h, if_neg h, ih]

theorem Tab.drop_drop {α : Type} (t : Tab α) (k : Nat) : Tab.drop (Tab.drop t k) k = Tab.drop t k := by
  induction t with
  | nil => rfl
  | cons p t ih =>
    rw [Tab.drop]
    split
    · exact ih
    · rename_i h
      rw [Tab.drop, if_neg h, ih]

/-- A key that returns to the unlisted value leaves no trace of what was written there before. -/
theorem Tab.put_put_unlisted {α : Type} [DecidableEq α] (d : Nat → α) (t : Tab α) (k : Nat) (v : α) :
    Tab.put d (Tab.put d t k v) k (d k) = Tab.put d t k (d k) := by
  unfold Tab.put
  rw [if_pos rfl, if_pos rfl]
  split
  · exact Tab.drop_drop t k
  · exact Tab.drop_insert t k v

end Sys2Proof.Machine
end

