-- ==== Sys2Proof/Laws/Bits.lean ====
section
/-! SUPPORT. Laws/Bits.lean: numbers built bit by bit, and reading a byte or word of memory after a store. -/

namespace Sys2Proof.Machine

theorem bitAt_eq (v i : Nat) : bitAt v i = v.testBit i := by
  rw [Nat.testBit_eq_decide_div_mod_eq]; rfl

theorem numOfBits_lt (n : Nat) (f : Nat → Bool) : numOfBits n f < 2 ^ n := by
  induction n with
  | zero => simp [numOfBits]
  | succ n ih =>
    unfold numOfBits
    split <;> rw [pow_succ] <;> omega

theorem bitAt_numOfBits (n : Nat) (f : Nat → Bool) (i : Nat) : bitAt (numOfBits n f) i = (decide (i < n) && f i) := by
  induction n with
  | zero => simp [numOfBits, bitAt]
  | succ n ih =>
    rw [bitAt_eq] at *
    unfold numOfBits
    have hlt := numOfBits_lt n f
    by_cases hf : f n
    · rw [if_pos hf]
      by_cases hi : i = n
      · subst hi
        have := Nat.testBit_two_pow_add_eq (numOfBits i f) i
        rw [this, Nat.testBit_lt_two_pow hlt]
        simp [hf]
      · rcases Nat.lt_or_gt_of_ne hi with h | h
        · rw [Nat.testBit_two_pow_add_gt h, ih]
          have : i < n + 1 := by omega
          simp [h, this]
        · have : 2 ^ n + numOfBits n f < 2 ^ i := calc
            _ < 2 ^ n + 2 ^ n := by omega
            _ = 2 ^ (n + 1) := by rw [pow_succ]; omega
            _ ≤ 2 ^ i := Nat.pow_le_pow_right (by norm_num) (by omega)
          rw [Nat.testBit_lt_two_pow this]
          have : ¬ i < n + 1 := by omega
          simp [this]
    · rw [if_neg hf, Nat.zero_add, ih]
      by_cases hi : i = n
      · subst hi; simp [hf]
      · by_cases h : i < n
        · have : i < n + 1 := by omega
          simp [h, this]
        · have : ¬ i < n + 1 := by omega
          simp [h, this]

theorem numOfBits_ext {n v : Nat} {f : Nat → Bool} (hv : v < 2 ^ n) (h : ∀ i, i < n → v.testBit i = f i) : numOfBits n
    f = v := by
  refine Nat.eq_of_testBit_eq (fun i => ?_)
  rw [← bitAt_eq, bitAt_numOfBits]
  by_cases hi : i < n
  · simp [hi, h i hi]
  · rw [Nat.testBit_lt_two_pow (lt_of_lt_of_le hv (Nat.pow_le_pow_right (by norm_num) (by omega)))]
    simp [hi]

theorem xorBits_eq {n a b : Nat} (ha : a < 2 ^ n) (hb : b < 2 ^ n) : xorBits n a b = a ^^^ b :=
  numOfBits_ext (Nat.xor_lt_two_pow ha hb) (fun i _ => by rw [Nat.testBit_xor, bitAt_eq, bitAt_eq])

theorem eccOf_lt (d : Nat) (p : Bool) : eccOf d p < 2 ^ 7 := numOfBits_lt _ _
theorem byteAt_putByte (m : List Host.Cell) (k j : Nat) (v : Byte) :
    byteAt (putByte m k v) j = if j = k then v else byteAt m j := Tab.get_put _ m k j v

theorem byteAt_putWord_other (m : List Host.Cell) (k v j : Nat) (h : j < k ∨ k + 4 ≤ j) :
    byteAt (putWord m k v) j = byteAt m j := by
  unfold putWord
  simp only [byteAt_putByte]
  split_ifs <;> first | rfl | omega

theorem wordAt_putWord (m : List Host.Cell) (k v : Nat) : wordAt (putWord m k v) k = v % 2 ^ 32 := by
  unfold wordAt putWord
  simp only [byteAt_putByte]
  simp
  omega

/-- A store is no part of which dies are lost. -/
@[simp] theorem State.putStored_wordLost (s : State) (k j : Nat) (w : Stored) :
    (s.putStored k w).wordLost j = s.wordLost j := id rfl

theorem State.stored_putStored (s : State) (k : Nat) (w : Stored) (hl : s.wordLost k = false) (hd : w.data < 2 ^ 32)
    (hc : w.check < 2 ^ 7) : (s.putStored k w).stored k = w := by
  unfold State.stored
  rw [State.putStored_wordLost, hl]
  unfold State.putStored
  simp only [hl, Bool.false_eq_true, if_false, wordAt_putWord, byteAt_putByte, if_true]
  cases w with
  | mk d p c =>
    simp only [BitVec.toNat_ofNat] at *
    cases p <;> simp <;> omega
end Sys2Proof.Machine
end

