-- ==== Sys2Proof/Laws/Frame.lean ====
section
/-! SUPPORT. Laws/Frame.lean: hiding parts of a state, so that one lemma per function of the model (in the files
Laws/Frame*.lean) says which parts that function can change: with those hidden, the state is as before. -/

namespace Sys2Proof.Machine

/-- A state with the parts that `m` names hidden. -/
def State.hide (m : Part → Bool) (s : State) : State where
  pending := cond (m .pending) [] s.pending
  clk := { cond (m .clk) Clock.init s.clk with time := cond (m .time) 0 s.clk.time }
  regs := cond (m .regs) [] s.regs
  log := cond (m .log) Recorder.init s.log
  staff := cond (m .staff) [] s.staff
  resetting := cond (m .resetting) [] s.resetting
  masked := cond (m .masked) [] s.masked
  ports := cond (m .ports) Ports.init s.ports
  win := cond (m .win) Window.init s.win
  tl := cond (m .tl) [] s.tl
  mem := cond (m .mem) [] s.mem
  memX := cond (m .memX) [] s.memX
  memu := cond (m .memu) MemUnit.init s.memu
  lanes := cond (m .lanes) [] s.lanes
  pcb := cond (m .pcb) [] s.pcb
  mcb := cond (m .mcb) Mcb.init s.mcb
  pf := cond (m .pf) PowerFail.init s.pf
  cantons := cond (m .cantons) [] s.cantons
  str := cond (m .str) [] s.str
  servo := cond (m .servo) [] s.servo
  seq := cond (m .seq) [] s.seq
  clr := cond (m .clr) [] s.clr
  biasA := cond (m .biasA) [] s.biasA
  spin := cond (m .spin) [] s.spin
  cache := cond (m .cache) [] s.cache
  staged := cond (m .staged) [] s.staged
  bufRecs := cond (m .bufRecs) [] s.bufRecs
  streamers := cond (m .streamers) [] s.streamers
  link := cond (m .link) Link.init s.link
  cross := cond (m .cross) [] s.cross
  start := cond (m .start) Start.init s.start
  cal := cond (m .cal) Cal.init s.cal
  media := cond (m .media) [] s.media
  draws := cond (m .draws) 0 s.draws

theorem cond_congr {α : Type} {b : Bool} {d x y : α} (h : b = true ∨ x = y) : cond b d x = cond b d y := by
  rcases h with h | h
  · subst h; rfl
  · rw [h]

/-- Two states look alike where each part is hidden or the same. -/
theorem hide_congr {m : Part → Bool} {s t : State}
    (hpending : m .pending = true ∨ s.pending = t.pending) (htime : m .time = true ∨ s.clk.time = t.clk.time) (hclk :
    m .clk = true ∨ { s.clk with time := 0 } = { t.clk with time := 0 }) (hregs : m .regs = true ∨ s.regs = t.regs)
    (hlog : m .log = true ∨ s.log = t.log) (hstaff : m .staff = true ∨ s.staff = t.staff) (hresetting : m .resetting =
    true ∨ s.resetting = t.resetting) (hmasked : m .masked = true ∨ s.masked = t.masked) (hports : m .ports = true ∨
    s.ports = t.ports) (hwin : m .win = true ∨ s.win = t.win) (htl : m .tl = true ∨ s.tl = t.tl) (hmem : m .mem = true
    ∨ s.mem = t.mem) (hmemX : m .memX = true ∨ s.memX = t.memX) (hmemu : m .memu = true ∨ s.memu = t.memu) (hlanes : m
    .lanes = true ∨ s.lanes = t.lanes) (hpcb : m .pcb = true ∨ s.pcb = t.pcb) (hmcb : m .mcb = true ∨ s.mcb = t.mcb)
    (hpf : m .pf = true ∨ s.pf = t.pf) (hcantons : m .cantons = true ∨ s.cantons = t.cantons) (hstr : m .str = true ∨
    s.str = t.str) (hservo : m .servo = true ∨ s.servo = t.servo) (hseq : m .seq = true ∨ s.seq = t.seq) (hclr : m
    .clr = true ∨ s.clr = t.clr) (hbiasA : m .biasA = true ∨ s.biasA = t.biasA) (hspin : m .spin = true ∨ s.spin =
    t.spin) (hcache : m .cache = true ∨ s.cache = t.cache) (hstaged : m .staged = true ∨ s.staged = t.staged)
    (hbufRecs : m .bufRecs = true ∨ s.bufRecs = t.bufRecs) (hstreamers : m .streamers = true ∨ s.streamers =
    t.streamers) (hlink : m .link = true ∨ s.link = t.link) (hcross : m .cross = true ∨ s.cross = t.cross) (hstart : m
    .start = true ∨ s.start = t.start) (hcal : m .cal = true ∨ s.cal = t.cal) (hmedia : m .media = true ∨ s.media =
    t.media) (hdraws : m .draws = true ∨ s.draws = t.draws) :
    s.hide m = t.hide m := by
  have e : { cond (m .clk) Clock.init s.clk with time := cond (m .time) 0 s.clk.time }
      = ({ cond (m .clk) Clock.init t.clk with time := cond (m .time) 0 t.clk.time } : Clock) := by
    rw [cond_congr htime]
    rcases hclk with h | h
    · rw [h]; rfl
    · cases m .clk
      · exact congrArg (fun c : Clock => { c with time := cond (m .time) 0 t.clk.time }) h
      · rfl
  simp only [State.hide, e, cond_congr hpending, cond_congr hregs, cond_congr hlog, cond_congr hstaff, cond_congr
      hresetting, cond_congr
    hmasked, cond_congr hports, cond_congr hwin, cond_congr htl, cond_congr hmem, cond_congr hmemX, cond_congr
    hmemu, cond_congr hlanes, cond_congr hpcb, cond_congr hmcb, cond_congr hpf, cond_congr hcantons, cond_congr
    hstr, cond_congr hservo, cond_congr hseq, cond_congr hclr, cond_congr hbiasA, cond_congr hspin, cond_congr
    hcache, cond_congr hstaged, cond_congr hbufRecs, cond_congr hstreamers, cond_congr hlink, cond_congr hcross,
    cond_congr hstart, cond_congr hcal, cond_congr hmedia, cond_congr hdraws]

theorem hide_regs {m : Part → Bool} (hregs : m .regs = true) (s : State) (xregs : Tab Word) :
    ({ s with regs := xregs } : State).hide m = s.hide m := by
  apply hide_congr <;> first | exact Or.inr rfl | exact Or.inl (by assumption)

theorem hide_log {m : Part → Bool} (hlog : m .log = true) (s : State) (xlog : Recorder) :
    ({ s with log := xlog } : State).hide m = s.hide m := by
  apply hide_congr <;> first | exact Or.inr rfl | exact Or.inl (by assumption)

theorem hide_staff {m : Part → Bool} (hstaff : m .staff = true) (s : State) (xstaff : List StaffCore) :
    ({ s with staff := xstaff } : State).hide m = s.hide m := by
  apply hide_congr <;> first | exact Or.inr rfl | exact Or.inl (by assumption)

theorem hide_resetting {m : Part → Bool} (hresetting : m .resetting = true) (s : State) (xresetting : List BlockId) :
    ({ s with resetting := xresetting } : State).hide m = s.hide m := by
  apply hide_congr <;> first | exact Or.inr rfl | exact Or.inl (by assumption)

theorem hide_masked {m : Part → Bool} (hmasked : m .masked = true) (s : State) (xmasked : List BlockId) :
    ({ s with masked := xmasked } : State).hide m = s.hide m := by
  apply hide_congr <;> first | exact Or.inr rfl | exact Or.inl (by assumption)

theorem hide_ports {m : Part → Bool} (hports : m .ports = true) (s : State) (xports : Ports) :
    ({ s with ports := xports } : State).hide m = s.hide m := by
  apply hide_congr <;> first | exact Or.inr rfl | exact Or.inl (by assumption)

theorem hide_win {m : Part → Bool} (hwin : m .win = true) (s : State) (xwin : Window) :
    ({ s with win := xwin } : State).hide m = s.hide m := by
  apply hide_congr <;> first | exact Or.inr rfl | exact Or.inl (by assumption)

theorem hide_tl {m : Part → Bool} (htl : m .tl = true) (s : State) (xtl : Tab Timeline) :
    ({ s with tl := xtl } : State).hide m = s.hide m := by
  apply hide_congr <;> first | exact Or.inr rfl | exact Or.inl (by assumption)

theorem hide_mem {m : Part → Bool} (hmem : m .mem = true) (s : State) (xmem : List Host.Cell) :
    ({ s with mem := xmem } : State).hide m = s.hide m := by
  apply hide_congr <;> first | exact Or.inr rfl | exact Or.inl (by assumption)

theorem hide_memX {m : Part → Bool} (hmemX : m .memX = true) (s : State) (xmemX : List Host.Cell) :
    ({ s with memX := xmemX } : State).hide m = s.hide m := by
  apply hide_congr <;> first | exact Or.inr rfl | exact Or.inl (by assumption)

theorem hide_memu {m : Part → Bool} (hmemu : m .memu = true) (s : State) (xmemu : MemUnit) :
    ({ s with memu := xmemu } : State).hide m = s.hide m := by
  apply hide_congr <;> first | exact Or.inr rfl | exact Or.inl (by assumption)

theorem hide_lanes {m : Part → Bool} (hlanes : m .lanes = true) (s : State) (xlanes : Tab Lane) :
    ({ s with lanes := xlanes } : State).hide m = s.hide m := by
  apply hide_congr <;> first | exact Or.inr rfl | exact Or.inl (by assumption)

theorem hide_pcb {m : Part → Bool} (hpcb : m .pcb = true) (s : State) (xpcb : Tab Pcb) :
    ({ s with pcb := xpcb } : State).hide m = s.hide m := by
  apply hide_congr <;> first | exact Or.inr rfl | exact Or.inl (by assumption)

theorem hide_mcb {m : Part → Bool} (hmcb : m .mcb = true) (s : State) (xmcb : Mcb) :
    ({ s with mcb := xmcb } : State).hide m = s.hide m := by
  apply hide_congr <;> first | exact Or.inr rfl | exact Or.inl (by assumption)

theorem hide_pf {m : Part → Bool} (hpf : m .pf = true) (s : State) (xpf : PowerFail) :
    ({ s with pf := xpf } : State).hide m = s.hide m := by
  apply hide_congr <;> first | exact Or.inr rfl | exact Or.inl (by assumption)

theorem hide_cantons {m : Part → Bool} (hcantons : m .cantons = true) (s : State) (xcantons : Tab Canton) :
    ({ s with cantons := xcantons } : State).hide m = s.hide m := by
  apply hide_congr <;> first | exact Or.inr rfl | exact Or.inl (by assumption)

theorem hide_str {m : Part → Bool} (hstr : m .str = true) (s : State) (xstr : Tab Stripes) :
    ({ s with str := xstr } : State).hide m = s.hide m := by
  apply hide_congr <;> first | exact Or.inr rfl | exact Or.inl (by assumption)

theorem hide_servo {m : Part → Bool} (hservo : m .servo = true) (s : State) (xservo : Tab Servo) :
    ({ s with servo := xservo } : State).hide m = s.hide m := by
  apply hide_congr <;> first | exact Or.inr rfl | exact Or.inl (by assumption)

theorem hide_seq {m : Part → Bool} (hseq : m .seq = true) (s : State) (xseq : Tab Seq) :
    ({ s with seq := xseq } : State).hide m = s.hide m := by
  apply hide_congr <;> first | exact Or.inr rfl | exact Or.inl (by assumption)

theorem hide_clr {m : Part → Bool} (hclr : m .clr = true) (s : State) (xclr : Tab Clr) :
    ({ s with clr := xclr } : State).hide m = s.hide m := by
  apply hide_congr <;> first | exact Or.inr rfl | exact Or.inl (by assumption)

theorem hide_biasA {m : Part → Bool} (hbiasA : m .biasA = true) (s : State) (xbiasA : Tab Int) :
    ({ s with biasA := xbiasA } : State).hide m = s.hide m := by
  apply hide_congr <;> first | exact Or.inr rfl | exact Or.inl (by assumption)

theorem hide_spin {m : Part → Bool} (hspin : m .spin = true) (s : State) (xspin : Tab Spin) :
    ({ s with spin := xspin } : State).hide m = s.hide m := by
  apply hide_congr <;> first | exact Or.inr rfl | exact Or.inl (by assumption)

theorem hide_cache {m : Part → Bool} (hcache : m .cache = true) (s : State) (xcache : Tab CacheDie) :
    ({ s with cache := xcache } : State).hide m = s.hide m := by
  apply hide_congr <;> first | exact Or.inr rfl | exact Or.inl (by assumption)

theorem hide_staged {m : Part → Bool} (hstaged : m .staged = true) (s : State) (xstaged : Tab (Option (Nat × Nat))) :
    ({ s with staged := xstaged } : State).hide m = s.hide m := by
  apply hide_congr <;> first | exact Or.inr rfl | exact Or.inl (by assumption)

theorem hide_bufRecs {m : Part → Bool} (hbufRecs : m .bufRecs = true) (s : State) (xbufRecs : List BufRec) :
    ({ s with bufRecs := xbufRecs } : State).hide m = s.hide m := by
  apply hide_congr <;> first | exact Or.inr rfl | exact Or.inl (by assumption)

theorem hide_streamers {m : Part → Bool} (hstreamers : m .streamers = true) (s : State) (xstreamers : Tab Streamer) :
    ({ s with streamers := xstreamers } : State).hide m = s.hide m := by
  apply hide_congr <;> first | exact Or.inr rfl | exact Or.inl (by assumption)

theorem hide_link {m : Part → Bool} (hlink : m .link = true) (s : State) (xlink : Link) :
    ({ s with link := xlink } : State).hide m = s.hide m := by
  apply hide_congr <;> first | exact Or.inr rfl | exact Or.inl (by assumption)

theorem hide_cross {m : Part → Bool} (hcross : m .cross = true) (s : State) (xcross : Tab Cross) :
    ({ s with cross := xcross } : State).hide m = s.hide m := by
  apply hide_congr <;> first | exact Or.inr rfl | exact Or.inl (by assumption)

theorem hide_start {m : Part → Bool} (hstart : m .start = true) (s : State) (xstart : Start) :
    ({ s with start := xstart } : State).hide m = s.hide m := by
  apply hide_congr <;> first | exact Or.inr rfl | exact Or.inl (by assumption)

theorem hide_cal {m : Part → Bool} (hcal : m .cal = true) (s : State) (xcal : Cal) :
    ({ s with cal := xcal } : State).hide m = s.hide m := by
  apply hide_congr <;> first | exact Or.inr rfl | exact Or.inl (by assumption)

theorem hide_media {m : Part → Bool} (hmedia : m .media = true) (s : State) (xmedia : Tab Media) :
    ({ s with media := xmedia } : State).hide m = s.hide m := by
  apply hide_congr <;> first | exact Or.inr rfl | exact Or.inl (by assumption)

theorem hide_draws {m : Part → Bool} (hdraws : m .draws = true) (s : State) (xdraws : Nat) :
    ({ s with draws := xdraws } : State).hide m = s.hide m := by
  apply hide_congr <;> first | exact Or.inr rfl | exact Or.inl (by assumption)

theorem hide_mem_memX_memu {m : Part → Bool} (hmem : m .mem = true) (hmemX : m .memX = true) (hmemu : m .memu = true)
    (s : State) (xmem : List Host.Cell) (xmemX : List Host.Cell) (xmemu : MemUnit) :
    ({ s with mem := xmem, memX := xmemX, memu := xmemu } : State).hide m = s.hide m := by
  apply hide_congr <;> first | exact Or.inr rfl | exact Or.inl (by assumption)

theorem hide_regs_log_mem_memX_memu {m : Part → Bool} (hregs : m .regs = true) (hlog : m .log = true) (hmem : m .mem =
    true) (hmemX : m .memX = true) (hmemu : m .memu = true) (s : State) (xregs : Tab Word) (xlog : Recorder) (xmem :
    List Host.Cell) (xmemX : List Host.Cell) (xmemu : MemUnit) :
    ({ s with regs := xregs, log := xlog, mem := xmem, memX := xmemX, memu := xmemu } : State).hide m = s.hide m := by
  apply hide_congr <;> first | exact Or.inr rfl | exact Or.inl (by assumption)

theorem hide_resetting_masked {m : Part → Bool} (hresetting : m .resetting = true) (hmasked : m .masked = true) (s :
    State) (xresetting : List BlockId) (xmasked : List BlockId) :
    ({ s with resetting := xresetting, masked := xmasked } : State).hide m = s.hide m := by
  apply hide_congr <;> first | exact Or.inr rfl | exact Or.inl (by assumption)

theorem hide_pf_start {m : Part → Bool} (hpf : m .pf = true) (hstart : m .start = true) (s : State) (xpf : PowerFail)
    (xstart : Start) :
    ({ s with pf := xpf, start := xstart } : State).hide m = s.hide m := by
  apply hide_congr <;> first | exact Or.inr rfl | exact Or.inl (by assumption)

theorem hide_ports_link {m : Part → Bool} (hports : m .ports = true) (hlink : m .link = true) (s : State) (xports :
    Ports) (xlink : Link) :
    ({ s with ports := xports, link := xlink } : State).hide m = s.hide m := by
  apply hide_congr <;> first | exact Or.inr rfl | exact Or.inl (by assumption)

theorem hide_staff_memu {m : Part → Bool} (hstaff : m .staff = true) (hmemu : m .memu = true) (s : State) (xstaff :
    List StaffCore) (xmemu : MemUnit) :
    ({ s with staff := xstaff, memu := xmemu } : State).hide m = s.hide m := by
  apply hide_congr <;> first | exact Or.inr rfl | exact Or.inl (by assumption)

theorem hide_log_start {m : Part → Bool} (hlog : m .log = true) (hstart : m .start = true) (s : State) (xlog :
    Recorder) (xstart : Start) :
    ({ s with log := xlog, start := xstart } : State).hide m = s.hide m := by
  apply hide_congr <;> first | exact Or.inr rfl | exact Or.inl (by assumption)

theorem hide_clk_pf {m : Part → Bool} (hclk : m .clk = true) (hpf : m .pf = true) (s : State) (xc : Bool) (x0 x1 :
    Nat) (xr xl xh xm xf xq : Bool) (xw : List (BlockId × Nat)) (xpf : PowerFail) :
    ({ s with clk := ⟨s.clk.time, xc, x0, x1, xr, xl, xh, xm, xf, xq, xw⟩, pf := xpf } : State).hide m = s.hide m := by
  apply hide_congr <;> first | exact Or.inr rfl | exact Or.inl (by assumption)

theorem hide_clk_masked {m : Part → Bool} (hclk : m .clk = true) (hmasked : m .masked = true) (s : State) (xc : Bool)
    (x0 x1 : Nat) (xr xl xh xm xf xq : Bool) (xw : List (BlockId × Nat)) (xmasked : List BlockId) :
    ({ s with clk := ⟨s.clk.time, xc, x0, x1, xr, xl, xh, xm, xf, xq, xw⟩, masked := xmasked } : State).hide m =
        s.hide m := by
  apply hide_congr <;> first | exact Or.inr rfl | exact Or.inl (by assumption)

theorem hide_clk_mem_memX_start {m : Part → Bool} (hclk : m .clk = true) (hmem : m .mem = true) (hmemX : m .memX =
    true) (hstart : m .start = true) (s : State) (xc : Bool) (x0 x1 : Nat) (xr xl xh xm xf xq : Bool) (xw : List
    (BlockId × Nat)) (xmem : List Host.Cell) (xmemX : List Host.Cell) (xstart : Start) :
    ({ s with clk := ⟨s.clk.time, xc, x0, x1, xr, xl, xh, xm, xf, xq, xw⟩, mem := xmem, memX := xmemX, start := xstart
        } : State).hide m = s.hide m := by
  apply hide_congr <;> first | exact Or.inr rfl | exact Or.inl (by assumption)

theorem hide_mem_memX_start {m : Part → Bool} (hmem : m .mem = true) (hmemX : m .memX = true) (hstart : m .start =
    true) (s : State) (xmem : List Host.Cell) (xmemX : List Host.Cell) (xstart : Start) :
    ({ s with mem := xmem, memX := xmemX, start := xstart } : State).hide m = s.hide m := by
  apply hide_congr <;> first | exact Or.inr rfl | exact Or.inl (by assumption)

theorem hide_clk {m : Part → Bool} (hclk : m .clk = true) (s : State) (xc : Bool) (x0 x1 : Nat)
    (xr xl xh xm xf xq : Bool) (xw : List (BlockId × Nat)) :
    ({ s with clk := ⟨s.clk.time, xc, x0, x1, xr, xl, xh, xm, xf, xq, xw⟩ } : State).hide m = s.hide m := by
  apply hide_congr <;> first | exact Or.inr rfl | exact Or.inl (by assumption)

theorem hide_clk_time {m : Part → Bool} (hclk : m .clk = true) (htime : m .time = true) (s : State) (x : Clock) :
    ({ s with clk := x } : State).hide m = s.hide m := by
  apply hide_congr <;> first | exact Or.inr rfl | exact Or.inl (by assumption)

theorem hide_ite (m : Part → Bool) (c : Prop) [Decidable c] (a b : State) :
    (if c then a else b).hide m = if c then a.hide m else b.hide m := by
  split <;> rfl

theorem hide_ite_fst {α : Type} (m : Part → Bool) (c : Prop) [Decidable c] (a b : State × α) :
    (if c then a else b).1.hide m = if c then a.1.hide m else b.1.hide m := by split <;> rfl

theorem hide_foldl {m : Part → Bool} {α : Type} (g : State → α → State) (hg : ∀ t x, (g t x).hide m = t.hide m) (l :
    List α)
    (s : State) : (l.foldl g s).hide m = s.hide m := by
  induction l generalizing s with
  | nil => rfl
  | cons x l ih => rw [List.foldl_cons, ih, hg]

theorem hide_foldl_fst {m : Part → Bool} {α β : Type} (g : State × β → α → State × β)
    (hg : ∀ t x, (g t x).1.hide m = t.1.hide m) (l : List α) (s : State × β) : (l.foldl g s).1.hide m = s.1.hide m := by
  induction l generalizing s with
  | nil => rfl
  | cons x l ih => rw [List.foldl_cons, ih, hg]

/-- Every next state of an answer looks like `s` with the parts of `m` hidden. -/
def Framed (m : Part → Bool) (s : State) (r : Res) : Prop := ∀ t, r = .next t → t.hide m = s.hide m

theorem Framed.fault (m : Part → Bool) (s : State) (e : Fault) : Framed m s (.fault e) := by
  intro t ht; cases ht

theorem State.run_frame {m : Part → Bool} (s : State) (f : State → State) (hf : ∀ t, (f t).hide m = t.hide m) :
    Framed m s (s.run f) := by
  intro t ht
  unfold State.run at ht
  cases ht
  split
  · exact hf s
  · rfl

/-- A part that is not hidden is the same in two states that look alike. -/
theorem same_of_hide {m : Part → Bool} {s t : State} (h : t.hide m = s.hide m) (p : Part) (hp : m p = false) : p.same
    s t := by
  cases p
  case pending =>
    have e : (t.hide m).pending = (s.hide m).pending := by rw [h]
    simp only [State.hide, hp, cond_false] at e
    exact e
  case time =>
    have e : (t.hide m).clk.time = (s.hide m).clk.time := by rw [h]
    simp only [State.hide, hp, cond_false] at e
    exact e
  case clk =>
    have e : { (t.hide m).clk with time := s.clk.time } = { (s.hide m).clk with time := s.clk.time } := by rw [h]
    simp only [State.hide, hp, cond_false] at e
    exact e
  case regs =>
    have e : (t.hide m).regs = (s.hide m).regs := by rw [h]
    simp only [State.hide, hp, cond_false] at e
    exact e
  case log =>
    have e : (t.hide m).log = (s.hide m).log := by rw [h]
    simp only [State.hide, hp, cond_false] at e
    exact e
  case staff =>
    have e : (t.hide m).staff = (s.hide m).staff := by rw [h]
    simp only [State.hide, hp, cond_false] at e
    exact e
  case resetting =>
    have e : (t.hide m).resetting = (s.hide m).resetting := by rw [h]
    simp only [State.hide, hp, cond_false] at e
    exact e
  case masked =>
    have e : (t.hide m).masked = (s.hide m).masked := by rw [h]
    simp only [State.hide, hp, cond_false] at e
    exact e
  case ports =>
    have e : (t.hide m).ports = (s.hide m).ports := by rw [h]
    simp only [State.hide, hp, cond_false] at e
    exact e
  case win =>
    have e : (t.hide m).win = (s.hide m).win := by rw [h]
    simp only [State.hide, hp, cond_false] at e
    exact e
  case tl =>
    have e : (t.hide m).tl = (s.hide m).tl := by rw [h]
    simp only [State.hide, hp, cond_false] at e
    exact e
  case mem =>
    have e : (t.hide m).mem = (s.hide m).mem := by rw [h]
    simp only [State.hide, hp, cond_false] at e
    exact e
  case memX =>
    have e : (t.hide m).memX = (s.hide m).memX := by rw [h]
    simp only [State.hide, hp, cond_false] at e
    exact e
  case memu =>
    have e : (t.hide m).memu = (s.hide m).memu := by rw [h]
    simp only [State.hide, hp, cond_false] at e
    exact e
  case lanes =>
    have e : (t.hide m).lanes = (s.hide m).lanes := by rw [h]
    simp only [State.hide, hp, cond_false] at e
    exact e
  case pcb =>
    have e : (t.hide m).pcb = (s.hide m).pcb := by rw [h]
    simp only [State.hide, hp, cond_false] at e
    exact e
  case mcb =>
    have e : (t.hide m).mcb = (s.hide m).mcb := by rw [h]
    simp only [State.hide, hp, cond_false] at e
    exact e
  case pf =>
    have e : (t.hide m).pf = (s.hide m).pf := by rw [h]
    simp only [State.hide, hp, cond_false] at e
    exact e
  case cantons =>
    have e : (t.hide m).cantons = (s.hide m).cantons := by rw [h]
    simp only [State.hide, hp, cond_false] at e
    exact e
  case str =>
    have e : (t.hide m).str = (s.hide m).str := by rw [h]
    simp only [State.hide, hp, cond_false] at e
    exact e
  case servo =>
    have e : (t.hide m).servo = (s.hide m).servo := by rw [h]
    simp only [State.hide, hp, cond_false] at e
    exact e
  case seq =>
    have e : (t.hide m).seq = (s.hide m).seq := by rw [h]
    simp only [State.hide, hp, cond_false] at e
    exact e
  case clr =>
    have e : (t.hide m).clr = (s.hide m).clr := by rw [h]
    simp only [State.hide, hp, cond_false] at e
    exact e
  case biasA =>
    have e : (t.hide m).biasA = (s.hide m).biasA := by rw [h]
    simp only [State.hide, hp, cond_false] at e
    exact e
  case spin =>
    have e : (t.hide m).spin = (s.hide m).spin := by rw [h]
    simp only [State.hide, hp, cond_false] at e
    exact e
  case cache =>
    have e : (t.hide m).cache = (s.hide m).cache := by rw [h]
    simp only [State.hide, hp, cond_false] at e
    exact e
  case staged =>
    have e : (t.hide m).staged = (s.hide m).staged := by rw [h]
    simp only [State.hide, hp, cond_false] at e
    exact e
  case bufRecs =>
    have e : (t.hide m).bufRecs = (s.hide m).bufRecs := by rw [h]
    simp only [State.hide, hp, cond_false] at e
    exact e
  case streamers =>
    have e : (t.hide m).streamers = (s.hide m).streamers := by rw [h]
    simp only [State.hide, hp, cond_false] at e
    exact e
  case link =>
    have e : (t.hide m).link = (s.hide m).link := by rw [h]
    simp only [State.hide, hp, cond_false] at e
    exact e
  case cross =>
    have e : (t.hide m).cross = (s.hide m).cross := by rw [h]
    simp only [State.hide, hp, cond_false] at e
    exact e
  case start =>
    have e : (t.hide m).start = (s.hide m).start := by rw [h]
    simp only [State.hide, hp, cond_false] at e
    exact e
  case cal =>
    have e : (t.hide m).cal = (s.hide m).cal := by rw [h]
    simp only [State.hide, hp, cond_false] at e
    exact e
  case media =>
    have e : (t.hide m).media = (s.hide m).media := by rw [h]
    simp only [State.hide, hp, cond_false] at e
    exact e
  case draws =>
    have e : (t.hide m).draws = (s.hide m).draws := by rw [h]
    simp only [State.hide, hp, cond_false] at e
    exact e

/-- What a frame of an answer says in the words of Safety. -/
theorem Framed.leaves {L : List Part} {s : State} {r : Res} (h : Framed (fun p => decide (p ∈ L)) s r) : LeavesAllBut
    L s r := by
  intro t ht p hp
  exact same_of_hide (h t ht) p (decide_eq_false hp)

end Sys2Proof.Machine
end

