-- ==== Sys2Proof/Laws/FrameOps.lean ====
section
/-! SUPPORT. Laws/FrameOps.lean: which parts of the state the functions of Machine/Ops.lean can change. -/

namespace Sys2Proof.Machine

theorem State.wr_frame {fm : Part → Bool} (hregs_ : fm .regs = true) (s : State) (a : Nat) (v : Word) :
    (State.wr s a v).hide fm = s.hide fm := by
  unfold State.wr
  simp only [hide_regs hregs_]

theorem State.set_frame {fm : Part → Bool} (hregs_ : fm .regs = true) (s : State) (x : Fld) (n : Nat) :
    (State.set s x n).hide fm = s.hide fm := by
  unfold State.set
  simp only [State.wr_frame hregs_]

theorem State.addSat_frame {fm : Part → Bool} (hregs_ : fm .regs = true) (s : State) (x : Fld) (n : Nat) :
    (State.addSat s x n).hide fm = s.hide fm := by
  unfold State.addSat
  simp only [State.set_frame hregs_]

theorem State.countSat_frame {fm : Part → Bool} (hregs_ : fm .regs = true) (s : State) (x : Fld) :
    (State.countSat s x).hide fm = s.hide fm := by
  unfold State.countSat
  simp only [State.addSat_frame hregs_]

theorem State.addCount_frame {fm : Part → Bool} (hregs_ : fm .regs = true) (s : State) (x : Fld) (n : Nat) :
    (State.addCount s x n).hide fm = s.hide fm := by
  unfold State.addCount
  simp only [hide_ite, ite_self, State.set_frame hregs_]

theorem State.count_frame {fm : Part → Bool} (hregs_ : fm .regs = true) (s : State) (x : Fld) :
    (State.count s x).hide fm = s.hide fm := by
  unfold State.count
  simp only [State.addCount_frame hregs_]

theorem State.setEach_frame {fm : Part → Bool} (hregs_ : fm .regs = true) (s : State) (f : Nat → Fld) (n : Nat)
    (x3 : List Nat) :
    (State.setEach s f n x3).hide fm = s.hide fm := by
  fun_induction State.setEach <;> simp_all only [State.set_frame hregs_]

theorem State.each_frame {fm : Part → Bool} (s : State) (f : Nat → State → State) (x2 : List Nat)
    (hf : ∀ i0 t, (f i0 t).hide fm = t.hide fm) :
    (State.each s f x2).hide fm = s.hide fm := by
  fun_induction State.each <;> simp_all only []

theorem State.when_frame {fm : Part → Bool} (s : State) (b : Bool) (f : State → State)
    (hf : ∀  t, (f  t).hide fm = t.hide fm) :
    (State.when s b f).hide fm = s.hide fm := by
  unfold State.when
  simp only [hide_ite, ite_self, hf]

theorem State.runOn_frame {fm : Part → Bool} (s : State) (d : Nat) (f : State → State)
    (hf : ∀  t, (f  t).hide fm = t.hide fm) :
    Framed fm s (State.runOn s d f) := by
  apply State.run_frame
  intro t
  simp only [hide_ite, ite_self, hf]

theorem State.arrive_frame {fm : Part → Bool} (hregs_ : fm .regs = true) (hlog_ : fm .log = true) (s : State)
    (a : Arrival) :
    (State.arrive s a).hide fm = s.hide fm := by
  unfold State.arrive
  simp only [hide_log hlog_, hide_ite, ite_self, State.count_frame hregs_]

theorem State.event_frame {fm : Part → Bool} (hregs_ : fm .regs = true) (hlog_ : fm .log = true) (s : State)
    (origin : Nat) (code : Nat) (payload : List Nat) :
    (State.event s origin code payload).hide fm = s.hide fm := by
  unfold State.event
  simp only [State.arrive_frame hregs_ hlog_]

theorem State.logPriv_frame {fm : Part → Bool} (hregs_ : fm .regs = true) (hlog_ : fm .log = true) (s : State)
    (o : Origin) (a : Nat) (v : Nat) (result : Nat) :
    (State.logPriv s o a v result).hide fm = s.hide fm := by
  unfold State.logPriv
  simp only [State.event_frame hregs_ hlog_]

theorem State.violation_frame {fm : Part → Bool} (hregs_ : fm .regs = true) (hlog_ : fm .log = true) (s : State)
    (b : Nat) (origin : Nat) (code : Nat) (payload : List Nat) :
    (State.violation s b origin code payload).hide fm = s.hide fm := by
  unfold State.violation
  simp only [hide_log hlog_, hide_ite, ite_self, State.countSat_frame hregs_, State.count_frame hregs_,
    State.event_frame hregs_ hlog_]

theorem State.putStored_frame {fm : Part → Bool} (hmem_ : fm .mem = true) (hmemX_ : fm .memX = true)
    (hmemu_ : fm .memu = true) (s : State) (k : Nat) (w : Stored) :
    (State.putStored s k w).hide fm = s.hide fm := by
  unfold State.putStored
  simp only [hide_mem_memX_memu hmem_ hmemX_ hmemu_]

theorem State.injEvent_frame {fm : Part → Bool} (hregs_ : fm .regs = true) (hlog_ : fm .log = true) (s : State)
    (origin : Nat) (status : Nat) :
    (State.injEvent s origin status).hide fm = s.hide fm := by
  unfold State.injEvent
  simp only [State.event_frame hregs_ hlog_]

theorem State.putReq_frame {fm : Part → Bool} (hregs_ : fm .regs = true) (hlog_ : fm .log = true)
    (hmem_ : fm .mem = true) (hmemX_ : fm .memX = true) (hmemu_ : fm .memu = true) (s : State) (origin : Nat)
    (k : Nat) (w : Stored) :
    (State.putReq s origin k w).hide fm = s.hide fm := by
  unfold State.putReq
  simp only [hide_memu hmemu_, hide_ite, ite_self, State.injEvent_frame hregs_ hlog_, State.putStored_frame hmem_
    hmemX_ hmemu_, State.set_frame hregs_]

theorem State.setLane_frame {fm : Part → Bool} (hlanes_ : fm .lanes = true) (s : State) (c : Nat) (f : Nat) (l : Lane) :
    (State.setLane s c f l).hide fm = s.hide fm := by
  unfold State.setLane
  simp only [hide_lanes hlanes_]

theorem State.setPcb_frame {fm : Part → Bool} (hpcb_ : fm .pcb = true) (s : State) (c : Nat) (p : Pcb) :
    (State.setPcb s c p).hide fm = s.hide fm := by
  unfold State.setPcb
  simp only [hide_pcb hpcb_]

theorem State.setSeq_frame {fm : Part → Bool} (hseq_ : fm .seq = true) (s : State) (c : Nat) (q : Seq) :
    (State.setSeq s c q).hide fm = s.hide fm := by
  unfold State.setSeq
  simp only [hide_seq hseq_]

theorem State.setStr_frame {fm : Part → Bool} (hstr_ : fm .str = true) (s : State) (c : Nat) (x : Stripes) :
    (State.setStr s c x).hide fm = s.hide fm := by
  unfold State.setStr
  simp only [hide_str hstr_]

theorem State.setTl_frame {fm : Part → Bool} (htl_ : fm .tl = true) (s : State) (c : Nat) (t : Timeline) :
    (State.setTl s c t).hide fm = s.hide fm := by
  unfold State.setTl
  simp only [hide_tl htl_]

theorem State.seqEvent_frame {fm : Part → Bool} (hseq_ : fm .seq = true) (s : State) (c : Nat) (code : Nat) :
    (State.seqEvent s c code).hide fm = s.hide fm := by
  unfold State.seqEvent
  simp only [State.setSeq_frame hseq_]

theorem State.seqIrq_frame {fm : Part → Bool} (hregs_ : fm .regs = true) (s : State) (c : Nat) (i : Nat) :
    (State.seqIrq s c i).hide fm = s.hide fm := by
  unfold State.seqIrq
  simp only [State.set_frame hregs_]

theorem State.seqMode_frame {fm : Part → Bool} (hregs_ : fm .regs = true) (s : State) (c : Nat) (m : Nat) :
    (State.seqMode s c m).hide fm = s.hide fm := by
  unfold State.seqMode
  simp only [State.set_frame hregs_]

theorem State.setOpen_frame {fm : Part → Bool} (hregs_ : fm .regs = true) (s : State) (c : Nat) (b : Bool) :
    (State.setOpen s c b).hide fm = s.hide fm := by
  unfold State.setOpen
  simp only [State.set_frame hregs_]

theorem State.markWindow_frame {fm : Part → Bool} (hclk_ : fm .clk = true) (s : State) (b : BlockId) :
    (State.markWindow s b).hide fm = s.hide fm := by
  unfold State.markWindow
  simp only [hide_clk hclk_]

theorem State.endWindow_frame {fm : Part → Bool} (hclk_ : fm .clk = true) (hresetting_ : fm .resetting = true)
    (s : State) (b : BlockId) :
    (State.endWindow s b).hide fm = s.hide fm := by
  unfold State.endWindow
  simp only [hide_resetting hresetting_, State.markWindow_frame hclk_]

theorem State.setStm_frame {fm : Part → Bool} (hstreamers_ : fm .streamers = true) (s : State) (n : Nat)
    (x : Streamer) :
    (State.setStm s n x).hide fm = s.hide fm := by
  unfold State.setStm
  simp only [hide_streamers hstreamers_]

theorem State.setCanton_frame {fm : Part → Bool} (hcantons_ : fm .cantons = true) (s : State) (k : Nat) (x : Canton) :
    (State.setCanton s k x).hide fm = s.hide fm := by
  unfold State.setCanton
  simp only [hide_cantons hcantons_]

theorem State.setServo_frame {fm : Part → Bool} (hservo_ : fm .servo = true) (s : State) (c : Nat) (x : Servo) :
    (State.setServo s c x).hide fm = s.hide fm := by
  unfold State.setServo
  simp only [hide_servo hservo_]

theorem State.setClr_frame {fm : Part → Bool} (hclr_ : fm .clr = true) (s : State) (c : Nat) (f : Nat) (x : Clr) :
    (State.setClr s c f x).hide fm = s.hide fm := by
  unfold State.setClr
  simp only [hide_clr hclr_]

theorem State.setSpin_frame {fm : Part → Bool} (hspin_ : fm .spin = true) (s : State) (d : Nat) (x : Spin) :
    (State.setSpin s d x).hide fm = s.hide fm := by
  unfold State.setSpin
  simp only [hide_spin hspin_]

theorem State.setCross_frame {fm : Part → Bool} (hcross_ : fm .cross = true) (s : State) (n : Nat) (x : Cross) :
    (State.setCross s n x).hide fm = s.hide fm := by
  unfold State.setCross
  simp only [hide_cross hcross_]

theorem State.setLink_frame {fm : Part → Bool} (hlink_ : fm .link = true) (s : State) (p : Nat) (x : LinkPortSt) :
    (State.setLink s p x).hide fm = s.hide fm := by
  unfold State.setLink
  simp only [hide_link hlink_]

theorem State.setHlane_frame {fm : Part → Bool} (hlink_ : fm .link = true) (s : State) (n : Nat) (x : HLaneSt) :
    (State.setHlane s n x).hide fm = s.hide fm := by
  unfold State.setHlane
  simp only [hide_link hlink_]

theorem State.setMedia_frame {fm : Part → Bool} (hmedia_ : fm .media = true) (s : State) (c : Nat) (x : Media) :
    (State.setMedia s c x).hide fm = s.hide fm := by
  unfold State.setMedia
  simp only [hide_media hmedia_]

theorem State.withdraw_frame {fm : Part → Bool} (hregs_ : fm .regs = true) (hstreamers_ : fm .streamers = true)
    (s : State) (n : Nat) :
    (State.withdraw s n).hide fm = s.hide fm := by
  unfold State.withdraw
  simp only [hide_ite, ite_self, State.setStm_frame hstreamers_, State.set_frame hregs_]

theorem State.draw_frame {fm : Part → Bool} (hdraws_ : fm .draws = true) (s : State) (addr : Nat) :
    (State.draw s addr).1.hide fm = s.hide fm := by
  unfold State.draw
  simp only [hide_draws hdraws_]

end Sys2Proof.Machine
end

