-- ==== Sys2Proof/Laws/FrameRecords.lean ====
section
/-! SUPPORT. Laws/FrameRecords.lean: which parts of the state the functions of Machine/Records.lean can change. -/

namespace Sys2Proof.Machine

theorem State.setCmd_frame {fm : Part → Bool} (hports_ : fm .ports = true) (s : State) (c : Cmd) :
    (State.setCmd s c).hide fm = s.hide fm := by
  unfold State.setCmd
  simp only [hide_ports hports_]

theorem State.addCmd_frame {fm : Part → Bool} (hports_ : fm .ports = true) (s : State) (c : Cmd) :
    (State.addCmd s c).hide fm = s.hide fm := by
  unfold State.addCmd
  simp only [hide_ports hports_]

theorem State.setFlag_frame {fm : Part → Bool} (hwin_ : fm .win = true) (s : State) (m : Nat) (f : Nat) :
    (State.setFlag s m f).hide fm = s.hide fm := by
  unfold State.setFlag
  simp only [hide_win hwin_, hide_ite, ite_self]

theorem State.append_frame {fm : Part → Bool} (hports_ : fm .ports = true) (hlink_ : fm .link = true) (s : State)
    (n : Nat) (kind : Nat) (cells : Nat) (shared : Nat) (words : List Nat) (owner : Option Nat) (fin : Bool) :
    (State.append s n kind cells shared words owner fin).hide fm = s.hide fm := by
  unfold State.append
  simp only [hide_ports hports_, hide_ports_link hports_ hlink_, hide_ite, ite_self]

theorem State.promiseRec_frame {fm : Part → Bool} (hregs_ : fm .regs = true) (hports_ : fm .ports = true)
    (hlink_ : fm .link = true) (s : State) (c : Cmd) :
    (State.promiseRec s c).hide fm = s.hide fm := by
  unfold State.promiseRec
  simp only [State.append_frame hports_ hlink_, State.countSat_frame hregs_]

theorem State.giveBack_frame {fm : Part → Bool} (hwin_ : fm .win = true) (s : State) (slot : Nat) (x2 : List Nat) :
    (State.giveBack s slot x2).hide fm = s.hide fm := by
  induction x2 generalizing s slot with
  | nil => rfl
  | cons c cs ih => rw [State.giveBack, ih, (State.setFlag_frame hwin_)]

theorem State.unqueue_frame {fm : Part → Bool} (hports_ : fm .ports = true) (s : State) (id : Nat) :
    (State.unqueue s id).hide fm = s.hide fm := by
  unfold State.unqueue
  simp only [hide_ports hports_]

theorem State.freeCells_frame {fm : Part → Bool} (hregs_ : fm .regs = true) (s : State) (d : Nat) (n : Nat) :
    (State.freeCells s d n).hide fm = s.hide fm := by
  unfold State.freeCells
  simp only [State.set_frame hregs_]

theorem State.takeCells_frame {fm : Part → Bool} (hregs_ : fm .regs = true) (s : State) (d : Nat) (n : Nat) :
    (State.takeCells s d n).hide fm = s.hide fm := by
  unfold State.takeCells
  simp only [State.set_frame hregs_]

theorem State.abortRec_frame {fm : Part → Bool} (hregs_ : fm .regs = true) (hports_ : fm .ports = true)
    (hlink_ : fm .link = true) (s : State) (a : Cmd) (status : Nat) :
    (State.abortRec s a status).hide fm = s.hide fm := by
  unfold State.abortRec
  simp only [State.append_frame hports_ hlink_, State.count_frame hregs_, State.setCmd_frame hports_,
    State.when_frame, implies_true]

theorem State.endWaiters_frame {fm : Part → Bool} (hregs_ : fm .regs = true) (hports_ : fm .ports = true)
    (hlink_ : fm .link = true) (s : State) (x1 : Nat) (x2 : Nat) :
    (State.endWaiters s x1 x2).hide fm = s.hide fm := by
  induction x1 generalizing s x2 with
  | zero => rfl
  | succ k ih =>
    unfold State.endWaiters
    refine State.each_frame _ _ _ (fun i t => ?_)
    split
    · rw [ih, (State.abortRec_frame hregs_ hports_ hlink_)]
    · rfl

theorem State.endAbort_frame {fm : Part → Bool} (hregs_ : fm .regs = true) (hports_ : fm .ports = true)
    (hlink_ : fm .link = true) (s : State) (a : Cmd) (status : Nat) :
    (State.endAbort s a status).hide fm = s.hide fm := by
  unfold State.endAbort
  simp only [State.abortRec_frame hregs_ hports_ hlink_, State.endWaiters_frame hregs_ hports_ hlink_]

theorem State.refuse_frame {fm : Part → Bool} (hregs_ : fm .regs = true) (hports_ : fm .ports = true)
    (hwin_ : fm .win = true) (hlink_ : fm .link = true) (s : State) (c : Cmd) (reason : Nat) (sub : Nat)
    (cluster : Nat) (earliest : Nat) (dl : Nat) :
    (State.refuse s c reason sub cluster earliest dl).hide fm = s.hide fm := by
  unfold State.refuse
  repeat' (first | simp only [State.append_frame hports_ hlink_, State.countSat_frame hregs_,
                 State.endAbort_frame hregs_ hports_ hlink_, State.freeCells_frame hregs_,
                 State.giveBack_frame hwin_, State.setCmd_frame hports_, State.unqueue_frame hports_] | split
                   | refine (State.each_frame _ _ _ (fun i t => ?_)).trans ?_)

theorem State.failAssumption_frame {fm : Part → Bool} (hports_ : fm .ports = true) (s : State) (n : Nat)
    (p : Cmd → Bool) :
    (State.failAssumption s n p).hide fm = s.hide fm := by
  unfold State.failAssumption
  simp only [hide_ports hports_]

theorem State.interruption_frame {fm : Part → Bool} (hports_ : fm .ports = true) (s : State) (mask : Nat)
    (ticks : Nat) :
    (State.interruption s mask ticks).hide fm = s.hide fm := by
  unfold State.interruption
  simp only [hide_ports hports_, State.failAssumption_frame hports_]

theorem State.flipSlots_frame {fm : Part → Bool} (hwin_ : fm .win = true) (s : State) (c : Cmd) (x2 : List Nat) :
    (State.flipSlots s c x2).hide fm = s.hide fm := by
  fun_induction State.flipSlots <;> simp_all only [hide_ite, ite_self, State.setFlag_frame hwin_]

theorem State.writeDetail_frame {fm : Part → Bool} (hregs_ : fm .regs = true) (hports_ : fm .ports = true)
    (hlink_ : fm .link = true) (s : State) (id : Nat) :
    (State.writeDetail s id).hide fm = s.hide fm := by
  unfold State.writeDetail
  repeat' (first | simp only [hide_ite, ite_self, State.append_frame hports_ hlink_, State.count_frame hregs_,
                 State.setCmd_frame hports_, State.takeCells_frame hregs_] | split)

theorem State.endCmd_frame {fm : Part → Bool} (hregs_ : fm .regs = true) (hports_ : fm .ports = true)
    (hwin_ : fm .win = true) (hlink_ : fm .link = true) (s : State) (id : Nat) :
    (State.endCmd s id).hide fm = s.hide fm := by
  unfold State.endCmd
  repeat' (first | simp only [hide_ite, ite_self, State.append_frame hports_ hlink_, State.count_frame hregs_,
                 State.endWaiters_frame hregs_ hports_ hlink_, State.flipSlots_frame hwin_,
                 State.setCmd_frame hports_, State.when_frame, State.writeDetail_frame hregs_ hports_ hlink_,
                 implies_true] | split)

theorem State.endIfSettled_frame {fm : Part → Bool} (hregs_ : fm .regs = true) (hports_ : fm .ports = true)
    (hwin_ : fm .win = true) (hlink_ : fm .link = true) (s : State) (id : Nat) :
    (State.endIfSettled s id).hide fm = s.hide fm := by
  unfold State.endIfSettled
  repeat' (first | simp only [hide_ite, ite_self, State.endCmd_frame hregs_ hports_ hwin_ hlink_,
                 State.setCmd_frame hports_] | split)

theorem State.refund_frame {fm : Part → Bool} (hports_ : fm .ports = true) (htl_ : fm .tl = true) (s : State)
    (c : Cmd) (k : Nat) (r : Nat) :
    (State.refund s c k r).hide fm = s.hide fm := by
  unfold State.refund
  simp only [State.setCmd_frame hports_, State.setTl_frame htl_]

theorem State.releaseOn_frame {fm : Part → Bool} (hports_ : fm .ports = true) (htl_ : fm .tl = true) (s : State)
    (id : Nat) (k : Nat) (n0 : Nat) (keep : Nat → Nat → CellKind → Bool) :
    (State.releaseOn s id k n0 keep).hide fm = s.hide fm := by
  unfold State.releaseOn
  repeat' (first | simp only [hide_ite, ite_self, State.refund_frame hports_ htl_, State.setTl_frame htl_] | split)

theorem State.tidy_frame {fm : Part → Bool} (hports_ : fm .ports = true) (htl_ : fm .tl = true) (s : State) :
    (State.tidy s).hide fm = s.hide fm := by
  unfold State.tidy
  apply hide_congr <;> first | exact Or.inr rfl | exact Or.inl (by assumption)

end Sys2Proof.Machine
end

