-- ==== Sys2Proof/Laws/FrameLosses.lean ====
section
/-! SUPPORT. Laws/FrameLosses.lean: which parts of the state the functions of Machine/Losses.lean can change. -/

namespace Sys2Proof.Machine

theorem State.fragEnd_frame {fm : Part → Bool} (hseq_ : fm .seq = true) (s : State) (c : Nat) :
    (State.fragEnd s c).hide fm = s.hide fm := by
  unfold State.fragEnd
  simp only [hide_ite, ite_self, State.seqEvent_frame hseq_]

theorem State.cutWrite_frame {fm : Part → Bool} (hregs_ : fm .regs = true) (hlanes_ : fm .lanes = true)
    (hstr_ : fm .str = true) (hseq_ : fm .seq = true) (hdraws_ : fm .draws = true) (s : State) (c : Nat) (f : Nat) :
    (State.cutWrite s c f).hide fm = s.hide fm := by
  unfold State.cutWrite
  simp only [hide_ite, ite_self, State.addCount_frame hregs_, State.count_frame hregs_, State.draw_frame hdraws_,
    State.fragEnd_frame hseq_, State.setLane_frame hlanes_, State.setStr_frame hstr_]

theorem State.setWhy_frame {fm : Part → Bool} (hregs_ : fm .regs = true) (hlanes_ : fm .lanes = true)
    (hstr_ : fm .str = true) (hseq_ : fm .seq = true) (hdraws_ : fm .draws = true) (s : State) (c : Nat) (f : Nat)
    (bit : Nat) (b : Bool) :
    (State.setWhy s c f bit b).hide fm = s.hide fm := by
  unfold State.setWhy
  simp only [hide_ite, ite_self, State.cutWrite_frame hregs_ hlanes_ hstr_ hseq_ hdraws_, State.set_frame hregs_]

theorem State.fragResult_frame {fm : Part → Bool} (hstr_ : fm .str = true) (s : State) (c : Nat) (slot : Nat)
    (f : Nat) (st : FragState) :
    (State.fragResult s c slot f st).hide fm = s.hide fm := by
  unfold State.fragResult
  simp only [State.setStr_frame hstr_]

theorem State.dropRead_frame {fm : Part → Bool} (hregs_ : fm .regs = true) (hlanes_ : fm .lanes = true)
    (hcantons_ : fm .cantons = true) (hstr_ : fm .str = true) (hseq_ : fm .seq = true) (hdraws_ : fm .draws = true)
    (s : State) (c : Nat) (f : Nat) :
    (State.dropRead s c f).hide fm = s.hide fm := by
  unfold State.dropRead
  repeat' (first | simp only [State.addSat_frame hregs_, State.draw_frame hdraws_,
                 State.fragEnd_frame hseq_, State.fragResult_frame hstr_, State.setCanton_frame hcantons_,
                 State.setLane_frame hlanes_, State.set_frame hregs_] | split)

theorem State.disarm_frame {fm : Part → Bool} (hregs_ : fm .regs = true) (hlanes_ : fm .lanes = true)
    (hcantons_ : fm .cantons = true) (hstr_ : fm .str = true) (hseq_ : fm .seq = true) (hdraws_ : fm .draws = true)
    (s : State) (c : Nat) (f : Nat) :
    (State.disarm s c f).hide fm = s.hide fm := by
  unfold State.disarm
  simp only [State.cutWrite_frame hregs_ hlanes_ hstr_ hseq_ hdraws_, State.dropRead_frame hregs_ hlanes_ hcantons_
    hstr_ hseq_ hdraws_, State.setLane_frame hlanes_]

theorem State.queueMode_frame {fm : Part → Bool} (hpcb_ : fm .pcb = true) (s : State) (c : Nat) (mask : Nat)
    (mode : Nat) (act : Nat) :
    (State.queueMode s c mask mode act).hide fm = s.hide fm := by
  unfold State.queueMode
  simp only [hide_ite, ite_self, State.setPcb_frame hpcb_]

theorem State.seqHalt_frame {fm : Part → Bool} (hregs_ : fm .regs = true) (hlanes_ : fm .lanes = true)
    (hpcb_ : fm .pcb = true) (hcantons_ : fm .cantons = true) (hstr_ : fm .str = true) (hseq_ : fm .seq = true)
    (hstreamers_ : fm .streamers = true) (hdraws_ : fm .draws = true) (s : State) (c : Nat) :
    (State.seqHalt s c).hide fm = s.hide fm := by
  unfold State.seqHalt
  simp only [State.disarm_frame hregs_ hlanes_ hcantons_ hstr_ hseq_ hdraws_, State.each_frame, State.queueMode_frame
    hpcb_, State.seqMode_frame hregs_, State.set_frame hregs_, State.withdraw_frame hregs_ hstreamers_, implies_true]

theorem State.bufLose_frame {fm : Part → Bool} (hbufRecs_ : fm .bufRecs = true) (s : State) (c : Cmd) (k : Nat) :
    (State.bufLose s c k).hide fm = s.hide fm := by
  unfold State.bufLose
  simp only [hide_bufRecs hbufRecs_, hide_ite, ite_self]

theorem State.loseOn_frame {fm : Part → Bool} (hregs_ : fm .regs = true) (hports_ : fm .ports = true)
    (hwin_ : fm .win = true) (hbufRecs_ : fm .bufRecs = true) (hlink_ : fm .link = true) (s : State) (k : Nat)
    (status : Nat) :
    (State.loseOn s k status).hide fm = s.hide fm := by
  unfold State.loseOn
  repeat' (first | simp only [State.bufLose_frame hbufRecs_, State.endIfSettled_frame hregs_ hports_ hwin_ hlink_,
                 State.setCmd_frame hports_] | split | refine (State.each_frame _ _ _ (fun i t => ?_)).trans ?_)

theorem State.calEnd_frame {fm : Part → Bool} (hregs_ : fm .regs = true) (hcal_ : fm .cal = true) (s : State)
    (result : Nat) :
    (State.calEnd s result).hide fm = s.hide fm := by
  unfold State.calEnd
  simp only [hide_cal hcal_, State.set_frame hregs_]

theorem State.calLose_frame {fm : Part → Bool} (hregs_ : fm .regs = true) (hcal_ : fm .cal = true) (s : State)
    (k : Nat) :
    (State.calLose s k).hide fm = s.hide fm := by
  unfold State.calLose
  repeat' (first | simp only [hide_ite, ite_self, State.calEnd_frame hregs_ hcal_] | split)

theorem State.leaveService_frame {fm : Part → Bool} (hregs_ : fm .regs = true) (hports_ : fm .ports = true)
    (hwin_ : fm .win = true) (htl_ : fm .tl = true) (hlanes_ : fm .lanes = true) (hpcb_ : fm .pcb = true)
    (hcantons_ : fm .cantons = true) (hstr_ : fm .str = true) (hseq_ : fm .seq = true)
    (hbufRecs_ : fm .bufRecs = true) (hstreamers_ : fm .streamers = true) (hlink_ : fm .link = true)
    (hcal_ : fm .cal = true) (hdraws_ : fm .draws = true) (s : State) (k : Nat) (status : Nat) (lost : Bool) :
    (State.leaveService s k status lost).hide fm = s.hide fm := by
  unfold State.leaveService
  repeat' (first | simp only [State.calLose_frame hregs_ hcal_, State.failAssumption_frame hports_, State.loseOn_frame
                 hregs_ hports_ hwin_ hbufRecs_ hlink_,
                 State.seqHalt_frame hregs_ hlanes_ hpcb_ hcantons_ hstr_ hseq_ hstreamers_ hdraws_,
                 State.setCmd_frame hports_, State.setOpen_frame hregs_, State.setTl_frame htl_,
                 State.set_frame hregs_, State.tidy_frame hports_ htl_] | split
                 | refine (State.each_frame _ _ _ (fun i t => ?_)).trans ?_)

theorem State.loseCluster_frame {fm : Part → Bool} (hregs_ : fm .regs = true) (hports_ : fm .ports = true)
    (hwin_ : fm .win = true) (htl_ : fm .tl = true) (hlanes_ : fm .lanes = true) (hpcb_ : fm .pcb = true)
    (hcantons_ : fm .cantons = true) (hstr_ : fm .str = true) (hseq_ : fm .seq = true)
    (hbufRecs_ : fm .bufRecs = true) (hstreamers_ : fm .streamers = true) (hlink_ : fm .link = true)
    (hcal_ : fm .cal = true) (hdraws_ : fm .draws = true) (s : State) (k : Nat) :
    (State.loseCluster s k).hide fm = s.hide fm := by
  unfold State.loseCluster
  simp only [State.leaveService_frame hregs_ hports_ hwin_ htl_ hlanes_ hpcb_ hcantons_ hstr_ hseq_ hbufRecs_
    hstreamers_ hlink_ hcal_ hdraws_]

theorem State.loseSpindle_frame {fm : Part → Bool} (hregs_ : fm .regs = true) (hports_ : fm .ports = true)
    (hwin_ : fm .win = true) (htl_ : fm .tl = true) (hlanes_ : fm .lanes = true) (hpcb_ : fm .pcb = true)
    (hcantons_ : fm .cantons = true) (hstr_ : fm .str = true) (hseq_ : fm .seq = true)
    (hbufRecs_ : fm .bufRecs = true) (hstreamers_ : fm .streamers = true) (hlink_ : fm .link = true)
    (hcal_ : fm .cal = true) (hdraws_ : fm .draws = true) (s : State) :
    (State.loseSpindle s).hide fm = s.hide fm := by
  unfold State.loseSpindle
  simp only [State.each_frame, State.leaveService_frame hregs_ hports_ hwin_ htl_ hlanes_ hpcb_ hcantons_ hstr_ hseq_
    hbufRecs_ hstreamers_ hlink_ hcal_ hdraws_, implies_true]

theorem State.loseDie_frame {fm : Part → Bool} (hregs_ : fm .regs = true) (hports_ : fm .ports = true)
    (hwin_ : fm .win = true) (htl_ : fm .tl = true) (hlanes_ : fm .lanes = true) (hpcb_ : fm .pcb = true)
    (hcantons_ : fm .cantons = true) (hstr_ : fm .str = true) (hseq_ : fm .seq = true)
    (hbufRecs_ : fm .bufRecs = true) (hstreamers_ : fm .streamers = true) (hlink_ : fm .link = true)
    (hcal_ : fm .cal = true) (hdraws_ : fm .draws = true) (s : State) (d : Nat) :
    (State.loseDie s d).hide fm = s.hide fm := by
  unfold State.loseDie
  repeat' (first | simp only [hide_ite, ite_self, State.each_frame, State.endCmd_frame hregs_ hports_ hwin_ hlink_,
                 State.leaveService_frame hregs_ hports_ hwin_ htl_ hlanes_ hpcb_ hcantons_ hstr_ hseq_ hbufRecs_
                   hstreamers_ hlink_ hcal_ hdraws_,
                 State.setCmd_frame hports_, State.tidy_frame hports_ htl_, implies_true] | split
                 | refine (State.each_frame _ _ _ (fun i t => ?_)).trans ?_)

end Sys2Proof.Machine
end

