-- ==== Sys2Proof/Laws/FrameRaise.lean ====
section
/-! SUPPORT. Laws/FrameRaise.lean: which parts of the state the functions of Machine/Raise.lean can change. -/

namespace Sys2Proof.Machine

theorem State.peerReset_frame {fm : Part → Bool} (hregs_ : fm .regs = true) (hcross_ : fm .cross = true) (s : State)
    (n : Nat) :
    (State.peerReset s n).hide fm = s.hide fm := by
  unfold State.peerReset
  simp only [hide_ite, ite_self, State.countSat_frame hregs_, State.setCross_frame hcross_, State.set_frame hregs_]

theorem State.peerBack_frame {fm : Part → Bool} (hregs_ : fm .regs = true) (hcross_ : fm .cross = true) (s : State)
    (n : Nat) :
    (State.peerBack s n).hide fm = s.hide fm := by
  unfold State.peerBack
  simp only [State.setCross_frame hcross_, State.set_frame hregs_]

theorem State.cutRead_frame {fm : Part → Bool} (hregs_ : fm .regs = true) (hlanes_ : fm .lanes = true)
    (hcantons_ : fm .cantons = true) (hstr_ : fm .str = true) (hseq_ : fm .seq = true) (hdraws_ : fm .draws = true)
    (s : State) (c : Nat) (f : Nat) :
    (State.cutRead s c f).hide fm = s.hide fm := by
  unfold State.cutRead
  simp only [hide_ite, ite_self, State.countSat_frame hregs_, State.dropRead_frame hregs_ hlanes_ hcantons_ hstr_
    hseq_ hdraws_]

theorem State.stmCut_frame {fm : Part → Bool} (hregs_ : fm .regs = true) (hstreamers_ : fm .streamers = true)
    (s : State) (n : Nat) :
    (State.stmCut s n).hide fm = s.hide fm := by
  unfold State.stmCut
  repeat' (first | simp only [hide_ite, ite_self, State.setStm_frame hstreamers_, State.set_frame hregs_] | split |
                 refine (hide_foldl _ (fun t x => ?_) _ _).trans ?_)

theorem State.seqStop_frame {fm : Part → Bool} (hregs_ : fm .regs = true) (hports_ : fm .ports = true)
    (hwin_ : fm .win = true) (htl_ : fm .tl = true) (hlanes_ : fm .lanes = true) (hpcb_ : fm .pcb = true)
    (hcantons_ : fm .cantons = true) (hstr_ : fm .str = true) (hseq_ : fm .seq = true)
    (hbufRecs_ : fm .bufRecs = true) (hstreamers_ : fm .streamers = true) (hlink_ : fm .link = true)
    (hcal_ : fm .cal = true) (hdraws_ : fm .draws = true) (s : State) (c : Nat) :
    (State.seqStop s c).hide fm = s.hide fm := by
  unfold State.seqStop
  simp only [hide_ite, ite_self, State.leaveService_frame hregs_ hports_ hwin_ htl_ hlanes_ hpcb_ hcantons_ hstr_
    hseq_ hbufRecs_ hstreamers_ hlink_ hcal_ hdraws_, State.seqHalt_frame hregs_ hlanes_ hpcb_ hcantons_ hstr_ hseq_
    hstreamers_ hdraws_]

theorem State.seqRegs_frame {fm : Part → Bool} (hregs_ : fm .regs = true) (hseq_ : fm .seq = true) (s : State)
    (c : Nat) :
    (State.seqRegs s c).hide fm = s.hide fm := by
  unfold State.seqRegs
  repeat' (first | simp only [State.setEach_frame hregs_, State.setSeq_frame hseq_,
                 State.set_frame hregs_] | split
                 | refine (hide_foldl _ (fun t x => ?_) _ _).trans ?_)

theorem State.blockEffect_frame {fm : Part → Bool} (hregs_ : fm .regs = true) (hstaff_ : fm .staff = true)
    (hports_ : fm .ports = true) (hwin_ : fm .win = true) (htl_ : fm .tl = true) (hmemu_ : fm .memu = true)
    (hlanes_ : fm .lanes = true) (hpcb_ : fm .pcb = true) (hcantons_ : fm .cantons = true) (hstr_ : fm .str = true)
    (hservo_ : fm .servo = true) (hseq_ : fm .seq = true) (hbufRecs_ : fm .bufRecs = true)
    (hstreamers_ : fm .streamers = true) (hlink_ : fm .link = true) (hcross_ : fm .cross = true)
    (hcal_ : fm .cal = true) (hdraws_ : fm .draws = true) (s : State) (x1 : BlockId) :
    (State.blockEffect s x1).hide fm = s.hide fm := by
  unfold State.blockEffect
  repeat' (first | simp only [hide_staff hstaff_, hide_memu hmemu_, State.cutRead_frame hregs_ hlanes_ hcantons_ hstr_
                 hseq_ hdraws_,
                 State.cutWrite_frame hregs_ hlanes_ hstr_ hseq_ hdraws_, State.peerReset_frame hregs_ hcross_,
                 State.seqRegs_frame hregs_ hseq_,
                 State.seqStop_frame hregs_ hports_ hwin_ htl_ hlanes_ hpcb_ hcantons_ hstr_ hseq_ hbufRecs_
                   hstreamers_ hlink_ hcal_ hdraws_,
                 State.setCanton_frame hcantons_, State.setLane_frame hlanes_, State.setServo_frame hservo_,
                 State.setStr_frame hstr_, State.set_frame hregs_, State.stmCut_frame hregs_ hstreamers_] | split |
                   refine (hide_foldl _ (fun t x => ?_) _ _).trans ?_)

theorem State.blockReset_frame {fm : Part → Bool} (hclk_ : fm .clk = true) (hregs_ : fm .regs = true)
    (hstaff_ : fm .staff = true) (hresetting_ : fm .resetting = true) (hmasked_ : fm .masked = true)
    (hports_ : fm .ports = true) (hwin_ : fm .win = true) (htl_ : fm .tl = true) (hmemu_ : fm .memu = true)
    (hlanes_ : fm .lanes = true) (hpcb_ : fm .pcb = true) (hcantons_ : fm .cantons = true) (hstr_ : fm .str = true)
    (hservo_ : fm .servo = true) (hseq_ : fm .seq = true) (hbufRecs_ : fm .bufRecs = true)
    (hstreamers_ : fm .streamers = true) (hlink_ : fm .link = true) (hcross_ : fm .cross = true)
    (hcal_ : fm .cal = true) (hdraws_ : fm .draws = true) (s : State) (b : BlockId) :
    (State.blockReset s b).hide fm = s.hide fm := by
  unfold State.blockReset
  simp only [hide_resetting_masked hresetting_ hmasked_, State.blockEffect_frame hregs_ hstaff_ hports_ hwin_ htl_
    hmemu_ hlanes_ hpcb_ hcantons_ hstr_ hservo_ hseq_ hbufRecs_ hstreamers_ hlink_ hcross_ hcal_ hdraws_,
    State.markWindow_frame hclk_]

theorem State.queueEvt_frame {fm : Part → Bool} (hregs_ : fm .regs = true) (hlink_ : fm .link = true) (s : State)
    (src : Nat) :
    (State.queueEvt s src).hide fm = s.hide fm := by
  unfold State.queueEvt
  simp only [hide_link hlink_, hide_ite, ite_self, State.countSat_frame hregs_]

theorem State.nmi_frame {fm : Part → Bool} (hstaff_ : fm .staff = true) (s : State) (dies : List Nat) :
    (State.nmi s dies).hide fm = s.hide fm := by
  unfold State.nmi
  simp only [hide_staff hstaff_]

theorem State.latchFirst_frame {fm : Part → Bool} (hregs_ : fm .regs = true) (s : State) (src : Nat) (info : Nat)
    (origin : Nat) :
    (State.latchFirst s src info origin).hide fm = s.hide fm := by
  unfold State.latchFirst
  simp only [hide_ite, ite_self, State.set_frame hregs_]

theorem State.react_frame {fm : Part → Bool} (hclk_ : fm .clk = true) (hregs_ : fm .regs = true)
    (hstaff_ : fm .staff = true) (hresetting_ : fm .resetting = true) (hmasked_ : fm .masked = true)
    (hports_ : fm .ports = true) (hwin_ : fm .win = true) (htl_ : fm .tl = true) (hmemu_ : fm .memu = true)
    (hlanes_ : fm .lanes = true) (hpcb_ : fm .pcb = true) (hcantons_ : fm .cantons = true) (hstr_ : fm .str = true)
    (hservo_ : fm .servo = true) (hseq_ : fm .seq = true) (hbufRecs_ : fm .bufRecs = true)
    (hstreamers_ : fm .streamers = true) (hlink_ : fm .link = true) (hcross_ : fm .cross = true)
    (hcal_ : fm .cal = true) (hdraws_ : fm .draws = true) (s : State) (src : Nat) (info : Nat) :
    (State.react s src info).hide fm = s.hide fm := by
  unfold State.react
  repeat' (first | simp only [hide_clk hclk_, State.blockReset_frame hclk_ hregs_ hstaff_ hresetting_ hmasked_ hports_
                 hwin_ htl_ hmemu_ hlanes_ hpcb_ hcantons_ hstr_ hservo_ hseq_ hbufRecs_ hstreamers_ hlink_ hcross_
                 hcal_ hdraws_,
                 State.nmi_frame hstaff_, State.queueEvt_frame hregs_ hlink_] | split)

theorem State.raise_frame {fm : Part → Bool} (hclk_ : fm .clk = true) (hregs_ : fm .regs = true)
    (hlog_ : fm .log = true) (hstaff_ : fm .staff = true) (hresetting_ : fm .resetting = true)
    (hmasked_ : fm .masked = true) (hports_ : fm .ports = true) (hwin_ : fm .win = true) (htl_ : fm .tl = true)
    (hmemu_ : fm .memu = true) (hlanes_ : fm .lanes = true) (hpcb_ : fm .pcb = true) (hcantons_ : fm .cantons = true)
    (hstr_ : fm .str = true) (hservo_ : fm .servo = true) (hseq_ : fm .seq = true) (hbufRecs_ : fm .bufRecs = true)
    (hstreamers_ : fm .streamers = true) (hlink_ : fm .link = true) (hcross_ : fm .cross = true)
    (hcal_ : fm .cal = true) (hdraws_ : fm .draws = true) (s : State) (src : Nat) (info : Nat) (origin : Nat) :
    (State.raise s src info origin).hide fm = s.hide fm := by
  unfold State.raise
  simp only [hide_ite, ite_self, State.countSat_frame hregs_, State.event_frame hregs_ hlog_, State.latchFirst_frame
    hregs_, State.react_frame hclk_ hregs_ hstaff_ hresetting_ hmasked_ hports_ hwin_ htl_ hmemu_ hlanes_ hpcb_
    hcantons_ hstr_ hservo_ hseq_ hbufRecs_ hstreamers_ hlink_ hcross_ hcal_ hdraws_, State.set_frame hregs_]

theorem State.raiseC_frame {fm : Part → Bool} (hclk_ : fm .clk = true) (hregs_ : fm .regs = true)
    (hlog_ : fm .log = true) (hstaff_ : fm .staff = true) (hresetting_ : fm .resetting = true)
    (hmasked_ : fm .masked = true) (hports_ : fm .ports = true) (hwin_ : fm .win = true) (htl_ : fm .tl = true)
    (hmemu_ : fm .memu = true) (hlanes_ : fm .lanes = true) (hpcb_ : fm .pcb = true) (hcantons_ : fm .cantons = true)
    (hstr_ : fm .str = true) (hservo_ : fm .servo = true) (hseq_ : fm .seq = true) (hbufRecs_ : fm .bufRecs = true)
    (hstreamers_ : fm .streamers = true) (hlink_ : fm .link = true) (hcross_ : fm .cross = true)
    (hcal_ : fm .cal = true) (hdraws_ : fm .draws = true) (s : State) (kind : Nat) (c : Nat) (info : Nat) :
    (State.raiseC s kind c info).hide fm = s.hide fm := by
  unfold State.raiseC
  simp only [State.raise_frame hclk_ hregs_ hlog_ hstaff_ hresetting_ hmasked_ hports_ hwin_ htl_ hmemu_ hlanes_ hpcb_
    hcantons_ hstr_ hservo_ hseq_ hbufRecs_ hstreamers_ hlink_ hcross_ hcal_ hdraws_]

end Sys2Proof.Machine
end

