-- ==== Sys2Proof/Laws/FrameGeometry.lean ====
section
/-! SUPPORT. Laws/FrameGeometry.lean: which parts of the state the functions of Machine/Geometry.lean can change. -/

namespace Sys2Proof.Machine

theorem State.setSkew_frame {fm : Part → Bool} (hstr_ : fm .str = true) (s : State) (c : Nat) (r : Nat) (f : Nat)
    (x : Skew) :
    (State.setSkew s c r f x).hide fm = s.hide fm := by
  unfold State.setSkew
  simp only [State.setStr_frame hstr_]

end Sys2Proof.Machine
end

