-- ==== Sys2Proof/Laws/FrameBudget.lean ====
section
/-! SUPPORT. Laws/FrameBudget.lean: which parts of the state the functions of Machine/Budget.lean can change. -/

namespace Sys2Proof.Machine

theorem State.refill_frame {fm : Part → Bool} (htl_ : fm .tl = true) (s : State) (c : Nat) :
    (State.refill s c).hide fm = s.hide fm := by
  unfold State.refill
  simp only [State.setTl_frame htl_]

theorem State.bookRow_frame {fm : Part → Bool} (htl_ : fm .tl = true) (s : State) (c : Nat) (h : Nat) (spent : Nat)
    (retired : Nat) :
    (State.bookRow s c h spent retired).hide fm = s.hide fm := by
  unfold State.bookRow
  repeat' (first | simp only [hide_ite, ite_self, State.setTl_frame htl_] | split)

theorem State.retire_frame {fm : Part → Bool} (htl_ : fm .tl = true) (s : State) (c : Nat) :
    (State.retire s c).hide fm = s.hide fm := by
  unfold State.retire
  repeat' (first | simp only [hide_ite, ite_self, State.bookRow_frame htl_, State.setTl_frame htl_] | split
                 | refine (hide_foldl _ (fun t x => ?_) _ _).trans ?_)

theorem State.beginCells_frame {fm : Part → Bool} (htl_ : fm .tl = true) (s : State) (c : Nat) :
    (State.beginCells s c).hide fm = s.hide fm := by
  unfold State.beginCells
  repeat' (first | simp only [State.bookRow_frame htl_] | split
                 | refine (hide_foldl _ (fun t x => ?_) _ _).trans ?_)

theorem State.deferWrites_frame {fm : Part → Bool} (hregs_ : fm .regs = true) (hports_ : fm .ports = true) (s : State)
    (c : Nat) :
    (State.deferWrites s c).hide fm = s.hide fm := by
  unfold State.deferWrites
  simp only [hide_ports hports_, hide_ite, ite_self, State.addSat_frame hregs_, State.failAssumption_frame hports_]

theorem State.flushMaps_frame {fm : Part → Bool} (hstr_ : fm .str = true) (hmedia_ : fm .media = true) (s : State)
    (c : Nat) :
    (State.flushMaps s c).hide fm = s.hide fm := by
  unfold State.flushMaps
  simp only [State.setMedia_frame hmedia_, State.setStr_frame hstr_]

theorem State.budgetEvent_frame {fm : Part → Bool} (hregs_ : fm .regs = true) (hlog_ : fm .log = true) (s : State)
    (origin : Nat) (result : Nat) :
    (State.budgetEvent s origin result).hide fm = s.hide fm := by
  unfold State.budgetEvent
  simp only [State.event_frame hregs_ hlog_]

theorem State.budgetCmd_frame {fm : Part → Bool} (hregs_ : fm .regs = true) (hlog_ : fm .log = true)
    (hports_ : fm .ports = true) (s : State) (o : Origin) (op : Nat) :
    (State.budgetCmd s o op).hide fm = s.hide fm := by
  unfold State.budgetCmd
  simp only [hide_ports hports_, hide_ite, ite_self, State.budgetEvent_frame hregs_ hlog_, State.logPriv_frame hregs_
    hlog_, State.set_frame hregs_]

theorem execBcmdRead_frame {fm : Part → Bool} (hregs_ : fm .regs = true) (hlog_ : fm .log = true)
    (hports_ : fm .ports = true) (o : Origin) (s : State) :
    Framed fm s (execBcmdRead o s) := by
  apply State.run_frame
  intro t
  simp only [State.budgetCmd_frame hregs_ hlog_ hports_]

theorem execBcmdWrite_frame {fm : Part → Bool} (hregs_ : fm .regs = true) (hlog_ : fm .log = true)
    (hports_ : fm .ports = true) (o : Origin) (s : State) :
    Framed fm s (execBcmdWrite o s) := by
  apply State.run_frame
  intro t
  simp only [State.budgetCmd_frame hregs_ hlog_ hports_]

theorem execBcmdComplete_frame {fm : Part → Bool} (hregs_ : fm .regs = true) (hlog_ : fm .log = true)
    (hports_ : fm .ports = true) (htl_ : fm .tl = true) (s : State) :
    Framed fm s (execBcmdComplete s) := by
  apply State.run_frame
  intro t
  repeat' (first | simp only [hide_ports hports_, hide_ite, ite_self,
                 State.budgetEvent_frame hregs_ hlog_, State.setTl_frame htl_, State.set_frame hregs_] | split)

end Sys2Proof.Machine
end

