-- ==== Sys2Proof/Laws/FrameLoop.lean ====
section
/-! SUPPORT. Laws/FrameLoop.lean: which parts of the state the functions of Machine/Loop.lean can change. -/

namespace Sys2Proof.Machine

theorem State.slew_frame {fm : Part → Bool} (hregs_ : fm .regs = true) (hcal_ : fm .cal = true) (s : State)
    (sgn : Bool) (x : Fld) :
    (State.slew s sgn x).hide fm = s.hide fm := by
  unfold State.slew
  repeat' (first | simp only [hide_cal hcal_, hide_ite, ite_self, State.set_frame hregs_] | split)

theorem State.clrOpen_frame {fm : Part → Bool} (hregs_ : fm .regs = true) (s : State) (c : Nat) (f : Nat) :
    (State.clrOpen s c f).hide fm = s.hide fm := by
  unfold State.clrOpen
  simp only [State.set_frame hregs_]

theorem State.clrRamp_frame {fm : Part → Bool} (hregs_ : fm .regs = true) (s : State) (c : Nat) (f : Nat) (cls : Nat) :
    (State.clrRamp s c f cls).hide fm = s.hide fm := by
  unfold State.clrRamp
  simp only [State.set_frame hregs_]

theorem State.clrOff_frame {fm : Part → Bool} (hregs_ : fm .regs = true) (hclr_ : fm .clr = true) (s : State)
    (c : Nat) (f : Nat) :
    (State.clrOff s c f).hide fm = s.hide fm := by
  unfold State.clrOff
  simp only [State.setClr_frame hclr_, State.set_frame hregs_]

theorem State.clrStart_frame {fm : Part → Bool} (hregs_ : fm .regs = true) (s : State) (c : Nat) (f : Nat) :
    (State.clrStart s c f).hide fm = s.hide fm := by
  unfold State.clrStart
  simp only [hide_ite, ite_self, State.clrRamp_frame hregs_, State.set_frame hregs_]

theorem State.clrTrip_frame {fm : Part → Bool} (hclk_ : fm .clk = true) (hregs_ : fm .regs = true)
    (hlog_ : fm .log = true) (hstaff_ : fm .staff = true) (hresetting_ : fm .resetting = true)
    (hmasked_ : fm .masked = true) (hports_ : fm .ports = true) (hwin_ : fm .win = true) (htl_ : fm .tl = true)
    (hmemu_ : fm .memu = true) (hlanes_ : fm .lanes = true) (hpcb_ : fm .pcb = true) (hcantons_ : fm .cantons = true)
    (hstr_ : fm .str = true) (hservo_ : fm .servo = true) (hseq_ : fm .seq = true) (hclr_ : fm .clr = true)
    (hbufRecs_ : fm .bufRecs = true) (hstreamers_ : fm .streamers = true) (hlink_ : fm .link = true)
    (hcross_ : fm .cross = true) (hcal_ : fm .cal = true) (hdraws_ : fm .draws = true) (s : State) (c : Nat) (f : Nat)
    (cause : Nat) :
    (State.clrTrip s c f cause).hide fm = s.hide fm := by
  unfold State.clrTrip
  simp only [State.clrOpen_frame hregs_, State.countSat_frame hregs_, State.raise_frame hclk_ hregs_ hlog_ hstaff_
    hresetting_ hmasked_ hports_ hwin_ htl_ hmemu_ hlanes_ hpcb_ hcantons_ hstr_ hservo_ hseq_ hbufRecs_ hstreamers_
    hlink_ hcross_ hcal_ hdraws_, State.setClr_frame hclr_, State.setWhy_frame hregs_ hlanes_ hstr_ hseq_ hdraws_,
    State.set_frame hregs_]

theorem State.rampStep_frame {fm : Part → Bool} (hregs_ : fm .regs = true) (s : State) (c : Nat) (f : Nat) :
    (State.rampStep s c f).hide fm = s.hide fm := by
  unfold State.rampStep
  simp only [State.set_frame hregs_]

theorem State.clrLaw_frame {fm : Part → Bool} (hregs_ : fm .regs = true) (hclr_ : fm .clr = true) (s : State)
    (c : Nat) (f : Nat) (r : Nat) :
    (State.clrLaw s c f r).hide fm = s.hide fm := by
  unfold State.clrLaw
  simp only [State.setClr_frame hclr_, State.set_frame hregs_]

theorem State.clrSlew_frame {fm : Part → Bool} (hregs_ : fm .regs = true) (hclr_ : fm .clr = true)
    (hcal_ : fm .cal = true) (s : State) (c : Nat) (f : Nat) :
    (State.clrSlew s c f).hide fm = s.hide fm := by
  unfold State.clrSlew
  repeat' (first | simp only [hide_ite, ite_self, State.setClr_frame hclr_, State.set_frame hregs_,
                 State.slew_frame hregs_ hcal_] | split
                 | refine (hide_foldl _ (fun t x => ?_) _ _).trans ?_)

theorem State.clrClass_frame {fm : Part → Bool} (hregs_ : fm .regs = true) (hclr_ : fm .clr = true) (s : State)
    (c : Nat) (f : Nat) :
    (State.clrClass s c f).hide fm = s.hide fm := by
  unfold State.clrClass
  simp only [hide_ite, ite_self, State.clrRamp_frame hregs_, State.setClr_frame hclr_, State.set_frame hregs_]

theorem State.probEnd_frame {fm : Part → Bool} (hregs_ : fm .regs = true) (hlanes_ : fm .lanes = true)
    (hstr_ : fm .str = true) (hseq_ : fm .seq = true) (hdraws_ : fm .draws = true) (s : State) (c : Nat) (f : Nat) :
    (State.probEnd s c f).hide fm = s.hide fm := by
  unfold State.probEnd
  simp only [hide_ite, ite_self, State.clrRamp_frame hregs_, State.setWhy_frame hregs_ hlanes_ hstr_ hseq_ hdraws_,
    State.set_frame hregs_]

theorem State.clrMove_frame {fm : Part → Bool} (hregs_ : fm .regs = true) (hlanes_ : fm .lanes = true)
    (hstr_ : fm .str = true) (hseq_ : fm .seq = true) (hclr_ : fm .clr = true) (hdraws_ : fm .draws = true)
    (s : State) (c : Nat) (f : Nat) (r : Option Nat) :
    (State.clrMove s c f r).hide fm = s.hide fm := by
  unfold State.clrMove
  repeat' (first | simp only [hide_ite, ite_self, State.clrLaw_frame hregs_ hclr_, State.clrOpen_frame hregs_,
                 State.probEnd_frame hregs_ hlanes_ hstr_ hseq_ hdraws_, State.rampStep_frame hregs_,
                 State.setClr_frame hclr_, State.set_frame hregs_] | split)

theorem State.clrReading_frame {fm : Part → Bool} (hclk_ : fm .clk = true) (hregs_ : fm .regs = true)
    (hlog_ : fm .log = true) (hstaff_ : fm .staff = true) (hresetting_ : fm .resetting = true)
    (hmasked_ : fm .masked = true) (hports_ : fm .ports = true) (hwin_ : fm .win = true) (htl_ : fm .tl = true)
    (hmemu_ : fm .memu = true) (hlanes_ : fm .lanes = true) (hpcb_ : fm .pcb = true) (hcantons_ : fm .cantons = true)
    (hstr_ : fm .str = true) (hservo_ : fm .servo = true) (hseq_ : fm .seq = true) (hclr_ : fm .clr = true)
    (hbufRecs_ : fm .bufRecs = true) (hstreamers_ : fm .streamers = true) (hlink_ : fm .link = true)
    (hcross_ : fm .cross = true) (hcal_ : fm .cal = true) (hdraws_ : fm .draws = true) (s : State) (c : Nat) (f : Nat)
    (r : Nat) :
    (State.clrReading s c f r).hide fm = s.hide fm := by
  unfold State.clrReading
  simp only [hide_ite, ite_self, State.clrMove_frame hregs_ hlanes_ hstr_ hseq_ hclr_ hdraws_, State.clrSlew_frame
    hregs_ hclr_ hcal_, State.clrTrip_frame hclk_ hregs_ hlog_ hstaff_ hresetting_ hmasked_ hports_ hwin_ htl_ hmemu_
    hlanes_ hpcb_ hcantons_ hstr_ hservo_ hseq_ hclr_ hbufRecs_ hstreamers_ hlink_ hcross_ hcal_ hdraws_,
    State.setClr_frame hclr_, State.set_frame hregs_]

theorem State.clrMissing_frame {fm : Part → Bool} (hclk_ : fm .clk = true) (hregs_ : fm .regs = true)
    (hlog_ : fm .log = true) (hstaff_ : fm .staff = true) (hresetting_ : fm .resetting = true)
    (hmasked_ : fm .masked = true) (hports_ : fm .ports = true) (hwin_ : fm .win = true) (htl_ : fm .tl = true)
    (hmemu_ : fm .memu = true) (hlanes_ : fm .lanes = true) (hpcb_ : fm .pcb = true) (hcantons_ : fm .cantons = true)
    (hstr_ : fm .str = true) (hservo_ : fm .servo = true) (hseq_ : fm .seq = true) (hclr_ : fm .clr = true)
    (hbufRecs_ : fm .bufRecs = true) (hstreamers_ : fm .streamers = true) (hlink_ : fm .link = true)
    (hcross_ : fm .cross = true) (hcal_ : fm .cal = true) (hdraws_ : fm .draws = true) (s : State) (c : Nat)
    (f : Nat) :
    (State.clrMissing s c f).hide fm = s.hide fm := by
  unfold State.clrMissing
  simp only [hide_ite, ite_self, State.clrMove_frame hregs_ hlanes_ hstr_ hseq_ hclr_ hdraws_, State.clrSlew_frame
    hregs_ hclr_ hcal_, State.clrTrip_frame hclk_ hregs_ hlog_ hstaff_ hresetting_ hmasked_ hports_ hwin_ htl_ hmemu_
    hlanes_ hpcb_ hcantons_ hstr_ hservo_ hseq_ hclr_ hbufRecs_ hstreamers_ hlink_ hcross_ hcal_ hdraws_,
    State.countSat_frame hregs_, State.setClr_frame hclr_]

theorem State.senseAll_frame {fm : Part → Bool} (hclk_ : fm .clk = true) (hregs_ : fm .regs = true)
    (hlog_ : fm .log = true) (hstaff_ : fm .staff = true) (hresetting_ : fm .resetting = true)
    (hmasked_ : fm .masked = true) (hports_ : fm .ports = true) (hwin_ : fm .win = true) (htl_ : fm .tl = true)
    (hmemu_ : fm .memu = true) (hlanes_ : fm .lanes = true) (hpcb_ : fm .pcb = true) (hcantons_ : fm .cantons = true)
    (hstr_ : fm .str = true) (hservo_ : fm .servo = true) (hseq_ : fm .seq = true) (hclr_ : fm .clr = true)
    (hbufRecs_ : fm .bufRecs = true) (hstreamers_ : fm .streamers = true) (hlink_ : fm .link = true)
    (hcross_ : fm .cross = true) (hcal_ : fm .cal = true) (hdraws_ : fm .draws = true) (s : State) (c : Nat)
    (r : List Nat) :
    (State.senseAll s c r).hide fm = s.hide fm := by
  unfold State.senseAll
  simp only [hide_ite, ite_self, State.clrReading_frame hclk_ hregs_ hlog_ hstaff_ hresetting_ hmasked_ hports_ hwin_
    htl_ hmemu_ hlanes_ hpcb_ hcantons_ hstr_ hservo_ hseq_ hclr_ hbufRecs_ hstreamers_ hlink_ hcross_ hcal_ hdraws_,
    State.each_frame, implies_true]

theorem State.senseNone_frame {fm : Part → Bool} (hclk_ : fm .clk = true) (hregs_ : fm .regs = true)
    (hlog_ : fm .log = true) (hstaff_ : fm .staff = true) (hresetting_ : fm .resetting = true)
    (hmasked_ : fm .masked = true) (hports_ : fm .ports = true) (hwin_ : fm .win = true) (htl_ : fm .tl = true)
    (hmemu_ : fm .memu = true) (hlanes_ : fm .lanes = true) (hpcb_ : fm .pcb = true) (hcantons_ : fm .cantons = true)
    (hstr_ : fm .str = true) (hservo_ : fm .servo = true) (hseq_ : fm .seq = true) (hclr_ : fm .clr = true)
    (hbufRecs_ : fm .bufRecs = true) (hstreamers_ : fm .streamers = true) (hlink_ : fm .link = true)
    (hcross_ : fm .cross = true) (hcal_ : fm .cal = true) (hdraws_ : fm .draws = true) (s : State) (c : Nat) :
    (State.senseNone s c).hide fm = s.hide fm := by
  unfold State.senseNone
  simp only [hide_ite, ite_self, State.clrMissing_frame hclk_ hregs_ hlog_ hstaff_ hresetting_ hmasked_ hports_ hwin_
    htl_ hmemu_ hlanes_ hpcb_ hcantons_ hstr_ hservo_ hseq_ hclr_ hbufRecs_ hstreamers_ hlink_ hcross_ hcal_ hdraws_,
    State.each_frame, implies_true]

theorem execClrRetry_frame {fm : Part → Bool} (hregs_ : fm .regs = true) (hclr_ : fm .clr = true) (c : Cluster)
    (f : Surface) (s : State) :
    Framed fm s (execClrRetry c f s) := by
  apply State.run_frame
  intro t
  simp only [hide_ite, ite_self, State.clrRamp_frame hregs_, State.setClr_frame hclr_, State.set_frame hregs_]

theorem State.clrRevs_frame {fm : Part → Bool} (hclr_ : fm .clr = true) (s : State) (c : Nat) :
    (State.clrRevs s c).hide fm = s.hide fm := by
  unfold State.clrRevs
  simp only [hide_ite, ite_self, State.each_frame, State.setClr_frame hclr_, implies_true]

theorem State.clrLate_frame {fm : Part → Bool} (hregs_ : fm .regs = true) (s : State) (c : Nat) :
    (State.clrLate s c).hide fm = s.hide fm := by
  unfold State.clrLate
  simp only [hide_ite, ite_self, State.countSat_frame hregs_, State.each_frame, implies_true]

theorem State.biasStep_frame {fm : Part → Bool} (hclk_ : fm .clk = true) (hregs_ : fm .regs = true)
    (hlog_ : fm .log = true) (hstaff_ : fm .staff = true) (hresetting_ : fm .resetting = true)
    (hmasked_ : fm .masked = true) (hports_ : fm .ports = true) (hwin_ : fm .win = true) (htl_ : fm .tl = true)
    (hmemu_ : fm .memu = true) (hlanes_ : fm .lanes = true) (hpcb_ : fm .pcb = true) (hcantons_ : fm .cantons = true)
    (hstr_ : fm .str = true) (hservo_ : fm .servo = true) (hseq_ : fm .seq = true) (hbiasA_ : fm .biasA = true)
    (hbufRecs_ : fm .bufRecs = true) (hstreamers_ : fm .streamers = true) (hlink_ : fm .link = true)
    (hcross_ : fm .cross = true) (hcal_ : fm .cal = true) (hdraws_ : fm .draws = true) (s : State) (c : Nat) :
    (State.biasStep s c).hide fm = s.hide fm := by
  unfold State.biasStep
  repeat' (first | simp only [hide_biasA hbiasA_, hide_ite, ite_self,
                 State.raiseC_frame hclk_ hregs_ hlog_ hstaff_ hresetting_ hmasked_ hports_ hwin_ htl_ hmemu_ hlanes_
                   hpcb_ hcantons_ hstr_ hservo_ hseq_ hbufRecs_ hstreamers_ hlink_ hcross_ hcal_ hdraws_,
                 State.set_frame hregs_, State.slew_frame hregs_ hcal_] | split
                 | refine (hide_foldl _ (fun t x => ?_) _ _).trans ?_)

theorem State.spinBoth_frame {fm : Part → Bool} (hspin_ : fm .spin = true) (s : State) (f : Spin → Spin) :
    (State.spinBoth s f).hide fm = s.hide fm := by
  unfold State.spinBoth
  simp only [State.setSpin_frame hspin_]

theorem State.spinLaw_frame {fm : Part → Bool} (hregs_ : fm .regs = true) (hspin_ : fm .spin = true)
    (hcal_ : fm .cal = true) (s : State) (e : Int) :
    (State.spinLaw s e).hide fm = s.hide fm := by
  unfold State.spinLaw
  repeat' (first | simp only [State.set_frame hregs_, State.slew_frame hregs_ hcal_,
                 State.spinBoth_frame hspin_] | split
                 | refine (hide_foldl _ (fun t x => ?_) _ _).trans ?_)

theorem State.spinTo_frame {fm : Part → Bool} (hregs_ : fm .regs = true) (hspin_ : fm .spin = true) (s : State)
    (st : Nat) :
    (State.spinTo s st).hide fm = s.hide fm := by
  unfold State.spinTo
  simp only [State.set_frame hregs_, State.spinBoth_frame hspin_]

theorem State.spindleFault_frame {fm : Part → Bool} (hclk_ : fm .clk = true) (hregs_ : fm .regs = true)
    (hlog_ : fm .log = true) (hstaff_ : fm .staff = true) (hresetting_ : fm .resetting = true)
    (hmasked_ : fm .masked = true) (hports_ : fm .ports = true) (hwin_ : fm .win = true) (htl_ : fm .tl = true)
    (hmemu_ : fm .memu = true) (hlanes_ : fm .lanes = true) (hpcb_ : fm .pcb = true) (hcantons_ : fm .cantons = true)
    (hstr_ : fm .str = true) (hservo_ : fm .servo = true) (hseq_ : fm .seq = true) (hbufRecs_ : fm .bufRecs = true)
    (hstreamers_ : fm .streamers = true) (hlink_ : fm .link = true) (hcross_ : fm .cross = true)
    (hcal_ : fm .cal = true) (hdraws_ : fm .draws = true) (s : State) :
    (State.spindleFault s).hide fm = s.hide fm := by
  unfold State.spindleFault
  simp only [State.loseSpindle_frame hregs_ hports_ hwin_ htl_ hlanes_ hpcb_ hcantons_ hstr_ hseq_ hbufRecs_
    hstreamers_ hlink_ hcal_ hdraws_, State.raise_frame hclk_ hregs_ hlog_ hstaff_ hresetting_ hmasked_ hports_ hwin_
    htl_ hmemu_ hlanes_ hpcb_ hcantons_ hstr_ hservo_ hseq_ hbufRecs_ hstreamers_ hlink_ hcross_ hcal_ hdraws_,
    State.set_frame hregs_]

theorem State.spinPeriod_frame {fm : Part → Bool} (hclk_ : fm .clk = true) (hregs_ : fm .regs = true)
    (hlog_ : fm .log = true) (hstaff_ : fm .staff = true) (hresetting_ : fm .resetting = true)
    (hmasked_ : fm .masked = true) (hports_ : fm .ports = true) (hwin_ : fm .win = true) (htl_ : fm .tl = true)
    (hmemu_ : fm .memu = true) (hlanes_ : fm .lanes = true) (hpcb_ : fm .pcb = true) (hcantons_ : fm .cantons = true)
    (hstr_ : fm .str = true) (hservo_ : fm .servo = true) (hseq_ : fm .seq = true) (hspin_ : fm .spin = true)
    (hbufRecs_ : fm .bufRecs = true) (hstreamers_ : fm .streamers = true) (hlink_ : fm .link = true)
    (hcross_ : fm .cross = true) (hcal_ : fm .cal = true) (hdraws_ : fm .draws = true) (s : State) (p : Nat) :
    (State.spinPeriod s p).hide fm = s.hide fm := by
  unfold State.spinPeriod
  simp only [hide_ite, ite_self, State.set_frame hregs_, State.spinBoth_frame hspin_, State.spinLaw_frame hregs_
    hspin_ hcal_, State.spinTo_frame hregs_ hspin_, State.spindleFault_frame hclk_ hregs_ hlog_ hstaff_ hresetting_
    hmasked_ hports_ hwin_ htl_ hmemu_ hlanes_ hpcb_ hcantons_ hstr_ hservo_ hseq_ hbufRecs_ hstreamers_ hlink_
    hcross_ hcal_ hdraws_]

theorem State.spinWd_frame {fm : Part → Bool} (hregs_ : fm .regs = true) (hspin_ : fm .spin = true)
    (hcal_ : fm .cal = true) (s : State) (c : Nat) (wtr : Nat) (n : Nat) :
    (State.spinWd s c wtr n).hide fm = s.hide fm := by
  unfold State.spinWd
  simp only [hide_ite, ite_self, State.set_frame hregs_, State.spinLaw_frame hregs_ hspin_ hcal_]

theorem State.spinZero_frame {fm : Part → Bool} (hclk_ : fm .clk = true) (hregs_ : fm .regs = true)
    (hlog_ : fm .log = true) (hstaff_ : fm .staff = true) (hresetting_ : fm .resetting = true)
    (hmasked_ : fm .masked = true) (hports_ : fm .ports = true) (hwin_ : fm .win = true) (htl_ : fm .tl = true)
    (hmemu_ : fm .memu = true) (hlanes_ : fm .lanes = true) (hpcb_ : fm .pcb = true) (hcantons_ : fm .cantons = true)
    (hstr_ : fm .str = true) (hservo_ : fm .servo = true) (hseq_ : fm .seq = true) (hspin_ : fm .spin = true)
    (hbufRecs_ : fm .bufRecs = true) (hstreamers_ : fm .streamers = true) (hlink_ : fm .link = true)
    (hcross_ : fm .cross = true) (hcal_ : fm .cal = true) (hdraws_ : fm .draws = true) (s : State) (valid : Bool)
    (t : Nat) :
    (State.spinZero s valid t).hide fm = s.hide fm := by
  unfold State.spinZero
  repeat' (first | simp only [hide_ite, ite_self, State.spinBoth_frame hspin_,
                 State.spinPeriod_frame hclk_ hregs_ hlog_ hstaff_ hresetting_ hmasked_ hports_ hwin_ htl_ hmemu_
                   hlanes_ hpcb_ hcantons_ hstr_ hservo_ hseq_ hspin_ hbufRecs_ hstreamers_ hlink_ hcross_ hcal_
                   hdraws_,
                 State.spinTo_frame hregs_ hspin_] | split)

theorem State.queueSpmode_frame {fm : Part → Bool} (hmcb_ : fm .mcb = true) (s : State) (mode : Nat) (pf : Bool) :
    (State.queueSpmode s mode pf).hide fm = s.hide fm := by
  unfold State.queueSpmode
  simp only [hide_mcb hmcb_]

theorem execSpinWatchEnd_frame {fm : Part → Bool} (hregs_ : fm .regs = true) (hmcb_ : fm .mcb = true)
    (hspin_ : fm .spin = true) (s : State) :
    Framed fm s (execSpinWatchEnd s) := by
  apply State.run_frame
  intro t
  simp only [hide_ite, ite_self, State.queueSpmode_frame hmcb_, State.spinBoth_frame hspin_, State.spinTo_frame hregs_
    hspin_]

theorem execSpinAlignEnd_frame {fm : Part → Bool} (hregs_ : fm .regs = true) (hspin_ : fm .spin = true) (s : State) :
    Framed fm s (execSpinAlignEnd s) := by
  apply State.run_frame
  intro t
  simp only [hide_ite, ite_self, State.spinBoth_frame hspin_, State.spinTo_frame hregs_ hspin_]

theorem execSpinNoZeroCrossing_frame {fm : Part → Bool} (hclk_ : fm .clk = true) (hregs_ : fm .regs = true)
    (hlog_ : fm .log = true) (hstaff_ : fm .staff = true) (hresetting_ : fm .resetting = true)
    (hmasked_ : fm .masked = true) (hports_ : fm .ports = true) (hwin_ : fm .win = true) (htl_ : fm .tl = true)
    (hmemu_ : fm .memu = true) (hlanes_ : fm .lanes = true) (hpcb_ : fm .pcb = true) (hcantons_ : fm .cantons = true)
    (hstr_ : fm .str = true) (hservo_ : fm .servo = true) (hseq_ : fm .seq = true) (hbufRecs_ : fm .bufRecs = true)
    (hstreamers_ : fm .streamers = true) (hlink_ : fm .link = true) (hcross_ : fm .cross = true)
    (hcal_ : fm .cal = true) (hdraws_ : fm .draws = true) (s : State) :
    Framed fm s (execSpinNoZeroCrossing s) := by
  apply State.run_frame
  intro t
  simp only [hide_ite, ite_self, State.spindleFault_frame hclk_ hregs_ hlog_ hstaff_ hresetting_ hmasked_ hports_
    hwin_ htl_ hmemu_ hlanes_ hpcb_ hcantons_ hstr_ hservo_ hseq_ hbufRecs_ hstreamers_ hlink_ hcross_ hcal_ hdraws_]

theorem execSpinupTimeout_frame {fm : Part → Bool} (hclk_ : fm .clk = true) (hregs_ : fm .regs = true)
    (hlog_ : fm .log = true) (hstaff_ : fm .staff = true) (hresetting_ : fm .resetting = true)
    (hmasked_ : fm .masked = true) (hports_ : fm .ports = true) (hwin_ : fm .win = true) (htl_ : fm .tl = true)
    (hmemu_ : fm .memu = true) (hlanes_ : fm .lanes = true) (hpcb_ : fm .pcb = true) (hcantons_ : fm .cantons = true)
    (hstr_ : fm .str = true) (hservo_ : fm .servo = true) (hseq_ : fm .seq = true) (hbufRecs_ : fm .bufRecs = true)
    (hstreamers_ : fm .streamers = true) (hlink_ : fm .link = true) (hcross_ : fm .cross = true)
    (hcal_ : fm .cal = true) (hdraws_ : fm .draws = true) (s : State) :
    Framed fm s (execSpinupTimeout s) := by
  apply State.run_frame
  intro t
  simp only [hide_ite, ite_self, State.raise_frame hclk_ hregs_ hlog_ hstaff_ hresetting_ hmasked_ hports_ hwin_ htl_
    hmemu_ hlanes_ hpcb_ hcantons_ hstr_ hservo_ hseq_ hbufRecs_ hstreamers_ hlink_ hcross_ hcal_ hdraws_]

theorem State.sprefAccept_frame {fm : Part → Bool} (hclk_ : fm .clk = true) (hregs_ : fm .regs = true)
    (hlog_ : fm .log = true) (hstaff_ : fm .staff = true) (hresetting_ : fm .resetting = true)
    (hmasked_ : fm .masked = true) (hports_ : fm .ports = true) (hwin_ : fm .win = true) (htl_ : fm .tl = true)
    (hmemu_ : fm .memu = true) (hlanes_ : fm .lanes = true) (hpcb_ : fm .pcb = true) (hcantons_ : fm .cantons = true)
    (hstr_ : fm .str = true) (hservo_ : fm .servo = true) (hseq_ : fm .seq = true) (hspin_ : fm .spin = true)
    (hbufRecs_ : fm .bufRecs = true) (hstreamers_ : fm .streamers = true) (hlink_ : fm .link = true)
    (hcross_ : fm .cross = true) (hcal_ : fm .cal = true) (hdraws_ : fm .draws = true) (s : State) (e : Nat) :
    (State.sprefAccept s e).hide fm = s.hide fm := by
  unfold State.sprefAccept
  repeat' (first | simp only [hide_ite, ite_self,
                 State.raise_frame hclk_ hregs_ hlog_ hstaff_ hresetting_ hmasked_ hports_ hwin_ htl_ hmemu_ hlanes_
                   hpcb_ hcantons_ hstr_ hservo_ hseq_ hbufRecs_ hstreamers_ hlink_ hcross_ hcal_ hdraws_,
                 State.set_frame hregs_, State.spinBoth_frame hspin_] | split)

theorem execSprefEdge_frame {fm : Part → Bool} (hclk_ : fm .clk = true) (hregs_ : fm .regs = true)
    (hlog_ : fm .log = true) (hstaff_ : fm .staff = true) (hresetting_ : fm .resetting = true)
    (hmasked_ : fm .masked = true) (hports_ : fm .ports = true) (hwin_ : fm .win = true) (htl_ : fm .tl = true)
    (hmemu_ : fm .memu = true) (hlanes_ : fm .lanes = true) (hpcb_ : fm .pcb = true) (hcantons_ : fm .cantons = true)
    (hstr_ : fm .str = true) (hservo_ : fm .servo = true) (hseq_ : fm .seq = true) (hspin_ : fm .spin = true)
    (hbufRecs_ : fm .bufRecs = true) (hstreamers_ : fm .streamers = true) (hlink_ : fm .link = true)
    (hcross_ : fm .cross = true) (hcal_ : fm .cal = true) (hdraws_ : fm .draws = true) (frac : Fin 16) (s : State) :
    Framed fm s (execSprefEdge frac s) := by
  apply State.run_frame
  intro t
  repeat' (first | simp only [hide_ite, ite_self, State.countSat_frame hregs_, State.spinBoth_frame hspin_,
                 State.sprefAccept_frame hclk_ hregs_ hlog_ hstaff_ hresetting_ hmasked_ hports_ hwin_ htl_ hmemu_
                   hlanes_ hpcb_ hcantons_ hstr_ hservo_ hseq_ hspin_ hbufRecs_ hstreamers_ hlink_ hcross_ hcal_
                   hdraws_]
                 | split)

theorem execSprefLost_frame {fm : Part → Bool} (hclk_ : fm .clk = true) (hregs_ : fm .regs = true)
    (hlog_ : fm .log = true) (hstaff_ : fm .staff = true) (hresetting_ : fm .resetting = true)
    (hmasked_ : fm .masked = true) (hports_ : fm .ports = true) (hwin_ : fm .win = true) (htl_ : fm .tl = true)
    (hmemu_ : fm .memu = true) (hlanes_ : fm .lanes = true) (hpcb_ : fm .pcb = true) (hcantons_ : fm .cantons = true)
    (hstr_ : fm .str = true) (hservo_ : fm .servo = true) (hseq_ : fm .seq = true) (hspin_ : fm .spin = true)
    (hbufRecs_ : fm .bufRecs = true) (hstreamers_ : fm .streamers = true) (hlink_ : fm .link = true)
    (hcross_ : fm .cross = true) (hcal_ : fm .cal = true) (hdraws_ : fm .draws = true) (s : State) :
    Framed fm s (execSprefLost s) := by
  apply State.run_frame
  intro t
  repeat' (first | simp only [hide_ite, ite_self,
                 State.raise_frame hclk_ hregs_ hlog_ hstaff_ hresetting_ hmasked_ hports_ hwin_ htl_ hmemu_ hlanes_
                   hpcb_ hcantons_ hstr_ hservo_ hseq_ hbufRecs_ hstreamers_ hlink_ hcross_ hcal_ hdraws_,
                 State.set_frame hregs_, State.spinBoth_frame hspin_] | split)

end Sys2Proof.Machine
end

