-- ==== Sys2Proof/Laws/FrameCalSlew.lean ====
section
/-! SUPPORT. Laws/FrameCalSlew.lean: which parts of the state the functions of Machine/CalSlew.lean can change. -/

namespace Sys2Proof.Machine

theorem State.showAdc_frame {fm : Part → Bool} (hregs_ : fm .regs = true) (s : State) (c : Nat) (f : Nat) :
    (State.showAdc s c f).hide fm = s.hide fm := by
  unfold State.showAdc
  simp only [State.each_frame, State.set_frame hregs_, implies_true]

theorem State.calLane_frame {fm : Part → Bool} (hregs_ : fm .regs = true) (hcal_ : fm .cal = true) (s : State)
    (c : Nat) (f : Nat) :
    (State.calLane s c f).hide fm = s.hide fm := by
  unfold State.calLane
  repeat' (first | simp only [hide_cal hcal_, hide_ite, ite_self, State.showAdc_frame hregs_] | split
                 | refine (hide_foldl _ (fun t x => ?_) _ _).trans ?_)

theorem State.calWd_frame {fm : Part → Bool} (hregs_ : fm .regs = true) (hcal_ : fm .cal = true) (s : State) (c : Nat) :
    (State.calWd s c).hide fm = s.hide fm := by
  unfold State.calWd
  simp only [hide_ite, ite_self, State.calLane_frame hregs_ hcal_, State.each_frame, implies_true]

end Sys2Proof.Machine
end

