-- ==== Sys2Proof/Laws/FrameRecorder.lean ====
section
/-! SUPPORT. Laws/FrameRecorder.lean: which parts of the state the functions of Machine/Recorder.lean can change. -/

namespace Sys2Proof.Machine

theorem State.lifeEntry_frame {fm : Part → Bool} (hlog_ : fm .log = true) (s : State) (k : LifeKind) :
    (State.lifeEntry s k).hide fm = s.hide fm := by
  unfold State.lifeEntry
  simp only [hide_log hlog_]

theorem State.gap_frame {fm : Part → Bool} (hregs_ : fm .regs = true) (hlog_ : fm .log = true) (s : State) (e : Nat) :
    (State.gap s e).hide fm = s.hide fm := by
  unfold State.gap
  repeat' (first | simp only [hide_log hlog_, hide_ite, ite_self, State.event_frame hregs_ hlog_]
                 | split)

theorem State.leaves_frame {fm : Part → Bool} (hregs_ : fm .regs = true) (hlog_ : fm .log = true) (s : State)
    (o : Option Event) :
    (State.leaves s o).hide fm = s.hide fm := by
  unfold State.leaves
  repeat' (first | simp only [hide_ite, ite_self, State.gap_frame hregs_ hlog_] | split)

theorem State.ringPush_frame {fm : Part → Bool} (hregs_ : fm .regs = true) (hlog_ : fm .log = true) (s : State)
    (e : Event) :
    (State.ringPush s e).hide fm = s.hide fm := by
  unfold State.ringPush
  simp only [hide_log hlog_, State.set_frame hregs_]

theorem State.store_frame {fm : Part → Bool} (hregs_ : fm .regs = true) (hlog_ : fm .log = true) (s : State)
    (a : Arrival) :
    (State.store s a).hide fm = s.hide fm := by
  unfold State.store
  simp only [State.leaves_frame hregs_ hlog_, State.lifeEntry_frame hlog_, State.ringPush_frame hregs_ hlog_,
    State.when_frame, implies_true]

theorem State.drainIntake_frame {fm : Part → Bool} (hregs_ : fm .regs = true) (hlog_ : fm .log = true) (s : State)
    (x1 : List Arrival) :
    (State.drainIntake s x1).hide fm = s.hide fm := by
  fun_induction State.drainIntake <;> simp_all only [hide_log hlog_, State.store_frame hregs_ hlog_]

theorem execEventStore_frame {fm : Part → Bool} (hregs_ : fm .regs = true) (hlog_ : fm .log = true) (s : State) :
    Framed fm s (execEventStore s) := by
  apply State.run_frame
  intro t
  repeat' (first | simp only [hide_log hlog_, hide_ite, State.store_frame hregs_ hlog_]
                 | split)

theorem execOpsecIncrement_frame {fm : Part → Bool} (hregs_ : fm .regs = true) (hlog_ : fm .log = true) (s : State) :
    Framed fm s (execOpsecIncrement s) := by
  apply State.run_frame
  intro t
  simp only [hide_log hlog_, hide_ite, ite_self, State.count_frame hregs_]

theorem execLifeRecordPeriodic_frame {fm : Part → Bool} (hlog_ : fm .log = true) (s : State) :
    Framed fm s (execLifeRecordPeriodic s) := by
  apply State.run_frame
  intro t
  simp only [hide_ite, ite_self, State.lifeEntry_frame hlog_]

theorem State.programFirst_frame {fm : Part → Bool} (hregs_ : fm .regs = true) (hlog_ : fm .log = true) (s : State)
    (e : Event) :
    (State.programFirst s e).hide fm = s.hide fm := by
  unfold State.programFirst
  simp only [hide_log hlog_, hide_ite, ite_self, State.set_frame hregs_]

theorem execFirstAreaProgram_frame {fm : Part → Bool} (hregs_ : fm .regs = true) (hlog_ : fm .log = true) (s : State) :
    Framed fm s (execFirstAreaProgram s) := by
  apply State.run_frame
  intro t
  repeat' (first | simp only [hide_log hlog_, State.programFirst_frame hregs_ hlog_] | split)

theorem execCalendarSet_frame {fm : Part → Bool} (hregs_ : fm .regs = true) (hlog_ : fm .log = true) (o : Origin)
    (s : State) :
    Framed fm s (execCalendarSet o s) := by
  apply State.run_frame
  intro t
  simp only [hide_log hlog_, State.event_frame hregs_ hlog_, State.set_frame hregs_]

theorem execCalendarClear_frame {fm : Part → Bool} (hregs_ : fm .regs = true) (hlog_ : fm .log = true) (o : Origin)
    (s : State) :
    Framed fm s (execCalendarClear o s) := by
  apply State.run_frame
  intro t
  simp only [State.logPriv_frame hregs_ hlog_, State.set_frame hregs_]

theorem execLogFreeze_frame {fm : Part → Bool} (hregs_ : fm .regs = true) (hlog_ : fm .log = true) (o : Origin)
    (s : State) :
    Framed fm s (execLogFreeze o s) := by
  apply State.run_frame
  intro t
  simp only [hide_log hlog_, hide_ite, ite_self, State.drainIntake_frame hregs_ hlog_, State.logPriv_frame hregs_
    hlog_, State.set_frame hregs_, State.store_frame hregs_ hlog_]

theorem State.thaw_frame {fm : Part → Bool} (hregs_ : fm .regs = true) (hlog_ : fm .log = true) (s : State)
    (origin : Nat) :
    (State.thaw s origin).hide fm = s.hide fm := by
  unfold State.thaw
  simp only [hide_log hlog_, State.set_frame hregs_]

theorem execLogThaw_frame {fm : Part → Bool} (hregs_ : fm .regs = true) (hlog_ : fm .log = true) (o : Origin)
    (s : State) :
    Framed fm s (execLogThaw o s) := by
  apply State.run_frame
  intro t
  simp only [hide_ite, ite_self, State.logPriv_frame hregs_ hlog_, State.set_frame hregs_, State.thaw_frame hregs_
    hlog_]

theorem execLogFreezeTimeout_frame {fm : Part → Bool} (hregs_ : fm .regs = true) (hlog_ : fm .log = true) (s : State) :
    Framed fm s (execLogFreezeTimeout s) := by
  apply State.run_frame
  intro t
  simp only [hide_ite, ite_self, State.thaw_frame hregs_ hlog_]

theorem execLogReadSelect_frame {fm : Part → Bool} (hregs_ : fm .regs = true) (hlog_ : fm .log = true) (o : Origin)
    (v : Word) (s : State) :
    Framed fm s (execLogReadSelect o v s) := by
  apply State.run_frame
  intro t
  simp only [hide_log hlog_, State.logPriv_frame hregs_ hlog_, State.set_frame hregs_, State.wr_frame hregs_]

theorem execLogReadDone_frame {fm : Part → Bool} (hregs_ : fm .regs = true) (hlog_ : fm .log = true) (s : State) :
    Framed fm s (execLogReadDone s) := by
  apply State.run_frame
  intro t
  repeat' (first | simp only [hide_log hlog_, State.each_frame,
                 State.set_frame hregs_, implies_true] | split)

end Sys2Proof.Machine
end

