-- ==== Sys2Proof/Laws/FrameCal.lean ====
section
/-! SUPPORT. Laws/FrameCal.lean: which parts of the state the functions of Machine/Cal.lean can change. -/

namespace Sys2Proof.Machine

theorem State.showTable_frame {fm : Part → Bool} (hregs_ : fm .regs = true) (s : State) (t : Nat) :
    (State.showTable s t).hide fm = s.hide fm := by
  unfold State.showTable
  simp only [hide_ite, ite_self, State.each_frame, State.set_frame hregs_, State.showAdc_frame hregs_, implies_true]

theorem State.takeTable_frame {fm : Part → Bool} (hregs_ : fm .regs = true) (hcal_ : fm .cal = true) (s : State)
    (t : Nat) (x : CalCopy) :
    (State.takeTable s t x).hide fm = s.hide fm := by
  unfold State.takeTable
  simp only [hide_cal hcal_, State.showTable_frame hregs_]

theorem State.loadTable_frame {fm : Part → Bool} (hregs_ : fm .regs = true) (hcal_ : fm .cal = true) (s : State)
    (p : Option CalCopy × Option CalCopy) (t : Nat) :
    (State.loadTable s p t).1.hide fm = s.hide fm := by
  unfold State.loadTable
  repeat' (first | simp only [State.takeTable_frame hregs_ hcal_] | split)

theorem State.loadCluster_frame {fm : Part → Bool} (hregs_ : fm .regs = true) (hcal_ : fm .cal = true) (s : State)
    (p : Option CalCopy × Option CalCopy) (c : Nat) :
    (State.loadCluster s p c).1.hide fm = s.hide fm := by
  unfold State.loadCluster
  repeat' (first | simp only [State.loadTable_frame hregs_ hcal_]
                 | split | refine (hide_foldl _ (fun t x => ?_) _ _).trans ?_
                 | refine (hide_foldl_fst _ (fun t x => ?_) _ _).trans ?_)

theorem State.calBusy_frame {fm : Part → Bool} (hregs_ : fm .regs = true) (hlog_ : fm .log = true) (s : State)
    (o : Origin) (a : Nat) (v : Nat) :
    (State.calBusy s o a v).hide fm = s.hide fm := by
  unfold State.calBusy
  simp only [State.logPriv_frame hregs_ hlog_, State.set_frame hregs_]

theorem State.calGo_frame {fm : Part → Bool} (hregs_ : fm .regs = true) (hlog_ : fm .log = true)
    (hcal_ : fm .cal = true) (s : State) (o : Origin) (kind : Nat) (c : Nat) (apply : Bool) (ready : Bool) :
    (State.calGo s o kind c apply ready).hide fm = s.hide fm := by
  unfold State.calGo
  simp only [hide_cal hcal_, hide_ite, ite_self, State.calBusy_frame hregs_ hlog_, State.logPriv_frame hregs_ hlog_,
    State.setOpen_frame hregs_, State.set_frame hregs_]

theorem execCalTimebase_frame {fm : Part → Bool} (hregs_ : fm .regs = true) (hlog_ : fm .log = true)
    (hcal_ : fm .cal = true) (o : Origin) (c : Cluster) (apply : Bool) (s : State) :
    Framed fm s (execCalTimebase o c apply s) := by
  apply State.run_frame
  intro t
  simp only [State.calGo_frame hregs_ hlog_ hcal_]

theorem execCalRefdac_frame {fm : Part → Bool} (hregs_ : fm .regs = true) (hlog_ : fm .log = true)
    (hcal_ : fm .cal = true) (o : Origin) (c : Cluster) (apply : Bool) (s : State) :
    Framed fm s (execCalRefdac o c apply s) := by
  apply State.run_frame
  intro t
  simp only [State.calGo_frame hregs_ hlog_ hcal_]

theorem execCalAnalog_frame {fm : Part → Bool} (hregs_ : fm .regs = true) (hlog_ : fm .log = true)
    (hcal_ : fm .cal = true) (o : Origin) (c : Cluster) (apply : Bool) (s : State) :
    Framed fm s (execCalAnalog o c apply s) := by
  apply State.run_frame
  intro t
  simp only [State.calGo_frame hregs_ hlog_ hcal_]

theorem execCalMedia_frame {fm : Part → Bool} (hregs_ : fm .regs = true) (hlog_ : fm .log = true)
    (hcal_ : fm .cal = true) (o : Origin) (c : Cluster) (apply : Bool) (s : State) :
    Framed fm s (execCalMedia o c apply s) := by
  apply State.run_frame
  intro t
  simp only [State.calGo_frame hregs_ hlog_ hcal_]

theorem execCalClusterClosed_frame {fm : Part → Bool} (hregs_ : fm .regs = true) (hcal_ : fm .cal = true) (s : State) :
    Framed fm s (execCalClusterClosed s) := by
  apply State.run_frame
  intro t
  repeat' (first | simp only [hide_cal hcal_, hide_ite, ite_self, State.set_frame hregs_] | split)

theorem State.calReopen_frame {fm : Part → Bool} (hregs_ : fm .regs = true) (s : State) (x : Session) :
    (State.calReopen s x).hide fm = s.hide fm := by
  unfold State.calReopen
  simp only [hide_ite, ite_self, State.setOpen_frame hregs_]

theorem State.stage_frame {fm : Part → Bool} (hcal_ : fm .cal = true) (s : State) (t : Nat) (l : List (List Nat)) :
    (State.stage s t l).hide fm = s.hide fm := by
  unfold State.stage
  simp only [hide_cal hcal_]

theorem State.slewTo_frame {fm : Part → Bool} (hcal_ : fm .cal = true) (s : State) (x : Fld) (v : Nat) :
    (State.slewTo s x v).hide fm = s.hide fm := by
  unfold State.slewTo
  simp only [hide_cal hcal_, hide_ite, ite_self]

theorem State.applyTable_frame {fm : Part → Bool} (hcal_ : fm .cal = true) (s : State) (t : Nat) :
    (State.applyTable s t).hide fm = s.hide fm := by
  unfold State.applyTable
  simp only [hide_cal hcal_, hide_ite, ite_self, State.each_frame, State.slewTo_frame hcal_, implies_true]

theorem State.calOk_frame {fm : Part → Bool} (hregs_ : fm .regs = true) (hcal_ : fm .cal = true) (s : State)
    (x : Session) (l : List (Nat × List (List Nat))) :
    (State.calOk s x l).hide fm = s.hide fm := by
  unfold State.calOk
  repeat' (first | simp only [hide_ite, State.applyTable_frame hcal_, State.calEnd_frame hregs_ hcal_,
                 State.calReopen_frame hregs_, State.count_frame hregs_, State.stage_frame hcal_] | split
                   | refine (hide_foldl _ (fun t x => ?_) _ _).trans ?_)

theorem State.calFails_frame {fm : Part → Bool} (hregs_ : fm .regs = true) (hcal_ : fm .cal = true) (s : State)
    (x : Session) (r : Nat) :
    (State.calFails s x r).hide fm = s.hide fm := by
  unfold State.calFails
  simp only [State.calEnd_frame hregs_ hcal_, State.calReopen_frame hregs_]

theorem State.calTables_frame {fm : Part → Bool} (hregs_ : fm .regs = true) (hcal_ : fm .cal = true) (s : State)
    (x : Session) (l : List (Nat × List (List Nat))) :
    (State.calTables s x l).hide fm = s.hide fm := by
  unfold State.calTables
  simp only [hide_ite, ite_self, State.calFails_frame hregs_ hcal_, State.calOk_frame hregs_ hcal_]

theorem State.trimOf_frame {fm : Part → Bool} (hdraws_ : fm .draws = true) (s : State) (n : Nat) :
    (State.trimOf s n).1.hide fm = s.hide fm := by
  unfold State.trimOf
  repeat' (first | simp only [State.draw_frame hdraws_] | split)

theorem State.calTimebase_frame {fm : Part → Bool} (hregs_ : fm .regs = true) (hports_ : fm .ports = true)
    (hcal_ : fm .cal = true) (hdraws_ : fm .draws = true) (s : State) (x : Session) (n : Nat) :
    (State.calTimebase s x n).hide fm = s.hide fm := by
  unfold State.calTimebase
  simp only [hide_ite, ite_self, State.calEnd_frame hregs_ hcal_, State.calOk_frame hregs_ hcal_,
    State.failAssumption_frame hports_, State.set_frame hregs_, State.stage_frame hcal_, State.trimOf_frame hdraws_,
    State.when_frame, implies_true]

theorem execCalSessionEnd_frame {fm : Part → Bool} (hregs_ : fm .regs = true) (hports_ : fm .ports = true)
    (hcal_ : fm .cal = true) (hdraws_ : fm .draws = true) (m : Measured) (s : State) :
    Framed fm s (execCalSessionEnd m s) := by
  apply State.run_frame
  intro t
  repeat' (first | simp only [hide_ite, ite_self, State.calFails_frame hregs_ hcal_, State.calOk_frame hregs_ hcal_,
                 State.calTables_frame hregs_ hcal_, State.calTimebase_frame hregs_ hports_ hcal_ hdraws_,
                 State.set_frame hregs_] | split)

theorem execCalrefPresentChange_frame {fm : Part → Bool} (hregs_ : fm .regs = true) (hcal_ : fm .cal = true)
    (present : Bool) (s : State) :
    Framed fm s (execCalrefPresentChange present s) := by
  apply State.run_frame
  intro t
  repeat' (first | simp only [hide_ite, ite_self, State.calFails_frame hregs_ hcal_, State.set_frame hregs_] | split)

theorem execCalStore_frame {fm : Part → Bool} (hregs_ : fm .regs = true) (hlog_ : fm .log = true)
    (hcal_ : fm .cal = true) (o : Origin) (s : State) :
    Framed fm s (execCalStore o s) := by
  apply State.run_frame
  intro t
  simp only [hide_cal hcal_, hide_ite, ite_self, State.calBusy_frame hregs_ hlog_, State.logPriv_frame hregs_ hlog_,
    State.set_frame hregs_]

theorem execCalStoreDone_frame {fm : Part → Bool} (hregs_ : fm .regs = true) (hcal_ : fm .cal = true) (same : Bool)
    (left : Option CalCopy) (s : State) :
    Framed fm s (execCalStoreDone same left s) := by
  apply State.run_frame
  intro t
  repeat' (first | simp only [hide_cal hcal_, State.set_frame hregs_] | split)

end Sys2Proof.Machine
end

