-- ==== Sys2Proof/Laws/FrameCache.lean ====
section
/-! SUPPORT. Laws/FrameCache.lean: which parts of the state the functions of Machine/Cache.lean can change. -/

namespace Sys2Proof.Machine

theorem State.setCache_frame {fm : Part → Bool} (hcache_ : fm .cache = true) (s : State) (d : Nat) (x : CacheDie) :
    (State.setCache s d x).hide fm = s.hide fm := by
  unfold State.setCache
  simp only [hide_cache hcache_]

theorem State.copyWords_frame {fm : Part → Bool} (hregs_ : fm .regs = true) (hlog_ : fm .log = true)
    (hmem_ : fm .mem = true) (hmemX_ : fm .memX = true) (hmemu_ : fm .memu = true) (s : State) (origin : Nat)
    (src : Nat) (dst : Nat) (x4 : Nat) :
    (State.copyWords s origin src dst x4).hide fm = s.hide fm := by
  induction x4 with
  | zero => rfl
  | succ n ih => exact ((State.putReq_frame hregs_ hlog_ hmem_ hmemX_ hmemu_) _ _ _ _).trans ih

theorem State.copyBlock_frame {fm : Part → Bool} (hregs_ : fm .regs = true) (hlog_ : fm .log = true)
    (hmem_ : fm .mem = true) (hmemX_ : fm .memX = true) (hmemu_ : fm .memu = true) (s : State) (src : Nat)
    (dst : Nat) :
    (State.copyBlock s src dst).hide fm = s.hide fm := by
  unfold State.copyBlock
  simp only [hide_regs_log_mem_memX_memu hregs_ hlog_ hmem_ hmemX_ hmemu_]

theorem State.putFrag_frame {fm : Part → Bool} (hregs_ : fm .regs = true) (hlog_ : fm .log = true)
    (hmem_ : fm .mem = true) (hmemX_ : fm .memX = true) (hmemu_ : fm .memu = true) (s : State) (origin : Nat)
    (key : Nat) (data : List Nat) :
    (State.putFrag s origin key data).hide fm = s.hide fm := by
  unfold State.putFrag
  simp only [hide_regs_log_mem_memX_memu hregs_ hlog_ hmem_ hmemX_ hmemu_]

theorem State.allocLine_frame {fm : Part → Bool} (hregs_ : fm .regs = true) (hlog_ : fm .log = true)
    (hmem_ : fm .mem = true) (hmemX_ : fm .memX = true) (hmemu_ : fm .memu = true) (hcache_ : fm .cache = true)
    (hstaged_ : fm .staged = true) (s : State) (lba : Nat) (r : State × Nat) (h : s.allocLine lba = some r) :
    r.1.hide fm = s.hide fm := by
  unfold State.allocLine at h
  simp only at h
  split at h
  · cases h; rfl
  · split at h
    · cases h; exact (State.setCache_frame hcache_) _ _ _
    · split at h
      · cases h
        simp only [(State.count_frame hregs_), (State.set_frame hregs_), (State.setCache_frame hcache_),
                       hide_staged hstaged_, (State.copyBlock_frame hregs_ hlog_ hmem_ hmemX_ hmemu_)]
      · cases h

theorem State.install_frame {fm : Part → Bool} (hregs_ : fm .regs = true) (hlog_ : fm .log = true)
    (hmem_ : fm .mem = true) (hmemX_ : fm .memX = true) (hmemu_ : fm .memu = true) (hcache_ : fm .cache = true)
    (hstaged_ : fm .staged = true) (s : State) (lba : Nat) (data : List Nat) (fetched : Bool) :
    (State.install s lba data fetched).hide fm = s.hide fm := by
  unfold State.install
  simp only
  split
  · rfl
  split
  · rfl
  split
  · exact (State.count_frame hregs_) _ _
  · rename_i h
    simp only [(State.count_frame hregs_), (State.setCache_frame hcache_),
                   (State.putFrag_frame hregs_ hlog_ hmem_ hmemX_ hmemu_),
                   (State.allocLine_frame hregs_ hlog_ hmem_ hmemX_ hmemu_ hcache_ hstaged_) s lba _ h]

theorem State.unpin_frame {fm : Part → Bool} (hcache_ : fm .cache = true) (s : State) (d : Nat) (i : Nat) :
    (State.unpin s d i).hide fm = s.hide fm := by
  unfold State.unpin
  simp only [State.setCache_frame hcache_]

theorem State.intakeBlock_frame {fm : Part → Bool} (hregs_ : fm .regs = true) (hlog_ : fm .log = true)
    (hmem_ : fm .mem = true) (hmemX_ : fm .memX = true) (hmemu_ : fm .memu = true) (hcache_ : fm .cache = true)
    (hstaged_ : fm .staged = true) (s : State) (c : Cmd) (i : Nat) :
    (State.intakeBlock s c i).1.hide fm = s.hide fm := by
  unfold State.intakeBlock
  simp only
  split
  · simp only [(State.count_frame hregs_), hide_staged hstaged_]
  split
  · simp only [(State.count_frame hregs_), hide_staged hstaged_]
  · rename_i h
    simp only [(State.setCache_frame hcache_),
                   (State.allocLine_frame hregs_ hlog_ hmem_ hmemX_ hmemu_ hcache_ hstaged_) s _ _ h]

theorem State.retireVersion_frame {fm : Part → Bool} (hregs_ : fm .regs = true) (hcache_ : fm .cache = true)
    (hstaged_ : fm .staged = true) (s : State) (c : Cmd) (lba : Nat) :
    (State.retireVersion s c lba).hide fm = s.hide fm := by
  unfold State.retireVersion
  repeat' (first | simp only [hide_regs hregs_, hide_staged hstaged_, hide_ite, ite_self,
                 State.setCache_frame hcache_, State.set_frame hregs_] | split)

theorem State.dropVersion_frame {fm : Part → Bool} (hregs_ : fm .regs = true) (hcache_ : fm .cache = true)
    (hstaged_ : fm .staged = true) (s : State) (id : Nat) (lba : Nat) :
    (State.dropVersion s id lba).hide fm = s.hide fm := by
  unfold State.dropVersion
  repeat' (first | simp only [hide_staged hstaged_, State.setCache_frame hcache_, State.set_frame hregs_] | split)

theorem State.faultStripe_frame {fm : Part → Bool} (hregs_ : fm .regs = true) (hports_ : fm .ports = true)
    (hwin_ : fm .win = true) (hcache_ : fm .cache = true) (hstaged_ : fm .staged = true) (hlink_ : fm .link = true)
    (s : State) (c : Cmd) (y : CmdStripe) :
    (State.faultStripe s c y).hide fm = s.hide fm := by
  unfold State.faultStripe
  repeat' (first | simp only [hide_ite, ite_self, State.dropVersion_frame hregs_ hcache_ hstaged_,
                 State.endIfSettled_frame hregs_ hports_ hwin_ hlink_, State.setCmd_frame hports_] | split
                   | refine (hide_foldl _ (fun t x => ?_) _ _).trans ?_)

theorem State.slotHit_frame {fm : Part → Bool} (hregs_ : fm .regs = true) (hports_ : fm .ports = true)
    (hwin_ : fm .win = true) (hcache_ : fm .cache = true) (hstaged_ : fm .staged = true) (hlink_ : fm .link = true)
    (s : State) (m : Nat) :
    (State.slotHit s m).hide fm = s.hide fm := by
  unfold State.slotHit
  repeat' (first | simp only [hide_ite, ite_self,
                 State.faultStripe_frame hregs_ hports_ hwin_ hcache_ hstaged_ hlink_, State.setCmd_frame hports_,
                 State.setFlag_frame hwin_] | split)

theorem execCacheInvalidate_frame {fm : Part → Bool} (hregs_ : fm .regs = true) (hlog_ : fm .log = true)
    (hcache_ : fm .cache = true) (o : Origin) (d : Die) (s : State) :
    Framed fm s (execCacheInvalidate o d s) := by
  apply State.run_frame
  intro t
  simp only [hide_ite, ite_self, State.logPriv_frame hregs_ hlog_, State.setCache_frame hcache_, State.set_frame
    hregs_]

theorem execInvalidateDone_frame {fm : Part → Bool} (hregs_ : fm .regs = true) (hcache_ : fm .cache = true) (d : Die)
    (s : State) :
    Framed fm s (execInvalidateDone d s) := by
  apply State.run_frame
  intro t
  simp only [hide_ite, ite_self, State.setCache_frame hcache_, State.set_frame hregs_]

theorem execCacheEnable_frame {fm : Part → Bool} (hregs_ : fm .regs = true) (hlog_ : fm .log = true) (o : Origin)
    (d : Die) (pfEn : Bool) (s : State) :
    Framed fm s (execCacheEnable o d pfEn s) := by
  apply State.run_frame
  intro t
  simp only [hide_ite, ite_self, State.logPriv_frame hregs_ hlog_, State.set_frame hregs_]

theorem execCacheDisable_frame {fm : Part → Bool} (hregs_ : fm .regs = true) (hlog_ : fm .log = true) (o : Origin)
    (d : Die) (pfEn : Bool) (s : State) :
    Framed fm s (execCacheDisable o d pfEn s) := by
  apply State.run_frame
  intro t
  simp only [hide_ite, ite_self, State.logPriv_frame hregs_ hlog_, State.set_frame hregs_]

theorem State.drainLines_frame {fm : Part → Bool} (hregs_ : fm .regs = true) (hlog_ : fm .log = true)
    (hmem_ : fm .mem = true) (hmemX_ : fm .memX = true) (hmemu_ : fm .memu = true) (hcache_ : fm .cache = true)
    (hstaged_ : fm .staged = true) (s : State) (d : Nat) (x2 : List Nat) :
    (State.drainLines s d x2).hide fm = s.hide fm := by
  induction x2 generalizing s with
  | nil => rfl
  | cons i is ih =>
    simp only [State.drainLines, ih, hide_ite, (State.setCache_frame hcache_), hide_staged hstaged_,
                   (State.copyBlock_frame hregs_ hlog_ hmem_ hmemX_ hmemu_), ite_self]

theorem execCacheDrainEnd_frame {fm : Part → Bool} (hregs_ : fm .regs = true) (hlog_ : fm .log = true)
    (hmem_ : fm .mem = true) (hmemX_ : fm .memX = true) (hmemu_ : fm .memu = true) (hcache_ : fm .cache = true)
    (hstaged_ : fm .staged = true) (d : Die) (s : State) :
    Framed fm s (execCacheDrainEnd d s) := by
  apply State.run_frame
  intro t
  simp only [hide_ite, ite_self, State.drainLines_frame hregs_ hlog_ hmem_ hmemX_ hmemu_ hcache_ hstaged_,
    State.setCache_frame hcache_, State.set_frame hregs_]

theorem execEvictionWriteDone_frame {fm : Part → Bool} (hregs_ : fm .regs = true) (hcache_ : fm .cache = true)
    (d : Die) (s : State) :
    Framed fm s (execEvictionWriteDone d s) := by
  apply State.run_frame
  intro t
  simp only [State.setCache_frame hcache_, State.set_frame hregs_]

theorem State.streamRead_frame {fm : Part → Bool} (hcache_ : fm .cache = true) (s : State) (d : Nat) (burgee : Nat)
    (lba : Nat) (count : Nat) :
    (State.streamRead s d burgee lba count).hide fm = s.hide fm := by
  unfold State.streamRead
  simp only [State.setCache_frame hcache_]

end Sys2Proof.Machine
end

