-- ==== Sys2Proof/Laws/FrameStreamers.lean ====
section
/-! SUPPORT. Laws/FrameStreamers.lean: which parts of the state the functions of Machine/Streamers.lean can change. -/

namespace Sys2Proof.Machine

theorem State.flipHost_frame {fm : Part → Bool} (hwin_ : fm .win = true) (s : State) (m : Nat) (x2 : Nat) :
    (State.flipHost s m x2).hide fm = s.hide fm := by
  induction x2 with
  | zero => rfl
  | succ n ih => simp only [State.flipHost, hide_ite, (State.setFlag_frame hwin_), ih, ite_self]

theorem State.delivered_frame {fm : Part → Bool} (hregs_ : fm .regs = true) (hports_ : fm .ports = true)
    (hwin_ : fm .win = true) (hlink_ : fm .link = true) (s : State) (id : Nat) (b : Nat) :
    (State.delivered s id b).hide fm = s.hide fm := by
  unfold State.delivered
  repeat' (first | split | simp only [hide_ite, ite_self, State.endCmd_frame hregs_ hports_ hwin_ hlink_,
                 State.setCmd_frame hports_])

theorem State.blockIn_frame {fm : Part → Bool} (hregs_ : fm .regs = true) (hports_ : fm .ports = true)
    (hwin_ : fm .win = true) (hcache_ : fm .cache = true) (hstaged_ : fm .staged = true) (hlink_ : fm .link = true)
    (s : State) (id : Nat) (b : Nat) :
    (State.blockIn s id b).hide fm = s.hide fm := by
  unfold State.blockIn
  repeat' (first | simp only [hide_ite, ite_self, State.dropVersion_frame hregs_ hcache_ hstaged_,
                 State.endIfSettled_frame hregs_ hports_ hwin_ hlink_, State.setCmd_frame hports_,
                 State.slotHit_frame hregs_ hports_ hwin_ hcache_ hstaged_ hlink_] | split)

theorem State.stmPulse_frame {fm : Part → Bool} (hregs_ : fm .regs = true) (hports_ : fm .ports = true)
    (hwin_ : fm .win = true) (hstr_ : fm .str = true) (hseq_ : fm .seq = true) (hcache_ : fm .cache = true)
    (hstaged_ : fm .staged = true) (hlink_ : fm .link = true) (s : State) (n : Nat) (job : Job) (d : Desc)
    (err : Bool) :
    (State.stmPulse s n job d err).hide fm = s.hide fm := by
  unfold State.stmPulse
  repeat' (first | simp only [hide_ite, ite_self, State.blockIn_frame hregs_ hports_ hwin_ hcache_ hstaged_ hlink_,
                 State.delivered_frame hregs_ hports_ hwin_ hlink_, State.flipHost_frame hwin_,
                 State.seqEvent_frame hseq_, State.setCache_frame hcache_, State.setCmd_frame hports_,
                 State.setStr_frame hstr_, State.unpin_frame hcache_] | split)

theorem State.stmPos_frame {fm : Part → Bool} (hregs_ : fm .regs = true) (s : State) (n : Nat) (src : Nat) (dst : Nat)
    (i0 : Nat) (i1 : Nat) (i2 : Nat) (off : Nat) :
    (State.stmPos s n src dst i0 i1 i2 off).hide fm = s.hide fm := by
  unfold State.stmPos
  simp only [State.set_frame hregs_]

theorem State.stmFault_frame {fm : Part → Bool} (hregs_ : fm .regs = true) (hports_ : fm .ports = true)
    (hwin_ : fm .win = true) (hstr_ : fm .str = true) (hseq_ : fm .seq = true) (hcache_ : fm .cache = true)
    (hstaged_ : fm .staged = true) (hstreamers_ : fm .streamers = true) (hlink_ : fm .link = true) (s : State)
    (n : Nat) (cause : Nat) (job : Job) (d : Desc) (pulse : Bool) :
    (State.stmFault s n cause job d pulse).hide fm = s.hide fm := by
  unfold State.stmFault
  simp only [hide_ite, ite_self, State.setStm_frame hstreamers_, State.set_frame hregs_, State.stmPulse_frame hregs_
    hports_ hwin_ hstr_ hseq_ hcache_ hstaged_ hlink_]

theorem State.stmBegin_frame {fm : Part → Bool} (hclk_ : fm .clk = true) (hregs_ : fm .regs = true)
    (hlog_ : fm .log = true) (hstaff_ : fm .staff = true) (hresetting_ : fm .resetting = true)
    (hmasked_ : fm .masked = true) (hports_ : fm .ports = true) (hwin_ : fm .win = true) (htl_ : fm .tl = true)
    (hmemu_ : fm .memu = true) (hlanes_ : fm .lanes = true) (hpcb_ : fm .pcb = true) (hcantons_ : fm .cantons = true)
    (hstr_ : fm .str = true) (hservo_ : fm .servo = true) (hseq_ : fm .seq = true) (hcache_ : fm .cache = true)
    (hstaged_ : fm .staged = true) (hbufRecs_ : fm .bufRecs = true) (hstreamers_ : fm .streamers = true)
    (hlink_ : fm .link = true) (hcross_ : fm .cross = true) (hcal_ : fm .cal = true) (hdraws_ : fm .draws = true)
    (s : State) (n : Nat) (j : Job) :
    (State.stmBegin s n j).hide fm = s.hide fm := by
  unfold State.stmBegin
  repeat' (first | simp only [hide_ite, ite_self,
                 State.raise_frame hclk_ hregs_ hlog_ hstaff_ hresetting_ hmasked_ hports_ hwin_ htl_ hmemu_ hlanes_
                   hpcb_ hcantons_ hstr_ hservo_ hseq_ hbufRecs_ hstreamers_ hlink_ hcross_ hcal_ hdraws_,
                 State.setStm_frame hstreamers_, State.set_frame hregs_,
                 State.stmFault_frame hregs_ hports_ hwin_ hstr_ hseq_ hcache_ hstaged_ hstreamers_ hlink_,
                 State.stmPos_frame hregs_] | split)

theorem State.stmStart_frame {fm : Part → Bool} (hclk_ : fm .clk = true) (hregs_ : fm .regs = true)
    (hlog_ : fm .log = true) (hstaff_ : fm .staff = true) (hresetting_ : fm .resetting = true)
    (hmasked_ : fm .masked = true) (hports_ : fm .ports = true) (hwin_ : fm .win = true) (htl_ : fm .tl = true)
    (hmemu_ : fm .memu = true) (hlanes_ : fm .lanes = true) (hpcb_ : fm .pcb = true) (hcantons_ : fm .cantons = true)
    (hstr_ : fm .str = true) (hservo_ : fm .servo = true) (hseq_ : fm .seq = true) (hcache_ : fm .cache = true)
    (hstaged_ : fm .staged = true) (hbufRecs_ : fm .bufRecs = true) (hstreamers_ : fm .streamers = true)
    (hlink_ : fm .link = true) (hcross_ : fm .cross = true) (hcal_ : fm .cal = true) (hdraws_ : fm .draws = true)
    (s : State) (n : Nat) (x2 : Nat) :
    (State.stmStart s n x2).hide fm = s.hide fm := by
  fun_induction State.stmStart <;> simp_all only [State.setStm_frame hstreamers_,
                 State.set_frame hregs_,
                 State.stmBegin_frame hclk_ hregs_ hlog_ hstaff_ hresetting_ hmasked_ hports_ hwin_ htl_ hmemu_
                   hlanes_ hpcb_ hcantons_ hstr_ hservo_ hseq_ hcache_ hstaged_ hbufRecs_ hstreamers_ hlink_ hcross_
                   hcal_ hdraws_]

theorem State.stmNext_frame {fm : Part → Bool} (hclk_ : fm .clk = true) (hregs_ : fm .regs = true)
    (hlog_ : fm .log = true) (hstaff_ : fm .staff = true) (hresetting_ : fm .resetting = true)
    (hmasked_ : fm .masked = true) (hports_ : fm .ports = true) (hwin_ : fm .win = true) (htl_ : fm .tl = true)
    (hmemu_ : fm .memu = true) (hlanes_ : fm .lanes = true) (hpcb_ : fm .pcb = true) (hcantons_ : fm .cantons = true)
    (hstr_ : fm .str = true) (hservo_ : fm .servo = true) (hseq_ : fm .seq = true) (hcache_ : fm .cache = true)
    (hstaged_ : fm .staged = true) (hbufRecs_ : fm .bufRecs = true) (hstreamers_ : fm .streamers = true)
    (hlink_ : fm .link = true) (hcross_ : fm .cross = true) (hcal_ : fm .cal = true) (hdraws_ : fm .draws = true)
    (s : State) (n : Nat) :
    (State.stmNext s n).hide fm = s.hide fm := by
  unfold State.stmNext
  simp only [State.stmStart_frame hclk_ hregs_ hlog_ hstaff_ hresetting_ hmasked_ hports_ hwin_ htl_ hmemu_ hlanes_
    hpcb_ hcantons_ hstr_ hservo_ hseq_ hcache_ hstaged_ hbufRecs_ hstreamers_ hlink_ hcross_ hcal_ hdraws_]

theorem State.stmQueue_frame {fm : Part → Bool} (hclk_ : fm .clk = true) (hregs_ : fm .regs = true)
    (hlog_ : fm .log = true) (hstaff_ : fm .staff = true) (hresetting_ : fm .resetting = true)
    (hmasked_ : fm .masked = true) (hports_ : fm .ports = true) (hwin_ : fm .win = true) (htl_ : fm .tl = true)
    (hmemu_ : fm .memu = true) (hlanes_ : fm .lanes = true) (hpcb_ : fm .pcb = true) (hcantons_ : fm .cantons = true)
    (hstr_ : fm .str = true) (hservo_ : fm .servo = true) (hseq_ : fm .seq = true) (hcache_ : fm .cache = true)
    (hstaged_ : fm .staged = true) (hbufRecs_ : fm .bufRecs = true) (hstreamers_ : fm .streamers = true)
    (hlink_ : fm .link = true) (hcross_ : fm .cross = true) (hcal_ : fm .cal = true) (hdraws_ : fm .draws = true)
    (s : State) (n : Nat) (j : Job) :
    (State.stmQueue s n j).hide fm = s.hide fm := by
  unfold State.stmQueue
  simp only [State.setStm_frame hstreamers_, State.set_frame hregs_, State.stmNext_frame hclk_ hregs_ hlog_ hstaff_
    hresetting_ hmasked_ hports_ hwin_ htl_ hmemu_ hlanes_ hpcb_ hcantons_ hstr_ hservo_ hseq_ hcache_ hstaged_
    hbufRecs_ hstreamers_ hlink_ hcross_ hcal_ hdraws_]

theorem State.stmDescEnd_frame {fm : Part → Bool} (hclk_ : fm .clk = true) (hregs_ : fm .regs = true)
    (hlog_ : fm .log = true) (hstaff_ : fm .staff = true) (hresetting_ : fm .resetting = true)
    (hmasked_ : fm .masked = true) (hports_ : fm .ports = true) (hwin_ : fm .win = true) (htl_ : fm .tl = true)
    (hmemu_ : fm .memu = true) (hlanes_ : fm .lanes = true) (hpcb_ : fm .pcb = true) (hcantons_ : fm .cantons = true)
    (hstr_ : fm .str = true) (hservo_ : fm .servo = true) (hseq_ : fm .seq = true) (hcache_ : fm .cache = true)
    (hstaged_ : fm .staged = true) (hbufRecs_ : fm .bufRecs = true) (hstreamers_ : fm .streamers = true)
    (hlink_ : fm .link = true) (hcross_ : fm .cross = true) (hcal_ : fm .cal = true) (hdraws_ : fm .draws = true)
    (s : State) (n : Nat) :
    (State.stmDescEnd s n).hide fm = s.hide fm := by
  unfold State.stmDescEnd
  repeat' (first | simp only [hide_ite, ite_self, State.countSat_frame hregs_,
                 State.raise_frame hclk_ hregs_ hlog_ hstaff_ hresetting_ hmasked_ hports_ hwin_ htl_ hmemu_ hlanes_
                   hpcb_ hcantons_ hstr_ hservo_ hseq_ hbufRecs_ hstreamers_ hlink_ hcross_ hcal_ hdraws_,
                 State.setStm_frame hstreamers_, State.set_frame hregs_,
                 State.stmBegin_frame hclk_ hregs_ hlog_ hstaff_ hresetting_ hmasked_ hports_ hwin_ htl_ hmemu_
                   hlanes_ hpcb_ hcantons_ hstr_ hservo_ hseq_ hcache_ hstaged_ hbufRecs_ hstreamers_ hlink_ hcross_
                   hcal_ hdraws_,
                 State.stmFault_frame hregs_ hports_ hwin_ hstr_ hseq_ hcache_ hstaged_ hstreamers_ hlink_,
                 State.stmNext_frame hclk_ hregs_ hlog_ hstaff_ hresetting_ hmasked_ hports_ hwin_ htl_ hmemu_ hlanes_
                   hpcb_ hcantons_ hstr_ hservo_ hseq_ hcache_ hstaged_ hbufRecs_ hstreamers_ hlink_ hcross_ hcal_
                   hdraws_,
                 State.stmPulse_frame hregs_ hports_ hwin_ hstr_ hseq_ hcache_ hstaged_ hlink_] | split)

theorem State.stmKick_frame {fm : Part → Bool} (hclk_ : fm .clk = true) (hregs_ : fm .regs = true)
    (hlog_ : fm .log = true) (hstaff_ : fm .staff = true) (hresetting_ : fm .resetting = true)
    (hmasked_ : fm .masked = true) (hports_ : fm .ports = true) (hwin_ : fm .win = true) (htl_ : fm .tl = true)
    (hmemu_ : fm .memu = true) (hlanes_ : fm .lanes = true) (hpcb_ : fm .pcb = true) (hcantons_ : fm .cantons = true)
    (hstr_ : fm .str = true) (hservo_ : fm .servo = true) (hseq_ : fm .seq = true) (hcache_ : fm .cache = true)
    (hstaged_ : fm .staged = true) (hbufRecs_ : fm .bufRecs = true) (hstreamers_ : fm .streamers = true)
    (hlink_ : fm .link = true) (hcross_ : fm .cross = true) (hcal_ : fm .cal = true) (hdraws_ : fm .draws = true)
    (s : State) (c : Nat) (addr : Nat) :
    (State.stmKick s c addr).hide fm = s.hide fm := by
  unfold State.stmKick
  simp only [hide_ite, ite_self, State.raise_frame hclk_ hregs_ hlog_ hstaff_ hresetting_ hmasked_ hports_ hwin_ htl_
    hmemu_ hlanes_ hpcb_ hcantons_ hstr_ hservo_ hseq_ hbufRecs_ hstreamers_ hlink_ hcross_ hcal_ hdraws_,
    State.seqEvent_frame hseq_, State.set_frame hregs_, State.stmQueue_frame hclk_ hregs_ hlog_ hstaff_ hresetting_
    hmasked_ hports_ hwin_ htl_ hmemu_ hlanes_ hpcb_ hcantons_ hstr_ hservo_ hseq_ hcache_ hstaged_ hbufRecs_
    hstreamers_ hlink_ hcross_ hcal_ hdraws_]

theorem State.general_frame {fm : Part → Bool} (hregs_ : fm .regs = true) (hlog_ : fm .log = true) (s : State)
    (n : Nat) (o : Origin) (a : Nat) (v : Nat) (f : State → State) (hf : ∀  t, (f  t).hide fm = t.hide fm) :
    (State.general s n o a v f).hide fm = s.hide fm := by
  unfold State.general
  simp only [hide_ite, ite_self, State.logPriv_frame hregs_ hlog_, State.set_frame hregs_, hf]

theorem execStmGo_frame {fm : Part → Bool} (hclk_ : fm .clk = true) (hregs_ : fm .regs = true)
    (hlog_ : fm .log = true) (hstaff_ : fm .staff = true) (hresetting_ : fm .resetting = true)
    (hmasked_ : fm .masked = true) (hports_ : fm .ports = true) (hwin_ : fm .win = true) (htl_ : fm .tl = true)
    (hmemu_ : fm .memu = true) (hlanes_ : fm .lanes = true) (hpcb_ : fm .pcb = true) (hcantons_ : fm .cantons = true)
    (hstr_ : fm .str = true) (hservo_ : fm .servo = true) (hseq_ : fm .seq = true) (hcache_ : fm .cache = true)
    (hstaged_ : fm .staged = true) (hbufRecs_ : fm .bufRecs = true) (hstreamers_ : fm .streamers = true)
    (hlink_ : fm .link = true) (hcross_ : fm .cross = true) (hcal_ : fm .cal = true) (hdraws_ : fm .draws = true)
    (o : Origin) (n : StreamerNo) (hi : Fin 8) (s : State) :
    Framed fm s (execStmGo o n hi s) := by
  apply State.run_frame
  intro t
  simp only [hide_ite, ite_self, State.logPriv_frame hregs_ hlog_, State.set_frame hregs_, State.stmBegin_frame hclk_
    hregs_ hlog_ hstaff_ hresetting_ hmasked_ hports_ hwin_ htl_ hmemu_ hlanes_ hpcb_ hcantons_ hstr_ hservo_ hseq_
    hcache_ hstaged_ hbufRecs_ hstreamers_ hlink_ hcross_ hcal_ hdraws_]

theorem execStmPause_frame {fm : Part → Bool} (hregs_ : fm .regs = true) (hlog_ : fm .log = true)
    (hstreamers_ : fm .streamers = true) (o : Origin) (n : StreamerNo) (s : State) :
    Framed fm s (execStmPause o n s) := by
  apply State.run_frame
  intro t
  simp only [hide_ite, ite_self, State.general_frame hregs_ hlog_, State.setStm_frame hstreamers_, State.set_frame
    hregs_, implies_true]

theorem execStmResume_frame {fm : Part → Bool} (hregs_ : fm .regs = true) (hlog_ : fm .log = true) (o : Origin)
    (n : StreamerNo) (s : State) :
    Framed fm s (execStmResume o n s) := by
  apply State.run_frame
  intro t
  simp only [hide_ite, ite_self, State.general_frame hregs_ hlog_, State.set_frame hregs_, implies_true]

theorem execStmStop_frame {fm : Part → Bool} (hregs_ : fm .regs = true) (hlog_ : fm .log = true)
    (hstreamers_ : fm .streamers = true) (o : Origin) (n : StreamerNo) (pause : Bool) (s : State) :
    Framed fm s (execStmStop o n pause s) := by
  apply State.run_frame
  intro t
  simp only [hide_ite, ite_self, State.general_frame hregs_ hlog_, State.set_frame hregs_, State.withdraw_frame hregs_
    hstreamers_, implies_true]

theorem State.burstCopy_frame {fm : Part → Bool} (hregs_ : fm .regs = true) (hlog_ : fm .log = true)
    (hports_ : fm .ports = true) (hmem_ : fm .mem = true) (hmemX_ : fm .memX = true) (hmemu_ : fm .memu = true)
    (s : State) (n : Nat) (d : Desc) (src : Nat) (dst : Nat) (len : Nat) :
    (State.burstCopy s n d src dst len).hide fm = s.hide fm := by
  unfold State.burstCopy
  repeat' (first | simp only [hide_regs hregs_, hide_ports hports_, hide_ite, ite_self,
                 State.copyWords_frame hregs_ hlog_ hmem_ hmemX_ hmemu_, State.countSat_frame hregs_,
                 State.violation_frame hregs_ hlog_] | split)

theorem State.afterBurst_frame {fm : Part → Bool} (hregs_ : fm .regs = true) (s : State) (n : Nat) (d : Desc)
    (w : Walk) (src : Nat) (dst : Nat) (len : Nat) :
    (State.afterBurst s n d w src dst len).hide fm = s.hide fm := by
  unfold State.afterBurst
  simp only [State.stmPos_frame hregs_]

theorem State.stmAhead_frame {fm : Part → Bool} (hregs_ : fm .regs = true) (hstreamers_ : fm .streamers = true)
    (s : State) (n : Nat) :
    (State.stmAhead s n).hide fm = s.hide fm := by
  unfold State.stmAhead
  repeat' (first | simp only [State.setStm_frame hstreamers_, State.set_frame hregs_,
                 State.stmPos_frame hregs_] | split)

theorem State.issuedWhole_frame {fm : Part → Bool} (hregs_ : fm .regs = true) (hstreamers_ : fm .streamers = true)
    (s : State) (n : Nat) (x : Streamer) (j : Job) (len : Nat) :
    (State.issuedWhole s n x j len).hide fm = s.hide fm := by
  unfold State.issuedWhole
  simp only [hide_ite, ite_self, State.setStm_frame hstreamers_, State.stmAhead_frame hregs_ hstreamers_]

theorem State.bursting_frame {fm : Part → Bool} (hports_ : fm .ports = true) (s : State) (j : Job) :
    (State.bursting s j).hide fm = s.hide fm := by
  unfold State.bursting
  repeat' (first | simp only [hide_ite, ite_self, State.setCmd_frame hports_] | split)

theorem State.jobUnpin_frame {fm : Part → Bool} (hcache_ : fm .cache = true) (s : State) (j : Job) :
    (State.jobUnpin s j).hide fm = s.hide fm := by
  unfold State.jobUnpin
  repeat' (first | simp only [State.unpin_frame hcache_] | split)

theorem State.dropJobsOf_frame {fm : Part → Bool} (hclk_ : fm .clk = true) (hregs_ : fm .regs = true)
    (hlog_ : fm .log = true) (hstaff_ : fm .staff = true) (hresetting_ : fm .resetting = true)
    (hmasked_ : fm .masked = true) (hports_ : fm .ports = true) (hwin_ : fm .win = true) (htl_ : fm .tl = true)
    (hmemu_ : fm .memu = true) (hlanes_ : fm .lanes = true) (hpcb_ : fm .pcb = true) (hcantons_ : fm .cantons = true)
    (hstr_ : fm .str = true) (hservo_ : fm .servo = true) (hseq_ : fm .seq = true) (hcache_ : fm .cache = true)
    (hstaged_ : fm .staged = true) (hbufRecs_ : fm .bufRecs = true) (hstreamers_ : fm .streamers = true)
    (hlink_ : fm .link = true) (hcross_ : fm .cross = true) (hcal_ : fm .cal = true) (hdraws_ : fm .draws = true)
    (s : State) (id : Nat) (n : Nat) :
    (State.dropJobsOf s id n).hide fm = s.hide fm := by
  unfold State.dropJobsOf
  repeat' (first | simp only [hide_ite, ite_self, State.jobUnpin_frame hcache_, State.setStm_frame hstreamers_,
                 State.set_frame hregs_, State.stmAhead_frame hregs_ hstreamers_,
                 State.stmNext_frame hclk_ hregs_ hlog_ hstaff_ hresetting_ hmasked_ hports_ hwin_ htl_ hmemu_ hlanes_
                   hpcb_ hcantons_ hstr_ hservo_ hseq_ hcache_ hstaged_ hbufRecs_ hstreamers_ hlink_ hcross_ hcal_
                   hdraws_] | split | refine (hide_foldl _ (fun t x => ?_) _ _).trans ?_)

theorem State.dropJobs_frame {fm : Part → Bool} (hclk_ : fm .clk = true) (hregs_ : fm .regs = true)
    (hlog_ : fm .log = true) (hstaff_ : fm .staff = true) (hresetting_ : fm .resetting = true)
    (hmasked_ : fm .masked = true) (hports_ : fm .ports = true) (hwin_ : fm .win = true) (htl_ : fm .tl = true)
    (hmemu_ : fm .memu = true) (hlanes_ : fm .lanes = true) (hpcb_ : fm .pcb = true) (hcantons_ : fm .cantons = true)
    (hstr_ : fm .str = true) (hservo_ : fm .servo = true) (hseq_ : fm .seq = true) (hcache_ : fm .cache = true)
    (hstaged_ : fm .staged = true) (hbufRecs_ : fm .bufRecs = true) (hstreamers_ : fm .streamers = true)
    (hlink_ : fm .link = true) (hcross_ : fm .cross = true) (hcal_ : fm .cal = true) (hdraws_ : fm .draws = true)
    (s : State) (id : Nat) :
    (State.dropJobs s id).hide fm = s.hide fm := by
  unfold State.dropJobs
  simp only [State.dropJobsOf_frame hclk_ hregs_ hlog_ hstaff_ hresetting_ hmasked_ hports_ hwin_ htl_ hmemu_ hlanes_
    hpcb_ hcantons_ hstr_ hservo_ hseq_ hcache_ hstaged_ hbufRecs_ hstreamers_ hlink_ hcross_ hcal_ hdraws_,
    State.each_frame, implies_true]

theorem State.issueBurst_frame {fm : Part → Bool} (hregs_ : fm .regs = true) (hlog_ : fm .log = true)
    (hports_ : fm .ports = true) (hwin_ : fm .win = true) (hmem_ : fm .mem = true) (hmemX_ : fm .memX = true)
    (hmemu_ : fm .memu = true) (hstr_ : fm .str = true) (hseq_ : fm .seq = true) (hcache_ : fm .cache = true)
    (hstaged_ : fm .staged = true) (hstreamers_ : fm .streamers = true) (hlink_ : fm .link = true) (s : State)
    (n : Nat) (x : Streamer) (j : Job) (d : Desc) :
    (State.issueBurst s n x j d).hide fm = s.hide fm := by
  unfold State.issueBurst
  simp only [hide_ite, ite_self, State.afterBurst_frame hregs_, State.burstCopy_frame hregs_ hlog_ hports_ hmem_
    hmemX_ hmemu_, State.bursting_frame hports_, State.issuedWhole_frame hregs_ hstreamers_, State.setStm_frame
    hstreamers_, State.stmFault_frame hregs_ hports_ hwin_ hstr_ hseq_ hcache_ hstaged_ hstreamers_ hlink_]

theorem execStmBurstIssue_frame {fm : Part → Bool} (hregs_ : fm .regs = true) (hlog_ : fm .log = true)
    (hports_ : fm .ports = true) (hwin_ : fm .win = true) (hmem_ : fm .mem = true) (hmemX_ : fm .memX = true)
    (hmemu_ : fm .memu = true) (hstr_ : fm .str = true) (hseq_ : fm .seq = true) (hcache_ : fm .cache = true)
    (hstaged_ : fm .staged = true) (hstreamers_ : fm .streamers = true) (hlink_ : fm .link = true) (n : StreamerNo)
    (s : State) :
    Framed fm s (execStmBurstIssue n s) := by
  apply State.run_frame
  intro t
  repeat' (first | simp only [hide_ite, ite_self,
                 State.issueBurst_frame hregs_ hlog_ hports_ hwin_ hmem_ hmemX_ hmemu_ hstr_ hseq_ hcache_ hstaged_
                   hstreamers_ hlink_]
                 | split)

theorem State.stmBytes_frame {fm : Part → Bool} (hregs_ : fm .regs = true) (hstreamers_ : fm .streamers = true)
    (s : State) (n : Nat) (len : Nat) :
    (State.stmBytes s n len).hide fm = s.hide fm := by
  unfold State.stmBytes
  simp only [State.addSat_frame hregs_, State.setStm_frame hstreamers_]

theorem execStmBurstAck_frame {fm : Part → Bool} (hclk_ : fm .clk = true) (hregs_ : fm .regs = true)
    (hlog_ : fm .log = true) (hstaff_ : fm .staff = true) (hresetting_ : fm .resetting = true)
    (hmasked_ : fm .masked = true) (hports_ : fm .ports = true) (hwin_ : fm .win = true) (htl_ : fm .tl = true)
    (hmemu_ : fm .memu = true) (hlanes_ : fm .lanes = true) (hpcb_ : fm .pcb = true) (hcantons_ : fm .cantons = true)
    (hstr_ : fm .str = true) (hservo_ : fm .servo = true) (hseq_ : fm .seq = true) (hcache_ : fm .cache = true)
    (hstaged_ : fm .staged = true) (hbufRecs_ : fm .bufRecs = true) (hstreamers_ : fm .streamers = true)
    (hlink_ : fm .link = true) (hcross_ : fm .cross = true) (hcal_ : fm .cal = true) (hdraws_ : fm .draws = true)
    (n : StreamerNo) (s : State) :
    Framed fm s (execStmBurstAck n s) := by
  apply State.run_frame
  intro t
  repeat' (first | simp only [hide_ite, ite_self, State.addSat_frame hregs_, State.countSat_frame hregs_,
                 State.setStm_frame hstreamers_, State.set_frame hregs_, State.stmBytes_frame hregs_ hstreamers_,
                 State.stmNext_frame hclk_ hregs_ hlog_ hstaff_ hresetting_ hmasked_ hports_ hwin_ htl_ hmemu_ hlanes_
                   hpcb_ hcantons_ hstr_ hservo_ hseq_ hcache_ hstaged_ hbufRecs_ hstreamers_ hlink_ hcross_ hcal_
                   hdraws_,
                 State.stmPulse_frame hregs_ hports_ hwin_ hstr_ hseq_ hcache_ hstaged_ hlink_] | split)

theorem State.trailFault_frame {fm : Part → Bool} (hregs_ : fm .regs = true) (hports_ : fm .ports = true)
    (hwin_ : fm .win = true) (hstr_ : fm .str = true) (hseq_ : fm .seq = true) (hcache_ : fm .cache = true)
    (hstaged_ : fm .staged = true) (hstreamers_ : fm .streamers = true) (hlink_ : fm .link = true) (s : State)
    (n : Nat) (j : Job) (k : Nat) :
    (State.trailFault s n j k).hide fm = s.hide fm := by
  unfold State.trailFault
  simp only [hide_ite, ite_self, State.setStm_frame hstreamers_, State.set_frame hregs_, State.stmPulse_frame hregs_
    hports_ hwin_ hstr_ hseq_ hcache_ hstaged_ hlink_]

theorem execStmBurstTimeout_frame {fm : Part → Bool} (hclk_ : fm .clk = true) (hregs_ : fm .regs = true)
    (hlog_ : fm .log = true) (hstaff_ : fm .staff = true) (hresetting_ : fm .resetting = true)
    (hmasked_ : fm .masked = true) (hports_ : fm .ports = true) (hwin_ : fm .win = true) (htl_ : fm .tl = true)
    (hmemu_ : fm .memu = true) (hlanes_ : fm .lanes = true) (hpcb_ : fm .pcb = true) (hcantons_ : fm .cantons = true)
    (hstr_ : fm .str = true) (hservo_ : fm .servo = true) (hseq_ : fm .seq = true) (hcache_ : fm .cache = true)
    (hstaged_ : fm .staged = true) (hbufRecs_ : fm .bufRecs = true) (hstreamers_ : fm .streamers = true)
    (hlink_ : fm .link = true) (hcross_ : fm .cross = true) (hcal_ : fm .cal = true) (hdraws_ : fm .draws = true)
    (n : StreamerNo) (s : State) :
    Framed fm s (execStmBurstTimeout n s) := by
  apply State.run_frame
  intro t
  repeat' (first | simp only [hide_ite, ite_self,
                 State.raise_frame hclk_ hregs_ hlog_ hstaff_ hresetting_ hmasked_ hports_ hwin_ htl_ hmemu_ hlanes_
                   hpcb_ hcantons_ hstr_ hservo_ hseq_ hbufRecs_ hstreamers_ hlink_ hcross_ hcal_ hdraws_,
                 State.stmFault_frame hregs_ hports_ hwin_ hstr_ hseq_ hcache_ hstaged_ hstreamers_ hlink_,
                 State.stmNext_frame hclk_ hregs_ hlog_ hstaff_ hresetting_ hmasked_ hports_ hwin_ htl_ hmemu_ hlanes_
                   hpcb_ hcantons_ hstr_ hservo_ hseq_ hcache_ hstaged_ hbufRecs_ hstreamers_ hlink_ hcross_ hcal_
                   hdraws_,
                 State.trailFault_frame hregs_ hports_ hwin_ hstr_ hseq_ hcache_ hstaged_ hstreamers_ hlink_] | split)

theorem execStmDescEnd_frame {fm : Part → Bool} (hclk_ : fm .clk = true) (hregs_ : fm .regs = true)
    (hlog_ : fm .log = true) (hstaff_ : fm .staff = true) (hresetting_ : fm .resetting = true)
    (hmasked_ : fm .masked = true) (hports_ : fm .ports = true) (hwin_ : fm .win = true) (htl_ : fm .tl = true)
    (hmemu_ : fm .memu = true) (hlanes_ : fm .lanes = true) (hpcb_ : fm .pcb = true) (hcantons_ : fm .cantons = true)
    (hstr_ : fm .str = true) (hservo_ : fm .servo = true) (hseq_ : fm .seq = true) (hcache_ : fm .cache = true)
    (hstaged_ : fm .staged = true) (hbufRecs_ : fm .bufRecs = true) (hstreamers_ : fm .streamers = true)
    (hlink_ : fm .link = true) (hcross_ : fm .cross = true) (hcal_ : fm .cal = true) (hdraws_ : fm .draws = true)
    (n : StreamerNo) (s : State) :
    Framed fm s (execStmDescEnd n s) := by
  apply State.run_frame
  intro t
  simp only [hide_ite, ite_self, State.stmDescEnd_frame hclk_ hregs_ hlog_ hstaff_ hresetting_ hmasked_ hports_ hwin_
    htl_ hmemu_ hlanes_ hpcb_ hcantons_ hstr_ hservo_ hseq_ hcache_ hstaged_ hbufRecs_ hstreamers_ hlink_ hcross_
    hcal_ hdraws_]

theorem State.linkFound_frame {fm : Part → Bool} (hclk_ : fm .clk = true) (hregs_ : fm .regs = true)
    (hlog_ : fm .log = true) (hstaff_ : fm .staff = true) (hresetting_ : fm .resetting = true)
    (hmasked_ : fm .masked = true) (hports_ : fm .ports = true) (hwin_ : fm .win = true) (htl_ : fm .tl = true)
    (hmemu_ : fm .memu = true) (hlanes_ : fm .lanes = true) (hpcb_ : fm .pcb = true) (hcantons_ : fm .cantons = true)
    (hstr_ : fm .str = true) (hservo_ : fm .servo = true) (hseq_ : fm .seq = true) (hcache_ : fm .cache = true)
    (hstaged_ : fm .staged = true) (hbufRecs_ : fm .bufRecs = true) (hstreamers_ : fm .streamers = true)
    (hlink_ : fm .link = true) (hcross_ : fm .cross = true) (hcal_ : fm .cal = true) (hdraws_ : fm .draws = true)
    (s : State) (n : Nat) (link : Nat) :
    (State.linkFound s n link).hide fm = s.hide fm := by
  unfold State.linkFound
  simp only [hide_ite, ite_self, State.countSat_frame hregs_, State.setStm_frame hstreamers_, State.set_frame hregs_,
    State.stmBegin_frame hclk_ hregs_ hlog_ hstaff_ hresetting_ hmasked_ hports_ hwin_ htl_ hmemu_ hlanes_ hpcb_
    hcantons_ hstr_ hservo_ hseq_ hcache_ hstaged_ hbufRecs_ hstreamers_ hlink_ hcross_ hcal_ hdraws_,
    State.stmNext_frame hclk_ hregs_ hlog_ hstaff_ hresetting_ hmasked_ hports_ hwin_ htl_ hmemu_ hlanes_ hpcb_
    hcantons_ hstr_ hservo_ hseq_ hcache_ hstaged_ hbufRecs_ hstreamers_ hlink_ hcross_ hcal_ hdraws_]

theorem execStmLinkReread_frame {fm : Part → Bool} (hclk_ : fm .clk = true) (hregs_ : fm .regs = true)
    (hlog_ : fm .log = true) (hstaff_ : fm .staff = true) (hresetting_ : fm .resetting = true)
    (hmasked_ : fm .masked = true) (hports_ : fm .ports = true) (hwin_ : fm .win = true) (htl_ : fm .tl = true)
    (hmemu_ : fm .memu = true) (hlanes_ : fm .lanes = true) (hpcb_ : fm .pcb = true) (hcantons_ : fm .cantons = true)
    (hstr_ : fm .str = true) (hservo_ : fm .servo = true) (hseq_ : fm .seq = true) (hcache_ : fm .cache = true)
    (hstaged_ : fm .staged = true) (hbufRecs_ : fm .bufRecs = true) (hstreamers_ : fm .streamers = true)
    (hlink_ : fm .link = true) (hcross_ : fm .cross = true) (hcal_ : fm .cal = true) (hdraws_ : fm .draws = true)
    (n : StreamerNo) (s : State) :
    Framed fm s (execStmLinkReread n s) := by
  apply State.run_frame
  intro t
  repeat' (first | simp only [hide_ite, State.linkFound_frame hclk_ hregs_ hlog_ hstaff_ hresetting_ hmasked_ hports_
                 hwin_ htl_ hmemu_ hlanes_ hpcb_ hcantons_ hstr_ hservo_ hseq_ hcache_ hstaged_ hbufRecs_ hstreamers_
                 hlink_ hcross_ hcal_ hdraws_,
                 State.raise_frame hclk_ hregs_ hlog_ hstaff_ hresetting_ hmasked_ hports_ hwin_ htl_ hmemu_ hlanes_
                   hpcb_ hcantons_ hstr_ hservo_ hseq_ hbufRecs_ hstreamers_ hlink_ hcross_ hcal_ hdraws_,
                 State.stmFault_frame hregs_ hports_ hwin_ hstr_ hseq_ hcache_ hstaged_ hstreamers_ hlink_,
                 State.stmNext_frame hclk_ hregs_ hlog_ hstaff_ hresetting_ hmasked_ hports_ hwin_ htl_ hmemu_ hlanes_
                   hpcb_ hcantons_ hstr_ hservo_ hseq_ hcache_ hstaged_ hbufRecs_ hstreamers_ hlink_ hcross_ hcal_
                   hdraws_]
                 | split)

theorem State.stmResetEnd_frame {fm : Part → Bool} (hclk_ : fm .clk = true) (hregs_ : fm .regs = true)
    (hlog_ : fm .log = true) (hstaff_ : fm .staff = true) (hresetting_ : fm .resetting = true)
    (hmasked_ : fm .masked = true) (hports_ : fm .ports = true) (hwin_ : fm .win = true) (htl_ : fm .tl = true)
    (hmemu_ : fm .memu = true) (hlanes_ : fm .lanes = true) (hpcb_ : fm .pcb = true) (hcantons_ : fm .cantons = true)
    (hstr_ : fm .str = true) (hservo_ : fm .servo = true) (hseq_ : fm .seq = true) (hcache_ : fm .cache = true)
    (hstaged_ : fm .staged = true) (hbufRecs_ : fm .bufRecs = true) (hstreamers_ : fm .streamers = true)
    (hlink_ : fm .link = true) (hcross_ : fm .cross = true) (hcal_ : fm .cal = true) (hdraws_ : fm .draws = true)
    (s : State) (n : Nat) :
    (State.stmResetEnd s n).hide fm = s.hide fm := by
  unfold State.stmResetEnd
  simp only [hide_ite, ite_self, State.setStm_frame hstreamers_, State.set_frame hregs_, State.stmNext_frame hclk_
    hregs_ hlog_ hstaff_ hresetting_ hmasked_ hports_ hwin_ htl_ hmemu_ hlanes_ hpcb_ hcantons_ hstr_ hservo_ hseq_
    hcache_ hstaged_ hbufRecs_ hstreamers_ hlink_ hcross_ hcal_ hdraws_]

theorem execStmStatusRead_frame {fm : Part → Bool} (n : StreamerNo) (s : State) :
    Framed fm s (execStmStatusRead n s) := by
  apply State.run_frame
  intro t
  simp only []

theorem State.serveCached_frame {fm : Part → Bool} (hclk_ : fm .clk = true) (hregs_ : fm .regs = true)
    (hlog_ : fm .log = true) (hstaff_ : fm .staff = true) (hresetting_ : fm .resetting = true)
    (hmasked_ : fm .masked = true) (hports_ : fm .ports = true) (hwin_ : fm .win = true) (htl_ : fm .tl = true)
    (hmemu_ : fm .memu = true) (hlanes_ : fm .lanes = true) (hpcb_ : fm .pcb = true) (hcantons_ : fm .cantons = true)
    (hstr_ : fm .str = true) (hservo_ : fm .servo = true) (hseq_ : fm .seq = true) (hcache_ : fm .cache = true)
    (hstaged_ : fm .staged = true) (hbufRecs_ : fm .bufRecs = true) (hstreamers_ : fm .streamers = true)
    (hlink_ : fm .link = true) (hcross_ : fm .cross = true) (hcal_ : fm .cal = true) (hdraws_ : fm .draws = true)
    (s : State) (c : Cmd) (unit : Nat) :
    (State.serveCached s c unit).hide fm = s.hide fm := by
  unfold State.serveCached
  repeat' (first | simp only [hide_ite, ite_self, State.countSat_frame hregs_, State.setCache_frame hcache_,
                 State.stmQueue_frame hclk_ hregs_ hlog_ hstaff_ hresetting_ hmasked_ hports_ hwin_ htl_ hmemu_
                   hlanes_ hpcb_ hcantons_ hstr_ hservo_ hseq_ hcache_ hstaged_ hbufRecs_ hstreamers_ hlink_ hcross_
                   hcal_ hdraws_] | split | refine (State.each_frame _ _ _ (fun i t => ?_)).trans ?_)

theorem State.intakeAll_frame {fm : Part → Bool} (hclk_ : fm .clk = true) (hregs_ : fm .regs = true)
    (hlog_ : fm .log = true) (hstaff_ : fm .staff = true) (hresetting_ : fm .resetting = true)
    (hmasked_ : fm .masked = true) (hports_ : fm .ports = true) (hwin_ : fm .win = true) (htl_ : fm .tl = true)
    (hmem_ : fm .mem = true) (hmemX_ : fm .memX = true) (hmemu_ : fm .memu = true) (hlanes_ : fm .lanes = true)
    (hpcb_ : fm .pcb = true) (hcantons_ : fm .cantons = true) (hstr_ : fm .str = true) (hservo_ : fm .servo = true)
    (hseq_ : fm .seq = true) (hcache_ : fm .cache = true) (hstaged_ : fm .staged = true)
    (hbufRecs_ : fm .bufRecs = true) (hstreamers_ : fm .streamers = true) (hlink_ : fm .link = true)
    (hcross_ : fm .cross = true) (hcal_ : fm .cal = true) (hdraws_ : fm .draws = true) (s : State) (c : Cmd) :
    (State.intakeAll s c).hide fm = s.hide fm := by
  unfold State.intakeAll
  simp only [State.each_frame, State.intakeBlock_frame hregs_ hlog_ hmem_ hmemX_ hmemu_ hcache_ hstaged_,
    State.stmQueue_frame hclk_ hregs_ hlog_ hstaff_ hresetting_ hmasked_ hports_ hwin_ htl_ hmemu_ hlanes_ hpcb_
    hcantons_ hstr_ hservo_ hseq_ hcache_ hstaged_ hbufRecs_ hstreamers_ hlink_ hcross_ hcal_ hdraws_, implies_true]

end Sys2Proof.Machine
end

