-- ==== Sys2Proof/Laws/FramePlacement.lean ====
section
/-! SUPPORT. Laws/FramePlacement.lean: which parts of the state the functions of Machine/Placement.lean can change. -/

namespace Sys2Proof.Machine

theorem State.leaveArms_frame {fm : Part → Bool} (htl_ : fm .tl = true) (s : State) (x : Search) (p : Plan) :
    (State.leaveArms s x p).hide fm = s.hide fm := by
  unfold State.leaveArms
  simp only [State.setTl_frame htl_]

end Sys2Proof.Machine
end

