-- ==== Sys2Proof/Laws/FrameTrial.lean ====
section
/-! SUPPORT. Laws/FrameTrial.lean: which parts of the state the functions of Machine/Trial.lean can change. -/

namespace Sys2Proof.Machine

theorem State.putPlan_frame {fm : Part → Bool} (htl_ : fm .tl = true) (s : State) (x : Search) (key : Nat) (bor : Nat)
    (p : Plan) :
    (State.putPlan s x key bor p).1.hide fm = s.hide fm := by
  unfold State.putPlan
  simp only [State.setTl_frame htl_]

theorem State.commitPlan_frame {fm : Part → Bool} (hports_ : fm .ports = true) (htl_ : fm .tl = true) (s : State)
    (x : Search) (key : Nat) (bor : Nat) (p : Plan) :
    (State.commitPlan s x key bor p).hide fm = s.hide fm := by
  unfold State.commitPlan
  repeat' (first | simp only [State.putPlan_frame htl_, State.refund_frame hports_ htl_] | split
                 | refine (hide_foldl _ (fun t x => ?_) _ _).trans ?_)

theorem State.overlay_frame {fm : Part → Bool} (hports_ : fm .ports = true) (htl_ : fm .tl = true) (s : State) :
    (State.overlay s).hide fm = s.hide fm := by
  unfold State.overlay
  repeat' (first | simp only [hide_ports hports_, State.putPlan_frame htl_] | split
                 | refine (hide_foldl _ (fun t x => ?_) _ _).trans ?_)

theorem State.release_frame {fm : Part → Bool} (hports_ : fm .ports = true) (htl_ : fm .tl = true) (s : State)
    (x : Tent) :
    (State.release s x).hide fm = s.hide fm := by
  unfold State.release
  repeat' (first | simp only [hide_ports hports_, hide_ite, State.leaveArms_frame htl_] | split
                 | refine (hide_foldl _ (fun t x => ?_) _ _).trans ?_)

theorem State.meeting_frame {fm : Part → Bool} (hports_ : fm .ports = true) (s : State) (met : Nat) :
    (State.meeting s met).hide fm = s.hide fm := by
  unfold State.meeting
  simp only [hide_ports hports_]

theorem State.undueStripe_frame {fm : Part → Bool} (htl_ : fm .tl = true) (s : State) (c : Cmd) (x : CmdStripe) :
    (State.undueStripe s c x).hide fm = s.hide fm := by
  unfold State.undueStripe
  simp only [State.setTl_frame htl_]

theorem State.tryPlace_frame {fm : Part → Bool} (hports_ : fm .ports = true) (htl_ : fm .tl = true) (noBorrow : Bool)
    (ks : List Nat) (r : Trial) :
    (State.tryPlace noBorrow ks r).s.hide fm = r.s.hide fm := by
  induction ks generalizing r with
  | nil => rfl
  | cons k ks ih =>
    unfold State.tryPlace
    simp only
    split
    · rw [ih]; exact (State.commitPlan_frame hports_ htl_) _ _ _ _ _
    · rw [ih]

theorem State.placeWork_frame {fm : Part → Bool} (hports_ : fm .ports = true) (htl_ : fm .tl = true) (s : State)
    (x : Cmd) (c : Nat) (h : Nat) (pick : CmdStripe → Bool) :
    (State.placeWork s x c h pick).hide fm = s.hide fm := by
  unfold State.placeWork
  split
  · rfl
  · simp only
    split
    · rfl
    · generalize hr : State.tryPlace false _ _ = r
      have e : r.s.hide fm = s.hide fm := by rw [← hr, (State.tryPlace_frame hports_ htl_)]
      clear hr
      split
      · split
        · exact ((State.setCmd_frame hports_) _ _).trans e
        · exact ((State.addCmd_frame hports_) _ _).trans e
      · rfl

theorem State.endWork_frame {fm : Part → Bool} (hports_ : fm .ports = true) (htl_ : fm .tl = true) (s : State)
    (x : Cmd) :
    (State.endWork s x).hide fm = s.hide fm := by
  unfold State.endWork
  simp only [State.setCmd_frame hports_, State.tidy_frame hports_ htl_]

end Sys2Proof.Machine
end

