-- ==== Sys2Proof/Laws/FramePorts.lean ====
section
/-! SUPPORT. Laws/FramePorts.lean: which parts of the state the functions of Machine/Ports.lean can change. -/

namespace Sys2Proof.Machine

theorem State.abortActs_frame {fm : Part → Bool} (hclk_ : fm .clk = true) (hregs_ : fm .regs = true)
    (hlog_ : fm .log = true) (hstaff_ : fm .staff = true) (hresetting_ : fm .resetting = true)
    (hmasked_ : fm .masked = true) (hports_ : fm .ports = true) (hwin_ : fm .win = true) (htl_ : fm .tl = true)
    (hmemu_ : fm .memu = true) (hlanes_ : fm .lanes = true) (hpcb_ : fm .pcb = true) (hcantons_ : fm .cantons = true)
    (hstr_ : fm .str = true) (hservo_ : fm .servo = true) (hseq_ : fm .seq = true) (hcache_ : fm .cache = true)
    (hstaged_ : fm .staged = true) (hbufRecs_ : fm .bufRecs = true) (hstreamers_ : fm .streamers = true)
    (hlink_ : fm .link = true) (hcross_ : fm .cross = true) (hcal_ : fm .cal = true) (hdraws_ : fm .draws = true)
    (s : State) (victim : Nat) (aborter : Nat) :
    (State.abortActs s victim aborter).hide fm = s.hide fm := by
  unfold State.abortActs
  split
  · simp only
    split
    · exact (State.endAbort_frame hregs_ hports_ hlink_) _ _ _
    rw [hide_ite]
    refine ite_eq_iff'.2 ⟨fun _ => (State.setCmd_frame hports_) _ _, fun _ => ?_⟩
    rw [(State.tidy_frame hports_ htl_), (State.endIfSettled_frame hregs_ hports_ hwin_ hlink_),
                   (State.setCmd_frame hports_), (State.setCmd_frame hports_)]
    simp only [hide_ite,
                   (State.dropJobs_frame hclk_ hregs_ hlog_ hstaff_ hresetting_ hmasked_ hports_ hwin_ htl_ hmemu_
                     hlanes_ hpcb_ hcantons_ hstr_ hservo_ hseq_ hcache_ hstaged_ hbufRecs_ hstreamers_ hlink_ hcross_
                     hcal_ hdraws_),
                   ite_self]
    refine (hide_foldl _ (fun t x => (State.undueStripe_frame htl_) _ _ _) _ _).trans ?_
    refine State.each_frame _ _ _ (fun i t => ?_)
    simp only [hide_ite, (State.releaseOn_frame hports_ htl_), (State.seqIrq_frame hregs_), ite_self]
  · rfl

theorem State.setAdq_frame {fm : Part → Bool} (hports_ : fm .ports = true) (s : State) (d : Nat) (l : List Nat) :
    (State.setAdq s d l).hide fm = s.hide fm := by
  unfold State.setAdq
  simp only [hide_ports hports_, hide_ite, ite_self]

theorem State.takeSlotFlags_frame {fm : Part → Bool} (hwin_ : fm .win = true) (s : State) (x1 : List Nat) :
    (State.takeSlotFlags s x1).hide fm = s.hide fm := by
  fun_induction State.takeSlotFlags <;> simp_all only [State.setFlag_frame hwin_]

theorem State.hoistAbort_frame {fm : Part → Bool} (hclk_ : fm .clk = true) (hregs_ : fm .regs = true)
    (hlog_ : fm .log = true) (hstaff_ : fm .staff = true) (hresetting_ : fm .resetting = true)
    (hmasked_ : fm .masked = true) (hports_ : fm .ports = true) (hwin_ : fm .win = true) (htl_ : fm .tl = true)
    (hmemu_ : fm .memu = true) (hlanes_ : fm .lanes = true) (hpcb_ : fm .pcb = true) (hcantons_ : fm .cantons = true)
    (hstr_ : fm .str = true) (hservo_ : fm .servo = true) (hseq_ : fm .seq = true) (hcache_ : fm .cache = true)
    (hstaged_ : fm .staged = true) (hbufRecs_ : fm .bufRecs = true) (hstreamers_ : fm .streamers = true)
    (hlink_ : fm .link = true) (hcross_ : fm .cross = true) (hcal_ : fm .cal = true) (hdraws_ : fm .draws = true)
    (s : State) (c : Cmd) :
    (State.hoistAbort s c).hide fm = s.hide fm := by
  unfold State.hoistAbort
  repeat' (first | simp only [hide_ite, ite_self,
                 State.abortActs_frame hclk_ hregs_ hlog_ hstaff_ hresetting_ hmasked_ hports_ hwin_ htl_ hmemu_
                   hlanes_ hpcb_ hcantons_ hstr_ hservo_ hseq_ hcache_ hstaged_ hbufRecs_ hstreamers_ hlink_ hcross_
                   hcal_ hdraws_,
                 State.endAbort_frame hregs_ hports_ hlink_, State.promiseRec_frame hregs_ hports_ hlink_,
                 State.setCmd_frame hports_] | split)

theorem State.blockPrefetch_frame {fm : Part → Bool} (hports_ : fm .ports = true) (s : State) (c : Cmd) :
    (State.blockPrefetch s c).hide fm = s.hide fm := by
  unfold State.blockPrefetch
  simp only [hide_ports hports_, hide_ite, ite_self]

theorem State.latch_frame {fm : Part → Bool} (hclk_ : fm .clk = true) (hregs_ : fm .regs = true)
    (hlog_ : fm .log = true) (hstaff_ : fm .staff = true) (hresetting_ : fm .resetting = true)
    (hmasked_ : fm .masked = true) (hports_ : fm .ports = true) (hwin_ : fm .win = true) (htl_ : fm .tl = true)
    (hmemu_ : fm .memu = true) (hlanes_ : fm .lanes = true) (hpcb_ : fm .pcb = true) (hcantons_ : fm .cantons = true)
    (hstr_ : fm .str = true) (hservo_ : fm .servo = true) (hseq_ : fm .seq = true) (hcache_ : fm .cache = true)
    (hstaged_ : fm .staged = true) (hbufRecs_ : fm .bufRecs = true) (hstreamers_ : fm .streamers = true)
    (hlink_ : fm .link = true) (hcross_ : fm .cross = true) (hcal_ : fm .cal = true) (hdraws_ : fm .draws = true)
    (s : State) (n : Nat) (src : Option (Nat × Nat)) :
    (State.latch s n src).hide fm = s.hide fm := by
  unfold State.latch
  repeat' (first | simp only [hide_clk hclk_, hide_link hlink_, hide_ite, ite_self,
                 State.addCmd_frame hports_, State.blockPrefetch_frame hports_,
                 State.hoistAbort_frame hclk_ hregs_ hlog_ hstaff_ hresetting_ hmasked_ hports_ hwin_ htl_ hmemu_
                   hlanes_ hpcb_ hcantons_ hstr_ hservo_ hseq_ hcache_ hstaged_ hbufRecs_ hstreamers_ hlink_ hcross_
                   hcal_ hdraws_,
                 State.refuse_frame hregs_ hports_ hwin_ hlink_, State.setAdq_frame hports_,
                 State.setCmd_frame hports_, State.set_frame hregs_, State.streamRead_frame hcache_,
                 State.takeCells_frame hregs_, State.takeSlotFlags_frame hwin_] | split)

theorem State.hoist_frame {fm : Part → Bool} (hclk_ : fm .clk = true) (hregs_ : fm .regs = true)
    (hlog_ : fm .log = true) (hstaff_ : fm .staff = true) (hresetting_ : fm .resetting = true)
    (hmasked_ : fm .masked = true) (hports_ : fm .ports = true) (hwin_ : fm .win = true) (htl_ : fm .tl = true)
    (hmemu_ : fm .memu = true) (hlanes_ : fm .lanes = true) (hpcb_ : fm .pcb = true) (hcantons_ : fm .cantons = true)
    (hstr_ : fm .str = true) (hservo_ : fm .servo = true) (hseq_ : fm .seq = true) (hcache_ : fm .cache = true)
    (hstaged_ : fm .staged = true) (hbufRecs_ : fm .bufRecs = true) (hstreamers_ : fm .streamers = true)
    (hlink_ : fm .link = true) (hcross_ : fm .cross = true) (hcal_ : fm .cal = true) (hdraws_ : fm .draws = true)
    (s : State) (o : Origin) (n : Nat) :
    (State.hoist s o n).hide fm = s.hide fm := by
  unfold State.hoist
  simp only [hide_ports hports_, hide_ite, ite_self, State.countSat_frame hregs_, State.latch_frame hclk_ hregs_ hlog_
    hstaff_ hresetting_ hmasked_ hports_ hwin_ htl_ hmemu_ hlanes_ hpcb_ hcantons_ hstr_ hservo_ hseq_ hcache_
    hstaged_ hbufRecs_ hstreamers_ hlink_ hcross_ hcal_ hdraws_, State.set_frame hregs_]

theorem State.hoistRow_frame {fm : Part → Bool} (hclk_ : fm .clk = true) (hregs_ : fm .regs = true)
    (hlog_ : fm .log = true) (hstaff_ : fm .staff = true) (hresetting_ : fm .resetting = true)
    (hmasked_ : fm .masked = true) (hports_ : fm .ports = true) (hwin_ : fm .win = true) (htl_ : fm .tl = true)
    (hmemu_ : fm .memu = true) (hlanes_ : fm .lanes = true) (hpcb_ : fm .pcb = true) (hcantons_ : fm .cantons = true)
    (hstr_ : fm .str = true) (hservo_ : fm .servo = true) (hseq_ : fm .seq = true) (hcache_ : fm .cache = true)
    (hstaged_ : fm .staged = true) (hbufRecs_ : fm .bufRecs = true) (hstreamers_ : fm .streamers = true)
    (hlink_ : fm .link = true) (hcross_ : fm .cross = true) (hcal_ : fm .cal = true) (hdraws_ : fm .draws = true)
    (s : State) (o : Origin) (n : Nat) (p : Nat → Bool) :
    (State.hoistRow s o n p).hide fm = s.hide fm := by
  unfold State.hoistRow
  simp only [hide_ite, ite_self, State.hoist_frame hclk_ hregs_ hlog_ hstaff_ hresetting_ hmasked_ hports_ hwin_ htl_
    hmemu_ hlanes_ hpcb_ hcantons_ hstr_ hservo_ hseq_ hcache_ hstaged_ hbufRecs_ hstreamers_ hlink_ hcross_ hcal_
    hdraws_]

theorem execHoistRead_frame {fm : Part → Bool} (hclk_ : fm .clk = true) (hregs_ : fm .regs = true)
    (hlog_ : fm .log = true) (hstaff_ : fm .staff = true) (hresetting_ : fm .resetting = true)
    (hmasked_ : fm .masked = true) (hports_ : fm .ports = true) (hwin_ : fm .win = true) (htl_ : fm .tl = true)
    (hmemu_ : fm .memu = true) (hlanes_ : fm .lanes = true) (hpcb_ : fm .pcb = true) (hcantons_ : fm .cantons = true)
    (hstr_ : fm .str = true) (hservo_ : fm .servo = true) (hseq_ : fm .seq = true) (hcache_ : fm .cache = true)
    (hstaged_ : fm .staged = true) (hbufRecs_ : fm .bufRecs = true) (hstreamers_ : fm .streamers = true)
    (hlink_ : fm .link = true) (hcross_ : fm .cross = true) (hcal_ : fm .cal = true) (hdraws_ : fm .draws = true)
    (o : Origin) (n : TaskPort) (s : State) :
    Framed fm s (execHoistRead o n s) := by
  apply State.run_frame
  intro t
  simp only [hide_ite, ite_self, State.hoistRow_frame hclk_ hregs_ hlog_ hstaff_ hresetting_ hmasked_ hports_ hwin_
    htl_ hmemu_ hlanes_ hpcb_ hcantons_ hstr_ hservo_ hseq_ hcache_ hstaged_ hbufRecs_ hstreamers_ hlink_ hcross_
    hcal_ hdraws_]

theorem execHoistWrite_frame {fm : Part → Bool} (hclk_ : fm .clk = true) (hregs_ : fm .regs = true)
    (hlog_ : fm .log = true) (hstaff_ : fm .staff = true) (hresetting_ : fm .resetting = true)
    (hmasked_ : fm .masked = true) (hports_ : fm .ports = true) (hwin_ : fm .win = true) (htl_ : fm .tl = true)
    (hmemu_ : fm .memu = true) (hlanes_ : fm .lanes = true) (hpcb_ : fm .pcb = true) (hcantons_ : fm .cantons = true)
    (hstr_ : fm .str = true) (hservo_ : fm .servo = true) (hseq_ : fm .seq = true) (hcache_ : fm .cache = true)
    (hstaged_ : fm .staged = true) (hbufRecs_ : fm .bufRecs = true) (hstreamers_ : fm .streamers = true)
    (hlink_ : fm .link = true) (hcross_ : fm .cross = true) (hcal_ : fm .cal = true) (hdraws_ : fm .draws = true)
    (o : Origin) (n : TaskPort) (s : State) :
    Framed fm s (execHoistWrite o n s) := by
  apply State.run_frame
  intro t
  simp only [hide_ite, ite_self, State.hoistRow_frame hclk_ hregs_ hlog_ hstaff_ hresetting_ hmasked_ hports_ hwin_
    htl_ hmemu_ hlanes_ hpcb_ hcantons_ hstr_ hservo_ hseq_ hcache_ hstaged_ hbufRecs_ hstreamers_ hlink_ hcross_
    hcal_ hdraws_]

theorem execHoistAbort_frame {fm : Part → Bool} (hclk_ : fm .clk = true) (hregs_ : fm .regs = true)
    (hlog_ : fm .log = true) (hstaff_ : fm .staff = true) (hresetting_ : fm .resetting = true)
    (hmasked_ : fm .masked = true) (hports_ : fm .ports = true) (hwin_ : fm .win = true) (htl_ : fm .tl = true)
    (hmemu_ : fm .memu = true) (hlanes_ : fm .lanes = true) (hpcb_ : fm .pcb = true) (hcantons_ : fm .cantons = true)
    (hstr_ : fm .str = true) (hservo_ : fm .servo = true) (hseq_ : fm .seq = true) (hcache_ : fm .cache = true)
    (hstaged_ : fm .staged = true) (hbufRecs_ : fm .bufRecs = true) (hstreamers_ : fm .streamers = true)
    (hlink_ : fm .link = true) (hcross_ : fm .cross = true) (hcal_ : fm .cal = true) (hdraws_ : fm .draws = true)
    (o : Origin) (n : TaskPort) (s : State) :
    Framed fm s (execHoistAbort o n s) := by
  apply State.run_frame
  intro t
  simp only [hide_ite, ite_self, State.hoistRow_frame hclk_ hregs_ hlog_ hstaff_ hresetting_ hmasked_ hports_ hwin_
    htl_ hmemu_ hlanes_ hpcb_ hcantons_ hstr_ hservo_ hseq_ hcache_ hstaged_ hbufRecs_ hstreamers_ hlink_ hcross_
    hcal_ hdraws_]

theorem execHoistBadOpcode_frame {fm : Part → Bool} (hclk_ : fm .clk = true) (hregs_ : fm .regs = true)
    (hlog_ : fm .log = true) (hstaff_ : fm .staff = true) (hresetting_ : fm .resetting = true)
    (hmasked_ : fm .masked = true) (hports_ : fm .ports = true) (hwin_ : fm .win = true) (htl_ : fm .tl = true)
    (hmemu_ : fm .memu = true) (hlanes_ : fm .lanes = true) (hpcb_ : fm .pcb = true) (hcantons_ : fm .cantons = true)
    (hstr_ : fm .str = true) (hservo_ : fm .servo = true) (hseq_ : fm .seq = true) (hcache_ : fm .cache = true)
    (hstaged_ : fm .staged = true) (hbufRecs_ : fm .bufRecs = true) (hstreamers_ : fm .streamers = true)
    (hlink_ : fm .link = true) (hcross_ : fm .cross = true) (hcal_ : fm .cal = true) (hdraws_ : fm .draws = true)
    (o : Origin) (n : TaskPort) (s : State) :
    Framed fm s (execHoistBadOpcode o n s) := by
  apply State.run_frame
  intro t
  simp only [hide_ite, ite_self, State.hoistRow_frame hclk_ hregs_ hlog_ hstaff_ hresetting_ hmasked_ hports_ hwin_
    htl_ hmemu_ hlanes_ hpcb_ hcantons_ hstr_ hservo_ hseq_ hcache_ hstaged_ hbufRecs_ hstreamers_ hlink_ hcross_
    hcal_ hdraws_]

theorem execHeldHoistLatch_frame {fm : Part → Bool} (hclk_ : fm .clk = true) (hregs_ : fm .regs = true)
    (hlog_ : fm .log = true) (hstaff_ : fm .staff = true) (hresetting_ : fm .resetting = true)
    (hmasked_ : fm .masked = true) (hports_ : fm .ports = true) (hwin_ : fm .win = true) (htl_ : fm .tl = true)
    (hmemu_ : fm .memu = true) (hlanes_ : fm .lanes = true) (hpcb_ : fm .pcb = true) (hcantons_ : fm .cantons = true)
    (hstr_ : fm .str = true) (hservo_ : fm .servo = true) (hseq_ : fm .seq = true) (hcache_ : fm .cache = true)
    (hstaged_ : fm .staged = true) (hbufRecs_ : fm .bufRecs = true) (hstreamers_ : fm .streamers = true)
    (hlink_ : fm .link = true) (hcross_ : fm .cross = true) (hcal_ : fm .cal = true) (hdraws_ : fm .draws = true)
    (n : TaskPort) (s : State) :
    Framed fm s (execHeldHoistLatch n s) := by
  apply State.run_frame
  intro t
  repeat' (first | simp only [hide_ports hports_, hide_ite, ite_self,
                 State.latch_frame hclk_ hregs_ hlog_ hstaff_ hresetting_ hmasked_ hports_ hwin_ htl_ hmemu_ hlanes_
                   hpcb_ hcantons_ hstr_ hservo_ hseq_ hcache_ hstaged_ hbufRecs_ hstreamers_ hlink_ hcross_ hcal_
                   hdraws_]
                 | split)

theorem State.promise_frame {fm : Part → Bool} (hclk_ : fm .clk = true) (hregs_ : fm .regs = true)
    (hlog_ : fm .log = true) (hstaff_ : fm .staff = true) (hresetting_ : fm .resetting = true)
    (hmasked_ : fm .masked = true) (hports_ : fm .ports = true) (hwin_ : fm .win = true) (htl_ : fm .tl = true)
    (hmem_ : fm .mem = true) (hmemX_ : fm .memX = true) (hmemu_ : fm .memu = true) (hlanes_ : fm .lanes = true)
    (hpcb_ : fm .pcb = true) (hcantons_ : fm .cantons = true) (hstr_ : fm .str = true) (hservo_ : fm .servo = true)
    (hseq_ : fm .seq = true) (hcache_ : fm .cache = true) (hstaged_ : fm .staged = true)
    (hbufRecs_ : fm .bufRecs = true) (hstreamers_ : fm .streamers = true) (hlink_ : fm .link = true)
    (hcross_ : fm .cross = true) (hcal_ : fm .cal = true) (hdraws_ : fm .draws = true) (s : State) (c : Cmd)
    (unit : Nat) :
    (State.promise s c unit).hide fm = s.hide fm := by
  unfold State.promise
  simp only [hide_ite, ite_self, State.abortActs_frame hclk_ hregs_ hlog_ hstaff_ hresetting_ hmasked_ hports_ hwin_
    htl_ hmemu_ hlanes_ hpcb_ hcantons_ hstr_ hservo_ hseq_ hcache_ hstaged_ hbufRecs_ hstreamers_ hlink_ hcross_
    hcal_ hdraws_, State.each_frame, State.intakeAll_frame hclk_ hregs_ hlog_ hstaff_ hresetting_ hmasked_ hports_
    hwin_ htl_ hmem_ hmemX_ hmemu_ hlanes_ hpcb_ hcantons_ hstr_ hservo_ hseq_ hcache_ hstaged_ hbufRecs_ hstreamers_
    hlink_ hcross_ hcal_ hdraws_, State.promiseRec_frame hregs_ hports_ hlink_, State.serveCached_frame hclk_ hregs_
    hlog_ hstaff_ hresetting_ hmasked_ hports_ hwin_ htl_ hmemu_ hlanes_ hpcb_ hcantons_ hstr_ hservo_ hseq_ hcache_
    hstaged_ hbufRecs_ hstreamers_ hlink_ hcross_ hcal_ hdraws_, State.setCmd_frame hports_, State.unqueue_frame
    hports_, implies_true]

theorem State.admitMedia_frame {fm : Part → Bool} (hclk_ : fm .clk = true) (hregs_ : fm .regs = true)
    (hlog_ : fm .log = true) (hstaff_ : fm .staff = true) (hresetting_ : fm .resetting = true)
    (hmasked_ : fm .masked = true) (hports_ : fm .ports = true) (hwin_ : fm .win = true) (htl_ : fm .tl = true)
    (hmem_ : fm .mem = true) (hmemX_ : fm .memX = true) (hmemu_ : fm .memu = true) (hlanes_ : fm .lanes = true)
    (hpcb_ : fm .pcb = true) (hcantons_ : fm .cantons = true) (hstr_ : fm .str = true) (hservo_ : fm .servo = true)
    (hseq_ : fm .seq = true) (hcache_ : fm .cache = true) (hstaged_ : fm .staged = true)
    (hbufRecs_ : fm .bufRecs = true) (hstreamers_ : fm .streamers = true) (hlink_ : fm .link = true)
    (hcross_ : fm .cross = true) (hcal_ : fm .cal = true) (hdraws_ : fm .draws = true) (s : State) (c : Cmd) (h : Nat)
    (unit : Nat) :
    (State.admitMedia s c h unit).hide fm = s.hide fm := by
  unfold State.admitMedia
  split
  · exact (State.refuse_frame hregs_ hports_ hwin_ hlink_) _ _ _ _ _ _ _
  · rename_i h' _
    simp only
    generalize hr : State.tryPlace false _ _ = r
    have e : r.s.hide fm = s.hide fm := by
      rw [← hr, (State.tryPlace_frame hports_ htl_)]; exact (State.setCmd_frame hports_) _ _
    clear hr
    split
    · rw [(State.promise_frame hclk_ hregs_ hlog_ hstaff_ hresetting_ hmasked_ hports_ hwin_ htl_ hmem_ hmemX_ hmemu_
          hlanes_ hpcb_ hcantons_ hstr_ hservo_ hseq_ hcache_ hstaged_ hbufRecs_ hstreamers_ hlink_ hcross_ hcal_
          hdraws_),
                   e]
    · rw [(State.refuse_frame hregs_ hports_ hwin_ hlink_),
                   (State.release_frame hports_ htl_)]; exact (State.setCmd_frame hports_) _ _

theorem State.weigh_frame {fm : Part → Bool} (hclk_ : fm .clk = true) (hregs_ : fm .regs = true)
    (hlog_ : fm .log = true) (hstaff_ : fm .staff = true) (hresetting_ : fm .resetting = true)
    (hmasked_ : fm .masked = true) (hports_ : fm .ports = true) (hwin_ : fm .win = true) (htl_ : fm .tl = true)
    (hmem_ : fm .mem = true) (hmemX_ : fm .memX = true) (hmemu_ : fm .memu = true) (hlanes_ : fm .lanes = true)
    (hpcb_ : fm .pcb = true) (hcantons_ : fm .cantons = true) (hstr_ : fm .str = true) (hservo_ : fm .servo = true)
    (hseq_ : fm .seq = true) (hcache_ : fm .cache = true) (hstaged_ : fm .staged = true)
    (hbufRecs_ : fm .bufRecs = true) (hstreamers_ : fm .streamers = true) (hlink_ : fm .link = true)
    (hcross_ : fm .cross = true) (hcal_ : fm .cal = true) (hdraws_ : fm .draws = true) (s : State) (c : Cmd) (h : Nat)
    (unit : Nat) :
    (State.weigh s c h unit).hide fm = s.hide fm := by
  unfold State.weigh
  simp only [hide_ite, ite_self, State.admitMedia_frame hclk_ hregs_ hlog_ hstaff_ hresetting_ hmasked_ hports_ hwin_
    htl_ hmem_ hmemX_ hmemu_ hlanes_ hpcb_ hcantons_ hstr_ hservo_ hseq_ hcache_ hstaged_ hbufRecs_ hstreamers_ hlink_
    hcross_ hcal_ hdraws_, State.promise_frame hclk_ hregs_ hlog_ hstaff_ hresetting_ hmasked_ hports_ hwin_ htl_
    hmem_ hmemX_ hmemu_ hlanes_ hpcb_ hcantons_ hstr_ hservo_ hseq_ hcache_ hstaged_ hbufRecs_ hstreamers_ hlink_
    hcross_ hcal_ hdraws_, State.refuse_frame hregs_ hports_ hwin_ hlink_]

theorem State.refillAhead_frame {fm : Part → Bool} (htl_ : fm .tl = true) (s : State) (mask : Nat) :
    (State.refillAhead s mask).hide fm = s.hide fm := by
  unfold State.refillAhead
  simp only [hide_ite, ite_self, State.each_frame, State.refill_frame htl_, State.setTl_frame htl_, implies_true]

theorem execAdmissionUnitTake_frame {fm : Part → Bool} (hclk_ : fm .clk = true) (hregs_ : fm .regs = true)
    (hlog_ : fm .log = true) (hstaff_ : fm .staff = true) (hresetting_ : fm .resetting = true)
    (hmasked_ : fm .masked = true) (hports_ : fm .ports = true) (hwin_ : fm .win = true) (htl_ : fm .tl = true)
    (hmem_ : fm .mem = true) (hmemX_ : fm .memX = true) (hmemu_ : fm .memu = true) (hlanes_ : fm .lanes = true)
    (hpcb_ : fm .pcb = true) (hcantons_ : fm .cantons = true) (hstr_ : fm .str = true) (hservo_ : fm .servo = true)
    (hseq_ : fm .seq = true) (hcache_ : fm .cache = true) (hstaged_ : fm .staged = true)
    (hbufRecs_ : fm .bufRecs = true) (hstreamers_ : fm .streamers = true) (hlink_ : fm .link = true)
    (hcross_ : fm .cross = true) (hcal_ : fm .cal = true) (hdraws_ : fm .draws = true) (d : Die) (h : Fin 16384)
    (unit : Fin 4) (met : BitVec 8) (edge : BitVec 8) (s : State) :
    Framed fm s (execAdmissionUnitTake d h unit met edge s) := by
  apply State.run_frame
  intro t
  have e : ((t.refillAhead edge.toNat).meeting met.toNat).hide fm = t.hide fm :=
    ((State.meeting_frame hports_) _ _).trans ((State.refillAhead_frame htl_) _ _)
  revert e
  generalize (t.refillAhead edge.toNat).meeting met.toNat = u
  intro e
  simp only
  split
  · exact e
  · split
    · exact e
    · split
      · exact e
      · exact ((State.weigh_frame hclk_ hregs_ hlog_ hstaff_ hresetting_ hmasked_ hports_ hwin_ htl_ hmem_ hmemX_
            hmemu_ hlanes_ hpcb_ hcantons_ hstr_ hservo_ hseq_ hcache_ hstaged_ hbufRecs_ hstreamers_ hlink_ hcross_
            hcal_ hdraws_) _ _ _ _).trans e

theorem execBufferedTerminal_frame {fm : Part → Bool} (hregs_ : fm .regs = true) (hports_ : fm .ports = true)
    (hwin_ : fm .win = true) (htl_ : fm .tl = true) (hbufRecs_ : fm .bufRecs = true) (hlink_ : fm .link = true)
    (n : TaskPort) (tag : BitVec 16) (s : State) :
    Framed fm s (execBufferedTerminal n tag s) := by
  apply State.run_frame
  intro t
  repeat' (first | simp only [hide_bufRecs hbufRecs_, hide_ite, ite_self,
                 State.endCmd_frame hregs_ hports_ hwin_ hlink_, State.tidy_frame hports_ htl_] | split)

theorem State.pop_frame {fm : Part → Bool} (hregs_ : fm .regs = true) (hports_ : fm .ports = true)
    (htl_ : fm .tl = true) (s : State) (n : Nat) :
    (State.pop s n).hide fm = s.hide fm := by
  unfold State.pop
  repeat' (first | simp only [hide_regs hregs_, hide_ports hports_, hide_ite, State.each_frame, State.freeCells_frame
                 hregs_, State.setCmd_frame hports_, State.set_frame hregs_,
                 State.tidy_frame hports_ htl_, implies_true] | split)

theorem execCqPop_frame {fm : Part → Bool} (hregs_ : fm .regs = true) (hports_ : fm .ports = true)
    (htl_ : fm .tl = true) (n : TaskPort) (s : State) :
    Framed fm s (execCqPop n s) := by
  apply State.run_frame
  intro t
  simp only [hide_ite, ite_self, State.pop_frame hregs_ hports_ htl_]

theorem State.placePrefetch_frame {fm : Part → Bool} (hregs_ : fm .regs = true) (hports_ : fm .ports = true)
    (htl_ : fm .tl = true) (hcache_ : fm .cache = true) (s : State) (d : Nat) (i : Nat) (c : Cmd) :
    (State.placePrefetch s d i c).hide fm = s.hide fm := by
  unfold State.placePrefetch
  simp only
  generalize hr : State.tryPlace true _ _ = r
  have e : r.s.hide fm = s.hide fm := by
    rw [← hr, (State.tryPlace_frame hports_ htl_)]; exact (State.addCmd_frame hports_) _ _
  clear hr
  split
  · exact ((State.countSat_frame hregs_) _ _).trans (((State.setCache_frame hcache_) _ _ _).trans
        (((State.setCmd_frame hports_) _ _).trans e))
  · exact ((State.countSat_frame hregs_) _ _).trans ((State.release_frame hports_ htl_) _ _)

theorem execPrefetchIssue_frame {fm : Part → Bool} (hregs_ : fm .regs = true) (hports_ : fm .ports = true)
    (htl_ : fm .tl = true) (hcache_ : fm .cache = true) (d : Die) (i : Fin 64) (k : Fin 16) (h : Fin 16384)
    (s : State) :
    Framed fm s (execPrefetchIssue d i k h s) := by
  apply State.run_frame
  intro t
  repeat' (first | simp only [hide_ite, State.countSat_frame hregs_,
                 State.placePrefetch_frame hregs_ hports_ htl_ hcache_] | split)

end Sys2Proof.Machine
end

