-- ==== Sys2Proof/Laws/FrameWindow.lean ====
section
/-! SUPPORT. Laws/FrameWindow.lean: which parts of the state the functions of Machine/Window.lean can change. -/

namespace Sys2Proof.Machine

theorem State.viewViolation_frame {fm : Part → Bool} (hregs_ : fm .regs = true) (hlog_ : fm .log = true) (s : State)
    (b : Nat) (origin : Nat) (addr : Nat) (write : Bool) (reason : Nat) :
    (State.viewViolation s b origin addr write reason).hide fm = s.hide fm := by
  unfold State.viewViolation
  simp only [State.countSat_frame hregs_, State.violation_frame hregs_ hlog_]

theorem State.slotOp_frame {fm : Part → Bool} (hregs_ : fm .regs = true) (hlog_ : fm .log = true)
    (hports_ : fm .ports = true) (s : State) (o : Origin) (n : Nat) (num : Nat) (claim : Bool) :
    (State.slotOp s o n num claim).hide fm = s.hide fm := by
  unfold State.slotOp
  repeat' (first | simp only [hide_ports hports_, hide_ite, State.countSat_frame hregs_, State.set_frame hregs_,
                 State.viewViolation_frame hregs_ hlog_] | split)

theorem execSlotopFree_frame {fm : Part → Bool} (hregs_ : fm .regs = true) (hlog_ : fm .log = true)
    (hports_ : fm .ports = true) (o : Origin) (n : TaskPort) (num : Fin 4194304) (s : State) :
    Framed fm s (execSlotopFree o n num s) := by
  apply State.run_frame
  intro t
  simp only [hide_ite, ite_self, State.slotOp_frame hregs_ hlog_ hports_]

theorem execSlotopClaim_frame {fm : Part → Bool} (hregs_ : fm .regs = true) (hlog_ : fm .log = true)
    (hports_ : fm .ports = true) (o : Origin) (n : TaskPort) (num : Fin 4194304) (s : State) :
    Framed fm s (execSlotopClaim o n num s) := by
  apply State.run_frame
  intro t
  simp only [hide_ite, ite_self, State.slotOp_frame hregs_ hlog_ hports_]

theorem State.slotRun_frame {fm : Part → Bool} (hwin_ : fm .win = true) (s : State) (claim : Bool) (x2 : Nat)
    (x3 : Nat) (x4 : Nat) :
    (State.slotRun s claim x2 x3 x4).1.hide fm = s.hide fm := by
  fun_induction State.slotRun <;> simp_all only [State.setFlag_frame hwin_]

theorem State.slotGo_frame {fm : Part → Bool} (hports_ : fm .ports = true) (hwin_ : fm .win = true) (s : State)
    (n : Nat) (k : Nat) :
    (State.slotGo s n k).hide fm = s.hide fm := by
  unfold State.slotGo
  repeat' (first | simp only [hide_ports hports_, hide_ite, ite_self, State.slotRun_frame hwin_]
                 | split)

theorem State.slotsTick_frame {fm : Part → Bool} (hports_ : fm .ports = true) (hwin_ : fm .win = true) (s : State) :
    (State.slotsTick s).hide fm = s.hide fm := by
  unfold State.slotsTick
  simp only [State.each_frame, State.slotGo_frame hports_ hwin_, implies_true]

theorem execSlotopComplete_frame {fm : Part → Bool} (hregs_ : fm .regs = true) (hports_ : fm .ports = true)
    (hwin_ : fm .win = true) (n : TaskPort) (s : State) :
    Framed fm s (execSlotopComplete n s) := by
  apply State.run_frame
  intro t
  repeat' (first | simp only [hide_ports hports_, hide_ite, ite_self,
                 State.set_frame hregs_, State.slotGo_frame hports_ hwin_] | split)

theorem State.portCfg_frame {fm : Part → Bool} (hregs_ : fm .regs = true) (hlog_ : fm .log = true)
    (hports_ : fm .ports = true) (s : State) (o : Origin) (n : Nat) (v : Nat) :
    (State.portCfg s o n v).hide fm = s.hide fm := by
  unfold State.portCfg
  simp only [hide_ports hports_, hide_ite, ite_self, State.countSat_frame hregs_, State.event_frame hregs_ hlog_,
    State.set_frame hregs_, State.wr_frame hregs_]

theorem execPortCfgWrite_frame {fm : Part → Bool} (hregs_ : fm .regs = true) (hlog_ : fm .log = true)
    (hports_ : fm .ports = true) (o : Origin) (n : TaskPort) (v : Word) (s : State) :
    Framed fm s (execPortCfgWrite o n v s) := by
  apply State.run_frame
  intro t
  simp only [State.portCfg_frame hregs_ hlog_ hports_]

theorem State.rightsEvent_frame {fm : Part → Bool} (hregs_ : fm .regs = true) (hlog_ : fm .log = true) (s : State)
    (origin : Nat) (op : Nat) (result : Nat) :
    (State.rightsEvent s origin op result).hide fm = s.hide fm := by
  unfold State.rightsEvent
  simp only [State.event_frame hregs_ hlog_]

theorem State.rightsCmd_frame {fm : Part → Bool} (hregs_ : fm .regs = true) (hlog_ : fm .log = true)
    (hports_ : fm .ports = true) (s : State) (o : Origin) (op : Nat) :
    (State.rightsCmd s o op).hide fm = s.hide fm := by
  unfold State.rightsCmd
  simp only [hide_ports hports_, hide_ite, ite_self, State.logPriv_frame hregs_ hlog_, State.rightsEvent_frame hregs_
    hlog_, State.set_frame hregs_]

theorem execRightsRead_frame {fm : Part → Bool} (hregs_ : fm .regs = true) (hlog_ : fm .log = true)
    (hports_ : fm .ports = true) (o : Origin) (s : State) :
    Framed fm s (execRightsRead o s) := by
  apply State.run_frame
  intro t
  simp only [State.rightsCmd_frame hregs_ hlog_ hports_]

theorem execRightsSet_frame {fm : Part → Bool} (hregs_ : fm .regs = true) (hlog_ : fm .log = true)
    (hports_ : fm .ports = true) (o : Origin) (s : State) :
    Framed fm s (execRightsSet o s) := by
  apply State.run_frame
  intro t
  simp only [State.rightsCmd_frame hregs_ hlog_ hports_]

theorem execRightsClear_frame {fm : Part → Bool} (hregs_ : fm .regs = true) (hlog_ : fm .log = true)
    (hports_ : fm .ports = true) (o : Origin) (s : State) :
    Framed fm s (execRightsClear o s) := by
  apply State.run_frame
  intro t
  simp only [State.rightsCmd_frame hregs_ hlog_ hports_]

theorem execRightsCmdComplete_frame {fm : Part → Bool} (hregs_ : fm .regs = true) (hlog_ : fm .log = true)
    (hports_ : fm .ports = true) (s : State) :
    Framed fm s (execRightsCmdComplete s) := by
  apply State.run_frame
  intro t
  repeat' (first | simp only [hide_ports hports_, hide_ite, ite_self,
                 State.rightsEvent_frame hregs_ hlog_, State.set_frame hregs_] | split)

theorem State.grantEvent_frame {fm : Part → Bool} (hregs_ : fm .regs = true) (hlog_ : fm .log = true) (s : State)
    (origin : Nat) (op : Nat) (result : Nat) :
    (State.grantEvent s origin op result).hide fm = s.hide fm := by
  unfold State.grantEvent
  simp only [State.event_frame hregs_ hlog_]

theorem State.grantCmd_frame {fm : Part → Bool} (hregs_ : fm .regs = true) (hlog_ : fm .log = true)
    (hwin_ : fm .win = true) (s : State) (o : Origin) (op : Nat) :
    (State.grantCmd s o op).hide fm = s.hide fm := by
  unfold State.grantCmd
  simp only [hide_win hwin_, hide_ite, ite_self, State.grantEvent_frame hregs_ hlog_, State.logPriv_frame hregs_
    hlog_, State.set_frame hregs_]

theorem execGrantRead_frame {fm : Part → Bool} (hregs_ : fm .regs = true) (hlog_ : fm .log = true)
    (hwin_ : fm .win = true) (o : Origin) (s : State) :
    Framed fm s (execGrantRead o s) := by
  apply State.run_frame
  intro t
  simp only [State.grantCmd_frame hregs_ hlog_ hwin_]

theorem execGrantSet_frame {fm : Part → Bool} (hregs_ : fm .regs = true) (hlog_ : fm .log = true)
    (hwin_ : fm .win = true) (o : Origin) (s : State) :
    Framed fm s (execGrantSet o s) := by
  apply State.run_frame
  intro t
  simp only [State.grantCmd_frame hregs_ hlog_ hwin_]

theorem execGrantRevoke_frame {fm : Part → Bool} (hregs_ : fm .regs = true) (hlog_ : fm .log = true)
    (hwin_ : fm .win = true) (o : Origin) (s : State) :
    Framed fm s (execGrantRevoke o s) := by
  apply State.run_frame
  intro t
  simp only [State.grantCmd_frame hregs_ hlog_ hwin_]

theorem State.revoke_frame {fm : Part → Bool} (hwin_ : fm .win = true) (s : State) (x1 : List Nat) :
    (State.revoke s x1).hide fm = s.hide fm := by
  fun_induction State.revoke <;> simp_all only [State.setFlag_frame hwin_]

theorem State.grantSet_frame {fm : Part → Bool} (hwin_ : fm .win = true) (s : State) (i : Nat) (g : Grant) :
    (State.grantSet s i g).1.hide fm = s.hide fm := by
  unfold State.grantSet
  repeat' (first | simp only [hide_win hwin_, State.revoke_frame hwin_] | split)

theorem State.grantRevoke_frame {fm : Part → Bool} (hwin_ : fm .win = true) (s : State) (i : Nat) :
    (State.grantRevoke s i).1.hide fm = s.hide fm := by
  unfold State.grantRevoke
  repeat' (first | simp only [hide_win hwin_, State.revoke_frame hwin_] | split)

theorem execGrantCmdComplete_frame {fm : Part → Bool} (hregs_ : fm .regs = true) (hlog_ : fm .log = true)
    (hwin_ : fm .win = true) (s : State) :
    Framed fm s (execGrantCmdComplete s) := by
  apply State.run_frame
  intro t
  repeat' (first | simp only [hide_regs hregs_, hide_win hwin_, hide_ite, State.grantEvent_frame hregs_ hlog_,
                 State.grantRevoke_frame hwin_, State.grantSet_frame hwin_,
                 State.set_frame hregs_] | split)

theorem State.visit_frame {fm : Part → Bool} (hregs_ : fm .regs = true) (hlog_ : fm .log = true)
    (hports_ : fm .ports = true) (hwin_ : fm .win = true) (s : State) (m : Nat) :
    (State.visit s m).hide fm = s.hide fm := by
  unfold State.visit
  simp only [hide_win hwin_, hide_ite, ite_self, State.countSat_frame hregs_, State.event_frame hregs_ hlog_,
    State.failAssumption_frame hports_]

theorem execHoldSweep_frame {fm : Part → Bool} (hregs_ : fm .regs = true) (hlog_ : fm .log = true)
    (hports_ : fm .ports = true) (hwin_ : fm .win = true) (s : State) :
    Framed fm s (execHoldSweep s) := by
  apply State.run_frame
  intro t
  simp only [hide_win hwin_, hide_ite, ite_self, State.each_frame, State.visit_frame hregs_ hlog_ hports_ hwin_,
    implies_true]

theorem State.holdWrite_frame {fm : Part → Bool} (hregs_ : fm .regs = true) (hlog_ : fm .log = true)
    (hwin_ : fm .win = true) (s : State) (o : Origin) (v : Nat) :
    (State.holdWrite s o v).hide fm = s.hide fm := by
  unfold State.holdWrite
  simp only [hide_win hwin_, State.logPriv_frame hregs_ hlog_, State.set_frame hregs_]

theorem execWinHoldWrite_frame {fm : Part → Bool} (hregs_ : fm .regs = true) (hlog_ : fm .log = true)
    (hwin_ : fm .win = true) (o : Origin) (v : Word) (s : State) :
    Framed fm s (execWinHoldWrite o v s) := by
  apply State.run_frame
  intro t
  simp only [State.holdWrite_frame hregs_ hlog_ hwin_]

end Sys2Proof.Machine
end

