-- ==== Sys2Proof/Laws/FrameLane.lean ====
section
/-! SUPPORT. Laws/FrameLane.lean: which parts of the state the functions of Machine/Lane.lean can change. -/

namespace Sys2Proof.Machine

theorem State.surfaceLost_frame {fm : Part → Bool} (hclk_ : fm .clk = true) (hregs_ : fm .regs = true)
    (hlog_ : fm .log = true) (hstaff_ : fm .staff = true) (hresetting_ : fm .resetting = true)
    (hmasked_ : fm .masked = true) (hports_ : fm .ports = true) (hwin_ : fm .win = true) (htl_ : fm .tl = true)
    (hmemu_ : fm .memu = true) (hlanes_ : fm .lanes = true) (hpcb_ : fm .pcb = true) (hcantons_ : fm .cantons = true)
    (hstr_ : fm .str = true) (hservo_ : fm .servo = true) (hseq_ : fm .seq = true) (hclr_ : fm .clr = true)
    (hbufRecs_ : fm .bufRecs = true) (hstreamers_ : fm .streamers = true) (hlink_ : fm .link = true)
    (hcross_ : fm .cross = true) (hcal_ : fm .cal = true) (hdraws_ : fm .draws = true) (s : State) (c : Nat)
    (f : Nat) :
    (State.surfaceLost s c f).hide fm = s.hide fm := by
  unfold State.surfaceLost
  simp only [hide_ite, ite_self, State.clrOff_frame hregs_ hclr_, State.cutWrite_frame hregs_ hlanes_ hstr_ hseq_
    hdraws_, State.dropRead_frame hregs_ hlanes_ hcantons_ hstr_ hseq_ hdraws_, State.fragEnd_frame hseq_,
    State.interruption_frame hports_, State.loseCluster_frame hregs_ hports_ hwin_ htl_ hlanes_ hpcb_ hcantons_ hstr_
    hseq_ hbufRecs_ hstreamers_ hlink_ hcal_ hdraws_, State.raise_frame hclk_ hregs_ hlog_ hstaff_ hresetting_
    hmasked_ hports_ hwin_ htl_ hmemu_ hlanes_ hpcb_ hcantons_ hstr_ hservo_ hseq_ hbufRecs_ hstreamers_ hlink_
    hcross_ hcal_ hdraws_, State.seqIrq_frame hregs_, State.setLane_frame hlanes_, State.setStr_frame hstr_,
    State.set_frame hregs_]

theorem State.withhold_frame {fm : Part → Bool} (hclk_ : fm .clk = true) (hregs_ : fm .regs = true)
    (hlog_ : fm .log = true) (hstaff_ : fm .staff = true) (hresetting_ : fm .resetting = true)
    (hmasked_ : fm .masked = true) (hports_ : fm .ports = true) (hwin_ : fm .win = true) (htl_ : fm .tl = true)
    (hmemu_ : fm .memu = true) (hlanes_ : fm .lanes = true) (hpcb_ : fm .pcb = true) (hcantons_ : fm .cantons = true)
    (hstr_ : fm .str = true) (hservo_ : fm .servo = true) (hseq_ : fm .seq = true) (hbufRecs_ : fm .bufRecs = true)
    (hstreamers_ : fm .streamers = true) (hlink_ : fm .link = true) (hcross_ : fm .cross = true)
    (hcal_ : fm .cal = true) (hdraws_ : fm .draws = true) (s : State) (c : Nat) (f : Nat) (slot : Nat) (owner : Nat)
    (write : Bool) :
    (State.withhold s c f slot owner write).hide fm = s.hide fm := by
  unfold State.withhold
  simp only [hide_ite, ite_self, State.countSat_frame hregs_, State.fragResult_frame hstr_, State.raise_frame hclk_
    hregs_ hlog_ hstaff_ hresetting_ hmasked_ hports_ hwin_ htl_ hmemu_ hlanes_ hpcb_ hcantons_ hstr_ hservo_ hseq_
    hbufRecs_ hstreamers_ hlink_ hcross_ hcal_ hdraws_, State.setStr_frame hstr_]

theorem State.armLane_frame {fm : Part → Bool} (hclk_ : fm .clk = true) (hregs_ : fm .regs = true)
    (hlog_ : fm .log = true) (hstaff_ : fm .staff = true) (hresetting_ : fm .resetting = true)
    (hmasked_ : fm .masked = true) (hports_ : fm .ports = true) (hwin_ : fm .win = true) (htl_ : fm .tl = true)
    (hmemu_ : fm .memu = true) (hlanes_ : fm .lanes = true) (hpcb_ : fm .pcb = true) (hcantons_ : fm .cantons = true)
    (hstr_ : fm .str = true) (hservo_ : fm .servo = true) (hseq_ : fm .seq = true) (hbufRecs_ : fm .bufRecs = true)
    (hstreamers_ : fm .streamers = true) (hlink_ : fm .link = true) (hcross_ : fm .cross = true)
    (hcal_ : fm .cal = true) (hdraws_ : fm .draws = true) (s : State) (c : Nat) (slot : Nat) (write : Bool)
    (f : Nat) :
    (State.armLane s c slot write f).hide fm = s.hide fm := by
  unfold State.armLane
  repeat' (first | simp only [hide_ite, ite_self, State.bookRow_frame htl_, State.countSat_frame hregs_,
                 State.setLane_frame hlanes_, State.setTl_frame htl_,
                 State.withhold_frame hclk_ hregs_ hlog_ hstaff_ hresetting_ hmasked_ hports_ hwin_ htl_ hmemu_
                   hlanes_ hpcb_ hcantons_ hstr_ hservo_ hseq_ hbufRecs_ hstreamers_ hlink_ hcross_ hcal_ hdraws_]
                 | split)

theorem State.armMask_frame {fm : Part → Bool} (hclk_ : fm .clk = true) (hregs_ : fm .regs = true)
    (hlog_ : fm .log = true) (hstaff_ : fm .staff = true) (hresetting_ : fm .resetting = true)
    (hmasked_ : fm .masked = true) (hports_ : fm .ports = true) (hwin_ : fm .win = true) (htl_ : fm .tl = true)
    (hmemu_ : fm .memu = true) (hlanes_ : fm .lanes = true) (hpcb_ : fm .pcb = true) (hcantons_ : fm .cantons = true)
    (hstr_ : fm .str = true) (hservo_ : fm .servo = true) (hseq_ : fm .seq = true) (hbufRecs_ : fm .bufRecs = true)
    (hstreamers_ : fm .streamers = true) (hlink_ : fm .link = true) (hcross_ : fm .cross = true)
    (hcal_ : fm .cal = true) (hdraws_ : fm .draws = true) (s : State) (c : Nat) (slot : Nat) (mask : Nat)
    (write : Bool) :
    (State.armMask s c slot mask write).hide fm = s.hide fm := by
  unfold State.armMask
  simp only [State.armLane_frame hclk_ hregs_ hlog_ hstaff_ hresetting_ hmasked_ hports_ hwin_ htl_ hmemu_ hlanes_
    hpcb_ hcantons_ hstr_ hservo_ hseq_ hbufRecs_ hstreamers_ hlink_ hcross_ hcal_ hdraws_, State.each_frame,
    State.seqEvent_frame hseq_, implies_true]

theorem execLaneArmRead_frame {fm : Part → Bool} (hclk_ : fm .clk = true) (hregs_ : fm .regs = true)
    (hlog_ : fm .log = true) (hstaff_ : fm .staff = true) (hresetting_ : fm .resetting = true)
    (hmasked_ : fm .masked = true) (hports_ : fm .ports = true) (hwin_ : fm .win = true) (htl_ : fm .tl = true)
    (hmemu_ : fm .memu = true) (hlanes_ : fm .lanes = true) (hpcb_ : fm .pcb = true) (hcantons_ : fm .cantons = true)
    (hstr_ : fm .str = true) (hservo_ : fm .servo = true) (hseq_ : fm .seq = true) (hbufRecs_ : fm .bufRecs = true)
    (hstreamers_ : fm .streamers = true) (hlink_ : fm .link = true) (hcross_ : fm .cross = true)
    (hcal_ : fm .cal = true) (hdraws_ : fm .draws = true) (c : Cluster) (mask : BitVec 32) (slot : BitVec 32)
    (s : State) :
    Framed fm s (execLaneArmRead c mask slot s) := by
  apply State.run_frame
  intro t
  simp only [State.armMask_frame hclk_ hregs_ hlog_ hstaff_ hresetting_ hmasked_ hports_ hwin_ htl_ hmemu_ hlanes_
    hpcb_ hcantons_ hstr_ hservo_ hseq_ hbufRecs_ hstreamers_ hlink_ hcross_ hcal_ hdraws_]

theorem execLaneArmWrite_frame {fm : Part → Bool} (hclk_ : fm .clk = true) (hregs_ : fm .regs = true)
    (hlog_ : fm .log = true) (hstaff_ : fm .staff = true) (hresetting_ : fm .resetting = true)
    (hmasked_ : fm .masked = true) (hports_ : fm .ports = true) (hwin_ : fm .win = true) (htl_ : fm .tl = true)
    (hmemu_ : fm .memu = true) (hlanes_ : fm .lanes = true) (hpcb_ : fm .pcb = true) (hcantons_ : fm .cantons = true)
    (hstr_ : fm .str = true) (hservo_ : fm .servo = true) (hseq_ : fm .seq = true) (hbufRecs_ : fm .bufRecs = true)
    (hstreamers_ : fm .streamers = true) (hlink_ : fm .link = true) (hcross_ : fm .cross = true)
    (hcal_ : fm .cal = true) (hdraws_ : fm .draws = true) (c : Cluster) (mask : BitVec 32) (slot : BitVec 32)
    (s : State) :
    Framed fm s (execLaneArmWrite c mask slot s) := by
  apply State.run_frame
  intro t
  simp only [State.armMask_frame hclk_ hregs_ hlog_ hstaff_ hresetting_ hmasked_ hports_ hwin_ htl_ hmemu_ hlanes_
    hpcb_ hcantons_ hstr_ hservo_ hseq_ hbufRecs_ hstreamers_ hlink_ hcross_ hcal_ hdraws_]

theorem execLaneDisarm_frame {fm : Part → Bool} (hregs_ : fm .regs = true) (hlanes_ : fm .lanes = true)
    (hcantons_ : fm .cantons = true) (hstr_ : fm .str = true) (hseq_ : fm .seq = true) (hdraws_ : fm .draws = true)
    (c : Cluster) (mask : BitVec 32) (s : State) :
    Framed fm s (execLaneDisarm c mask s) := by
  apply State.run_frame
  intro t
  simp only [State.disarm_frame hregs_ hlanes_ hcantons_ hstr_ hseq_ hdraws_, State.each_frame, implies_true]

theorem State.loadWriteZone_frame {fm : Part → Bool} (hregs_ : fm .regs = true) (s : State) (c : Nat) (f : Nat)
    (slot : Nat) :
    (State.loadWriteZone s c f slot).hide fm = s.hide fm := by
  unfold State.loadWriteZone
  simp only [State.each_frame, State.set_frame hregs_, implies_true]

theorem execFragmentWriteStart_frame {fm : Part → Bool} (hregs_ : fm .regs = true) (hlanes_ : fm .lanes = true)
    (hstr_ : fm .str = true) (hseq_ : fm .seq = true) (c : Cluster) (f : Surface) (early : Bool) (s : State) :
    Framed fm s (execFragmentWriteStart c f early s) := by
  apply State.run_frame
  intro t
  repeat' (first | simp only [hide_ite, ite_self, State.count_frame hregs_, State.fragEnd_frame hseq_,
                 State.loadWriteZone_frame hregs_, State.setLane_frame hlanes_, State.setStr_frame hstr_,
                 State.set_frame hregs_] | split)

theorem execAdcStuck_frame {fm : Part → Bool} (hclk_ : fm .clk = true) (hregs_ : fm .regs = true)
    (hlog_ : fm .log = true) (hstaff_ : fm .staff = true) (hresetting_ : fm .resetting = true)
    (hmasked_ : fm .masked = true) (hports_ : fm .ports = true) (hwin_ : fm .win = true) (htl_ : fm .tl = true)
    (hmemu_ : fm .memu = true) (hlanes_ : fm .lanes = true) (hpcb_ : fm .pcb = true) (hcantons_ : fm .cantons = true)
    (hstr_ : fm .str = true) (hservo_ : fm .servo = true) (hseq_ : fm .seq = true) (hclr_ : fm .clr = true)
    (hbufRecs_ : fm .bufRecs = true) (hstreamers_ : fm .streamers = true) (hlink_ : fm .link = true)
    (hcross_ : fm .cross = true) (hcal_ : fm .cal = true) (hdraws_ : fm .draws = true) (c : Cluster) (f : Surface)
    (s : State) :
    Framed fm s (execAdcStuck c f s) := by
  apply State.run_frame
  intro t
  simp only [hide_ite, ite_self, State.set_frame hregs_, State.surfaceLost_frame hclk_ hregs_ hlog_ hstaff_
    hresetting_ hmasked_ hports_ hwin_ htl_ hmemu_ hlanes_ hpcb_ hcantons_ hstr_ hservo_ hseq_ hclr_ hbufRecs_
    hstreamers_ hlink_ hcross_ hcal_ hdraws_]

theorem State.laneCtl_frame {fm : Part → Bool} (hclk_ : fm .clk = true) (hregs_ : fm .regs = true)
    (hlog_ : fm .log = true) (hstaff_ : fm .staff = true) (hresetting_ : fm .resetting = true)
    (hmasked_ : fm .masked = true) (hports_ : fm .ports = true) (hwin_ : fm .win = true) (htl_ : fm .tl = true)
    (hmemu_ : fm .memu = true) (hlanes_ : fm .lanes = true) (hpcb_ : fm .pcb = true) (hcantons_ : fm .cantons = true)
    (hstr_ : fm .str = true) (hservo_ : fm .servo = true) (hseq_ : fm .seq = true) (hclr_ : fm .clr = true)
    (hbufRecs_ : fm .bufRecs = true) (hstreamers_ : fm .streamers = true) (hlink_ : fm .link = true)
    (hcross_ : fm .cross = true) (hcal_ : fm .cal = true) (hdraws_ : fm .draws = true) (s : State) (o : Origin)
    (c : Nat) (f : Nat) (v : Nat) :
    (State.laneCtl s o c f v).hide fm = s.hide fm := by
  unfold State.laneCtl
  simp only [hide_ite, ite_self, State.logPriv_frame hregs_ hlog_, State.setWhy_frame hregs_ hlanes_ hstr_ hseq_
    hdraws_, State.set_frame hregs_, State.surfaceLost_frame hclk_ hregs_ hlog_ hstaff_ hresetting_ hmasked_ hports_
    hwin_ htl_ hmemu_ hlanes_ hpcb_ hcantons_ hstr_ hservo_ hseq_ hclr_ hbufRecs_ hstreamers_ hlink_ hcross_ hcal_
    hdraws_]

theorem execLaneRetire_frame {fm : Part → Bool} (hclk_ : fm .clk = true) (hregs_ : fm .regs = true)
    (hlog_ : fm .log = true) (hstaff_ : fm .staff = true) (hresetting_ : fm .resetting = true)
    (hmasked_ : fm .masked = true) (hports_ : fm .ports = true) (hwin_ : fm .win = true) (htl_ : fm .tl = true)
    (hmemu_ : fm .memu = true) (hlanes_ : fm .lanes = true) (hpcb_ : fm .pcb = true) (hcantons_ : fm .cantons = true)
    (hstr_ : fm .str = true) (hservo_ : fm .servo = true) (hseq_ : fm .seq = true) (hclr_ : fm .clr = true)
    (hbufRecs_ : fm .bufRecs = true) (hstreamers_ : fm .streamers = true) (hlink_ : fm .link = true)
    (hcross_ : fm .cross = true) (hcal_ : fm .cal = true) (hdraws_ : fm .draws = true) (o : Origin) (c : Cluster)
    (f : Surface) (s : State) :
    Framed fm s (execLaneRetire o c f s) := by
  apply State.run_frame
  intro t
  simp only [hide_ite, ite_self, State.laneCtl_frame hclk_ hregs_ hlog_ hstaff_ hresetting_ hmasked_ hports_ hwin_
    htl_ hmemu_ hlanes_ hpcb_ hcantons_ hstr_ hservo_ hseq_ hclr_ hbufRecs_ hstreamers_ hlink_ hcross_ hcal_ hdraws_]

theorem execHostWinhWrite_frame {fm : Part → Bool} (hclk_ : fm .clk = true) (hregs_ : fm .regs = true)
    (hlog_ : fm .log = true) (hstaff_ : fm .staff = true) (hresetting_ : fm .resetting = true)
    (hmasked_ : fm .masked = true) (hports_ : fm .ports = true) (hwin_ : fm .win = true) (htl_ : fm .tl = true)
    (hmemu_ : fm .memu = true) (hlanes_ : fm .lanes = true) (hpcb_ : fm .pcb = true) (hcantons_ : fm .cantons = true)
    (hstr_ : fm .str = true) (hservo_ : fm .servo = true) (hseq_ : fm .seq = true) (hclr_ : fm .clr = true)
    (hbufRecs_ : fm .bufRecs = true) (hstreamers_ : fm .streamers = true) (hlink_ : fm .link = true)
    (hcross_ : fm .cross = true) (hcal_ : fm .cal = true) (hdraws_ : fm .draws = true) (o : Origin) (c : Cluster)
    (f : Surface) (b : Bool) (s : State) :
    Framed fm s (execHostWinhWrite o c f b s) := by
  apply State.run_frame
  intro t
  simp only [hide_ite, ite_self, State.laneCtl_frame hclk_ hregs_ hlog_ hstaff_ hresetting_ hmasked_ hports_ hwin_
    htl_ hmemu_ hlanes_ hpcb_ hcantons_ hstr_ hservo_ hseq_ hclr_ hbufRecs_ hstreamers_ hlink_ hcross_ hcal_ hdraws_]

end Sys2Proof.Machine
end

