-- ==== Sys2Proof/Laws/FramePcb.lean ====
section
/-! SUPPORT. Laws/FramePcb.lean: which parts of the state the functions of Machine/Pcb.lean can change. -/

namespace Sys2Proof.Machine

theorem State.preampLost_frame {fm : Part → Bool} (hclk_ : fm .clk = true) (hregs_ : fm .regs = true)
    (hlog_ : fm .log = true) (hstaff_ : fm .staff = true) (hresetting_ : fm .resetting = true)
    (hmasked_ : fm .masked = true) (hports_ : fm .ports = true) (hwin_ : fm .win = true) (htl_ : fm .tl = true)
    (hmemu_ : fm .memu = true) (hlanes_ : fm .lanes = true) (hpcb_ : fm .pcb = true) (hcantons_ : fm .cantons = true)
    (hstr_ : fm .str = true) (hservo_ : fm .servo = true) (hseq_ : fm .seq = true) (hbufRecs_ : fm .bufRecs = true)
    (hstreamers_ : fm .streamers = true) (hlink_ : fm .link = true) (hcross_ : fm .cross = true)
    (hcal_ : fm .cal = true) (hdraws_ : fm .draws = true) (s : State) (c : Nat) :
    (State.preampLost s c).hide fm = s.hide fm := by
  unfold State.preampLost
  simp only [hide_ite, ite_self, State.loseCluster_frame hregs_ hports_ hwin_ htl_ hlanes_ hpcb_ hcantons_ hstr_ hseq_
    hbufRecs_ hstreamers_ hlink_ hcal_ hdraws_, State.raiseC_frame hclk_ hregs_ hlog_ hstaff_ hresetting_ hmasked_
    hports_ hwin_ htl_ hmemu_ hlanes_ hpcb_ hcantons_ hstr_ hservo_ hseq_ hbufRecs_ hstreamers_ hlink_ hcross_ hcal_
    hdraws_, State.set_frame hregs_]

theorem State.pcbSend_frame {fm : Part → Bool} (hpcb_ : fm .pcb = true) (s : State) (c : Nat) (q : PcbFrame) :
    (State.pcbSend s c q).hide fm = s.hide fm := by
  unfold State.pcbSend
  simp only [State.setPcb_frame hpcb_]

theorem State.noteHeat_frame {fm : Part → Bool} (hclr_ : fm .clr = true) (s : State) (c : Nat) :
    (State.noteHeat s c).hide fm = s.hide fm := by
  unfold State.noteHeat
  simp only [State.each_frame, State.setClr_frame hclr_, implies_true]

theorem State.dropHeat_frame {fm : Part → Bool} (hclk_ : fm .clk = true) (hregs_ : fm .regs = true)
    (hlog_ : fm .log = true) (hstaff_ : fm .staff = true) (hresetting_ : fm .resetting = true)
    (hmasked_ : fm .masked = true) (hports_ : fm .ports = true) (hwin_ : fm .win = true) (htl_ : fm .tl = true)
    (hmemu_ : fm .memu = true) (hlanes_ : fm .lanes = true) (hpcb_ : fm .pcb = true) (hcantons_ : fm .cantons = true)
    (hstr_ : fm .str = true) (hservo_ : fm .servo = true) (hseq_ : fm .seq = true) (hclr_ : fm .clr = true)
    (hbufRecs_ : fm .bufRecs = true) (hstreamers_ : fm .streamers = true) (hlink_ : fm .link = true)
    (hcross_ : fm .cross = true) (hcal_ : fm .cal = true) (hdraws_ : fm .draws = true) (s : State) (c : Nat) :
    (State.dropHeat s c).hide fm = s.hide fm := by
  unfold State.dropHeat
  simp only [hide_ite, ite_self, State.senseNone_frame hclk_ hregs_ hlog_ hstaff_ hresetting_ hmasked_ hports_ hwin_
    htl_ hmemu_ hlanes_ hpcb_ hcantons_ hstr_ hservo_ hseq_ hclr_ hbufRecs_ hstreamers_ hlink_ hcross_ hcal_ hdraws_,
    State.setPcb_frame hpcb_]

theorem execPcbFrameSend_frame {fm : Part → Bool} (hclk_ : fm .clk = true) (hregs_ : fm .regs = true)
    (hlog_ : fm .log = true) (hstaff_ : fm .staff = true) (hresetting_ : fm .resetting = true)
    (hmasked_ : fm .masked = true) (hports_ : fm .ports = true) (hwin_ : fm .win = true) (htl_ : fm .tl = true)
    (hmemu_ : fm .memu = true) (hlanes_ : fm .lanes = true) (hpcb_ : fm .pcb = true) (hcantons_ : fm .cantons = true)
    (hstr_ : fm .str = true) (hservo_ : fm .servo = true) (hseq_ : fm .seq = true) (hclr_ : fm .clr = true)
    (hbufRecs_ : fm .bufRecs = true) (hstreamers_ : fm .streamers = true) (hlink_ : fm .link = true)
    (hcross_ : fm .cross = true) (hcal_ : fm .cal = true) (hdraws_ : fm .draws = true) (c : Cluster) (fits : Bool)
    (s : State) :
    Framed fm s (execPcbFrameSend c fits s) := by
  apply State.run_frame
  intro t
  repeat' (first | simp only [hide_ite, ite_self,
                 State.dropHeat_frame hclk_ hregs_ hlog_ hstaff_ hresetting_ hmasked_ hports_ hwin_ htl_ hmemu_
                   hlanes_ hpcb_ hcantons_ hstr_ hservo_ hseq_ hclr_ hbufRecs_ hstreamers_ hlink_ hcross_ hcal_
                   hdraws_,
                 State.noteHeat_frame hclr_, State.pcbSend_frame hpcb_, State.setPcb_frame hpcb_] | split)

theorem State.pcbRegEnd_frame {fm : Part → Bool} (hregs_ : fm .regs = true) (s : State) (c : Nat) (err : Bool) :
    (State.pcbRegEnd s c err).hide fm = s.hide fm := by
  unfold State.pcbRegEnd
  simp only [State.set_frame hregs_]

theorem State.pcbResend_frame {fm : Part → Bool} (hclk_ : fm .clk = true) (hregs_ : fm .regs = true)
    (hlog_ : fm .log = true) (hstaff_ : fm .staff = true) (hresetting_ : fm .resetting = true)
    (hmasked_ : fm .masked = true) (hports_ : fm .ports = true) (hwin_ : fm .win = true) (htl_ : fm .tl = true)
    (hmemu_ : fm .memu = true) (hlanes_ : fm .lanes = true) (hpcb_ : fm .pcb = true) (hcantons_ : fm .cantons = true)
    (hstr_ : fm .str = true) (hservo_ : fm .servo = true) (hseq_ : fm .seq = true) (hclr_ : fm .clr = true)
    (hbufRecs_ : fm .bufRecs = true) (hstreamers_ : fm .streamers = true) (hlink_ : fm .link = true)
    (hcross_ : fm .cross = true) (hcal_ : fm .cal = true) (hdraws_ : fm .draws = true) (s : State) (c : Nat)
    (q : PcbFrame) (passed : Nat) :
    (State.pcbResend s c q passed).hide fm = s.hide fm := by
  unfold State.pcbResend
  repeat' (first | simp only [hide_ite, ite_self, State.pcbRegEnd_frame hregs_,
                 State.senseNone_frame hclk_ hregs_ hlog_ hstaff_ hresetting_ hmasked_ hports_ hwin_ htl_ hmemu_
                   hlanes_ hpcb_ hcantons_ hstr_ hservo_ hseq_ hclr_ hbufRecs_ hstreamers_ hlink_ hcross_ hcal_
                   hdraws_,
                 State.seqEvent_frame hseq_, State.setPcb_frame hpcb_] | split)

theorem State.pcbFail_frame {fm : Part → Bool} (hclk_ : fm .clk = true) (hregs_ : fm .regs = true)
    (hlog_ : fm .log = true) (hstaff_ : fm .staff = true) (hresetting_ : fm .resetting = true)
    (hmasked_ : fm .masked = true) (hports_ : fm .ports = true) (hwin_ : fm .win = true) (htl_ : fm .tl = true)
    (hmemu_ : fm .memu = true) (hlanes_ : fm .lanes = true) (hpcb_ : fm .pcb = true) (hcantons_ : fm .cantons = true)
    (hstr_ : fm .str = true) (hservo_ : fm .servo = true) (hseq_ : fm .seq = true) (hclr_ : fm .clr = true)
    (hbufRecs_ : fm .bufRecs = true) (hstreamers_ : fm .streamers = true) (hlink_ : fm .link = true)
    (hcross_ : fm .cross = true) (hcal_ : fm .cal = true) (hdraws_ : fm .draws = true) (s : State) (c : Nat)
    (q : Option PcbFrame) (passed : Nat) :
    (State.pcbFail s c q passed).hide fm = s.hide fm := by
  unfold State.pcbFail
  repeat' (first | simp only [hide_ite, ite_self, State.failAssumption_frame hports_,
                 State.pcbResend_frame hclk_ hregs_ hlog_ hstaff_ hresetting_ hmasked_ hports_ hwin_ htl_ hmemu_
                   hlanes_ hpcb_ hcantons_ hstr_ hservo_ hseq_ hclr_ hbufRecs_ hstreamers_ hlink_ hcross_ hcal_
                   hdraws_,
                 State.preampLost_frame hclk_ hregs_ hlog_ hstaff_ hresetting_ hmasked_ hports_ hwin_ htl_ hmemu_
                   hlanes_ hpcb_ hcantons_ hstr_ hservo_ hseq_ hbufRecs_ hstreamers_ hlink_ hcross_ hcal_ hdraws_,
                 State.setPcb_frame hpcb_] | split)

theorem State.pcbHeadFails_frame {fm : Part → Bool} (hclk_ : fm .clk = true) (hregs_ : fm .regs = true)
    (hlog_ : fm .log = true) (hstaff_ : fm .staff = true) (hresetting_ : fm .resetting = true)
    (hmasked_ : fm .masked = true) (hports_ : fm .ports = true) (hwin_ : fm .win = true) (htl_ : fm .tl = true)
    (hmemu_ : fm .memu = true) (hlanes_ : fm .lanes = true) (hpcb_ : fm .pcb = true) (hcantons_ : fm .cantons = true)
    (hstr_ : fm .str = true) (hservo_ : fm .servo = true) (hseq_ : fm .seq = true) (hclr_ : fm .clr = true)
    (hbufRecs_ : fm .bufRecs = true) (hstreamers_ : fm .streamers = true) (hlink_ : fm .link = true)
    (hcross_ : fm .cross = true) (hcal_ : fm .cal = true) (hdraws_ : fm .draws = true) (s : State) (c : Nat)
    (passed : Nat) :
    (State.pcbHeadFails s c passed).hide fm = s.hide fm := by
  unfold State.pcbHeadFails
  repeat' (first | simp only [State.pcbFail_frame hclk_ hregs_ hlog_ hstaff_ hresetting_ hmasked_ hports_ hwin_ htl_
                 hmemu_ hlanes_ hpcb_ hcantons_ hstr_ hservo_ hseq_ hclr_ hbufRecs_ hstreamers_ hlink_ hcross_ hcal_
                 hdraws_,
                 State.setPcb_frame hpcb_] | split)

theorem State.fromPreamp_frame {fm : Part → Bool} (s : State) (c : Nat) (f : State → State)
    (hf : ∀  t, (f  t).hide fm = t.hide fm) :
    (State.fromPreamp s c f).hide fm = s.hide fm := by
  unfold State.fromPreamp
  simp only [hide_ite, ite_self, hf]

theorem execPcbNak_frame {fm : Part → Bool} (hclk_ : fm .clk = true) (hregs_ : fm .regs = true)
    (hlog_ : fm .log = true) (hstaff_ : fm .staff = true) (hresetting_ : fm .resetting = true)
    (hmasked_ : fm .masked = true) (hports_ : fm .ports = true) (hwin_ : fm .win = true) (htl_ : fm .tl = true)
    (hmemu_ : fm .memu = true) (hlanes_ : fm .lanes = true) (hpcb_ : fm .pcb = true) (hcantons_ : fm .cantons = true)
    (hstr_ : fm .str = true) (hservo_ : fm .servo = true) (hseq_ : fm .seq = true) (hclr_ : fm .clr = true)
    (hbufRecs_ : fm .bufRecs = true) (hstreamers_ : fm .streamers = true) (hlink_ : fm .link = true)
    (hcross_ : fm .cross = true) (hcal_ : fm .cal = true) (hdraws_ : fm .draws = true) (c : Cluster) (ma : Bool)
    (passed : BitVec 12) (s : State) :
    Framed fm s (execPcbNak c ma passed s) := by
  apply State.run_frame
  intro t
  simp only [hide_ite, ite_self, State.count_frame hregs_, State.fromPreamp_frame, State.pcbFail_frame hclk_ hregs_
    hlog_ hstaff_ hresetting_ hmasked_ hports_ hwin_ htl_ hmemu_ hlanes_ hpcb_ hcantons_ hstr_ hservo_ hseq_ hclr_
    hbufRecs_ hstreamers_ hlink_ hcross_ hcal_ hdraws_, State.pcbHeadFails_frame hclk_ hregs_ hlog_ hstaff_
    hresetting_ hmasked_ hports_ hwin_ htl_ hmemu_ hlanes_ hpcb_ hcantons_ hstr_ hservo_ hseq_ hclr_ hbufRecs_
    hstreamers_ hlink_ hcross_ hcal_ hdraws_, implies_true]

theorem execPcbBadFrame_frame {fm : Part → Bool} (hclk_ : fm .clk = true) (hregs_ : fm .regs = true)
    (hlog_ : fm .log = true) (hstaff_ : fm .staff = true) (hresetting_ : fm .resetting = true)
    (hmasked_ : fm .masked = true) (hports_ : fm .ports = true) (hwin_ : fm .win = true) (htl_ : fm .tl = true)
    (hmemu_ : fm .memu = true) (hlanes_ : fm .lanes = true) (hpcb_ : fm .pcb = true) (hcantons_ : fm .cantons = true)
    (hstr_ : fm .str = true) (hservo_ : fm .servo = true) (hseq_ : fm .seq = true) (hclr_ : fm .clr = true)
    (hbufRecs_ : fm .bufRecs = true) (hstreamers_ : fm .streamers = true) (hlink_ : fm .link = true)
    (hcross_ : fm .cross = true) (hcal_ : fm .cal = true) (hdraws_ : fm .draws = true) (c : Cluster)
    (passed : BitVec 12) (s : State) :
    Framed fm s (execPcbBadFrame c passed s) := by
  apply State.run_frame
  intro t
  simp only [State.count_frame hregs_, State.fromPreamp_frame, State.pcbHeadFails_frame hclk_ hregs_ hlog_ hstaff_
    hresetting_ hmasked_ hports_ hwin_ htl_ hmemu_ hlanes_ hpcb_ hcantons_ hstr_ hservo_ hseq_ hclr_ hbufRecs_
    hstreamers_ hlink_ hcross_ hcal_ hdraws_, implies_true]

theorem execPcbExchangeTimeout_frame {fm : Part → Bool} (hclk_ : fm .clk = true) (hregs_ : fm .regs = true)
    (hlog_ : fm .log = true) (hstaff_ : fm .staff = true) (hresetting_ : fm .resetting = true)
    (hmasked_ : fm .masked = true) (hports_ : fm .ports = true) (hwin_ : fm .win = true) (htl_ : fm .tl = true)
    (hmemu_ : fm .memu = true) (hlanes_ : fm .lanes = true) (hpcb_ : fm .pcb = true) (hcantons_ : fm .cantons = true)
    (hstr_ : fm .str = true) (hservo_ : fm .servo = true) (hseq_ : fm .seq = true) (hclr_ : fm .clr = true)
    (hbufRecs_ : fm .bufRecs = true) (hstreamers_ : fm .streamers = true) (hlink_ : fm .link = true)
    (hcross_ : fm .cross = true) (hcal_ : fm .cal = true) (hdraws_ : fm .draws = true) (c : Cluster)
    (passed : BitVec 12) (s : State) :
    Framed fm s (execPcbExchangeTimeout c passed s) := by
  apply State.run_frame
  intro t
  simp only [hide_ite, ite_self, State.count_frame hregs_, State.pcbHeadFails_frame hclk_ hregs_ hlog_ hstaff_
    hresetting_ hmasked_ hports_ hwin_ htl_ hmemu_ hlanes_ hpcb_ hcantons_ hstr_ hservo_ hseq_ hclr_ hbufRecs_
    hstreamers_ hlink_ hcross_ hcal_ hdraws_]

theorem State.pcbAnswered_frame {fm : Part → Bool} (hpcb_ : fm .pcb = true) (s : State) (c : Nat) :
    (State.pcbAnswered s c).hide fm = s.hide fm := by
  unfold State.pcbAnswered
  simp only [State.setPcb_frame hpcb_]

theorem execPcbAck_frame {fm : Part → Bool} (hregs_ : fm .regs = true) (hpcb_ : fm .pcb = true)
    (hseq_ : fm .seq = true) (c : Cluster) (seq : Fin 16) (s : State) :
    Framed fm s (execPcbAck c seq s) := by
  apply State.run_frame
  intro t
  refine State.fromPreamp_frame _ _ _ (fun u => ?_)
  split
  · rfl
  split
  · rfl
  split
  · refine ((State.seqEvent_frame hseq_) _ _ _).trans ((State.each_frame _ _ _ (fun i t => (State.set_frame hregs_) _
        _ _)).trans ?_)
    exact (State.pcbAnswered_frame hpcb_) _ _
  · exact ((State.pcbRegEnd_frame hregs_) _ _ _).trans ((State.pcbAnswered_frame hpcb_) _ _)
  · exact (State.pcbAnswered_frame hpcb_) _ _
  · rfl

theorem execPcbSense_frame {fm : Part → Bool} (hclk_ : fm .clk = true) (hregs_ : fm .regs = true)
    (hlog_ : fm .log = true) (hstaff_ : fm .staff = true) (hresetting_ : fm .resetting = true)
    (hmasked_ : fm .masked = true) (hports_ : fm .ports = true) (hwin_ : fm .win = true) (htl_ : fm .tl = true)
    (hmemu_ : fm .memu = true) (hlanes_ : fm .lanes = true) (hpcb_ : fm .pcb = true) (hcantons_ : fm .cantons = true)
    (hstr_ : fm .str = true) (hservo_ : fm .servo = true) (hseq_ : fm .seq = true) (hclr_ : fm .clr = true)
    (hbufRecs_ : fm .bufRecs = true) (hstreamers_ : fm .streamers = true) (hlink_ : fm .link = true)
    (hcross_ : fm .cross = true) (hcal_ : fm .cal = true) (hdraws_ : fm .draws = true) (c : Cluster)
    (r : Vector (BitVec 16) 32) (s : State) :
    Framed fm s (execPcbSense c r s) := by
  apply State.run_frame
  intro t
  refine State.fromPreamp_frame _ _ _ (fun u => ?_)
  split
  · rfl
  · simp only [hide_ite,
                 (State.senseAll_frame hclk_ hregs_ hlog_ hstaff_ hresetting_ hmasked_ hports_ hwin_ htl_ hmemu_
                   hlanes_ hpcb_ hcantons_ hstr_ hservo_ hseq_ hclr_ hbufRecs_ hstreamers_ hlink_ hcross_ hcal_
                   hdraws_),
                 (State.pcbAnswered_frame hpcb_), ite_self]

theorem execPcbRdata_frame {fm : Part → Bool} (hregs_ : fm .regs = true) (hpcb_ : fm .pcb = true) (c : Cluster)
    (addr : BitVec 16) (data : BitVec 16) (s : State) :
    Framed fm s (execPcbRdata c addr data s) := by
  apply State.run_frame
  intro t
  refine State.fromPreamp_frame _ _ _ (fun u => ?_)
  split
  · rfl
  · simp only [hide_ite, (State.set_frame hregs_), (State.pcbRegEnd_frame hregs_), (State.pcbAnswered_frame hpcb_),
                 ite_self]

theorem State.pcbReg_frame {fm : Part → Bool} (hregs_ : fm .regs = true) (hlog_ : fm .log = true)
    (hpcb_ : fm .pcb = true) (s : State) (o : Origin) (c : Nat) (op : Nat) :
    (State.pcbReg s o c op).hide fm = s.hide fm := by
  unfold State.pcbReg
  simp only [hide_ite, ite_self, State.logPriv_frame hregs_ hlog_, State.setPcb_frame hpcb_, State.set_frame hregs_]

theorem execPcbRegRead_frame {fm : Part → Bool} (hregs_ : fm .regs = true) (hlog_ : fm .log = true)
    (hpcb_ : fm .pcb = true) (o : Origin) (c : Cluster) (s : State) :
    Framed fm s (execPcbRegRead o c s) := by
  apply State.run_frame
  intro t
  simp only [hide_ite, ite_self, State.pcbReg_frame hregs_ hlog_ hpcb_]

theorem execPcbRegWrite_frame {fm : Part → Bool} (hregs_ : fm .regs = true) (hlog_ : fm .log = true)
    (hpcb_ : fm .pcb = true) (o : Origin) (c : Cluster) (s : State) :
    Framed fm s (execPcbRegWrite o c s) := by
  apply State.run_frame
  intro t
  simp only [hide_ite, ite_self, State.pcbReg_frame hregs_ hlog_ hpcb_]

theorem State.faultSurface_frame {fm : Part → Bool} (hclk_ : fm .clk = true) (hregs_ : fm .regs = true)
    (hlog_ : fm .log = true) (hstaff_ : fm .staff = true) (hresetting_ : fm .resetting = true)
    (hmasked_ : fm .masked = true) (hports_ : fm .ports = true) (hwin_ : fm .win = true) (htl_ : fm .tl = true)
    (hmemu_ : fm .memu = true) (hlanes_ : fm .lanes = true) (hpcb_ : fm .pcb = true) (hcantons_ : fm .cantons = true)
    (hstr_ : fm .str = true) (hservo_ : fm .servo = true) (hseq_ : fm .seq = true) (hclr_ : fm .clr = true)
    (hbufRecs_ : fm .bufRecs = true) (hstreamers_ : fm .streamers = true) (hlink_ : fm .link = true)
    (hcross_ : fm .cross = true) (hcal_ : fm .cal = true) (hdraws_ : fm .draws = true) (s : State) (c : Nat)
    (cause : Nat) (f : Nat) :
    (State.faultSurface s c cause f).hide fm = s.hide fm := by
  unfold State.faultSurface
  simp only [hide_ite, ite_self, State.setWhy_frame hregs_ hlanes_ hstr_ hseq_ hdraws_, State.set_frame hregs_,
    State.surfaceLost_frame hclk_ hregs_ hlog_ hstaff_ hresetting_ hmasked_ hports_ hwin_ htl_ hmemu_ hlanes_ hpcb_
    hcantons_ hstr_ hservo_ hseq_ hclr_ hbufRecs_ hstreamers_ hlink_ hcross_ hcal_ hdraws_]

theorem execPcbFaultFrame_frame {fm : Part → Bool} (hclk_ : fm .clk = true) (hregs_ : fm .regs = true)
    (hlog_ : fm .log = true) (hstaff_ : fm .staff = true) (hresetting_ : fm .resetting = true)
    (hmasked_ : fm .masked = true) (hports_ : fm .ports = true) (hwin_ : fm .win = true) (htl_ : fm .tl = true)
    (hmemu_ : fm .memu = true) (hlanes_ : fm .lanes = true) (hpcb_ : fm .pcb = true) (hcantons_ : fm .cantons = true)
    (hstr_ : fm .str = true) (hservo_ : fm .servo = true) (hseq_ : fm .seq = true) (hclr_ : fm .clr = true)
    (hbufRecs_ : fm .bufRecs = true) (hstreamers_ : fm .streamers = true) (hlink_ : fm .link = true)
    (hcross_ : fm .cross = true) (hcal_ : fm .cal = true) (hdraws_ : fm .draws = true) (c : Cluster)
    (surfaces : BitVec 32) (cause : BitVec 8) (s : State) :
    Framed fm s (execPcbFaultFrame c surfaces cause s) := by
  apply State.run_frame
  intro t
  simp only [hide_ite, ite_self, State.each_frame, State.faultSurface_frame hclk_ hregs_ hlog_ hstaff_ hresetting_
    hmasked_ hports_ hwin_ htl_ hmemu_ hlanes_ hpcb_ hcantons_ hstr_ hservo_ hseq_ hclr_ hbufRecs_ hstreamers_ hlink_
    hcross_ hcal_ hdraws_, State.fromPreamp_frame, State.preampLost_frame hclk_ hregs_ hlog_ hstaff_ hresetting_
    hmasked_ hports_ hwin_ htl_ hmemu_ hlanes_ hpcb_ hcantons_ hstr_ hservo_ hseq_ hbufRecs_ hstreamers_ hlink_
    hcross_ hcal_ hdraws_, State.raiseC_frame hclk_ hregs_ hlog_ hstaff_ hresetting_ hmasked_ hports_ hwin_ htl_
    hmemu_ hlanes_ hpcb_ hcantons_ hstr_ hservo_ hseq_ hbufRecs_ hstreamers_ hlink_ hcross_ hcal_ hdraws_,
    State.seqIrq_frame hregs_, State.setLane_frame hlanes_, State.setPcb_frame hpcb_, State.set_frame hregs_,
    implies_true]

theorem execPfltFall_frame {fm : Part → Bool} (hregs_ : fm .regs = true) (hlanes_ : fm .lanes = true)
    (hpcb_ : fm .pcb = true) (hstr_ : fm .str = true) (hseq_ : fm .seq = true) (hdraws_ : fm .draws = true)
    (c : Cluster) (s : State) :
    Framed fm s (execPfltFall c s) := by
  apply State.run_frame
  intro t
  simp only [State.cutWrite_frame hregs_ hlanes_ hstr_ hseq_ hdraws_, State.each_frame, State.seqIrq_frame hregs_,
    State.setLane_frame hlanes_, State.setPcb_frame hpcb_, State.set_frame hregs_, implies_true]

theorem execPfltRise_frame {fm : Part → Bool} (hregs_ : fm .regs = true) (c : Cluster) (s : State) :
    Framed fm s (execPfltRise c s) := by
  apply State.run_frame
  intro t
  simp only [State.set_frame hregs_]

theorem execPfltNoFaultFrame_frame {fm : Part → Bool} (hclk_ : fm .clk = true) (hregs_ : fm .regs = true)
    (hlog_ : fm .log = true) (hstaff_ : fm .staff = true) (hresetting_ : fm .resetting = true)
    (hmasked_ : fm .masked = true) (hports_ : fm .ports = true) (hwin_ : fm .win = true) (htl_ : fm .tl = true)
    (hmemu_ : fm .memu = true) (hlanes_ : fm .lanes = true) (hpcb_ : fm .pcb = true) (hcantons_ : fm .cantons = true)
    (hstr_ : fm .str = true) (hservo_ : fm .servo = true) (hseq_ : fm .seq = true) (hbufRecs_ : fm .bufRecs = true)
    (hstreamers_ : fm .streamers = true) (hlink_ : fm .link = true) (hcross_ : fm .cross = true)
    (hcal_ : fm .cal = true) (hdraws_ : fm .draws = true) (c : Cluster) (s : State) :
    Framed fm s (execPfltNoFaultFrame c s) := by
  apply State.run_frame
  intro t
  repeat' (first | simp only [hide_ite, ite_self,
                 State.preampLost_frame hclk_ hregs_ hlog_ hstaff_ hresetting_ hmasked_ hports_ hwin_ htl_ hmemu_
                   hlanes_ hpcb_ hcantons_ hstr_ hservo_ hseq_ hbufRecs_ hstreamers_ hlink_ hcross_ hcal_ hdraws_]
                 | split)

theorem State.pcbWedge_frame {fm : Part → Bool} (hlanes_ : fm .lanes = true) (hpcb_ : fm .pcb = true) (s : State)
    (c : Nat) :
    (State.pcbWedge s c).hide fm = s.hide fm := by
  unfold State.pcbWedge
  simp only [State.each_frame, State.setLane_frame hlanes_, State.setPcb_frame hpcb_, implies_true]

end Sys2Proof.Machine
end

