-- ==== Sys2Proof/Laws/FrameMcb.lean ====
section
/-! SUPPORT. Laws/FrameMcb.lean: which parts of the state the functions of Machine/Mcb.lean can change. -/

namespace Sys2Proof.Machine

theorem State.queueVcm_frame {fm : Part → Bool} (hmcb_ : fm .mcb = true) (s : State) (c : Nat) (payload : Nat) :
    (State.queueVcm s c payload).hide fm = s.hide fm := by
  unfold State.queueVcm
  simp only [hide_mcb hmcb_, hide_ite, ite_self]

theorem State.mcbSend_frame {fm : Part → Bool} (hmcb_ : fm .mcb = true) (s : State) (k : Nat) (q : McbFrame) :
    (State.mcbSend s k q).hide fm = s.hide fm := by
  unfold State.mcbSend
  simp only [hide_mcb hmcb_]

theorem State.spinFrame_frame {fm : Part → Bool} (hregs_ : fm .regs = true) (hspin_ : fm .spin = true) (s : State)
    (drive : Nat) (angle : Nat) :
    (State.spinFrame s drive angle).1.hide fm = s.hide fm := by
  unfold State.spinFrame
  simp only [hide_ite, ite_self, State.set_frame hregs_, State.spinBoth_frame hspin_]

theorem State.mcbOther_frame {fm : Part → Bool} (hmcb_ : fm .mcb = true) (s : State) (k : Nat) :
    (State.mcbOther s k).hide fm = s.hide fm := by
  unfold State.mcbOther
  repeat' (first | simp only [hide_mcb hmcb_, State.mcbSend_frame hmcb_] | split)

theorem State.parkDone_frame {fm : Part → Bool} (hregs_ : fm .regs = true) (s : State) :
    (State.parkDone s).hide fm = s.hide fm := by
  unfold State.parkDone
  simp only [hide_ite, ite_self, State.each_frame, State.set_frame hregs_, implies_true]

theorem State.mcbTurn_frame {fm : Part → Bool} (hregs_ : fm .regs = true) (hmcb_ : fm .mcb = true)
    (hspin_ : fm .spin = true) (s : State) (k : Nat) (drive : Nat) (angle : Nat) :
    (State.mcbTurn s k drive angle).hide fm = s.hide fm := by
  have e : (if k % 16 == 0 then
      let r := s.spinFrame drive angle
      r.1.mcbSend k r.2
    else (s.mcbOther k).parkDone).hide fm = s.hide fm := by
    simp only
    split
    · exact ((State.mcbSend_frame hmcb_) _ _ _).trans ((State.spinFrame_frame hregs_ hspin_) _ _ _)
    · exact ((State.parkDone_frame hregs_) _).trans ((State.mcbOther_frame hmcb_) _ _)
  unfold State.mcbTurn
  split
  · split
    · exact ((State.mcbSend_frame hmcb_) _ _ _).trans (hide_mcb hmcb_ _ _)
    · exact ((State.parkDone_frame hregs_) _).trans ((State.mcbOther_frame hmcb_) _ _)
  · exact e

theorem execMcbCycle_frame {fm : Part → Bool} (hregs_ : fm .regs = true) (hmcb_ : fm .mcb = true)
    (hspin_ : fm .spin = true) (drive : BitVec 12) (angle : BitVec 12) (s : State) :
    Framed fm s (execMcbCycle drive angle s) := by
  apply State.run_frame
  intro t
  simp only [hide_ite, ite_self, State.mcbTurn_frame hregs_ hmcb_ hspin_]

theorem State.motorLost_frame {fm : Part → Bool} (hclk_ : fm .clk = true) (hregs_ : fm .regs = true)
    (hlog_ : fm .log = true) (hstaff_ : fm .staff = true) (hresetting_ : fm .resetting = true)
    (hmasked_ : fm .masked = true) (hports_ : fm .ports = true) (hwin_ : fm .win = true) (htl_ : fm .tl = true)
    (hmemu_ : fm .memu = true) (hlanes_ : fm .lanes = true) (hpcb_ : fm .pcb = true) (hcantons_ : fm .cantons = true)
    (hstr_ : fm .str = true) (hservo_ : fm .servo = true) (hseq_ : fm .seq = true) (hbufRecs_ : fm .bufRecs = true)
    (hstreamers_ : fm .streamers = true) (hlink_ : fm .link = true) (hcross_ : fm .cross = true)
    (hcal_ : fm .cal = true) (hdraws_ : fm .draws = true) (s : State) :
    (State.motorLost s).hide fm = s.hide fm := by
  unfold State.motorLost
  simp only [State.loseSpindle_frame hregs_ hports_ hwin_ htl_ hlanes_ hpcb_ hcantons_ hstr_ hseq_ hbufRecs_
    hstreamers_ hlink_ hcal_ hdraws_, State.raise_frame hclk_ hregs_ hlog_ hstaff_ hresetting_ hmasked_ hports_ hwin_
    htl_ hmemu_ hlanes_ hpcb_ hcantons_ hstr_ hservo_ hseq_ hbufRecs_ hstreamers_ hlink_ hcross_ hcal_ hdraws_]

theorem State.mcbOk_frame {fm : Part → Bool} (hmcb_ : fm .mcb = true) (s : State) :
    (State.mcbOk s).hide fm = s.hide fm := by
  unfold State.mcbOk
  simp only [hide_mcb hmcb_]

theorem State.mcbAgain_frame {fm : Part → Bool} (hmcb_ : fm .mcb = true) (s : State) (q : McbFrame) :
    (State.mcbAgain s q).hide fm = s.hide fm := by
  unfold State.mcbAgain
  repeat' (first | simp only [hide_mcb hmcb_, hide_ite, ite_self] | split)

theorem State.mcbRegEnd_frame {fm : Part → Bool} (hregs_ : fm .regs = true) (s : State) (q : McbFrame) :
    (State.mcbRegEnd s q).hide fm = s.hide fm := by
  unfold State.mcbRegEnd
  simp only [hide_ite, ite_self, State.set_frame hregs_]

theorem State.mcbFail_frame {fm : Part → Bool} (hclk_ : fm .clk = true) (hregs_ : fm .regs = true)
    (hlog_ : fm .log = true) (hstaff_ : fm .staff = true) (hresetting_ : fm .resetting = true)
    (hmasked_ : fm .masked = true) (hports_ : fm .ports = true) (hwin_ : fm .win = true) (htl_ : fm .tl = true)
    (hmemu_ : fm .memu = true) (hlanes_ : fm .lanes = true) (hpcb_ : fm .pcb = true) (hmcb_ : fm .mcb = true)
    (hcantons_ : fm .cantons = true) (hstr_ : fm .str = true) (hservo_ : fm .servo = true) (hseq_ : fm .seq = true)
    (hbufRecs_ : fm .bufRecs = true) (hstreamers_ : fm .streamers = true) (hlink_ : fm .link = true)
    (hcross_ : fm .cross = true) (hcal_ : fm .cal = true) (hdraws_ : fm .draws = true) (s : State) :
    (State.mcbFail s).hide fm = s.hide fm := by
  unfold State.mcbFail
  repeat' (first | simp only [hide_mcb hmcb_, hide_ite, ite_self,
                 State.count_frame hregs_, State.mcbAgain_frame hmcb_, State.mcbRegEnd_frame hregs_,
                 State.motorLost_frame hclk_ hregs_ hlog_ hstaff_ hresetting_ hmasked_ hports_ hwin_ htl_ hmemu_
                   hlanes_ hpcb_ hcantons_ hstr_ hservo_ hseq_ hbufRecs_ hstreamers_ hlink_ hcross_ hcal_ hdraws_,
                 State.set_frame hregs_] | split)

theorem State.fromDriver_frame {fm : Part → Bool} (s : State) (seq : Nat) (f : McbFrame → State → State)
    (hf : ∀ i0 t, (f i0 t).hide fm = t.hide fm) :
    (State.fromDriver s seq f).hide fm = s.hide fm := by
  unfold State.fromDriver
  repeat' (first | simp only [hide_ite, ite_self, hf] | split)

theorem execMcbAck_frame {fm : Part → Bool} (hregs_ : fm .regs = true) (hmcb_ : fm .mcb = true) (seq : Fin 16)
    (echo : BitVec 24) (s : State) :
    Framed fm s (execMcbAck seq echo s) := by
  apply State.run_frame
  intro t
  simp only [hide_ite, ite_self, State.fromDriver_frame, State.mcbOk_frame hmcb_, State.mcbRegEnd_frame hregs_,
    implies_true]

theorem execMcbNak_frame {fm : Part → Bool} (hclk_ : fm .clk = true) (hregs_ : fm .regs = true)
    (hlog_ : fm .log = true) (hstaff_ : fm .staff = true) (hresetting_ : fm .resetting = true)
    (hmasked_ : fm .masked = true) (hports_ : fm .ports = true) (hwin_ : fm .win = true) (htl_ : fm .tl = true)
    (hmemu_ : fm .memu = true) (hlanes_ : fm .lanes = true) (hpcb_ : fm .pcb = true) (hmcb_ : fm .mcb = true)
    (hcantons_ : fm .cantons = true) (hstr_ : fm .str = true) (hservo_ : fm .servo = true) (hseq_ : fm .seq = true)
    (hbufRecs_ : fm .bufRecs = true) (hstreamers_ : fm .streamers = true) (hlink_ : fm .link = true)
    (hcross_ : fm .cross = true) (hcal_ : fm .cal = true) (hdraws_ : fm .draws = true) (seq : Fin 16) (s : State) :
    Framed fm s (execMcbNak seq s) := by
  apply State.run_frame
  intro t
  simp only [State.fromDriver_frame, State.mcbFail_frame hclk_ hregs_ hlog_ hstaff_ hresetting_ hmasked_ hports_ hwin_
    htl_ hmemu_ hlanes_ hpcb_ hmcb_ hcantons_ hstr_ hservo_ hseq_ hbufRecs_ hstreamers_ hlink_ hcross_ hcal_ hdraws_,
    implies_true]

theorem execMcbBadReply_frame {fm : Part → Bool} (hclk_ : fm .clk = true) (hregs_ : fm .regs = true)
    (hlog_ : fm .log = true) (hstaff_ : fm .staff = true) (hresetting_ : fm .resetting = true)
    (hmasked_ : fm .masked = true) (hports_ : fm .ports = true) (hwin_ : fm .win = true) (htl_ : fm .tl = true)
    (hmemu_ : fm .memu = true) (hlanes_ : fm .lanes = true) (hpcb_ : fm .pcb = true) (hmcb_ : fm .mcb = true)
    (hcantons_ : fm .cantons = true) (hstr_ : fm .str = true) (hservo_ : fm .servo = true) (hseq_ : fm .seq = true)
    (hbufRecs_ : fm .bufRecs = true) (hstreamers_ : fm .streamers = true) (hlink_ : fm .link = true)
    (hcross_ : fm .cross = true) (hcal_ : fm .cal = true) (hdraws_ : fm .draws = true) (s : State) :
    Framed fm s (execMcbBadReply s) := by
  apply State.run_frame
  intro t
  simp only [State.mcbFail_frame hclk_ hregs_ hlog_ hstaff_ hresetting_ hmasked_ hports_ hwin_ htl_ hmemu_ hlanes_
    hpcb_ hmcb_ hcantons_ hstr_ hservo_ hseq_ hbufRecs_ hstreamers_ hlink_ hcross_ hcal_ hdraws_]

theorem execVcmMeas_frame {fm : Part → Bool} (hmcb_ : fm .mcb = true) (c : Cluster) (seq : Fin 16) (cur : BitVec 12)
    (emf : BitVec 12) (s : State) :
    Framed fm s (execVcmMeas c seq cur emf s) := by
  apply State.run_frame
  intro t
  simp only [hide_mcb hmcb_, hide_ite, ite_self, State.fromDriver_frame, State.mcbOk_frame hmcb_, implies_true]

theorem execSpinMeas_frame {fm : Part → Bool} (hclk_ : fm .clk = true) (hregs_ : fm .regs = true)
    (hlog_ : fm .log = true) (hstaff_ : fm .staff = true) (hresetting_ : fm .resetting = true)
    (hmasked_ : fm .masked = true) (hports_ : fm .ports = true) (hwin_ : fm .win = true) (htl_ : fm .tl = true)
    (hmemu_ : fm .memu = true) (hlanes_ : fm .lanes = true) (hpcb_ : fm .pcb = true) (hmcb_ : fm .mcb = true)
    (hcantons_ : fm .cantons = true) (hstr_ : fm .str = true) (hservo_ : fm .servo = true) (hseq_ : fm .seq = true)
    (hspin_ : fm .spin = true) (hbufRecs_ : fm .bufRecs = true) (hstreamers_ : fm .streamers = true)
    (hlink_ : fm .link = true) (hcross_ : fm .cross = true) (hcal_ : fm .cal = true) (hdraws_ : fm .draws = true)
    (seq : Fin 16) (emf : BitVec 12) (phase : Fin 3) (vbus : BitVec 10) (zero : Option (Bool × Fin 16)) (s : State) :
    Framed fm s (execSpinMeas seq emf phase vbus zero s) := by
  apply State.run_frame
  intro t
  repeat' (first | simp only [hide_clk hclk_, hide_mcb hmcb_, hide_ite, ite_self,
                 State.fromDriver_frame, State.mcbOk_frame hmcb_,
                 State.spinZero_frame hclk_ hregs_ hlog_ hstaff_ hresetting_ hmasked_ hports_ hwin_ htl_ hmemu_
                   hlanes_ hpcb_ hcantons_ hstr_ hservo_ hseq_ hspin_ hbufRecs_ hstreamers_ hlink_ hcross_ hcal_
                   hdraws_,
                 implies_true] | split)

theorem execMcbRdata_frame {fm : Part → Bool} (hregs_ : fm .regs = true) (hmcb_ : fm .mcb = true) (seq : Fin 16)
    (addr : BitVec 8) (data : BitVec 16) (s : State) :
    Framed fm s (execMcbRdata seq addr data s) := by
  apply State.run_frame
  intro t
  simp only [hide_ite, ite_self, State.fromDriver_frame, State.mcbOk_frame hmcb_, State.mcbRegEnd_frame hregs_,
    State.set_frame hregs_, implies_true]

theorem execMcbFault_frame {fm : Part → Bool} (hregs_ : fm .regs = true) (hmcb_ : fm .mcb = true) (seq : Fin 16)
    (payload : BitVec 24) (s : State) :
    Framed fm s (execMcbFault seq payload s) := by
  apply State.run_frame
  intro t
  simp only [State.fromDriver_frame, State.mcbAgain_frame hmcb_, State.mcbOk_frame hmcb_, State.set_frame hregs_,
    implies_true]

theorem State.mcbReg_frame {fm : Part → Bool} (hregs_ : fm .regs = true) (hlog_ : fm .log = true)
    (hmcb_ : fm .mcb = true) (s : State) (o : Origin) (op : Nat) (addr : Nat) (data : Nat) :
    (State.mcbReg s o op addr data).hide fm = s.hide fm := by
  unfold State.mcbReg
  simp only [hide_mcb hmcb_, hide_ite, ite_self, State.logPriv_frame hregs_ hlog_, State.set_frame hregs_]

theorem execMcbRegRead_frame {fm : Part → Bool} (hregs_ : fm .regs = true) (hlog_ : fm .log = true)
    (hmcb_ : fm .mcb = true) (o : Origin) (addr : BitVec 8) (s : State) :
    Framed fm s (execMcbRegRead o addr s) := by
  apply State.run_frame
  intro t
  simp only [State.mcbReg_frame hregs_ hlog_ hmcb_]

theorem execMcbRegWrite_frame {fm : Part → Bool} (hregs_ : fm .regs = true) (hlog_ : fm .log = true)
    (hmcb_ : fm .mcb = true) (o : Origin) (addr : BitVec 8) (data : BitVec 16) (s : State) :
    Framed fm s (execMcbRegWrite o addr data s) := by
  apply State.run_frame
  intro t
  simp only [State.mcbReg_frame hregs_ hlog_ hmcb_]

theorem execMasterTakeover_frame {fm : Part → Bool} (hclk_ : fm .clk = true) (hregs_ : fm .regs = true)
    (hlog_ : fm .log = true) (hstaff_ : fm .staff = true) (hresetting_ : fm .resetting = true)
    (hmasked_ : fm .masked = true) (hports_ : fm .ports = true) (hwin_ : fm .win = true) (htl_ : fm .tl = true)
    (hmemu_ : fm .memu = true) (hlanes_ : fm .lanes = true) (hpcb_ : fm .pcb = true) (hcantons_ : fm .cantons = true)
    (hstr_ : fm .str = true) (hservo_ : fm .servo = true) (hseq_ : fm .seq = true) (hbufRecs_ : fm .bufRecs = true)
    (hstreamers_ : fm .streamers = true) (hlink_ : fm .link = true) (hcross_ : fm .cross = true)
    (hcal_ : fm .cal = true) (hdraws_ : fm .draws = true) (s : State) :
    Framed fm s (execMasterTakeover s) := by
  apply State.run_frame
  intro t
  simp only [hide_ite, ite_self, State.motorLost_frame hclk_ hregs_ hlog_ hstaff_ hresetting_ hmasked_ hports_ hwin_
    htl_ hmemu_ hlanes_ hpcb_ hcantons_ hstr_ hservo_ hseq_ hbufRecs_ hstreamers_ hlink_ hcross_ hcal_ hdraws_,
    State.set_frame hregs_]

end Sys2Proof.Machine
end

