-- ==== Sys2Proof/Laws/FramePower.lean ====
section
/-! SUPPORT. Laws/FramePower.lean: which parts of the state the functions of Machine/Power.lean can change. -/

namespace Sys2Proof.Machine

theorem State.logReset_frame {fm : Part → Bool} (hregs_ : fm .regs = true) (hlog_ : fm .log = true) (s : State) :
    (State.logReset s).hide fm = s.hide fm := by
  unfold State.logReset
  simp only [hide_log hlog_, hide_ite, ite_self, State.thaw_frame hregs_ hlog_]

theorem State.packageReset_frame {fm : Part → Bool} (hclk_ : fm .clk = true) (hregs_ : fm .regs = true)
    (hlog_ : fm .log = true) (hstaff_ : fm .staff = true) (hresetting_ : fm .resetting = true)
    (hmasked_ : fm .masked = true) (hports_ : fm .ports = true) (hwin_ : fm .win = true) (htl_ : fm .tl = true)
    (hmem_ : fm .mem = true) (hmemX_ : fm .memX = true) (hmemu_ : fm .memu = true) (hlanes_ : fm .lanes = true)
    (hpcb_ : fm .pcb = true) (hmcb_ : fm .mcb = true) (hpf_ : fm .pf = true) (hcantons_ : fm .cantons = true)
    (hstr_ : fm .str = true) (hservo_ : fm .servo = true) (hseq_ : fm .seq = true) (hclr_ : fm .clr = true)
    (hbiasA_ : fm .biasA = true) (hspin_ : fm .spin = true) (hcache_ : fm .cache = true)
    (hstaged_ : fm .staged = true) (hbufRecs_ : fm .bufRecs = true) (hstreamers_ : fm .streamers = true)
    (hlink_ : fm .link = true) (hcross_ : fm .cross = true) (hstart_ : fm .start = true) (hcal_ : fm .cal = true)
    (s : State) :
    (State.packageReset s).hide fm = s.hide fm := by
  unfold State.packageReset
  simp only [(State.set_frame hregs_)]
  refine Eq.trans ?_ ((State.logReset_frame hregs_ hlog_) s)
  apply hide_congr <;> first | exact Or.inr rfl | exact Or.inl (by assumption)

theorem State.resume_frame {fm : Part → Bool} (hregs_ : fm .regs = true) (hlog_ : fm .log = true) (s : State) :
    (State.resume s).hide fm = s.hide fm := by
  unfold State.resume
  repeat' (first | simp only [hide_log hlog_, State.lifeEntry_frame hlog_,
                 State.set_frame hregs_] | split)

theorem State.firstDone_frame {fm : Part → Bool} (hregs_ : fm .regs = true) (s : State) :
    (State.firstDone s).hide fm = s.hide fm := by
  unfold State.firstDone
  simp only [hide_ite, ite_self, State.set_frame hregs_]

theorem execPowerOnDetect_frame {fm : Part → Bool} (htime_ : fm .time = true) (hclk_ : fm .clk = true)
    (hregs_ : fm .regs = true) (hlog_ : fm .log = true) (hstaff_ : fm .staff = true)
    (hresetting_ : fm .resetting = true) (hmasked_ : fm .masked = true) (hports_ : fm .ports = true)
    (hwin_ : fm .win = true) (htl_ : fm .tl = true) (hmem_ : fm .mem = true) (hmemX_ : fm .memX = true)
    (hmemu_ : fm .memu = true) (hlanes_ : fm .lanes = true) (hpcb_ : fm .pcb = true) (hmcb_ : fm .mcb = true)
    (hpf_ : fm .pf = true) (hcantons_ : fm .cantons = true) (hstr_ : fm .str = true) (hservo_ : fm .servo = true)
    (hseq_ : fm .seq = true) (hclr_ : fm .clr = true) (hbiasA_ : fm .biasA = true) (hspin_ : fm .spin = true)
    (hcache_ : fm .cache = true) (hstaged_ : fm .staged = true) (hbufRecs_ : fm .bufRecs = true)
    (hstreamers_ : fm .streamers = true) (hlink_ : fm .link = true) (hcross_ : fm .cross = true)
    (hstart_ : fm .start = true) (hcal_ : fm .cal = true) (s : State) :
    Framed fm s (execPowerOnDetect s) := by
  intro t ht
  cases ht
  have e : s.coldState.hide fm = s.hide fm := by
    unfold State.coldState
    apply hide_congr <;> first | exact Or.inr rfl | exact Or.inl (by assumption)
  simp only [(State.set_frame hregs_), (State.resume_frame hregs_ hlog_), (State.firstDone_frame hregs_), e]

theorem State.heldInReset_frame {fm : Part → Bool} (hclk_ : fm .clk = true) (hregs_ : fm .regs = true)
    (hlog_ : fm .log = true) (hstaff_ : fm .staff = true) (hresetting_ : fm .resetting = true)
    (hmasked_ : fm .masked = true) (hports_ : fm .ports = true) (hwin_ : fm .win = true) (htl_ : fm .tl = true)
    (hmem_ : fm .mem = true) (hmemX_ : fm .memX = true) (hmemu_ : fm .memu = true) (hlanes_ : fm .lanes = true)
    (hpcb_ : fm .pcb = true) (hmcb_ : fm .mcb = true) (hpf_ : fm .pf = true) (hcantons_ : fm .cantons = true)
    (hstr_ : fm .str = true) (hservo_ : fm .servo = true) (hseq_ : fm .seq = true) (hclr_ : fm .clr = true)
    (hbiasA_ : fm .biasA = true) (hspin_ : fm .spin = true) (hcache_ : fm .cache = true)
    (hstaged_ : fm .staged = true) (hbufRecs_ : fm .bufRecs = true) (hstreamers_ : fm .streamers = true)
    (hlink_ : fm .link = true) (hcross_ : fm .cross = true) (hstart_ : fm .start = true) (hcal_ : fm .cal = true)
    (s : State) :
    (State.heldInReset s).hide fm = s.hide fm := by
  unfold State.heldInReset
  simp only [hide_ite, (State.set_frame hregs_), hide_clk hclk_,
                 (State.packageReset_frame hclk_ hregs_ hlog_ hstaff_ hresetting_ hmasked_ hports_ hwin_ htl_ hmem_
                   hmemX_ hmemu_ hlanes_ hpcb_ hmcb_ hpf_ hcantons_ hstr_ hservo_ hseq_ hclr_ hbiasA_ hspin_ hcache_
                   hstaged_ hbufRecs_ hstreamers_ hlink_ hcross_ hstart_ hcal_),
                 ite_self]

theorem execResetNAssert_frame {fm : Part → Bool} (hclk_ : fm .clk = true) (hregs_ : fm .regs = true)
    (hlog_ : fm .log = true) (hstaff_ : fm .staff = true) (hresetting_ : fm .resetting = true)
    (hmasked_ : fm .masked = true) (hports_ : fm .ports = true) (hwin_ : fm .win = true) (htl_ : fm .tl = true)
    (hmem_ : fm .mem = true) (hmemX_ : fm .memX = true) (hmemu_ : fm .memu = true) (hlanes_ : fm .lanes = true)
    (hpcb_ : fm .pcb = true) (hmcb_ : fm .mcb = true) (hpf_ : fm .pf = true) (hcantons_ : fm .cantons = true)
    (hstr_ : fm .str = true) (hservo_ : fm .servo = true) (hseq_ : fm .seq = true) (hclr_ : fm .clr = true)
    (hbiasA_ : fm .biasA = true) (hspin_ : fm .spin = true) (hcache_ : fm .cache = true)
    (hstaged_ : fm .staged = true) (hbufRecs_ : fm .bufRecs = true) (hstreamers_ : fm .streamers = true)
    (hlink_ : fm .link = true) (hcross_ : fm .cross = true) (hstart_ : fm .start = true) (hcal_ : fm .cal = true)
    (s : State) :
    Framed fm s (execResetNAssert s) := by
  intro t ht
  cases ht
  simp only [hide_ite,
                 (State.heldInReset_frame hclk_ hregs_ hlog_ hstaff_ hresetting_ hmasked_ hports_ hwin_ htl_ hmem_
                   hmemX_ hmemu_ hlanes_ hpcb_ hmcb_ hpf_ hcantons_ hstr_ hservo_ hseq_ hclr_ hbiasA_ hspin_ hcache_
                   hstaged_ hbufRecs_ hstreamers_ hlink_ hcross_ hstart_ hcal_),
                 ite_self]

theorem execResetNRelease_frame {fm : Part → Bool} (hclk_ : fm .clk = true) (s : State) :
    Framed fm s (execResetNRelease s) := by
  intro t ht
  cases ht
  exact hide_clk hclk_ _ _ _ _ _ _ _ _ _ _ _

theorem execChipReset_frame {fm : Part → Bool} (hclk_ : fm .clk = true) (hregs_ : fm .regs = true)
    (hlog_ : fm .log = true) (hstaff_ : fm .staff = true) (hresetting_ : fm .resetting = true)
    (hmasked_ : fm .masked = true) (hports_ : fm .ports = true) (hwin_ : fm .win = true) (htl_ : fm .tl = true)
    (hmem_ : fm .mem = true) (hmemX_ : fm .memX = true) (hmemu_ : fm .memu = true) (hlanes_ : fm .lanes = true)
    (hpcb_ : fm .pcb = true) (hmcb_ : fm .mcb = true) (hpf_ : fm .pf = true) (hcantons_ : fm .cantons = true)
    (hstr_ : fm .str = true) (hservo_ : fm .servo = true) (hseq_ : fm .seq = true) (hclr_ : fm .clr = true)
    (hbiasA_ : fm .biasA = true) (hspin_ : fm .spin = true) (hcache_ : fm .cache = true)
    (hstaged_ : fm .staged = true) (hbufRecs_ : fm .bufRecs = true) (hstreamers_ : fm .streamers = true)
    (hlink_ : fm .link = true) (hcross_ : fm .cross = true) (hstart_ : fm .start = true) (hcal_ : fm .cal = true)
    (s : State) :
    Framed fm s (execChipReset s) := by
  apply State.run_frame
  intro t
  simp only [hide_ite, ite_self, State.packageReset_frame hclk_ hregs_ hlog_ hstaff_ hresetting_ hmasked_ hports_
    hwin_ htl_ hmem_ hmemX_ hmemu_ hlanes_ hpcb_ hmcb_ hpf_ hcantons_ hstr_ hservo_ hseq_ hclr_ hbiasA_ hspin_ hcache_
    hstaged_ hbufRecs_ hstreamers_ hlink_ hcross_ hstart_ hcal_, State.set_frame hregs_]

end Sys2Proof.Machine
end

