-- ==== Sys2Proof/Laws/FramePowerFail.lean ====
section
/-! SUPPORT. Laws/FramePowerFail.lean: which parts of the state the functions of Machine/PowerFail.lean can change. -/

namespace Sys2Proof.Machine

theorem execPfailNFall_frame {fm : Part → Bool} (hpf_ : fm .pf = true) (s : State) :
    Framed fm s (execPfailNFall s) := by
  apply State.run_frame
  intro t
  simp only [hide_pf hpf_]

theorem execPfailGlitch_frame {fm : Part → Bool} (hregs_ : fm .regs = true) (hpf_ : fm .pf = true) (s : State) :
    Framed fm s (execPfailGlitch s) := by
  apply State.run_frame
  intro t
  simp only [hide_pf hpf_, hide_ite, ite_self, State.count_frame hregs_]

theorem execPfailAccept_frame {fm : Part → Bool} (hclk_ : fm .clk = true) (hregs_ : fm .regs = true)
    (hlog_ : fm .log = true) (hstaff_ : fm .staff = true) (hresetting_ : fm .resetting = true)
    (hmasked_ : fm .masked = true) (hports_ : fm .ports = true) (hwin_ : fm .win = true) (htl_ : fm .tl = true)
    (hmemu_ : fm .memu = true) (hlanes_ : fm .lanes = true) (hpcb_ : fm .pcb = true) (hmcb_ : fm .mcb = true)
    (hpf_ : fm .pf = true) (hcantons_ : fm .cantons = true) (hstr_ : fm .str = true) (hservo_ : fm .servo = true)
    (hseq_ : fm .seq = true) (hbufRecs_ : fm .bufRecs = true) (hstreamers_ : fm .streamers = true)
    (hlink_ : fm .link = true) (hcross_ : fm .cross = true) (hcal_ : fm .cal = true) (hdraws_ : fm .draws = true)
    (s : State) :
    Framed fm s (execPfailAccept s) := by
  apply State.run_frame
  intro t
  simp only [hide_clk hclk_, hide_pf hpf_, hide_ite, ite_self, State.calEnd_frame hregs_ hcal_, State.each_frame,
    State.failAssumption_frame hports_, State.lifeEntry_frame hlog_, State.queueSpmode_frame hmcb_, State.raise_frame
    hclk_ hregs_ hlog_ hstaff_ hresetting_ hmasked_ hports_ hwin_ htl_ hmemu_ hlanes_ hpcb_ hcantons_ hstr_ hservo_
    hseq_ hbufRecs_ hstreamers_ hlink_ hcross_ hcal_ hdraws_, State.seqIrq_frame hregs_, State.set_frame hregs_,
    implies_true]

theorem State.dumped_frame {fm : Part → Bool} (hstr_ : fm .str = true) (hmedia_ : fm .media = true) (s : State)
    (c : Nat) (n : Nat) (upTo : Nat) :
    (State.dumped s c n upTo).hide fm = s.hide fm := by
  unfold State.dumped
  simp only [State.setMedia_frame hmedia_, State.setStr_frame hstr_]

theorem State.phaseBEnd_frame {fm : Part → Bool} (hregs_ : fm .regs = true) (hports_ : fm .ports = true)
    (hwin_ : fm .win = true) (htl_ : fm .tl = true) (hbufRecs_ : fm .bufRecs = true) (hlink_ : fm .link = true)
    (s : State) (c : Nat) :
    (State.phaseBEnd s c).hide fm = s.hide fm := by
  unfold State.phaseBEnd
  simp only [State.failAssumption_frame hports_, State.loseOn_frame hregs_ hports_ hwin_ hbufRecs_ hlink_,
    State.setTl_frame htl_, State.tidy_frame hports_ htl_]

theorem State.headsOff_frame {fm : Part → Bool} (hregs_ : fm .regs = true) (hpcb_ : fm .pcb = true)
    (hmcb_ : fm .mcb = true) (hclr_ : fm .clr = true) (s : State) (c : Nat) :
    (State.headsOff s c).hide fm = s.hide fm := by
  unfold State.headsOff
  simp only [State.clrOff_frame hregs_ hclr_, State.each_frame, State.queueMode_frame hpcb_, State.queueVcm_frame
    hmcb_, State.set_frame hregs_, implies_true]

theorem execPfPhaseB_frame {fm : Part → Bool} (hregs_ : fm .regs = true) (hports_ : fm .ports = true)
    (hwin_ : fm .win = true) (htl_ : fm .tl = true) (hpcb_ : fm .pcb = true) (hmcb_ : fm .mcb = true)
    (hpf_ : fm .pf = true) (hstr_ : fm .str = true) (hclr_ : fm .clr = true) (hbufRecs_ : fm .bufRecs = true)
    (hlink_ : fm .link = true) (hmedia_ : fm .media = true) (wrote : List (Cluster × Nat × Nat)) (s : State) :
    Framed fm s (execPfPhaseB wrote s) := by
  apply State.run_frame
  intro t
  repeat' (first | simp only [hide_pf hpf_, hide_ite, State.dumped_frame hstr_ hmedia_, State.each_frame,
                 State.headsOff_frame hregs_ hpcb_ hmcb_ hclr_,
                 State.phaseBEnd_frame hregs_ hports_ hwin_ htl_ hbufRecs_ hlink_, State.set_frame hregs_,
                 implies_true] | split | refine (State.each_frame _ _ _ (fun i t => ?_)).trans ?_
                 | refine (hide_foldl _ (fun t x => ?_) _ _).trans ?_)

theorem execPfBrake_frame {fm : Part → Bool} (hregs_ : fm .regs = true) (hlog_ : fm .log = true)
    (hmcb_ : fm .mcb = true) (s : State) :
    Framed fm s (execPfBrake s) := by
  apply State.run_frame
  intro t
  simp only [hide_ite, ite_self, State.lifeEntry_frame hlog_, State.queueSpmode_frame hmcb_, State.set_frame hregs_]

theorem execPfailRecover_frame {fm : Part → Bool} (hclk_ : fm .clk = true) (hregs_ : fm .regs = true)
    (hlog_ : fm .log = true) (hstaff_ : fm .staff = true) (hresetting_ : fm .resetting = true)
    (hmasked_ : fm .masked = true) (hports_ : fm .ports = true) (hwin_ : fm .win = true) (htl_ : fm .tl = true)
    (hmemu_ : fm .memu = true) (hlanes_ : fm .lanes = true) (hpcb_ : fm .pcb = true) (hpf_ : fm .pf = true)
    (hcantons_ : fm .cantons = true) (hstr_ : fm .str = true) (hservo_ : fm .servo = true) (hseq_ : fm .seq = true)
    (hbufRecs_ : fm .bufRecs = true) (hstreamers_ : fm .streamers = true) (hlink_ : fm .link = true)
    (hcross_ : fm .cross = true) (hcal_ : fm .cal = true) (hdraws_ : fm .draws = true) (s : State) :
    Framed fm s (execPfailRecover s) := by
  apply State.run_frame
  intro t
  simp only [hide_clk hclk_, hide_pf hpf_, hide_ite, ite_self, State.raise_frame hclk_ hregs_ hlog_ hstaff_
    hresetting_ hmasked_ hports_ hwin_ htl_ hmemu_ hlanes_ hpcb_ hcantons_ hstr_ hservo_ hseq_ hbufRecs_ hstreamers_
    hlink_ hcross_ hcal_ hdraws_]

end Sys2Proof.Machine
end

