-- ==== Sys2Proof/Laws/FrameReadChannel.lean ====
section
/-! SUPPORT. Laws/FrameReadChannel.lean: which parts of the state the functions of Machine/ReadChannel.lean can
    change. -/

namespace Sys2Proof.Machine

theorem State.freePacket_frame {fm : Part → Bool} (hcantons_ : fm .cantons = true) (s : State) (c : Nat) (f : Nat)
    (slot : Nat) :
    (State.freePacket s c f slot).hide fm = s.hide fm := by
  unfold State.freePacket
  simp only [State.setCanton_frame hcantons_]

theorem State.erase_frame {fm : Part → Bool} (hcantons_ : fm .cantons = true) (hstr_ : fm .str = true) (s : State)
    (c : Nat) (f : Nat) (slot : Nat) :
    (State.erase s c f slot).hide fm = s.hide fm := by
  unfold State.erase
  simp only [State.fragResult_frame hstr_, State.freePacket_frame hcantons_]

theorem State.gateClose_frame {fm : Part → Bool} (hregs_ : fm .regs = true) (hlanes_ : fm .lanes = true)
    (hseq_ : fm .seq = true) (s : State) (c : Nat) (f : Nat) :
    (State.gateClose s c f).hide fm = s.hide fm := by
  unfold State.gateClose
  simp only [State.fragEnd_frame hseq_, State.setLane_frame hlanes_, State.set_frame hregs_]

theorem State.setFrac_frame {fm : Part → Bool} (hregs_ : fm .regs = true) (s : State) (x : Fld) (place : Nat)
    (n : Nat) (lo : Int) (hi : Int) (q : Rat) :
    (State.setFrac s x place n lo hi q).hide fm = s.hide fm := by
  unfold State.setFrac
  simp only [State.set_frame hregs_]

theorem State.showChan_frame {fm : Part → Bool} (hregs_ : fm .regs = true) (s : State) (c : Nat) (f : Nat) (ch : Chan) :
    (State.showChan s c f ch).hide fm = s.hide fm := by
  unfold State.showChan
  simp only [State.each_frame, State.setFrac_frame hregs_, State.set_frame hregs_, implies_true]

theorem State.countRaw_frame {fm : Part → Bool} (hregs_ : fm .regs = true) (s : State) (c : Nat) (f : Nat)
    (raw : List (BitVec 7)) :
    (State.countRaw s c f raw).hide fm = s.hide fm := by
  unfold State.countRaw
  simp only [State.addSat_frame hregs_]

theorem State.putRead_frame {fm : Part → Bool} (hregs_ : fm .regs = true) (hlanes_ : fm .lanes = true) (s : State)
    (c : Nat) (f : Nat) (r : ReadFrag) :
    (State.putRead s c f r).hide fm = s.hide fm := by
  unfold State.putRead
  simp only [State.setLane_frame hlanes_, State.showChan_frame hregs_]

theorem State.loadZone_frame {fm : Part → Bool} (hregs_ : fm .regs = true) (hlanes_ : fm .lanes = true) (s : State)
    (c : Nat) (f : Nat) (z : Nat) :
    (State.loadZone s c f z).1.hide fm = s.hide fm := by
  unfold State.loadZone
  simp only [State.setLane_frame hlanes_, State.set_frame hregs_]

theorem execFragmentReadStart_frame {fm : Part → Bool} (hregs_ : fm .regs = true) (hlanes_ : fm .lanes = true)
    (c : Cluster) (f : Surface) (raw : List (BitVec 7)) (s : State) :
    Framed fm s (execFragmentReadStart c f raw s) := by
  apply State.run_frame
  intro t
  repeat' (first | simp only [hide_ite, ite_self, State.countRaw_frame hregs_, State.loadZone_frame hregs_ hlanes_,
                 State.putRead_frame hregs_ hlanes_, State.set_frame hregs_] | split)

theorem State.noSync_frame {fm : Part → Bool} (hlanes_ : fm .lanes = true) (hcantons_ : fm .cantons = true)
    (hstr_ : fm .str = true) (s : State) (c : Nat) (f : Nat) (r : ReadFrag) :
    (State.noSync s c f r).hide fm = s.hide fm := by
  unfold State.noSync
  simp only [State.erase_frame hcantons_ hstr_, State.setLane_frame hlanes_]

theorem execSyncWindowClose_frame {fm : Part → Bool} (hregs_ : fm .regs = true) (hlanes_ : fm .lanes = true)
    (hcantons_ : fm .cantons = true) (hstr_ : fm .str = true) (c : Cluster) (f : Surface) (raw : List (BitVec 7))
    (s : State) :
    Framed fm s (execSyncWindowClose c f raw s) := by
  apply State.run_frame
  intro t
  repeat' (first | simp only [hide_ite, State.addSat_frame hregs_, State.countRaw_frame hregs_,
                 State.countSat_frame hregs_, State.noSync_frame hlanes_ hcantons_ hstr_,
                 State.putRead_frame hregs_ hlanes_, State.set_frame hregs_] | split)

theorem State.coastLanes_frame {fm : Part → Bool} (hregs_ : fm .regs = true) (s : State) (c : Nat) :
    (State.coastLanes s c).hide fm = s.hide fm := by
  unfold State.coastLanes
  repeat' (first | simp only [hide_ite, ite_self, State.set_frame hregs_] | split
                 | refine (State.each_frame _ _ _ (fun i t => ?_)).trans ?_)

theorem execResyncSearch_frame {fm : Part → Bool} (hregs_ : fm .regs = true) (hlanes_ : fm .lanes = true)
    (hcantons_ : fm .cantons = true) (hstr_ : fm .str = true) (c : Cluster) (f : Surface) (before : List (BitVec 7))
    (after : List (BitVec 7)) (s : State) :
    Framed fm s (execResyncSearch c f before after s) := by
  apply State.run_frame
  intro t
  repeat' (first | simp only [hide_ite, ite_self, State.countRaw_frame hregs_, State.countSat_frame hregs_,
                 State.noSync_frame hlanes_ hcantons_ hstr_, State.putRead_frame hregs_ hlanes_,
                 State.set_frame hregs_] | split)

theorem execLandingHead_frame {fm : Part → Bool} (hregs_ : fm .regs = true) (hlanes_ : fm .lanes = true)
    (hcantons_ : fm .cantons = true) (hstr_ : fm .str = true) (c : Cluster) (f : Surface) (s : State) :
    Framed fm s (execLandingHead c f s) := by
  apply State.run_frame
  intro t
  repeat' (first | simp only [hide_ite, ite_self, State.countSat_frame hregs_, State.fragResult_frame hstr_,
                 State.setCanton_frame hcantons_, State.setLane_frame hlanes_, State.set_frame hregs_] | split)

theorem State.sendTail_frame {fm : Part → Bool} (hcantons_ : fm .cantons = true) (s : State) (c : Nat) (f : Nat)
    (r : ReadFrag) (x : Stream') :
    (State.sendTail s c f r x).hide fm = s.hide fm := by
  unfold State.sendTail
  simp only [State.setCanton_frame hcantons_]

theorem State.readEnd_frame {fm : Part → Bool} (hregs_ : fm .regs = true) (hcantons_ : fm .cantons = true)
    (hstr_ : fm .str = true) (s : State) (c : Nat) (f : Nat) (r : ReadFrag) :
    (State.readEnd s c f r).hide fm = s.hide fm := by
  unfold State.readEnd
  simp only [hide_ite, ite_self, State.addSat_frame hregs_, State.countSat_frame hregs_, State.erase_frame hcantons_
    hstr_, State.sendTail_frame hcantons_]

theorem State.keepChan_frame {fm : Part → Bool} (hlanes_ : fm .lanes = true) (s : State) (c : Nat) (f : Nat)
    (r : ReadFrag) :
    (State.keepChan s c f r).hide fm = s.hide fm := by
  unfold State.keepChan
  simp only [State.setLane_frame hlanes_]

theorem execFragmentEnd_frame {fm : Part → Bool} (hregs_ : fm .regs = true) (hlanes_ : fm .lanes = true)
    (hcantons_ : fm .cantons = true) (hstr_ : fm .str = true) (hseq_ : fm .seq = true) (c : Cluster) (f : Surface)
    (raw : List (BitVec 7)) (s : State) :
    Framed fm s (execFragmentEnd c f raw s) := by
  apply State.run_frame
  intro t
  repeat' (first | simp only [hide_ite, ite_self, State.addCount_frame hregs_, State.countRaw_frame hregs_,
                 State.fragEnd_frame hseq_, State.gateClose_frame hregs_ hlanes_ hseq_, State.keepChan_frame hlanes_,
                 State.putRead_frame hregs_ hlanes_, State.readEnd_frame hregs_ hcantons_ hstr_,
                 State.setLane_frame hlanes_] | split)

theorem State.dropPq_frame {fm : Part → Bool} (hregs_ : fm .regs = true) (hcantons_ : fm .cantons = true)
    (hstr_ : fm .str = true) (s : State) (c : Nat) (slot : Nat) :
    (State.dropPq s c slot).hide fm = s.hide fm := by
  unfold State.dropPq
  repeat' (first | simp only [hide_ite, State.addSat_frame hregs_, State.fragResult_frame hstr_,
                 State.freePacket_frame hcantons_] | split
                 | refine (hide_foldl _ (fun t x => ?_) _ _).trans ?_)

theorem State.dropAllPq_frame {fm : Part → Bool} (hregs_ : fm .regs = true) (hcantons_ : fm .cantons = true)
    (hstr_ : fm .str = true) (s : State) (k : Nat) :
    (State.dropAllPq s k).hide fm = s.hide fm := by
  unfold State.dropAllPq
  repeat' (first | simp only [State.dropPq_frame hregs_ hcantons_ hstr_] | split
                 | refine (hide_foldl _ (fun t x => ?_) _ _).trans ?_)

theorem execDecodeDispatch_frame {fm : Part → Bool} (hregs_ : fm .regs = true) (hcantons_ : fm .cantons = true)
    (hstr_ : fm .str = true) (k : CantonNo) (d : Fin 20) (s : State) :
    Framed fm s (execDecodeDispatch k d s) := by
  apply State.run_frame
  intro t
  repeat' (first | simp only [hide_ite, State.dropAllPq_frame hregs_ hcantons_ hstr_,
                 State.setCanton_frame hcantons_] | split)

theorem State.fragGood_frame {fm : Part → Bool} (hregs_ : fm .regs = true) (hcantons_ : fm .cantons = true)
    (hstr_ : fm .str = true) (s : State) (p : Packet) (bytes : List Nat) :
    (State.fragGood s p bytes).hide fm = s.hide fm := by
  unfold State.fragGood
  simp only [State.countSat_frame hregs_, State.dropPq_frame hregs_ hcantons_ hstr_, State.fragResult_frame hstr_,
    State.freePacket_frame hcantons_, State.setStr_frame hstr_]

theorem State.fragBad_frame {fm : Part → Bool} (hregs_ : fm .regs = true) (hcantons_ : fm .cantons = true)
    (hstr_ : fm .str = true) (s : State) (p : Packet) (ctr : Nat → Fld) :
    (State.fragBad s p ctr).hide fm = s.hide fm := by
  unfold State.fragBad
  simp only [State.countSat_frame hregs_, State.erase_frame hcantons_ hstr_]

theorem State.judge_frame {fm : Part → Bool} (hregs_ : fm .regs = true) (hcantons_ : fm .cantons = true)
    (hstr_ : fm .str = true) (s : State) (p : Packet) (dead : Bool) :
    (State.judge s p dead).hide fm = s.hide fm := by
  unfold State.judge
  repeat' (first | simp only [hide_ite, ite_self, State.countSat_frame hregs_,
                 State.fragBad_frame hregs_ hcantons_ hstr_, State.fragGood_frame hregs_ hcantons_ hstr_] | split)

theorem State.framing_frame {fm : Part → Bool} (hregs_ : fm .regs = true) (hcantons_ : fm .cantons = true)
    (hstr_ : fm .str = true) (s : State) (k : Nat) (d : Nat) (p : Packet) (r : Framing) :
    (State.framing s k d p r).hide fm = s.hide fm := by
  unfold State.framing
  simp only [State.judge_frame hregs_ hcantons_ hstr_, State.setCanton_frame hcantons_]

theorem State.decLost_frame {fm : Part → Bool} (hclk_ : fm .clk = true) (hregs_ : fm .regs = true)
    (hlog_ : fm .log = true) (hstaff_ : fm .staff = true) (hresetting_ : fm .resetting = true)
    (hmasked_ : fm .masked = true) (hports_ : fm .ports = true) (hwin_ : fm .win = true) (htl_ : fm .tl = true)
    (hmemu_ : fm .memu = true) (hlanes_ : fm .lanes = true) (hpcb_ : fm .pcb = true) (hcantons_ : fm .cantons = true)
    (hstr_ : fm .str = true) (hservo_ : fm .servo = true) (hseq_ : fm .seq = true) (hbufRecs_ : fm .bufRecs = true)
    (hstreamers_ : fm .streamers = true) (hlink_ : fm .link = true) (hcross_ : fm .cross = true)
    (hcal_ : fm .cal = true) (hdraws_ : fm .draws = true) (s : State) (k : Nat) (d : Nat) :
    (State.decLost s k d).hide fm = s.hide fm := by
  unfold State.decLost
  repeat' (first | simp only [hide_ite, ite_self,
                 State.blockReset_frame hclk_ hregs_ hstaff_ hresetting_ hmasked_ hports_ hwin_ htl_ hmemu_ hlanes_
                   hpcb_ hcantons_ hstr_ hservo_ hseq_ hbufRecs_ hstreamers_ hlink_ hcross_ hcal_ hdraws_,
                 State.countSat_frame hregs_, State.interruption_frame hports_,
                 State.raise_frame hclk_ hregs_ hlog_ hstaff_ hresetting_ hmasked_ hports_ hwin_ htl_ hmemu_ hlanes_
                   hpcb_ hcantons_ hstr_ hservo_ hseq_ hbufRecs_ hstreamers_ hlink_ hcross_ hcal_ hdraws_,
                 State.setCanton_frame hcantons_, State.set_frame hregs_] | split)

theorem State.undecoded_frame {fm : Part → Bool} (hregs_ : fm .regs = true) (hcantons_ : fm .cantons = true)
    (hstr_ : fm .str = true) (s : State) (k : Nat) (d : Nat) (p : Packet) :
    (State.undecoded s k d p).hide fm = s.hide fm := by
  unfold State.undecoded
  simp only [State.framing_frame hregs_ hcantons_ hstr_]

theorem State.passResult_frame {fm : Part → Bool} (hclk_ : fm .clk = true) (hregs_ : fm .regs = true)
    (hlog_ : fm .log = true) (hstaff_ : fm .staff = true) (hresetting_ : fm .resetting = true)
    (hmasked_ : fm .masked = true) (hports_ : fm .ports = true) (hwin_ : fm .win = true) (htl_ : fm .tl = true)
    (hmemu_ : fm .memu = true) (hlanes_ : fm .lanes = true) (hpcb_ : fm .pcb = true) (hcantons_ : fm .cantons = true)
    (hstr_ : fm .str = true) (hservo_ : fm .servo = true) (hseq_ : fm .seq = true) (hbufRecs_ : fm .bufRecs = true)
    (hstreamers_ : fm .streamers = true) (hlink_ : fm .link = true) (hcross_ : fm .cross = true)
    (hcal_ : fm .cal = true) (hdraws_ : fm .draws = true) (s : State) (k : Nat) (d : Nat) (p : Packet)
    (job : Bool × Nat × Bool) (e : PassEnd) (checker : Bool) :
    (State.passResult s k d p job e checker).hide fm = s.hide fm := by
  unfold State.passResult
  repeat' (first | simp only [hide_ite, ite_self, State.addSat_frame hregs_, State.countSat_frame hregs_,
                 State.decLost_frame hclk_ hregs_ hlog_ hstaff_ hresetting_ hmasked_ hports_ hwin_ htl_ hmemu_ hlanes_
                   hpcb_ hcantons_ hstr_ hservo_ hseq_ hbufRecs_ hstreamers_ hlink_ hcross_ hcal_ hdraws_,
                 State.fragBad_frame hregs_ hcantons_ hstr_, State.framing_frame hregs_ hcantons_ hstr_,
                 State.setCanton_frame hcantons_, State.undecoded_frame hregs_ hcantons_ hstr_] | split)

theorem execDecodeEnd_frame {fm : Part → Bool} (hclk_ : fm .clk = true) (hregs_ : fm .regs = true)
    (hlog_ : fm .log = true) (hstaff_ : fm .staff = true) (hresetting_ : fm .resetting = true)
    (hmasked_ : fm .masked = true) (hports_ : fm .ports = true) (hwin_ : fm .win = true) (htl_ : fm .tl = true)
    (hmemu_ : fm .memu = true) (hlanes_ : fm .lanes = true) (hpcb_ : fm .pcb = true) (hcantons_ : fm .cantons = true)
    (hstr_ : fm .str = true) (hservo_ : fm .servo = true) (hseq_ : fm .seq = true) (hbufRecs_ : fm .bufRecs = true)
    (hstreamers_ : fm .streamers = true) (hlink_ : fm .link = true) (hcross_ : fm .cross = true)
    (hcal_ : fm .cal = true) (hdraws_ : fm .draws = true) (k : CantonNo) (d : Fin 20) (checker : Bool) (s : State) :
    Framed fm s (execDecodeEnd k d checker s) := by
  apply State.run_frame
  intro t
  repeat' (first | simp only [hide_ite, ite_self, State.judge_frame hregs_ hcantons_ hstr_,
                 State.passResult_frame hclk_ hregs_ hlog_ hstaff_ hresetting_ hmasked_ hports_ hwin_ htl_ hmemu_
                   hlanes_ hpcb_ hcantons_ hstr_ hservo_ hseq_ hbufRecs_ hstreamers_ hlink_ hcross_ hcal_ hdraws_]
                 | split)

theorem execDecodeDeadline_frame {fm : Part → Bool} (hregs_ : fm .regs = true) (hcantons_ : fm .cantons = true)
    (hstr_ : fm .str = true) (c : Cluster) (f : Surface) (s : State) :
    Framed fm s (execDecodeDeadline c f s) := by
  apply State.run_frame
  intro t
  repeat' (first | simp only [hide_ite, ite_self, State.judge_frame hregs_ hcantons_ hstr_] | split)

theorem execDecoderTimeout_frame {fm : Part → Bool} (hclk_ : fm .clk = true) (hregs_ : fm .regs = true)
    (hlog_ : fm .log = true) (hstaff_ : fm .staff = true) (hresetting_ : fm .resetting = true)
    (hmasked_ : fm .masked = true) (hports_ : fm .ports = true) (hwin_ : fm .win = true) (htl_ : fm .tl = true)
    (hmemu_ : fm .memu = true) (hlanes_ : fm .lanes = true) (hpcb_ : fm .pcb = true) (hcantons_ : fm .cantons = true)
    (hstr_ : fm .str = true) (hservo_ : fm .servo = true) (hseq_ : fm .seq = true) (hbufRecs_ : fm .bufRecs = true)
    (hstreamers_ : fm .streamers = true) (hlink_ : fm .link = true) (hcross_ : fm .cross = true)
    (hcal_ : fm .cal = true) (hdraws_ : fm .draws = true) (k : CantonNo) (d : Fin 20) (s : State) :
    Framed fm s (execDecoderTimeout k d s) := by
  apply State.run_frame
  intro t
  repeat' (first | simp only [hide_ite, ite_self,
                 State.decLost_frame hclk_ hregs_ hlog_ hstaff_ hresetting_ hmasked_ hports_ hwin_ htl_ hmemu_ hlanes_
                   hpcb_ hcantons_ hstr_ hservo_ hseq_ hbufRecs_ hstreamers_ hlink_ hcross_ hcal_ hdraws_]
                 | split)

end Sys2Proof.Machine
end

