-- ==== Sys2Proof/Laws/FrameStripe.lean ====
section
/-! SUPPORT. Laws/FrameStripe.lean: which parts of the state the functions of Machine/Stripe.lean can change. -/

namespace Sys2Proof.Machine

theorem execStrOpen_frame {fm : Part → Bool} (hstr_ : fm .str = true) (c : Cluster) (slot : BitVec 32) (s : State) :
    Framed fm s (execStrOpen c slot s) := by
  apply State.run_frame
  intro t
  simp only [State.setStr_frame hstr_]

theorem execStrWriteset_frame {fm : Part → Bool} (hstr_ : fm .str = true) (c : Cluster) (mask : BitVec 32) (s : State) :
    Framed fm s (execStrWriteset c mask s) := by
  apply State.run_frame
  intro t
  simp only [State.setStr_frame hstr_]

theorem execStrCommitTest_frame {fm : Part → Bool} (hstr_ : fm .str = true) (c : Cluster) (s : State) :
    Framed fm s (execStrCommitTest c s) := by
  apply State.run_frame
  intro t
  simp only [State.setStr_frame hstr_]

theorem execStrClose_frame {fm : Part → Bool} (hstr_ : fm .str = true) (c : Cluster) (s : State) :
    Framed fm s (execStrClose c s) := by
  apply State.run_frame
  intro t
  simp only [State.setStr_frame hstr_]

theorem State.copyVersion_frame {fm : Part → Bool} (hregs_ : fm .regs = true) (hlog_ : fm .log = true)
    (hmem_ : fm .mem = true) (hmemX_ : fm .memX = true) (hmemu_ : fm .memu = true) (hcache_ : fm .cache = true)
    (s : State) (lba : Nat) (ver : Nat) (key : Nat) (m : Nat) (evb : Bool) :
    (State.copyVersion s lba ver key m evb).hide fm = s.hide fm := by
  unfold State.copyVersion
  have e : (s.copyBlock key m).hide fm = s.hide fm := (State.copyBlock_frame hregs_ hlog_ hmem_ hmemX_ hmemu_) _ _ _
  revert e
  generalize s.copyBlock key m = u
  intro e
  simp only
  split
  · exact ((State.setCache_frame hcache_) _ _ _).trans e
  · split
    · exact ((State.countSat_frame hregs_) _ _).trans e
    · exact e

theorem State.fillSlot_frame {fm : Part → Bool} (hregs_ : fm .regs = true) (hlog_ : fm .log = true)
    (hmem_ : fm .mem = true) (hmemX_ : fm .memX = true) (hmemu_ : fm .memu = true) (hcache_ : fm .cache = true)
    (s : State) (x : Cmd) (i : Nat) (data : List Nat) :
    (State.fillSlot s x i data).hide fm = s.hide fm := by
  unfold State.fillSlot
  repeat' (first | simp only [State.copyVersion_frame hregs_ hlog_ hmem_ hmemX_ hmemu_ hcache_,
                 State.putFrag_frame hregs_ hlog_ hmem_ hmemX_ hmemu_] | split)

theorem State.deliverBlock_frame {fm : Part → Bool} (hregs_ : fm .regs = true) (hlog_ : fm .log = true)
    (hports_ : fm .ports = true) (hmem_ : fm .mem = true) (hmemX_ : fm .memX = true) (hmemu_ : fm .memu = true)
    (hcache_ : fm .cache = true) (s : State) (x : Cmd) (i : Nat) (data : List Nat) :
    (State.deliverBlock s x i data).hide fm = s.hide fm := by
  unfold State.deliverBlock
  simp only [hide_ite, ite_self, State.fillSlot_frame hregs_ hlog_ hmem_ hmemX_ hmemu_ hcache_, State.setCmd_frame
    hports_]

theorem State.deliverStripe_frame {fm : Part → Bool} (hregs_ : fm .regs = true) (hlog_ : fm .log = true)
    (hports_ : fm .ports = true) (hwin_ : fm .win = true) (hmem_ : fm .mem = true) (hmemX_ : fm .memX = true)
    (hmemu_ : fm .memu = true) (hcache_ : fm .cache = true) (hlink_ : fm .link = true) (s : State) (c : Nat) (q : Nat)
    (x : Cmd) (y : CmdStripe) (r : Settled) (mem : Bool) :
    (State.deliverStripe s c q x y r mem).hide fm = s.hide fm := by
  unfold State.deliverStripe
  repeat' (first | simp only [hide_ite, ite_self,
                 State.deliverBlock_frame hregs_ hlog_ hports_ hmem_ hmemX_ hmemu_ hcache_,
                 State.endIfSettled_frame hregs_ hports_ hwin_ hlink_, State.setCmd_frame hports_] | split
                   | refine (hide_foldl _ (fun t x => ?_) _ _).trans ?_)

theorem State.installStripe_frame {fm : Part → Bool} (hregs_ : fm .regs = true) (hlog_ : fm .log = true)
    (hmem_ : fm .mem = true) (hmemX_ : fm .memX = true) (hmemu_ : fm .memu = true) (hcache_ : fm .cache = true)
    (hstaged_ : fm .staged = true) (s : State) (c : Nat) (q : Nat) (x : Cmd) (r : Settled) :
    (State.installStripe s c q x r).hide fm = s.hide fm := by
  unfold State.installStripe
  repeat' (first | simp only [hide_ite, State.install_frame hregs_ hlog_ hmem_ hmemX_ hmemu_ hcache_ hstaged_]
                 | split | refine (hide_foldl _ (fun t x => ?_) _ _).trans ?_)

theorem execStripeSettle_frame {fm : Part → Bool} (hregs_ : fm .regs = true) (hlog_ : fm .log = true)
    (hports_ : fm .ports = true) (hwin_ : fm .win = true) (hmem_ : fm .mem = true) (hmemX_ : fm .memX = true)
    (hmemu_ : fm .memu = true) (hstr_ : fm .str = true) (hseq_ : fm .seq = true) (hcache_ : fm .cache = true)
    (hstaged_ : fm .staged = true) (hlink_ : fm .link = true) (c : Cluster) (slot : BitVec 32) (s : State) :
    Framed fm s (execStripeSettle c slot s) := by
  apply State.run_frame
  intro t
  repeat' (first | simp only [hide_ite, ite_self, State.addSat_frame hregs_, State.countSat_frame hregs_,
                 State.deliverStripe_frame hregs_ hlog_ hports_ hwin_ hmem_ hmemX_ hmemu_ hcache_ hlink_,
                 State.installStripe_frame hregs_ hlog_ hmem_ hmemX_ hmemu_ hcache_ hstaged_,
                 State.seqEvent_frame hseq_, State.setCmd_frame hports_, State.setStr_frame hstr_] | split)

theorem State.evbServed_frame {fm : Part → Bool} (hregs_ : fm .regs = true) (s : State) (c : Nat) (o : OpenStripe) :
    (State.evbServed s c o).hide fm = s.hide fm := by
  unfold State.evbServed
  repeat' (first | simp only [State.countSat_frame hregs_] | split
                 | refine (hide_foldl _ (fun t x => ?_) _ _).trans ?_)

theorem execParityEncodeDone_frame {fm : Part → Bool} (hregs_ : fm .regs = true) (hstr_ : fm .str = true)
    (hseq_ : fm .seq = true) (c : Cluster) (s : State) :
    Framed fm s (execParityEncodeDone c s) := by
  apply State.run_frame
  intro t
  repeat' (first | simp only [hide_ite, ite_self, State.evbServed_frame hregs_, State.seqEvent_frame hseq_,
                 State.setStr_frame hstr_] | split)

theorem State.putRepair_frame {fm : Part → Bool} (hregs_ : fm .regs = true) (hports_ : fm .ports = true)
    (hwin_ : fm .win = true) (htl_ : fm .tl = true) (hlanes_ : fm .lanes = true) (hpcb_ : fm .pcb = true)
    (hcantons_ : fm .cantons = true) (hstr_ : fm .str = true) (hseq_ : fm .seq = true)
    (hbufRecs_ : fm .bufRecs = true) (hstreamers_ : fm .streamers = true) (hlink_ : fm .link = true)
    (hcal_ : fm .cal = true) (hdraws_ : fm .draws = true) (s : State) (c : Nat) (slot : Nat) (e : Repair) :
    (State.putRepair s c slot e).hide fm = s.hide fm := by
  unfold State.putRepair
  simp only [hide_ite, ite_self, State.loseCluster_frame hregs_ hports_ hwin_ htl_ hlanes_ hpcb_ hcantons_ hstr_ hseq_
    hbufRecs_ hstreamers_ hlink_ hcal_ hdraws_, State.setStr_frame hstr_]

theorem State.bufferStripe_frame {fm : Part → Bool} (hregs_ : fm .regs = true) (hstr_ : fm .str = true) (s : State)
    (c : Nat) (slot : Nat) (data : Nat → List Nat) :
    (State.bufferStripe s c slot data).hide fm = s.hide fm := by
  unfold State.bufferStripe
  simp only [hide_ite, ite_self, State.countSat_frame hregs_, State.seqIrq_frame hregs_, State.setStr_frame hstr_]

theorem State.unbuffer_frame {fm : Part → Bool} (hstr_ : fm .str = true) (s : State) (c : Nat) (slot : Nat) :
    (State.unbuffer s c slot).hide fm = s.hide fm := by
  unfold State.unbuffer
  simp only [State.setStr_frame hstr_]

theorem State.nextWseq_frame {fm : Part → Bool} (hstr_ : fm .str = true) (s : State) (c : Nat) (n : Nat) :
    (State.nextWseq s c n).hide fm = s.hide fm := by
  unfold State.nextWseq
  simp only [State.setStr_frame hstr_]

theorem State.commitPass_frame {fm : Part → Bool} (hregs_ : fm .regs = true) (hports_ : fm .ports = true)
    (hwin_ : fm .win = true) (htl_ : fm .tl = true) (hlanes_ : fm .lanes = true) (hpcb_ : fm .pcb = true)
    (hcantons_ : fm .cantons = true) (hstr_ : fm .str = true) (hseq_ : fm .seq = true)
    (hbufRecs_ : fm .bufRecs = true) (hstreamers_ : fm .streamers = true) (hlink_ : fm .link = true)
    (hcal_ : fm .cal = true) (hdraws_ : fm .draws = true) (s : State) (c : Nat) (slot : Nat) (w : Nat) (x : Nat)
    (media : Nat) (mem : Nat) (data : Nat → List Nat) :
    (State.commitPass s c slot w x media mem data).1.hide fm = s.hide fm := by
  unfold State.commitPass
  simp only [hide_ite, ite_self, State.addSat_frame hregs_, State.bufferStripe_frame hregs_ hstr_,
    State.putRepair_frame hregs_ hports_ hwin_ htl_ hlanes_ hpcb_ hcantons_ hstr_ hseq_ hbufRecs_ hstreamers_ hlink_
    hcal_ hdraws_, State.unbuffer_frame hstr_]

theorem State.stripeWritten_frame {fm : Part → Bool} (hregs_ : fm .regs = true) (hports_ : fm .ports = true)
    (hwin_ : fm .win = true) (hcache_ : fm .cache = true) (hstaged_ : fm .staged = true)
    (hbufRecs_ : fm .bufRecs = true) (hlink_ : fm .link = true) (s : State) (c : Nat) (q : Nat) (x : Cmd)
    (y : CmdStripe) :
    (State.stripeWritten s c q x y).hide fm = s.hide fm := by
  unfold State.stripeWritten
  repeat' (first | simp only [hide_bufRecs hbufRecs_, hide_ite, ite_self, State.endIfSettled_frame hregs_ hports_
                 hwin_ hlink_,
                 State.retireVersion_frame hregs_ hcache_ hstaged_, State.setCmd_frame hports_] | split
                   | refine (hide_foldl _ (fun t x => ?_) _ _).trans ?_)

theorem State.logFlushed_frame {fm : Part → Bool} (hregs_ : fm .regs = true) (hmedia_ : fm .media = true) (s : State)
    (c : Nat) :
    (State.logFlushed s c).hide fm = s.hide fm := by
  unfold State.logFlushed
  simp only [hide_ite, ite_self, State.setMedia_frame hmedia_, State.set_frame hregs_]

theorem State.listFlushed_frame {fm : Part → Bool} (hstr_ : fm .str = true) (hmedia_ : fm .media = true) (s : State)
    (c : Nat) :
    (State.listFlushed s c).hide fm = s.hide fm := by
  unfold State.listFlushed
  simp only [State.setMedia_frame hmedia_, State.setStr_frame hstr_]

theorem State.logDone_frame {fm : Part → Bool} (hregs_ : fm .regs = true) (hports_ : fm .ports = true)
    (htl_ : fm .tl = true) (hstr_ : fm .str = true) (hseq_ : fm .seq = true) (hmedia_ : fm .media = true) (s : State)
    (c : Nat) (x : Cmd) :
    (State.logDone s c x).hide fm = s.hide fm := by
  unfold State.logDone
  simp only [hide_ite, ite_self, State.endWork_frame hports_ htl_, State.listFlushed_frame hstr_ hmedia_,
    State.logFlushed_frame hregs_ hmedia_, State.nextWseq_frame hstr_, State.seqEvent_frame hseq_,
    State.setMedia_frame hmedia_]

theorem execCommitTestDone_frame {fm : Part → Bool} (hregs_ : fm .regs = true) (hports_ : fm .ports = true)
    (hwin_ : fm .win = true) (htl_ : fm .tl = true) (hlanes_ : fm .lanes = true) (hpcb_ : fm .pcb = true)
    (hcantons_ : fm .cantons = true) (hstr_ : fm .str = true) (hseq_ : fm .seq = true) (hcache_ : fm .cache = true)
    (hstaged_ : fm .staged = true) (hbufRecs_ : fm .bufRecs = true) (hstreamers_ : fm .streamers = true)
    (hlink_ : fm .link = true) (hcal_ : fm .cal = true) (hmedia_ : fm .media = true) (hdraws_ : fm .draws = true)
    (c : Cluster) (log : Bool) (s : State) :
    Framed fm s (execCommitTestDone c log s) := by
  apply State.run_frame
  intro t
  repeat' (first | simp only [hide_ite, ite_self,
                 State.commitPass_frame hregs_ hports_ hwin_ htl_ hlanes_ hpcb_ hcantons_ hstr_ hseq_ hbufRecs_
                   hstreamers_ hlink_ hcal_ hdraws_,
                 State.logDone_frame hregs_ hports_ htl_ hstr_ hseq_ hmedia_, State.seqEvent_frame hseq_,
                 State.setStr_frame hstr_, State.set_frame hregs_,
                 State.stripeWritten_frame hregs_ hports_ hwin_ hcache_ hstaged_ hbufRecs_ hlink_,
                 State.tidy_frame hports_ htl_] | split)

theorem State.repaired_frame {fm : Part → Bool} (hregs_ : fm .regs = true) (hports_ : fm .ports = true)
    (hwin_ : fm .win = true) (htl_ : fm .tl = true) (hlanes_ : fm .lanes = true) (hpcb_ : fm .pcb = true)
    (hcantons_ : fm .cantons = true) (hstr_ : fm .str = true) (hseq_ : fm .seq = true)
    (hbufRecs_ : fm .bufRecs = true) (hstreamers_ : fm .streamers = true) (hlink_ : fm .link = true)
    (hcal_ : fm .cal = true) (hdraws_ : fm .draws = true) (s : State) (c : Nat) (y : CmdStripe) (cut : Nat) :
    (State.repaired s c y cut).hide fm = s.hide fm := by
  unfold State.repaired
  simp only [hide_ite, ite_self, State.addSat_frame hregs_, State.commitPass_frame hregs_ hports_ hwin_ htl_ hlanes_
    hpcb_ hcantons_ hstr_ hseq_ hbufRecs_ hstreamers_ hlink_ hcal_ hdraws_, State.nextWseq_frame hstr_,
    State.putRepair_frame hregs_ hports_ hwin_ htl_ hlanes_ hpcb_ hcantons_ hstr_ hseq_ hbufRecs_ hstreamers_ hlink_
    hcal_ hdraws_]

theorem execRepairWrite_frame {fm : Part → Bool} (hregs_ : fm .regs = true) (hports_ : fm .ports = true)
    (hwin_ : fm .win = true) (htl_ : fm .tl = true) (hlanes_ : fm .lanes = true) (hpcb_ : fm .pcb = true)
    (hcantons_ : fm .cantons = true) (hstr_ : fm .str = true) (hseq_ : fm .seq = true)
    (hbufRecs_ : fm .bufRecs = true) (hstreamers_ : fm .streamers = true) (hlink_ : fm .link = true)
    (hcal_ : fm .cal = true) (hdraws_ : fm .draws = true) (c : Cluster) (slot : BitVec 32) (cut : BitVec 32)
    (h : Fin 16384) (s : State) :
    Framed fm s (execRepairWrite c slot cut h s) := by
  apply State.run_frame
  intro t
  repeat' (first | simp only [hide_ite, State.endWork_frame hports_ htl_,
                 State.placeWork_frame hports_ htl_,
                 State.repaired_frame hregs_ hports_ hwin_ htl_ hlanes_ hpcb_ hcantons_ hstr_ hseq_ hbufRecs_
                   hstreamers_ hlink_ hcal_ hdraws_] | split
                   | refine (hide_foldl _ (fun t x => ?_) _ _).trans ?_)

theorem State.remapTo_frame {fm : Part → Bool} (hregs_ : fm .regs = true) (hports_ : fm .ports = true)
    (hwin_ : fm .win = true) (htl_ : fm .tl = true) (hlanes_ : fm .lanes = true) (hpcb_ : fm .pcb = true)
    (hcantons_ : fm .cantons = true) (hstr_ : fm .str = true) (hseq_ : fm .seq = true)
    (hbufRecs_ : fm .bufRecs = true) (hstreamers_ : fm .streamers = true) (hlink_ : fm .link = true)
    (hcal_ : fm .cal = true) (hdraws_ : fm .draws = true) (s : State) (c : Nat) (q : Nat) (v : Nat) (cut : Nat) :
    (State.remapTo s c q v cut).hide fm = s.hide fm := by
  unfold State.remapTo
  simp only [hide_ite, ite_self, State.nextWseq_frame hstr_, State.putRepair_frame hregs_ hports_ hwin_ htl_ hlanes_
    hpcb_ hcantons_ hstr_ hseq_ hbufRecs_ hstreamers_ hlink_ hcal_ hdraws_, State.setStr_frame hstr_,
    State.unbuffer_frame hstr_]

theorem State.patrolled_frame {fm : Part → Bool} (hregs_ : fm .regs = true) (hports_ : fm .ports = true)
    (hwin_ : fm .win = true) (htl_ : fm .tl = true) (hlanes_ : fm .lanes = true) (hpcb_ : fm .pcb = true)
    (hcantons_ : fm .cantons = true) (hstr_ : fm .str = true) (hseq_ : fm .seq = true)
    (hbufRecs_ : fm .bufRecs = true) (hstreamers_ : fm .streamers = true) (hlink_ : fm .link = true)
    (hcal_ : fm .cal = true) (hdraws_ : fm .draws = true) (s : State) (c : Nat) (erased : Nat) (spare : Nat) :
    (State.patrolled s c erased spare).hide fm = s.hide fm := by
  unfold State.patrolled
  simp only [hide_ite, ite_self, State.putRepair_frame hregs_ hports_ hwin_ htl_ hlanes_ hpcb_ hcantons_ hstr_ hseq_
    hbufRecs_ hstreamers_ hlink_ hcal_ hdraws_, State.setStr_frame hstr_]

theorem execPatrolRead_frame {fm : Part → Bool} (hregs_ : fm .regs = true) (hports_ : fm .ports = true)
    (hwin_ : fm .win = true) (htl_ : fm .tl = true) (hlanes_ : fm .lanes = true) (hpcb_ : fm .pcb = true)
    (hcantons_ : fm .cantons = true) (hstr_ : fm .str = true) (hseq_ : fm .seq = true)
    (hbufRecs_ : fm .bufRecs = true) (hstreamers_ : fm .streamers = true) (hlink_ : fm .link = true)
    (hcal_ : fm .cal = true) (hdraws_ : fm .draws = true) (c : Cluster) (erased : BitVec 32) (spare : BitVec 32)
    (cut : BitVec 32) (h : Fin 16384) (s : State) :
    Framed fm s (execPatrolRead c erased spare cut h s) := by
  apply State.run_frame
  intro t
  repeat' (first | simp only [hide_ite, State.endWork_frame hports_ htl_,
                 State.patrolled_frame hregs_ hports_ hwin_ htl_ hlanes_ hpcb_ hcantons_ hstr_ hseq_ hbufRecs_
                   hstreamers_ hlink_ hcal_ hdraws_,
                 State.placeWork_frame hports_ htl_,
                 State.remapTo_frame hregs_ hports_ hwin_ htl_ hlanes_ hpcb_ hcantons_ hstr_ hseq_ hbufRecs_
                   hstreamers_ hlink_ hcal_ hdraws_,
                 State.setStr_frame hstr_] | split)

theorem State.classSurface_frame {fm : Part → Bool} (hclk_ : fm .clk = true) (hregs_ : fm .regs = true)
    (hlog_ : fm .log = true) (hstaff_ : fm .staff = true) (hresetting_ : fm .resetting = true)
    (hmasked_ : fm .masked = true) (hports_ : fm .ports = true) (hwin_ : fm .win = true) (htl_ : fm .tl = true)
    (hmemu_ : fm .memu = true) (hlanes_ : fm .lanes = true) (hpcb_ : fm .pcb = true) (hcantons_ : fm .cantons = true)
    (hstr_ : fm .str = true) (hservo_ : fm .servo = true) (hseq_ : fm .seq = true) (hbufRecs_ : fm .bufRecs = true)
    (hstreamers_ : fm .streamers = true) (hlink_ : fm .link = true) (hcross_ : fm .cross = true)
    (hcal_ : fm .cal = true) (hdraws_ : fm .draws = true) (s : State) (c : Nat) (r : Nat) (f : Nat) :
    (State.classSurface s c r f).hide fm = s.hide fm := by
  unfold State.classSurface
  simp only [hide_ite, ite_self, State.raiseC_frame hclk_ hregs_ hlog_ hstaff_ hresetting_ hmasked_ hports_ hwin_ htl_
    hmemu_ hlanes_ hpcb_ hcantons_ hstr_ hservo_ hseq_ hbufRecs_ hstreamers_ hlink_ hcross_ hcal_ hdraws_,
    State.setSkew_frame hstr_]

theorem State.classRegion_frame {fm : Part → Bool} (hclk_ : fm .clk = true) (hregs_ : fm .regs = true)
    (hlog_ : fm .log = true) (hstaff_ : fm .staff = true) (hresetting_ : fm .resetting = true)
    (hmasked_ : fm .masked = true) (hports_ : fm .ports = true) (hwin_ : fm .win = true) (htl_ : fm .tl = true)
    (hmemu_ : fm .memu = true) (hlanes_ : fm .lanes = true) (hpcb_ : fm .pcb = true) (hcantons_ : fm .cantons = true)
    (hstr_ : fm .str = true) (hservo_ : fm .servo = true) (hseq_ : fm .seq = true) (hbufRecs_ : fm .bufRecs = true)
    (hstreamers_ : fm .streamers = true) (hlink_ : fm .link = true) (hcross_ : fm .cross = true)
    (hcal_ : fm .cal = true) (hdraws_ : fm .draws = true) (s : State) (c : Nat) (r : Nat) :
    (State.classRegion s c r).hide fm = s.hide fm := by
  unfold State.classRegion
  simp only [State.classSurface_frame hclk_ hregs_ hlog_ hstaff_ hresetting_ hmasked_ hports_ hwin_ htl_ hmemu_
    hlanes_ hpcb_ hcantons_ hstr_ hservo_ hseq_ hbufRecs_ hstreamers_ hlink_ hcross_ hcal_ hdraws_, State.each_frame,
    implies_true]

theorem State.shiftPhi_frame {fm : Part → Bool} (hservo_ : fm .servo = true) (s : State) (c : Nat) (r : Nat) (f : Nat)
    (d : Int) :
    (State.shiftPhi s c r f d).hide fm = s.hide fm := by
  unfold State.shiftPhi
  simp only [hide_ite, ite_self, State.setServo_frame hservo_]

theorem State.calSkew_frame {fm : Part → Bool} (hclk_ : fm .clk = true) (hregs_ : fm .regs = true)
    (hlog_ : fm .log = true) (hstaff_ : fm .staff = true) (hresetting_ : fm .resetting = true)
    (hmasked_ : fm .masked = true) (hports_ : fm .ports = true) (hwin_ : fm .win = true) (htl_ : fm .tl = true)
    (hmemu_ : fm .memu = true) (hlanes_ : fm .lanes = true) (hpcb_ : fm .pcb = true) (hcantons_ : fm .cantons = true)
    (hstr_ : fm .str = true) (hservo_ : fm .servo = true) (hseq_ : fm .seq = true) (hbufRecs_ : fm .bufRecs = true)
    (hstreamers_ : fm .streamers = true) (hlink_ : fm .link = true) (hcross_ : fm .cross = true)
    (hcal_ : fm .cal = true) (hdraws_ : fm .draws = true) (s : State) (c : Nat) (r : Nat)
    (hoff : Option (Surface × Bool)) :
    (State.calSkew s c r hoff).hide fm = s.hide fm := by
  unfold State.calSkew
  repeat' (first | simp only [hide_ite, State.classRegion_frame hclk_ hregs_ hlog_ hstaff_ hresetting_ hmasked_
                 hports_ hwin_ htl_ hmemu_ hlanes_ hpcb_ hcantons_ hstr_ hservo_ hseq_ hbufRecs_ hstreamers_ hlink_
                 hcross_ hcal_ hdraws_,
                 State.setSkew_frame hstr_, State.setStr_frame hstr_, State.shiftPhi_frame hservo_] | split)

theorem execCalSkewUpdate_frame {fm : Part → Bool} (hclk_ : fm .clk = true) (hregs_ : fm .regs = true)
    (hlog_ : fm .log = true) (hstaff_ : fm .staff = true) (hresetting_ : fm .resetting = true)
    (hmasked_ : fm .masked = true) (hports_ : fm .ports = true) (hwin_ : fm .win = true) (htl_ : fm .tl = true)
    (hmemu_ : fm .memu = true) (hlanes_ : fm .lanes = true) (hpcb_ : fm .pcb = true) (hcantons_ : fm .cantons = true)
    (hstr_ : fm .str = true) (hservo_ : fm .servo = true) (hseq_ : fm .seq = true) (hbufRecs_ : fm .bufRecs = true)
    (hstreamers_ : fm .streamers = true) (hlink_ : fm .link = true) (hcross_ : fm .cross = true)
    (hcal_ : fm .cal = true) (hdraws_ : fm .draws = true) (c : Cluster) (r : Fin 2048)
    (hoff : Option (Surface × Bool)) (h : Fin 16384) (s : State) :
    Framed fm s (execCalSkewUpdate c r hoff h s) := by
  apply State.run_frame
  intro t
  repeat' (first | simp only [hide_ite, ite_self,
                 State.calSkew_frame hclk_ hregs_ hlog_ hstaff_ hresetting_ hmasked_ hports_ hwin_ htl_ hmemu_ hlanes_
                   hpcb_ hcantons_ hstr_ hservo_ hseq_ hbufRecs_ hstreamers_ hlink_ hcross_ hcal_ hdraws_,
                 State.endWork_frame hports_ htl_, State.placeWork_frame hports_ htl_] | split)

theorem State.freshen_frame {fm : Part → Bool} (hregs_ : fm .regs = true) (hports_ : fm .ports = true)
    (hwin_ : fm .win = true) (htl_ : fm .tl = true) (hlanes_ : fm .lanes = true) (hpcb_ : fm .pcb = true)
    (hcantons_ : fm .cantons = true) (hstr_ : fm .str = true) (hseq_ : fm .seq = true)
    (hbufRecs_ : fm .bufRecs = true) (hstreamers_ : fm .streamers = true) (hlink_ : fm .link = true)
    (hcal_ : fm .cal = true) (hdraws_ : fm .draws = true) (s : State) (c : Nat) (t : Nat) (f : Nat) :
    (State.freshen s c t f).hide fm = s.hide fm := by
  unfold State.freshen
  repeat' (first | simp only [State.putRepair_frame hregs_ hports_ hwin_ htl_ hlanes_ hpcb_ hcantons_ hstr_ hseq_
                 hbufRecs_ hstreamers_ hlink_ hcal_ hdraws_] | split
                 | refine (hide_foldl _ (fun t x => ?_) _ _).trans ?_)

theorem State.relocStart_frame {fm : Part → Bool} (hregs_ : fm .regs = true) (hstr_ : fm .str = true) (s : State)
    (c : Nat) (r : Nat) (f : Nat) :
    (State.relocStart s c r f).hide fm = s.hide fm := by
  unfold State.relocStart
  simp only [hide_ite, ite_self, State.setSkew_frame hstr_, State.set_frame hregs_]

theorem State.relocDone_frame {fm : Part → Bool} (hclk_ : fm .clk = true) (hregs_ : fm .regs = true)
    (hlog_ : fm .log = true) (hstaff_ : fm .staff = true) (hresetting_ : fm .resetting = true)
    (hmasked_ : fm .masked = true) (hports_ : fm .ports = true) (hwin_ : fm .win = true) (htl_ : fm .tl = true)
    (hmemu_ : fm .memu = true) (hlanes_ : fm .lanes = true) (hpcb_ : fm .pcb = true) (hcantons_ : fm .cantons = true)
    (hstr_ : fm .str = true) (hservo_ : fm .servo = true) (hseq_ : fm .seq = true) (hbufRecs_ : fm .bufRecs = true)
    (hstreamers_ : fm .streamers = true) (hlink_ : fm .link = true) (hcross_ : fm .cross = true)
    (hcal_ : fm .cal = true) (hdraws_ : fm .draws = true) (s : State) (c : Nat) (r : Nat) (f : Nat) (n : Nat) :
    (State.relocDone s c r f n).hide fm = s.hide fm := by
  unfold State.relocDone
  simp only [hide_ite, ite_self, State.classRegion_frame hclk_ hregs_ hlog_ hstaff_ hresetting_ hmasked_ hports_ hwin_
    htl_ hmemu_ hlanes_ hpcb_ hcantons_ hstr_ hservo_ hseq_ hbufRecs_ hstreamers_ hlink_ hcross_ hcal_ hdraws_,
    State.freshen_frame hregs_ hports_ hwin_ htl_ hlanes_ hpcb_ hcantons_ hstr_ hseq_ hbufRecs_ hstreamers_ hlink_
    hcal_ hdraws_, State.nextWseq_frame hstr_, State.setSkew_frame hstr_, State.set_frame hregs_]

theorem execRelocTrackCopy_frame {fm : Part → Bool} (hclk_ : fm .clk = true) (hregs_ : fm .regs = true)
    (hlog_ : fm .log = true) (hstaff_ : fm .staff = true) (hresetting_ : fm .resetting = true)
    (hmasked_ : fm .masked = true) (hports_ : fm .ports = true) (hwin_ : fm .win = true) (htl_ : fm .tl = true)
    (hmemu_ : fm .memu = true) (hlanes_ : fm .lanes = true) (hpcb_ : fm .pcb = true) (hcantons_ : fm .cantons = true)
    (hstr_ : fm .str = true) (hservo_ : fm .servo = true) (hseq_ : fm .seq = true) (hbufRecs_ : fm .bufRecs = true)
    (hstreamers_ : fm .streamers = true) (hlink_ : fm .link = true) (hcross_ : fm .cross = true)
    (hcal_ : fm .cal = true) (hdraws_ : fm .draws = true) (c : Cluster) (r : Fin 2048) (f : Surface) (h : Fin 16384)
    (s : State) :
    Framed fm s (execRelocTrackCopy c r f h s) := by
  apply State.run_frame
  intro t
  repeat' (first | simp only [hide_ite, ite_self, State.endWork_frame hports_ htl_,
                 State.placeWork_frame hports_ htl_,
                 State.relocDone_frame hclk_ hregs_ hlog_ hstaff_ hresetting_ hmasked_ hports_ hwin_ htl_ hmemu_
                   hlanes_ hpcb_ hcantons_ hstr_ hservo_ hseq_ hbufRecs_ hstreamers_ hlink_ hcross_ hcal_ hdraws_,
                 State.relocStart_frame hregs_ hstr_] | split)

end Sys2Proof.Machine
end

