-- ==== Sys2Proof/Laws/FrameLink.lean ====
section
/-! SUPPORT. Laws/FrameLink.lean: which parts of the state the functions of Machine/Link.lean can change. -/

namespace Sys2Proof.Machine

theorem State.setPortState_frame {fm : Part → Bool} (hregs_ : fm .regs = true) (hlink_ : fm .link = true) (s : State)
    (p : Nat) (st : Nat) :
    (State.setPortState s p st).hide fm = s.hide fm := by
  unfold State.setPortState
  simp only [State.setLink_frame hlink_, State.set_frame hregs_]

theorem State.sendPkt_frame {fm : Part → Bool} (hlink_ : fm .link = true) (s : State) (p : Nat) (k : Pkt) :
    (State.sendPkt s p k).hide fm = s.hide fm := by
  unfold State.sendPkt
  simp only [hide_ite, ite_self, State.setLink_frame hlink_]

theorem State.retrain_frame {fm : Part → Bool} (hclk_ : fm .clk = true) (hregs_ : fm .regs = true)
    (hstaff_ : fm .staff = true) (hresetting_ : fm .resetting = true) (hmasked_ : fm .masked = true)
    (hports_ : fm .ports = true) (hwin_ : fm .win = true) (htl_ : fm .tl = true) (hmemu_ : fm .memu = true)
    (hlanes_ : fm .lanes = true) (hpcb_ : fm .pcb = true) (hcantons_ : fm .cantons = true) (hstr_ : fm .str = true)
    (hservo_ : fm .servo = true) (hseq_ : fm .seq = true) (hbufRecs_ : fm .bufRecs = true)
    (hstreamers_ : fm .streamers = true) (hlink_ : fm .link = true) (hcross_ : fm .cross = true)
    (hcal_ : fm .cal = true) (hdraws_ : fm .draws = true) (s : State) (p : Nat) :
    (State.retrain s p).hide fm = s.hide fm := by
  unfold State.retrain
  simp only [hide_ite, ite_self, State.blockReset_frame hclk_ hregs_ hstaff_ hresetting_ hmasked_ hports_ hwin_ htl_
    hmemu_ hlanes_ hpcb_ hcantons_ hstr_ hservo_ hseq_ hbufRecs_ hstreamers_ hlink_ hcross_ hcal_ hdraws_,
    State.countSat_frame hregs_, State.each_frame, State.setLink_frame hlink_, State.setPortState_frame hregs_ hlink_,
    State.set_frame hregs_, implies_true]

theorem State.putRx_frame {fm : Part → Bool} (hclk_ : fm .clk = true) (hregs_ : fm .regs = true)
    (hstaff_ : fm .staff = true) (hresetting_ : fm .resetting = true) (hmasked_ : fm .masked = true)
    (hports_ : fm .ports = true) (hwin_ : fm .win = true) (htl_ : fm .tl = true) (hmemu_ : fm .memu = true)
    (hlanes_ : fm .lanes = true) (hpcb_ : fm .pcb = true) (hcantons_ : fm .cantons = true) (hstr_ : fm .str = true)
    (hservo_ : fm .servo = true) (hseq_ : fm .seq = true) (hbufRecs_ : fm .bufRecs = true)
    (hstreamers_ : fm .streamers = true) (hlink_ : fm .link = true) (hcross_ : fm .cross = true)
    (hcal_ : fm .cal = true) (hdraws_ : fm .draws = true) (s : State) (p : Nat) (m : Nat) :
    (State.putRx s p m).hide fm = s.hide fm := by
  unfold State.putRx
  simp only [hide_ite, ite_self, State.retrain_frame hclk_ hregs_ hstaff_ hresetting_ hmasked_ hports_ hwin_ htl_
    hmemu_ hlanes_ hpcb_ hcantons_ hstr_ hservo_ hseq_ hbufRecs_ hstreamers_ hlink_ hcross_ hcal_ hdraws_,
    State.set_frame hregs_]

theorem State.putTx_frame {fm : Part → Bool} (hclk_ : fm .clk = true) (hregs_ : fm .regs = true)
    (hstaff_ : fm .staff = true) (hresetting_ : fm .resetting = true) (hmasked_ : fm .masked = true)
    (hports_ : fm .ports = true) (hwin_ : fm .win = true) (htl_ : fm .tl = true) (hmemu_ : fm .memu = true)
    (hlanes_ : fm .lanes = true) (hpcb_ : fm .pcb = true) (hcantons_ : fm .cantons = true) (hstr_ : fm .str = true)
    (hservo_ : fm .servo = true) (hseq_ : fm .seq = true) (hbufRecs_ : fm .bufRecs = true)
    (hstreamers_ : fm .streamers = true) (hlink_ : fm .link = true) (hcross_ : fm .cross = true)
    (hcal_ : fm .cal = true) (hdraws_ : fm .draws = true) (s : State) (p : Nat) (m : Nat) :
    (State.putTx s p m).hide fm = s.hide fm := by
  unfold State.putTx
  simp only [hide_ite, ite_self, State.retrain_frame hclk_ hregs_ hstaff_ hresetting_ hmasked_ hports_ hwin_ htl_
    hmemu_ hlanes_ hpcb_ hcantons_ hstr_ hservo_ hseq_ hbufRecs_ hstreamers_ hlink_ hcross_ hcal_ hdraws_,
    State.set_frame hregs_]

theorem State.loseLane_frame {fm : Part → Bool} (hclk_ : fm .clk = true) (hregs_ : fm .regs = true)
    (hlog_ : fm .log = true) (hstaff_ : fm .staff = true) (hresetting_ : fm .resetting = true)
    (hmasked_ : fm .masked = true) (hports_ : fm .ports = true) (hwin_ : fm .win = true) (htl_ : fm .tl = true)
    (hmemu_ : fm .memu = true) (hlanes_ : fm .lanes = true) (hpcb_ : fm .pcb = true) (hcantons_ : fm .cantons = true)
    (hstr_ : fm .str = true) (hservo_ : fm .servo = true) (hseq_ : fm .seq = true) (hbufRecs_ : fm .bufRecs = true)
    (hstreamers_ : fm .streamers = true) (hlink_ : fm .link = true) (hcross_ : fm .cross = true)
    (hcal_ : fm .cal = true) (hdraws_ : fm .draws = true) (s : State) (n : Nat) (rx : Bool) (cause : Nat) :
    (State.loseLane s n rx cause).hide fm = s.hide fm := by
  unfold State.loseLane
  simp only [hide_ite, ite_self, State.blockReset_frame hclk_ hregs_ hstaff_ hresetting_ hmasked_ hports_ hwin_ htl_
    hmemu_ hlanes_ hpcb_ hcantons_ hstr_ hservo_ hseq_ hbufRecs_ hstreamers_ hlink_ hcross_ hcal_ hdraws_,
    State.interruption_frame hports_, State.raise_frame hclk_ hregs_ hlog_ hstaff_ hresetting_ hmasked_ hports_ hwin_
    htl_ hmemu_ hlanes_ hpcb_ hcantons_ hstr_ hservo_ hseq_ hbufRecs_ hstreamers_ hlink_ hcross_ hcal_ hdraws_,
    State.setHlane_frame hlink_, State.setLink_frame hlink_, State.set_frame hregs_]

theorem State.closeRound_frame {fm : Part → Bool} (hlink_ : fm .link = true) (s : State) (p : Nat) :
    (State.closeRound s p).hide fm = s.hide fm := by
  unfold State.closeRound
  simp only [State.setLink_frame hlink_]

theorem State.joinRound_frame {fm : Part → Bool} (hlink_ : fm .link = true) (s : State) (p : Nat) (n : Nat)
    (seq : Option Nat) (segs : List Nat) :
    (State.joinRound s p n seq segs).hide fm = s.hide fm := by
  unfold State.joinRound
  simp only [hide_ite, ite_self, State.closeRound_frame hlink_, State.setLink_frame hlink_]

theorem execLinkCodeword_frame {fm : Part → Bool} (hclk_ : fm .clk = true) (hregs_ : fm .regs = true)
    (hlog_ : fm .log = true) (hstaff_ : fm .staff = true) (hresetting_ : fm .resetting = true)
    (hmasked_ : fm .masked = true) (hports_ : fm .ports = true) (hwin_ : fm .win = true) (htl_ : fm .tl = true)
    (hmemu_ : fm .memu = true) (hlanes_ : fm .lanes = true) (hpcb_ : fm .pcb = true) (hcantons_ : fm .cantons = true)
    (hstr_ : fm .str = true) (hservo_ : fm .servo = true) (hseq_ : fm .seq = true) (hbufRecs_ : fm .bufRecs = true)
    (hstreamers_ : fm .streamers = true) (hlink_ : fm .link = true) (hcross_ : fm .cross = true)
    (hcal_ : fm .cal = true) (hdraws_ : fm .draws = true) (n : HLane) (info : BitVec 5140) (errs : Fin 545)
    (skew : BitVec 8) (s : State) :
    Framed fm s (execLinkCodeword n info errs skew s) := by
  apply State.run_frame
  intro t
  simp only [hide_ite, ite_self, State.addSat_frame hregs_, State.joinRound_frame hlink_, State.loseLane_frame hclk_
    hregs_ hlog_ hstaff_ hresetting_ hmasked_ hports_ hwin_ htl_ hmemu_ hlanes_ hpcb_ hcantons_ hstr_ hservo_ hseq_
    hbufRecs_ hstreamers_ hlink_ hcross_ hcal_ hdraws_, State.setHlane_frame hlink_, State.set_frame hregs_]

theorem execLinkLaneRetrain_frame {fm : Part → Bool} (hclk_ : fm .clk = true) (hregs_ : fm .regs = true)
    (hresetting_ : fm .resetting = true) (hlink_ : fm .link = true) (hcross_ : fm .cross = true) (n : HLane)
    (passed : Bool) (s : State) :
    Framed fm s (execLinkLaneRetrain n passed s) := by
  apply State.run_frame
  intro t
  simp only [hide_ite, ite_self, State.endWindow_frame hclk_ hresetting_, State.peerBack_frame hregs_ hcross_,
    State.setHlane_frame hlink_, State.setLink_frame hlink_, State.set_frame hregs_]

theorem execLinkMapApply_frame {fm : Part → Bool} (hclk_ : fm .clk = true) (hregs_ : fm .regs = true)
    (hstaff_ : fm .staff = true) (hresetting_ : fm .resetting = true) (hmasked_ : fm .masked = true)
    (hports_ : fm .ports = true) (hwin_ : fm .win = true) (htl_ : fm .tl = true) (hmemu_ : fm .memu = true)
    (hlanes_ : fm .lanes = true) (hpcb_ : fm .pcb = true) (hcantons_ : fm .cantons = true) (hstr_ : fm .str = true)
    (hservo_ : fm .servo = true) (hseq_ : fm .seq = true) (hbufRecs_ : fm .bufRecs = true)
    (hstreamers_ : fm .streamers = true) (hlink_ : fm .link = true) (hcross_ : fm .cross = true)
    (hcal_ : fm .cal = true) (hdraws_ : fm .draws = true) (p : LinkPort) (rx : Bool) (s : State) :
    Framed fm s (execLinkMapApply p rx s) := by
  apply State.run_frame
  intro t
  repeat' (first | simp only [hide_ite, ite_self,
                 State.putRx_frame hclk_ hregs_ hstaff_ hresetting_ hmasked_ hports_ hwin_ htl_ hmemu_ hlanes_ hpcb_
                   hcantons_ hstr_ hservo_ hseq_ hbufRecs_ hstreamers_ hlink_ hcross_ hcal_ hdraws_,
                 State.putTx_frame hclk_ hregs_ hstaff_ hresetting_ hmasked_ hports_ hwin_ htl_ hmemu_ hlanes_ hpcb_
                   hcantons_ hstr_ hservo_ hseq_ hbufRecs_ hstreamers_ hlink_ hcross_ hcal_ hdraws_,
                 State.setLink_frame hlink_] | split)

theorem State.resend_frame {fm : Part → Bool} (hclk_ : fm .clk = true) (hregs_ : fm .regs = true)
    (hstaff_ : fm .staff = true) (hresetting_ : fm .resetting = true) (hmasked_ : fm .masked = true)
    (hports_ : fm .ports = true) (hwin_ : fm .win = true) (htl_ : fm .tl = true) (hmemu_ : fm .memu = true)
    (hlanes_ : fm .lanes = true) (hpcb_ : fm .pcb = true) (hcantons_ : fm .cantons = true) (hstr_ : fm .str = true)
    (hservo_ : fm .servo = true) (hseq_ : fm .seq = true) (hbufRecs_ : fm .bufRecs = true)
    (hstreamers_ : fm .streamers = true) (hlink_ : fm .link = true) (hcross_ : fm .cross = true)
    (hcal_ : fm .cal = true) (hdraws_ : fm .draws = true) (s : State) (p : Nat) :
    (State.resend s p).hide fm = s.hide fm := by
  unfold State.resend
  simp only [hide_ite, ite_self, State.countSat_frame hregs_, State.retrain_frame hclk_ hregs_ hstaff_ hresetting_
    hmasked_ hports_ hwin_ htl_ hmemu_ hlanes_ hpcb_ hcantons_ hstr_ hservo_ hseq_ hbufRecs_ hstreamers_ hlink_
    hcross_ hcal_ hdraws_, State.setLink_frame hlink_]

theorem State.ackNak_frame {fm : Part → Bool} (hclk_ : fm .clk = true) (hregs_ : fm .regs = true)
    (hstaff_ : fm .staff = true) (hresetting_ : fm .resetting = true) (hmasked_ : fm .masked = true)
    (hports_ : fm .ports = true) (hwin_ : fm .win = true) (htl_ : fm .tl = true) (hmemu_ : fm .memu = true)
    (hlanes_ : fm .lanes = true) (hpcb_ : fm .pcb = true) (hcantons_ : fm .cantons = true) (hstr_ : fm .str = true)
    (hservo_ : fm .servo = true) (hseq_ : fm .seq = true) (hbufRecs_ : fm .bufRecs = true)
    (hstreamers_ : fm .streamers = true) (hlink_ : fm .link = true) (hcross_ : fm .cross = true)
    (hcal_ : fm .cal = true) (hdraws_ : fm .draws = true) (s : State) (p : Nat) (ack : Nat) (nak : Bool) :
    (State.ackNak s p ack nak).hide fm = s.hide fm := by
  unfold State.ackNak
  repeat' (first | simp only [hide_ite, ite_self, State.countSat_frame hregs_,
                 State.resend_frame hclk_ hregs_ hstaff_ hresetting_ hmasked_ hports_ hwin_ htl_ hmemu_ hlanes_ hpcb_
                   hcantons_ hstr_ hservo_ hseq_ hbufRecs_ hstreamers_ hlink_ hcross_ hcal_ hdraws_,
                 State.setLink_frame hlink_] | split)

theorem execLinkReplayTimer_frame {fm : Part → Bool} (hclk_ : fm .clk = true) (hregs_ : fm .regs = true)
    (hstaff_ : fm .staff = true) (hresetting_ : fm .resetting = true) (hmasked_ : fm .masked = true)
    (hports_ : fm .ports = true) (hwin_ : fm .win = true) (htl_ : fm .tl = true) (hmemu_ : fm .memu = true)
    (hlanes_ : fm .lanes = true) (hpcb_ : fm .pcb = true) (hcantons_ : fm .cantons = true) (hstr_ : fm .str = true)
    (hservo_ : fm .servo = true) (hseq_ : fm .seq = true) (hbufRecs_ : fm .bufRecs = true)
    (hstreamers_ : fm .streamers = true) (hlink_ : fm .link = true) (hcross_ : fm .cross = true)
    (hcal_ : fm .cal = true) (hdraws_ : fm .draws = true) (p : LinkPort) (s : State) :
    Framed fm s (execLinkReplayTimer p s) := by
  apply State.run_frame
  intro t
  simp only [hide_ite, ite_self, State.resend_frame hclk_ hregs_ hstaff_ hresetting_ hmasked_ hports_ hwin_ htl_
    hmemu_ hlanes_ hpcb_ hcantons_ hstr_ hservo_ hseq_ hbufRecs_ hstreamers_ hlink_ hcross_ hcal_ hdraws_]

theorem State.takePkt_frame {fm : Part → Bool} (hclk_ : fm .clk = true) (hregs_ : fm .regs = true)
    (hlog_ : fm .log = true) (hstaff_ : fm .staff = true) (hresetting_ : fm .resetting = true)
    (hmasked_ : fm .masked = true) (hports_ : fm .ports = true) (hwin_ : fm .win = true) (htl_ : fm .tl = true)
    (hmemu_ : fm .memu = true) (hlanes_ : fm .lanes = true) (hpcb_ : fm .pcb = true) (hcantons_ : fm .cantons = true)
    (hstr_ : fm .str = true) (hservo_ : fm .servo = true) (hseq_ : fm .seq = true) (hbufRecs_ : fm .bufRecs = true)
    (hstreamers_ : fm .streamers = true) (hlink_ : fm .link = true) (hcross_ : fm .cross = true)
    (hcal_ : fm .cal = true) (hdraws_ : fm .draws = true) (s : State) (p : Nat) (w : List Word) :
    (State.takePkt s p w).hide fm = s.hide fm := by
  unfold State.takePkt
  simp only [hide_ite, ite_self, State.countSat_frame hregs_, State.raise_frame hclk_ hregs_ hlog_ hstaff_ hresetting_
    hmasked_ hports_ hwin_ htl_ hmemu_ hlanes_ hpcb_ hcantons_ hstr_ hservo_ hseq_ hbufRecs_ hstreamers_ hlink_
    hcross_ hcal_ hdraws_, State.sendPkt_frame hlink_, State.setLink_frame hlink_]

theorem State.takePkts_frame {fm : Part → Bool} (hclk_ : fm .clk = true) (hregs_ : fm .regs = true)
    (hlog_ : fm .log = true) (hstaff_ : fm .staff = true) (hresetting_ : fm .resetting = true)
    (hmasked_ : fm .masked = true) (hports_ : fm .ports = true) (hwin_ : fm .win = true) (htl_ : fm .tl = true)
    (hmemu_ : fm .memu = true) (hlanes_ : fm .lanes = true) (hpcb_ : fm .pcb = true) (hcantons_ : fm .cantons = true)
    (hstr_ : fm .str = true) (hservo_ : fm .servo = true) (hseq_ : fm .seq = true) (hbufRecs_ : fm .bufRecs = true)
    (hstreamers_ : fm .streamers = true) (hlink_ : fm .link = true) (hcross_ : fm .cross = true)
    (hcal_ : fm .cal = true) (hdraws_ : fm .draws = true) (s : State) (p : Nat) (x2 : List (List Word)) :
    (State.takePkts s p x2).hide fm = s.hide fm := by
  fun_induction State.takePkts <;> simp_all only [State.takePkt_frame hclk_ hregs_ hlog_ hstaff_ hresetting_ hmasked_
      hports_ hwin_ htl_ hmemu_ hlanes_ hpcb_ hcantons_ hstr_ hservo_ hseq_ hbufRecs_ hstreamers_ hlink_ hcross_ hcal_
      hdraws_]

theorem State.flit_frame {fm : Part → Bool} (hclk_ : fm .clk = true) (hregs_ : fm .regs = true)
    (hstaff_ : fm .staff = true) (hresetting_ : fm .resetting = true) (hmasked_ : fm .masked = true)
    (hports_ : fm .ports = true) (hwin_ : fm .win = true) (htl_ : fm .tl = true) (hmemu_ : fm .memu = true)
    (hlanes_ : fm .lanes = true) (hpcb_ : fm .pcb = true) (hcantons_ : fm .cantons = true) (hstr_ : fm .str = true)
    (hservo_ : fm .servo = true) (hseq_ : fm .seq = true) (hbufRecs_ : fm .bufRecs = true)
    (hstreamers_ : fm .streamers = true) (hlink_ : fm .link = true) (hcross_ : fm .cross = true)
    (hcal_ : fm .cal = true) (hdraws_ : fm .draws = true) (s : State) (p : Nat) (kind : Nat)
    (f : List Nat → State → State) (hf : ∀ i0 t, (f i0 t).hide fm = t.hide fm) :
    (State.flit s p kind f).hide fm = s.hide fm := by
  unfold State.flit
  split
  · rfl
  split
  · rfl
  · simp only
    split
    · exact (State.setLink_frame hlink_) _ _ _
    split
    · rfl
    · exact (hf _ _).trans (((State.ackNak_frame hclk_ hregs_ hstaff_ hresetting_ hmasked_ hports_ hwin_ htl_ hmemu_
          hlanes_ hpcb_ hcantons_ hstr_ hservo_ hseq_ hbufRecs_ hstreamers_ hlink_ hcross_ hcal_ hdraws_) _ _ _
          _).trans ((State.setLink_frame hlink_) _ _ _))

theorem State.dataFlit_frame {fm : Part → Bool} (hclk_ : fm .clk = true) (hregs_ : fm .regs = true)
    (hlog_ : fm .log = true) (hstaff_ : fm .staff = true) (hresetting_ : fm .resetting = true)
    (hmasked_ : fm .masked = true) (hports_ : fm .ports = true) (hwin_ : fm .win = true) (htl_ : fm .tl = true)
    (hmemu_ : fm .memu = true) (hlanes_ : fm .lanes = true) (hpcb_ : fm .pcb = true) (hcantons_ : fm .cantons = true)
    (hstr_ : fm .str = true) (hservo_ : fm .servo = true) (hseq_ : fm .seq = true) (hbufRecs_ : fm .bufRecs = true)
    (hstreamers_ : fm .streamers = true) (hlink_ : fm .link = true) (hcross_ : fm .cross = true)
    (hcal_ : fm .cal = true) (hdraws_ : fm .draws = true) (s : State) (p : Nat) (ws : List Nat) :
    (State.dataFlit s p ws).hide fm = s.hide fm := by
  unfold State.dataFlit
  simp only [hide_ite, ite_self, State.setLink_frame hlink_, State.takePkts_frame hclk_ hregs_ hlog_ hstaff_
    hresetting_ hmasked_ hports_ hwin_ htl_ hmemu_ hlanes_ hpcb_ hcantons_ hstr_ hservo_ hseq_ hbufRecs_ hstreamers_
    hlink_ hcross_ hcal_ hdraws_]

theorem execLinkDataFlit_frame {fm : Part → Bool} (hclk_ : fm .clk = true) (hregs_ : fm .regs = true)
    (hlog_ : fm .log = true) (hstaff_ : fm .staff = true) (hresetting_ : fm .resetting = true)
    (hmasked_ : fm .masked = true) (hports_ : fm .ports = true) (hwin_ : fm .win = true) (htl_ : fm .tl = true)
    (hmemu_ : fm .memu = true) (hlanes_ : fm .lanes = true) (hpcb_ : fm .pcb = true) (hcantons_ : fm .cantons = true)
    (hstr_ : fm .str = true) (hservo_ : fm .servo = true) (hseq_ : fm .seq = true) (hbufRecs_ : fm .bufRecs = true)
    (hstreamers_ : fm .streamers = true) (hlink_ : fm .link = true) (hcross_ : fm .cross = true)
    (hcal_ : fm .cal = true) (hdraws_ : fm .draws = true) (p : LinkPort) (s : State) :
    Framed fm s (execLinkDataFlit p s) := by
  apply State.run_frame
  intro t
  simp only [State.dataFlit_frame hclk_ hregs_ hlog_ hstaff_ hresetting_ hmasked_ hports_ hwin_ htl_ hmemu_ hlanes_
    hpcb_ hcantons_ hstr_ hservo_ hseq_ hbufRecs_ hstreamers_ hlink_ hcross_ hcal_ hdraws_, State.flit_frame hclk_
    hregs_ hstaff_ hresetting_ hmasked_ hports_ hwin_ htl_ hmemu_ hlanes_ hpcb_ hcantons_ hstr_ hservo_ hseq_
    hbufRecs_ hstreamers_ hlink_ hcross_ hcal_ hdraws_, implies_true]

theorem execLinkIdleFlit_frame {fm : Part → Bool} (hclk_ : fm .clk = true) (hregs_ : fm .regs = true)
    (hstaff_ : fm .staff = true) (hresetting_ : fm .resetting = true) (hmasked_ : fm .masked = true)
    (hports_ : fm .ports = true) (hwin_ : fm .win = true) (htl_ : fm .tl = true) (hmemu_ : fm .memu = true)
    (hlanes_ : fm .lanes = true) (hpcb_ : fm .pcb = true) (hcantons_ : fm .cantons = true) (hstr_ : fm .str = true)
    (hservo_ : fm .servo = true) (hseq_ : fm .seq = true) (hbufRecs_ : fm .bufRecs = true)
    (hstreamers_ : fm .streamers = true) (hlink_ : fm .link = true) (hcross_ : fm .cross = true)
    (hcal_ : fm .cal = true) (hdraws_ : fm .draws = true) (p : LinkPort) (s : State) :
    Framed fm s (execLinkIdleFlit p s) := State.run_frame _ _ (fun _ => (State.flit_frame hclk_ hregs_ hstaff_
        hresetting_ hmasked_ hports_ hwin_ htl_ hmemu_ hlanes_ hpcb_ hcantons_ hstr_ hservo_ hseq_ hbufRecs_
        hstreamers_ hlink_ hcross_ hcal_ hdraws_) _ _ _ _ (fun _ _ => rfl))

theorem State.actItem_frame {fm : Part → Bool} (hclk_ : fm .clk = true) (hregs_ : fm .regs = true)
    (hlog_ : fm .log = true) (hstaff_ : fm .staff = true) (hresetting_ : fm .resetting = true)
    (hmasked_ : fm .masked = true) (hports_ : fm .ports = true) (hwin_ : fm .win = true) (htl_ : fm .tl = true)
    (hmemu_ : fm .memu = true) (hlanes_ : fm .lanes = true) (hpcb_ : fm .pcb = true) (hcantons_ : fm .cantons = true)
    (hstr_ : fm .str = true) (hservo_ : fm .servo = true) (hseq_ : fm .seq = true) (hbufRecs_ : fm .bufRecs = true)
    (hstreamers_ : fm .streamers = true) (hlink_ : fm .link = true) (hcross_ : fm .cross = true)
    (hcal_ : fm .cal = true) (hdraws_ : fm .draws = true) (s : State) (p : Nat) (item : Nat) (arg : Nat) (cw : Nat) :
    (State.actItem s p item arg cw).hide fm = s.hide fm := by
  unfold State.actItem
  repeat' (first | simp only [hide_ite, ite_self,
                 State.loseLane_frame hclk_ hregs_ hlog_ hstaff_ hresetting_ hmasked_ hports_ hwin_ htl_ hmemu_
                   hlanes_ hpcb_ hcantons_ hstr_ hservo_ hseq_ hbufRecs_ hstreamers_ hlink_ hcross_ hcal_ hdraws_,
                 State.setLink_frame hlink_] | split)

theorem State.ctrlFlit_frame {fm : Part → Bool} (hclk_ : fm .clk = true) (hregs_ : fm .regs = true)
    (hlog_ : fm .log = true) (hstaff_ : fm .staff = true) (hresetting_ : fm .resetting = true)
    (hmasked_ : fm .masked = true) (hports_ : fm .ports = true) (hwin_ : fm .win = true) (htl_ : fm .tl = true)
    (hmemu_ : fm .memu = true) (hlanes_ : fm .lanes = true) (hpcb_ : fm .pcb = true) (hcantons_ : fm .cantons = true)
    (hstr_ : fm .str = true) (hservo_ : fm .servo = true) (hseq_ : fm .seq = true) (hbufRecs_ : fm .bufRecs = true)
    (hstreamers_ : fm .streamers = true) (hlink_ : fm .link = true) (hcross_ : fm .cross = true)
    (hcal_ : fm .cal = true) (hdraws_ : fm .draws = true) (s : State) (p : Nat) (ws : List Nat) :
    (State.ctrlFlit s p ws).hide fm = s.hide fm := by
  unfold State.ctrlFlit
  simp only [hide_ite, ite_self, State.actItem_frame hclk_ hregs_ hlog_ hstaff_ hresetting_ hmasked_ hports_ hwin_
    htl_ hmemu_ hlanes_ hpcb_ hcantons_ hstr_ hservo_ hseq_ hbufRecs_ hstreamers_ hlink_ hcross_ hcal_ hdraws_,
    State.setLink_frame hlink_]

theorem execLinkCtrlFlit_frame {fm : Part → Bool} (hclk_ : fm .clk = true) (hregs_ : fm .regs = true)
    (hlog_ : fm .log = true) (hstaff_ : fm .staff = true) (hresetting_ : fm .resetting = true)
    (hmasked_ : fm .masked = true) (hports_ : fm .ports = true) (hwin_ : fm .win = true) (htl_ : fm .tl = true)
    (hmemu_ : fm .memu = true) (hlanes_ : fm .lanes = true) (hpcb_ : fm .pcb = true) (hcantons_ : fm .cantons = true)
    (hstr_ : fm .str = true) (hservo_ : fm .servo = true) (hseq_ : fm .seq = true) (hbufRecs_ : fm .bufRecs = true)
    (hstreamers_ : fm .streamers = true) (hlink_ : fm .link = true) (hcross_ : fm .cross = true)
    (hcal_ : fm .cal = true) (hdraws_ : fm .draws = true) (p : LinkPort) (s : State) :
    Framed fm s (execLinkCtrlFlit p s) := by
  apply State.run_frame
  intro t
  simp only [State.ctrlFlit_frame hclk_ hregs_ hlog_ hstaff_ hresetting_ hmasked_ hports_ hwin_ htl_ hmemu_ hlanes_
    hpcb_ hcantons_ hstr_ hservo_ hseq_ hbufRecs_ hstreamers_ hlink_ hcross_ hcal_ hdraws_, State.flit_frame hclk_
    hregs_ hstaff_ hresetting_ hmasked_ hports_ hwin_ htl_ hmemu_ hlanes_ hpcb_ hcantons_ hstr_ hservo_ hseq_
    hbufRecs_ hstreamers_ hlink_ hcross_ hcal_ hdraws_, implies_true]

theorem execLinkDblSend_frame {fm : Part → Bool} (hlink_ : fm .link = true) (n : TaskPort) (s : State) :
    Framed fm s (execLinkDblSend n s) := by
  apply State.run_frame
  intro t
  repeat' (first | simp only [hide_link hlink_, hide_ite, ite_self, State.sendPkt_frame hlink_,
                 State.setLink_frame hlink_] | split)

theorem execLinkEvtSend_frame {fm : Part → Bool} (hlink_ : fm .link = true) (d : Die) (s : State) :
    Framed fm s (execLinkEvtSend d s) := by
  apply State.run_frame
  intro t
  repeat' (first | simp only [hide_link hlink_, hide_ite, ite_self, State.sendPkt_frame hlink_,
                 State.setLink_frame hlink_] | split)

theorem State.redoorbell_frame {fm : Part → Bool} (hlink_ : fm .link = true) (s : State) :
    (State.redoorbell s).hide fm = s.hide fm := by
  unfold State.redoorbell
  simp only [hide_link hlink_]

theorem State.equalize_frame {fm : Part → Bool} (hregs_ : fm .regs = true) (hlink_ : fm .link = true) (s : State)
    (p : Nat) :
    (State.equalize s p).hide fm = s.hide fm := by
  unfold State.equalize
  simp only [State.each_frame, State.setHlane_frame hlink_, State.setPortState_frame hregs_ hlink_, State.set_frame
    hregs_, implies_true]

theorem State.equalizeAgain_frame {fm : Part → Bool} (hregs_ : fm .regs = true) (hlink_ : fm .link = true) (s : State)
    (p : Nat) :
    (State.equalizeAgain s p).hide fm = s.hide fm := by
  unfold State.equalizeAgain
  simp only [State.countSat_frame hregs_, State.equalize_frame hregs_ hlink_]

theorem execLinkEqualizeDone_frame {fm : Part → Bool} (hclk_ : fm .clk = true) (hregs_ : fm .regs = true)
    (hstaff_ : fm .staff = true) (hresetting_ : fm .resetting = true) (hmasked_ : fm .masked = true)
    (hports_ : fm .ports = true) (hwin_ : fm .win = true) (htl_ : fm .tl = true) (hmemu_ : fm .memu = true)
    (hlanes_ : fm .lanes = true) (hpcb_ : fm .pcb = true) (hcantons_ : fm .cantons = true) (hstr_ : fm .str = true)
    (hservo_ : fm .servo = true) (hseq_ : fm .seq = true) (hbufRecs_ : fm .bufRecs = true)
    (hstreamers_ : fm .streamers = true) (hlink_ : fm .link = true) (hcross_ : fm .cross = true)
    (hcal_ : fm .cal = true) (hdraws_ : fm .draws = true) (p : LinkPort) (ok : BitVec 20) (inv : BitVec 20)
    (s : State) :
    Framed fm s (execLinkEqualizeDone p ok inv s) := by
  apply State.run_frame
  intro t
  simp only [hide_ite, ite_self, State.each_frame, State.equalizeAgain_frame hregs_ hlink_, State.putRx_frame hclk_
    hregs_ hstaff_ hresetting_ hmasked_ hports_ hwin_ htl_ hmemu_ hlanes_ hpcb_ hcantons_ hstr_ hservo_ hseq_
    hbufRecs_ hstreamers_ hlink_ hcross_ hcal_ hdraws_, State.putTx_frame hclk_ hregs_ hstaff_ hresetting_ hmasked_
    hports_ hwin_ htl_ hmemu_ hlanes_ hpcb_ hcantons_ hstr_ hservo_ hseq_ hbufRecs_ hstreamers_ hlink_ hcross_ hcal_
    hdraws_, State.setPortState_frame hregs_ hlink_, State.set_frame hregs_, implies_true]

theorem execLinkAlignDone_frame {fm : Part → Bool} (hregs_ : fm .regs = true) (hlink_ : fm .link = true)
    (p : LinkPort) (s : State) :
    Framed fm s (execLinkAlignDone p s) := by
  apply State.run_frame
  intro t
  simp only [hide_ite, ite_self, State.setLink_frame hlink_, State.setPortState_frame hregs_ hlink_]

theorem State.lanesIn_frame {fm : Part → Bool} (hclk_ : fm .clk = true) (hregs_ : fm .regs = true)
    (hresetting_ : fm .resetting = true) (hlink_ : fm .link = true) (hcross_ : fm .cross = true) (s : State)
    (p : Nat) :
    (State.lanesIn s p).hide fm = s.hide fm := by
  unfold State.lanesIn
  simp only [hide_ite, ite_self, State.each_frame, State.endWindow_frame hclk_ hresetting_, State.peerBack_frame
    hregs_ hcross_, State.setHlane_frame hlink_, State.set_frame hregs_, implies_true]

theorem execLinkConfigDone_frame {fm : Part → Bool} (hclk_ : fm .clk = true) (hregs_ : fm .regs = true)
    (hresetting_ : fm .resetting = true) (hlink_ : fm .link = true) (hcross_ : fm .cross = true) (p : LinkPort)
    (pcred : BitVec 16) (s : State) :
    Framed fm s (execLinkConfigDone p pcred s) := by
  apply State.run_frame
  intro t
  simp only [hide_ite, ite_self, State.lanesIn_frame hclk_ hregs_ hresetting_ hlink_ hcross_, State.redoorbell_frame
    hlink_, State.setLink_frame hlink_, State.setPortState_frame hregs_ hlink_]

theorem execLinkTrainTimeout_frame {fm : Part → Bool} (hregs_ : fm .regs = true) (hlink_ : fm .link = true)
    (p : LinkPort) (s : State) :
    Framed fm s (execLinkTrainTimeout p s) := by
  apply State.run_frame
  intro t
  simp only [hide_ite, ite_self, State.equalizeAgain_frame hregs_ hlink_]

theorem execLinkRetrainDone_frame {fm : Part → Bool} (hclk_ : fm .clk = true) (hregs_ : fm .regs = true)
    (hresetting_ : fm .resetting = true) (hlink_ : fm .link = true) (hcross_ : fm .cross = true) (p : LinkPort)
    (s : State) :
    Framed fm s (execLinkRetrainDone p s) := by
  apply State.run_frame
  intro t
  simp only [hide_ite, ite_self, State.lanesIn_frame hclk_ hregs_ hresetting_ hlink_ hcross_, State.setLink_frame
    hlink_, State.setPortState_frame hregs_ hlink_]

theorem execLinkPortDown_frame {fm : Part → Bool} (hclk_ : fm .clk = true) (hregs_ : fm .regs = true)
    (hlog_ : fm .log = true) (hstaff_ : fm .staff = true) (hresetting_ : fm .resetting = true)
    (hmasked_ : fm .masked = true) (hports_ : fm .ports = true) (hwin_ : fm .win = true) (htl_ : fm .tl = true)
    (hmemu_ : fm .memu = true) (hlanes_ : fm .lanes = true) (hpcb_ : fm .pcb = true) (hcantons_ : fm .cantons = true)
    (hstr_ : fm .str = true) (hservo_ : fm .servo = true) (hseq_ : fm .seq = true) (hbufRecs_ : fm .bufRecs = true)
    (hstreamers_ : fm .streamers = true) (hlink_ : fm .link = true) (hcross_ : fm .cross = true)
    (hcal_ : fm .cal = true) (hdraws_ : fm .draws = true) (p : LinkPort) (s : State) :
    Framed fm s (execLinkPortDown p s) := by
  apply State.run_frame
  intro t
  simp only [hide_ite, ite_self, State.equalize_frame hregs_ hlink_, State.raise_frame hclk_ hregs_ hlog_ hstaff_
    hresetting_ hmasked_ hports_ hwin_ htl_ hmemu_ hlanes_ hpcb_ hcantons_ hstr_ hservo_ hseq_ hbufRecs_ hstreamers_
    hlink_ hcross_ hcal_ hdraws_, State.setLink_frame hlink_, State.setPortState_frame hregs_ hlink_]

end Sys2Proof.Machine
end

