-- ==== Sys2Proof/Laws/FrameMemory.lean ====
section
/-! SUPPORT. Laws/FrameMemory.lean: which parts of the state the functions of Machine/Memory.lean can change. -/

namespace Sys2Proof.Machine

theorem State.logSyn_frame {fm : Part → Bool} (hregs_ : fm .regs = true) (hmemu_ : fm .memu = true) (s : State)
    (m : MemAt) (by' : FoundBy) (synd : Nat) (unc : Bool) (restored : Bool) :
    (State.logSyn s m by' synd unc restored).hide fm = s.hide fm := by
  unfold State.logSyn
  simp only [hide_memu hmemu_, State.countSat_frame hregs_]

theorem State.lineFailed_frame {fm : Part → Bool} (hclk_ : fm .clk = true) (hregs_ : fm .regs = true)
    (hlog_ : fm .log = true) (hstaff_ : fm .staff = true) (hresetting_ : fm .resetting = true)
    (hmasked_ : fm .masked = true) (hports_ : fm .ports = true) (hwin_ : fm .win = true) (htl_ : fm .tl = true)
    (hmemu_ : fm .memu = true) (hlanes_ : fm .lanes = true) (hpcb_ : fm .pcb = true) (hcantons_ : fm .cantons = true)
    (hstr_ : fm .str = true) (hservo_ : fm .servo = true) (hseq_ : fm .seq = true) (hbufRecs_ : fm .bufRecs = true)
    (hstreamers_ : fm .streamers = true) (hlink_ : fm .link = true) (hcross_ : fm .cross = true)
    (hcal_ : fm .cal = true) (hdraws_ : fm .draws = true) (s : State) (ch : Nat) (line : Nat) :
    (State.lineFailed s ch line).hide fm = s.hide fm := by
  unfold State.lineFailed
  simp only [hide_memu hmemu_, hide_ite, ite_self, State.interruption_frame hports_, State.raise_frame hclk_ hregs_
    hlog_ hstaff_ hresetting_ hmasked_ hports_ hwin_ htl_ hmemu_ hlanes_ hpcb_ hcantons_ hstr_ hservo_ hseq_ hbufRecs_
    hstreamers_ hlink_ hcross_ hcal_ hdraws_, State.set_frame hregs_]

theorem State.burst_frame {fm : Part → Bool} (hmemu_ : fm .memu = true) (s : State) (ch : Nat) :
    (State.burst s ch).hide fm = s.hide fm := by
  unfold State.burst
  simp only [hide_memu hmemu_, hide_ite, ite_self]

theorem State.lineError_frame {fm : Part → Bool} (hclk_ : fm .clk = true) (hregs_ : fm .regs = true)
    (hlog_ : fm .log = true) (hstaff_ : fm .staff = true) (hresetting_ : fm .resetting = true)
    (hmasked_ : fm .masked = true) (hports_ : fm .ports = true) (hwin_ : fm .win = true) (htl_ : fm .tl = true)
    (hmemu_ : fm .memu = true) (hlanes_ : fm .lanes = true) (hpcb_ : fm .pcb = true) (hcantons_ : fm .cantons = true)
    (hstr_ : fm .str = true) (hservo_ : fm .servo = true) (hseq_ : fm .seq = true) (hbufRecs_ : fm .bufRecs = true)
    (hstreamers_ : fm .streamers = true) (hlink_ : fm .link = true) (hcross_ : fm .cross = true)
    (hcal_ : fm .cal = true) (hdraws_ : fm .draws = true) (s : State) (ch : Nat) (line : Nat) :
    (State.lineError s ch line).hide fm = s.hide fm := by
  unfold State.lineError
  simp only [hide_memu hmemu_, hide_ite, ite_self, State.lineFailed_frame hclk_ hregs_ hlog_ hstaff_ hresetting_
    hmasked_ hports_ hwin_ htl_ hmemu_ hlanes_ hpcb_ hcantons_ hstr_ hservo_ hseq_ hbufRecs_ hstreamers_ hlink_
    hcross_ hcal_ hdraws_]

theorem State.poisonLine_frame {fm : Part → Bool} (hmem_ : fm .mem = true) (hmemX_ : fm .memX = true)
    (hmemu_ : fm .memu = true) (s : State) (d : Nat) (i : Nat) :
    (State.poisonLine s d i).hide fm = s.hide fm := by
  unfold State.poisonLine
  simp only [hide_mem_memX_memu hmem_ hmemX_ hmemu_]

theorem State.lineHit_frame {fm : Part → Bool} (hregs_ : fm .regs = true) (hlog_ : fm .log = true)
    (hmem_ : fm .mem = true) (hmemX_ : fm .memX = true) (hmemu_ : fm .memu = true) (hcache_ : fm .cache = true)
    (s : State) (d : Nat) (i : Nat) :
    (State.lineHit s d i).hide fm = s.hide fm := by
  unfold State.lineHit
  repeat' (first | simp only [State.event_frame hregs_ hlog_,
                 State.poisonLine_frame hmem_ hmemX_ hmemu_, State.setCache_frame hcache_] | split)

theorem State.cellHit_frame {fm : Part → Bool} (hregs_ : fm .regs = true) (hlog_ : fm .log = true)
    (hports_ : fm .ports = true) (s : State) (n : Nat) (pos : Nat) (w : Nat) :
    (State.cellHit s n pos w).hide fm = s.hide fm := by
  unfold State.cellHit
  simp only [hide_ports hports_, hide_ite, ite_self, State.event_frame hregs_ hlog_]

theorem State.packetHit_frame {fm : Part → Bool} (hlanes_ : fm .lanes = true) (hcantons_ : fm .cantons = true)
    (hstr_ : fm .str = true) (s : State) (c : Nat) (f : Nat) :
    (State.packetHit s c f).hide fm = s.hide fm := by
  unfold State.packetHit
  repeat' (first | simp only [hide_ite, ite_self, State.erase_frame hcantons_ hstr_,
                 State.noSync_frame hlanes_ hcantons_ hstr_] | split)

theorem State.stagedBlock_frame {fm : Part → Bool} (hports_ : fm .ports = true) (hmem_ : fm .mem = true)
    (hmemX_ : fm .memX = true) (hmemu_ : fm .memu = true) (s : State) (x : Cmd) (b : Nat) (at' : Nat) :
    (State.stagedBlock s x b at').hide fm = s.hide fm := by
  unfold State.stagedBlock
  simp only [State.putStored_frame hmem_ hmemX_ hmemu_, State.setCmd_frame hports_]

theorem State.stagedHit_frame {fm : Part → Bool} (hports_ : fm .ports = true) (hmem_ : fm .mem = true)
    (hmemX_ : fm .memX = true) (hmemu_ : fm .memu = true) (hstr_ : fm .str = true) (s : State) (c : Nat) (f : Nat)
    (slot : Nat) (at' : Nat) :
    (State.stagedHit s c f slot at').hide fm = s.hide fm := by
  unfold State.stagedHit
  repeat' (first | simp only [hide_ite, ite_self, State.setStr_frame hstr_,
                 State.stagedBlock_frame hports_ hmem_ hmemX_ hmemu_] | split)

theorem State.regionHit_frame {fm : Part → Bool} (hclk_ : fm .clk = true) (hregs_ : fm .regs = true)
    (hlog_ : fm .log = true) (hstaff_ : fm .staff = true) (hresetting_ : fm .resetting = true)
    (hmasked_ : fm .masked = true) (hports_ : fm .ports = true) (hwin_ : fm .win = true) (htl_ : fm .tl = true)
    (hmem_ : fm .mem = true) (hmemX_ : fm .memX = true) (hmemu_ : fm .memu = true) (hlanes_ : fm .lanes = true)
    (hpcb_ : fm .pcb = true) (hcantons_ : fm .cantons = true) (hstr_ : fm .str = true) (hservo_ : fm .servo = true)
    (hseq_ : fm .seq = true) (hcache_ : fm .cache = true) (hstaged_ : fm .staged = true)
    (hbufRecs_ : fm .bufRecs = true) (hstreamers_ : fm .streamers = true) (hlink_ : fm .link = true)
    (hcross_ : fm .cross = true) (hcal_ : fm .cal = true) (hdraws_ : fm .draws = true) (s : State) (m : MemAt)
    (by' : FoundBy) :
    (State.regionHit s m by').hide fm = s.hide fm := by
  unfold State.regionHit
  repeat' (first | simp only [hide_staff hstaff_,
                 hide_ite, ite_self,
                 State.cellHit_frame hregs_ hlog_ hports_,
                 State.decLost_frame hclk_ hregs_ hlog_ hstaff_ hresetting_ hmasked_ hports_ hwin_ htl_ hmemu_ hlanes_
                   hpcb_ hcantons_ hstr_ hservo_ hseq_ hbufRecs_ hstreamers_ hlink_ hcross_ hcal_ hdraws_,
                 State.lineHit_frame hregs_ hlog_ hmem_ hmemX_ hmemu_ hcache_,
                 State.packetHit_frame hlanes_ hcantons_ hstr_,
                 State.slotHit_frame hregs_ hports_ hwin_ hcache_ hstaged_ hlink_,
                 State.staffLost_frame hclk_ hregs_ hlog_ hstaff_ hresetting_ hmasked_ hports_ hwin_ htl_ hmemu_
                   hlanes_ hpcb_ hcantons_ hstr_ hservo_ hseq_ hbufRecs_ hstreamers_ hlink_ hcross_ hcal_ hdraws_,
                 State.stagedHit_frame hports_ hmem_ hmemX_ hmemu_ hstr_] | split)

theorem State.unc_frame {fm : Part → Bool} (hclk_ : fm .clk = true) (hregs_ : fm .regs = true)
    (hlog_ : fm .log = true) (hstaff_ : fm .staff = true) (hresetting_ : fm .resetting = true)
    (hmasked_ : fm .masked = true) (hports_ : fm .ports = true) (hwin_ : fm .win = true) (htl_ : fm .tl = true)
    (hmem_ : fm .mem = true) (hmemX_ : fm .memX = true) (hmemu_ : fm .memu = true) (hlanes_ : fm .lanes = true)
    (hpcb_ : fm .pcb = true) (hcantons_ : fm .cantons = true) (hstr_ : fm .str = true) (hservo_ : fm .servo = true)
    (hseq_ : fm .seq = true) (hcache_ : fm .cache = true) (hstaged_ : fm .staged = true)
    (hbufRecs_ : fm .bufRecs = true) (hstreamers_ : fm .streamers = true) (hlink_ : fm .link = true)
    (hcross_ : fm .cross = true) (hcal_ : fm .cal = true) (hdraws_ : fm .draws = true) (s : State) (m : MemAt)
    (by' : FoundBy) (w : Stored) (good : Stored) :
    (State.unc s m by' w good).hide fm = s.hide fm := by
  unfold State.unc
  simp only [hide_ite, ite_self, State.countSat_frame hregs_, State.logSyn_frame hregs_ hmemu_, State.putStored_frame
    hmem_ hmemX_ hmemu_, State.raise_frame hclk_ hregs_ hlog_ hstaff_ hresetting_ hmasked_ hports_ hwin_ htl_ hmemu_
    hlanes_ hpcb_ hcantons_ hstr_ hservo_ hseq_ hbufRecs_ hstreamers_ hlink_ hcross_ hcal_ hdraws_,
    State.regionHit_frame hclk_ hregs_ hlog_ hstaff_ hresetting_ hmasked_ hports_ hwin_ htl_ hmem_ hmemX_ hmemu_
    hlanes_ hpcb_ hcantons_ hstr_ hservo_ hseq_ hcache_ hstaged_ hbufRecs_ hstreamers_ hlink_ hcross_ hcal_ hdraws_]

theorem State.corr_frame {fm : Part → Bool} (hclk_ : fm .clk = true) (hregs_ : fm .regs = true)
    (hlog_ : fm .log = true) (hstaff_ : fm .staff = true) (hresetting_ : fm .resetting = true)
    (hmasked_ : fm .masked = true) (hports_ : fm .ports = true) (hwin_ : fm .win = true) (htl_ : fm .tl = true)
    (hmem_ : fm .mem = true) (hmemX_ : fm .memX = true) (hmemu_ : fm .memu = true) (hlanes_ : fm .lanes = true)
    (hpcb_ : fm .pcb = true) (hcantons_ : fm .cantons = true) (hstr_ : fm .str = true) (hservo_ : fm .servo = true)
    (hseq_ : fm .seq = true) (hbufRecs_ : fm .bufRecs = true) (hstreamers_ : fm .streamers = true)
    (hlink_ : fm .link = true) (hcross_ : fm .cross = true) (hcal_ : fm .cal = true) (hdraws_ : fm .draws = true)
    (s : State) (m : MemAt) (by' : FoundBy) (w : Stored) (v : Stored) :
    (State.corr s m by' w v).hide fm = s.hide fm := by
  unfold State.corr
  simp only [hide_ite, ite_self, State.countSat_frame hregs_, State.lineError_frame hclk_ hregs_ hlog_ hstaff_
    hresetting_ hmasked_ hports_ hwin_ htl_ hmemu_ hlanes_ hpcb_ hcantons_ hstr_ hservo_ hseq_ hbufRecs_ hstreamers_
    hlink_ hcross_ hcal_ hdraws_, State.logSyn_frame hregs_ hmemu_, State.putStored_frame hmem_ hmemX_ hmemu_]

theorem State.memBurst_frame {fm : Part → Bool} (hmemu_ : fm .memu = true) (s : State) (m : MemAt) :
    (State.memBurst s m).hide fm = s.hide fm := by
  unfold State.memBurst
  simp only [hide_ite, ite_self, State.burst_frame hmemu_]

theorem State.readFound_frame {fm : Part → Bool} (hclk_ : fm .clk = true) (hregs_ : fm .regs = true)
    (hlog_ : fm .log = true) (hstaff_ : fm .staff = true) (hresetting_ : fm .resetting = true)
    (hmasked_ : fm .masked = true) (hports_ : fm .ports = true) (hwin_ : fm .win = true) (htl_ : fm .tl = true)
    (hmem_ : fm .mem = true) (hmemX_ : fm .memX = true) (hmemu_ : fm .memu = true) (hlanes_ : fm .lanes = true)
    (hpcb_ : fm .pcb = true) (hcantons_ : fm .cantons = true) (hstr_ : fm .str = true) (hservo_ : fm .servo = true)
    (hseq_ : fm .seq = true) (hcache_ : fm .cache = true) (hstaged_ : fm .staged = true)
    (hbufRecs_ : fm .bufRecs = true) (hstreamers_ : fm .streamers = true) (hlink_ : fm .link = true)
    (hcross_ : fm .cross = true) (hcal_ : fm .cal = true) (hdraws_ : fm .draws = true) (s : State) (m : MemAt)
    (by' : FoundBy) (old : Stored) :
    (State.readFound s m by' old).hide fm = s.hide fm := by
  unfold State.readFound
  repeat' (first | simp only [State.corr_frame hclk_ hregs_ hlog_ hstaff_ hresetting_ hmasked_ hports_ hwin_ htl_
                 hmem_ hmemX_ hmemu_ hlanes_ hpcb_ hcantons_ hstr_ hservo_ hseq_ hbufRecs_ hstreamers_ hlink_ hcross_
                 hcal_ hdraws_,
                 State.unc_frame hclk_ hregs_ hlog_ hstaff_ hresetting_ hmasked_ hports_ hwin_ htl_ hmem_ hmemX_
                   hmemu_ hlanes_ hpcb_ hcantons_ hstr_ hservo_ hseq_ hcache_ hstaged_ hbufRecs_ hstreamers_ hlink_
                   hcross_ hcal_ hdraws_]
                 | split)

theorem State.readWord_frame {fm : Part → Bool} (hclk_ : fm .clk = true) (hregs_ : fm .regs = true)
    (hlog_ : fm .log = true) (hstaff_ : fm .staff = true) (hresetting_ : fm .resetting = true)
    (hmasked_ : fm .masked = true) (hports_ : fm .ports = true) (hwin_ : fm .win = true) (htl_ : fm .tl = true)
    (hmem_ : fm .mem = true) (hmemX_ : fm .memX = true) (hmemu_ : fm .memu = true) (hlanes_ : fm .lanes = true)
    (hpcb_ : fm .pcb = true) (hcantons_ : fm .cantons = true) (hstr_ : fm .str = true) (hservo_ : fm .servo = true)
    (hseq_ : fm .seq = true) (hcache_ : fm .cache = true) (hstaged_ : fm .staged = true)
    (hbufRecs_ : fm .bufRecs = true) (hstreamers_ : fm .streamers = true) (hlink_ : fm .link = true)
    (hcross_ : fm .cross = true) (hcal_ : fm .cal = true) (hdraws_ : fm .draws = true) (s : State) (m : MemAt)
    (by' : FoundBy) :
    (State.readWord s m by').hide fm = s.hide fm := by
  unfold State.readWord
  simp only [State.memBurst_frame hmemu_, State.readFound_frame hclk_ hregs_ hlog_ hstaff_ hresetting_ hmasked_
    hports_ hwin_ htl_ hmem_ hmemX_ hmemu_ hlanes_ hpcb_ hcantons_ hstr_ hservo_ hseq_ hcache_ hstaged_ hbufRecs_
    hstreamers_ hlink_ hcross_ hcal_ hdraws_]

theorem onWord_frame {fm : Part → Bool} (m : MemAt) (s : State) (f : State → State)
    (hf : ∀  t, (f  t).hide fm = t.hide fm) :
    Framed fm s (onWord m s f) := by
  unfold onWord
  split
  · exact State.run_frame _ _ hf
  · exact Framed.fault _ _ _

theorem State.writeWord_frame {fm : Part → Bool} (hregs_ : fm .regs = true) (hlog_ : fm .log = true)
    (hmem_ : fm .mem = true) (hmemX_ : fm .memX = true) (hmemu_ : fm .memu = true) (s : State) (origin : Nat)
    (m : MemAt) (v : Nat) :
    (State.writeWord s origin m v).hide fm = s.hide fm := by
  unfold State.writeWord
  simp only [State.memBurst_frame hmemu_, State.putReq_frame hregs_ hlog_ hmem_ hmemX_ hmemu_]

theorem State.mergeFound_frame {fm : Part → Bool} (hclk_ : fm .clk = true) (hregs_ : fm .regs = true)
    (hlog_ : fm .log = true) (hstaff_ : fm .staff = true) (hresetting_ : fm .resetting = true)
    (hmasked_ : fm .masked = true) (hports_ : fm .ports = true) (hwin_ : fm .win = true) (htl_ : fm .tl = true)
    (hmem_ : fm .mem = true) (hmemX_ : fm .memX = true) (hmemu_ : fm .memu = true) (hlanes_ : fm .lanes = true)
    (hpcb_ : fm .pcb = true) (hcantons_ : fm .cantons = true) (hstr_ : fm .str = true) (hservo_ : fm .servo = true)
    (hseq_ : fm .seq = true) (hcache_ : fm .cache = true) (hstaged_ : fm .staged = true)
    (hbufRecs_ : fm .bufRecs = true) (hstreamers_ : fm .streamers = true) (hlink_ : fm .link = true)
    (hcross_ : fm .cross = true) (hcal_ : fm .cal = true) (hdraws_ : fm .draws = true) (s : State) (origin : Nat)
    (m : MemAt) (mask : Nat) (v : Nat) (old : Stored) :
    (State.mergeFound s origin m mask v old).hide fm = s.hide fm := by
  unfold State.mergeFound
  repeat' (first | simp only [State.corr_frame hclk_ hregs_ hlog_ hstaff_ hresetting_ hmasked_ hports_ hwin_ htl_
                 hmem_ hmemX_ hmemu_ hlanes_ hpcb_ hcantons_ hstr_ hservo_ hseq_ hbufRecs_ hstreamers_ hlink_ hcross_
                 hcal_ hdraws_,
                 State.putReq_frame hregs_ hlog_ hmem_ hmemX_ hmemu_,
                 State.unc_frame hclk_ hregs_ hlog_ hstaff_ hresetting_ hmasked_ hports_ hwin_ htl_ hmem_ hmemX_
                   hmemu_ hlanes_ hpcb_ hcantons_ hstr_ hservo_ hseq_ hcache_ hstaged_ hbufRecs_ hstreamers_ hlink_
                   hcross_ hcal_ hdraws_]
                 | split)

theorem State.mergeWord_frame {fm : Part → Bool} (hclk_ : fm .clk = true) (hregs_ : fm .regs = true)
    (hlog_ : fm .log = true) (hstaff_ : fm .staff = true) (hresetting_ : fm .resetting = true)
    (hmasked_ : fm .masked = true) (hports_ : fm .ports = true) (hwin_ : fm .win = true) (htl_ : fm .tl = true)
    (hmem_ : fm .mem = true) (hmemX_ : fm .memX = true) (hmemu_ : fm .memu = true) (hlanes_ : fm .lanes = true)
    (hpcb_ : fm .pcb = true) (hcantons_ : fm .cantons = true) (hstr_ : fm .str = true) (hservo_ : fm .servo = true)
    (hseq_ : fm .seq = true) (hcache_ : fm .cache = true) (hstaged_ : fm .staged = true)
    (hbufRecs_ : fm .bufRecs = true) (hstreamers_ : fm .streamers = true) (hlink_ : fm .link = true)
    (hcross_ : fm .cross = true) (hcal_ : fm .cal = true) (hdraws_ : fm .draws = true) (s : State) (origin : Nat)
    (m : MemAt) (mask : Nat) (v : Nat) :
    (State.mergeWord s origin m mask v).hide fm = s.hide fm := by
  unfold State.mergeWord
  simp only [State.memBurst_frame hmemu_, State.mergeFound_frame hclk_ hregs_ hlog_ hstaff_ hresetting_ hmasked_
    hports_ hwin_ htl_ hmem_ hmemX_ hmemu_ hlanes_ hpcb_ hcantons_ hstr_ hservo_ hseq_ hcache_ hstaged_ hbufRecs_
    hstreamers_ hlink_ hcross_ hcal_ hdraws_]

theorem State.access_frame {fm : Part → Bool} (hclk_ : fm .clk = true) (hregs_ : fm .regs = true)
    (hlog_ : fm .log = true) (hstaff_ : fm .staff = true) (hresetting_ : fm .resetting = true)
    (hmasked_ : fm .masked = true) (hports_ : fm .ports = true) (hwin_ : fm .win = true) (htl_ : fm .tl = true)
    (hmem_ : fm .mem = true) (hmemX_ : fm .memX = true) (hmemu_ : fm .memu = true) (hlanes_ : fm .lanes = true)
    (hpcb_ : fm .pcb = true) (hcantons_ : fm .cantons = true) (hstr_ : fm .str = true) (hservo_ : fm .servo = true)
    (hseq_ : fm .seq = true) (hcache_ : fm .cache = true) (hstaged_ : fm .staged = true)
    (hbufRecs_ : fm .bufRecs = true) (hstreamers_ : fm .streamers = true) (hlink_ : fm .link = true)
    (hcross_ : fm .cross = true) (hcal_ : fm .cal = true) (hdraws_ : fm .draws = true) (s : State) (x : MemAccess) :
    (State.access s x).hide fm = s.hide fm := by
  unfold State.access
  repeat' (first | simp only [hide_ite, State.mergeWord_frame hclk_ hregs_ hlog_ hstaff_ hresetting_ hmasked_ hports_
                 hwin_ htl_ hmem_ hmemX_ hmemu_ hlanes_ hpcb_ hcantons_ hstr_ hservo_ hseq_ hcache_ hstaged_ hbufRecs_
                 hstreamers_ hlink_ hcross_ hcal_ hdraws_,
                 State.readWord_frame hclk_ hregs_ hlog_ hstaff_ hresetting_ hmasked_ hports_ hwin_ htl_ hmem_ hmemX_
                   hmemu_ hlanes_ hpcb_ hcantons_ hstr_ hservo_ hseq_ hcache_ hstaged_ hbufRecs_ hstreamers_ hlink_
                   hcross_ hcal_ hdraws_,
                 State.writeWord_frame hregs_ hlog_ hmem_ hmemX_ hmemu_] | split)

theorem State.request_frame {fm : Part → Bool} (hclk_ : fm .clk = true) (hregs_ : fm .regs = true)
    (hlog_ : fm .log = true) (hstaff_ : fm .staff = true) (hresetting_ : fm .resetting = true)
    (hmasked_ : fm .masked = true) (hports_ : fm .ports = true) (hwin_ : fm .win = true) (htl_ : fm .tl = true)
    (hmem_ : fm .mem = true) (hmemX_ : fm .memX = true) (hmemu_ : fm .memu = true) (hlanes_ : fm .lanes = true)
    (hpcb_ : fm .pcb = true) (hcantons_ : fm .cantons = true) (hstr_ : fm .str = true) (hservo_ : fm .servo = true)
    (hseq_ : fm .seq = true) (hcache_ : fm .cache = true) (hstaged_ : fm .staged = true)
    (hbufRecs_ : fm .bufRecs = true) (hstreamers_ : fm .streamers = true) (hlink_ : fm .link = true)
    (hcross_ : fm .cross = true) (hcal_ : fm .cal = true) (hdraws_ : fm .draws = true) (s : State) (x : MemAccess) :
    (State.request s x).hide fm = s.hide fm := by
  unfold State.request
  simp only [hide_memu hmemu_, hide_ite, ite_self, State.access_frame hclk_ hregs_ hlog_ hstaff_ hresetting_ hmasked_
    hports_ hwin_ htl_ hmem_ hmemX_ hmemu_ hlanes_ hpcb_ hcantons_ hstr_ hservo_ hseq_ hcache_ hstaged_ hbufRecs_
    hstreamers_ hlink_ hcross_ hcal_ hdraws_]

theorem execMemoryRead_frame {fm : Part → Bool} (hclk_ : fm .clk = true) (hregs_ : fm .regs = true)
    (hlog_ : fm .log = true) (hstaff_ : fm .staff = true) (hresetting_ : fm .resetting = true)
    (hmasked_ : fm .masked = true) (hports_ : fm .ports = true) (hwin_ : fm .win = true) (htl_ : fm .tl = true)
    (hmem_ : fm .mem = true) (hmemX_ : fm .memX = true) (hmemu_ : fm .memu = true) (hlanes_ : fm .lanes = true)
    (hpcb_ : fm .pcb = true) (hcantons_ : fm .cantons = true) (hstr_ : fm .str = true) (hservo_ : fm .servo = true)
    (hseq_ : fm .seq = true) (hcache_ : fm .cache = true) (hstaged_ : fm .staged = true)
    (hbufRecs_ : fm .bufRecs = true) (hstreamers_ : fm .streamers = true) (hlink_ : fm .link = true)
    (hcross_ : fm .cross = true) (hcal_ : fm .cal = true) (hdraws_ : fm .draws = true) (m : MemAt) (s : State) :
    Framed fm s (execMemoryRead m s) := onWord_frame _ _ _ (fun _ => (State.request_frame hclk_ hregs_ hlog_ hstaff_
        hresetting_ hmasked_ hports_ hwin_ htl_ hmem_ hmemX_ hmemu_ hlanes_ hpcb_ hcantons_ hstr_ hservo_ hseq_
        hcache_ hstaged_ hbufRecs_ hstreamers_ hlink_ hcross_ hcal_ hdraws_) _ _)

theorem execMemoryWrite_frame {fm : Part → Bool} (hclk_ : fm .clk = true) (hregs_ : fm .regs = true)
    (hlog_ : fm .log = true) (hstaff_ : fm .staff = true) (hresetting_ : fm .resetting = true)
    (hmasked_ : fm .masked = true) (hports_ : fm .ports = true) (hwin_ : fm .win = true) (htl_ : fm .tl = true)
    (hmem_ : fm .mem = true) (hmemX_ : fm .memX = true) (hmemu_ : fm .memu = true) (hlanes_ : fm .lanes = true)
    (hpcb_ : fm .pcb = true) (hcantons_ : fm .cantons = true) (hstr_ : fm .str = true) (hservo_ : fm .servo = true)
    (hseq_ : fm .seq = true) (hcache_ : fm .cache = true) (hstaged_ : fm .staged = true)
    (hbufRecs_ : fm .bufRecs = true) (hstreamers_ : fm .streamers = true) (hlink_ : fm .link = true)
    (hcross_ : fm .cross = true) (hcal_ : fm .cal = true) (hdraws_ : fm .draws = true) (o : Origin) (m : MemAt)
    (v : Word) (s : State) :
    Framed fm s (execMemoryWrite o m v s) := onWord_frame _ _ _ (fun _ => (State.request_frame hclk_ hregs_ hlog_
        hstaff_ hresetting_ hmasked_ hports_ hwin_ htl_ hmem_ hmemX_ hmemu_ hlanes_ hpcb_ hcantons_ hstr_ hservo_
        hseq_ hcache_ hstaged_ hbufRecs_ hstreamers_ hlink_ hcross_ hcal_ hdraws_) _ _)

theorem execMemoryPartialWrite_frame {fm : Part → Bool} (hclk_ : fm .clk = true) (hregs_ : fm .regs = true)
    (hlog_ : fm .log = true) (hstaff_ : fm .staff = true) (hresetting_ : fm .resetting = true)
    (hmasked_ : fm .masked = true) (hports_ : fm .ports = true) (hwin_ : fm .win = true) (htl_ : fm .tl = true)
    (hmem_ : fm .mem = true) (hmemX_ : fm .memX = true) (hmemu_ : fm .memu = true) (hlanes_ : fm .lanes = true)
    (hpcb_ : fm .pcb = true) (hcantons_ : fm .cantons = true) (hstr_ : fm .str = true) (hservo_ : fm .servo = true)
    (hseq_ : fm .seq = true) (hcache_ : fm .cache = true) (hstaged_ : fm .staged = true)
    (hbufRecs_ : fm .bufRecs = true) (hstreamers_ : fm .streamers = true) (hlink_ : fm .link = true)
    (hcross_ : fm .cross = true) (hcal_ : fm .cal = true) (hdraws_ : fm .draws = true) (o : Origin) (m : MemAt)
    (mask : BitVec 4) (v : Word) (s : State) :
    Framed fm s (execMemoryPartialWrite o m mask v s) := onWord_frame _ _ _ (fun _ => (State.request_frame hclk_
        hregs_ hlog_ hstaff_ hresetting_ hmasked_ hports_ hwin_ htl_ hmem_ hmemX_ hmemu_ hlanes_ hpcb_ hcantons_ hstr_
        hservo_ hseq_ hcache_ hstaged_ hbufRecs_ hstreamers_ hlink_ hcross_ hcal_ hdraws_) _ _)

theorem State.rowSuspect_frame {fm : Part → Bool} (hregs_ : fm .regs = true) (hlog_ : fm .log = true)
    (hmemu_ : fm .memu = true) (s : State) (row : Nat) (addr : Nat) :
    (State.rowSuspect s row addr).hide fm = s.hide fm := by
  unfold State.rowSuspect
  simp only [hide_memu hmemu_, hide_ite, ite_self, State.event_frame hregs_ hlog_]

theorem State.scrubStep_frame {fm : Part → Bool} (hregs_ : fm .regs = true) (hmemu_ : fm .memu = true) (s : State)
    (ch : Nat) :
    (State.scrubStep s ch).hide fm = s.hide fm := by
  unfold State.scrubStep
  simp only [hide_memu hmemu_, hide_ite, ite_self, State.count_frame hregs_]

theorem execScrubRead_frame {fm : Part → Bool} (hclk_ : fm .clk = true) (hregs_ : fm .regs = true)
    (hlog_ : fm .log = true) (hstaff_ : fm .staff = true) (hresetting_ : fm .resetting = true)
    (hmasked_ : fm .masked = true) (hports_ : fm .ports = true) (hwin_ : fm .win = true) (htl_ : fm .tl = true)
    (hmem_ : fm .mem = true) (hmemX_ : fm .memX = true) (hmemu_ : fm .memu = true) (hlanes_ : fm .lanes = true)
    (hpcb_ : fm .pcb = true) (hcantons_ : fm .cantons = true) (hstr_ : fm .str = true) (hservo_ : fm .servo = true)
    (hseq_ : fm .seq = true) (hcache_ : fm .cache = true) (hstaged_ : fm .staged = true)
    (hbufRecs_ : fm .bufRecs = true) (hstreamers_ : fm .streamers = true) (hlink_ : fm .link = true)
    (hcross_ : fm .cross = true) (hcal_ : fm .cal = true) (hdraws_ : fm .draws = true) (m : MemAt) (row : BitVec 32)
    (last : Bool) (s : State) :
    Framed fm s (execScrubRead m row last s) := by
  apply onWord_frame
  intro t
  split
  · rfl
  split
  · simp only
    split
    · rfl
    · exact ((State.scrubStep_frame hregs_ hmemu_) _ _).trans (((State.rowSuspect_frame hregs_ hlog_ hmemu_) _ _
          _).trans
        ((hide_memu hmemu_ _ _).trans ((State.readWord_frame hclk_ hregs_ hlog_ hstaff_ hresetting_ hmasked_ hports_
            hwin_ htl_ hmem_ hmemX_ hmemu_ hlanes_ hpcb_ hcantons_ hstr_ hservo_ hseq_ hcache_ hstaged_ hbufRecs_
            hstreamers_ hlink_ hcross_ hcal_ hdraws_) _ _ _)))
  · simp only [hide_ite, (State.count_frame hregs_),
                 (State.readWord_frame hclk_ hregs_ hlog_ hstaff_ hresetting_ hmasked_ hports_ hwin_ htl_ hmem_ hmemX_
                   hmemu_ hlanes_ hpcb_ hcantons_ hstr_ hservo_ hseq_ hcache_ hstaged_ hbufRecs_ hstreamers_ hlink_
                   hcross_ hcal_ hdraws_),
                 ite_self]

theorem State.refetched_frame {fm : Part → Bool} (hregs_ : fm .regs = true) (hlog_ : fm .log = true)
    (hmem_ : fm .mem = true) (hmemX_ : fm .memX = true) (hmemu_ : fm .memu = true) (hcache_ : fm .cache = true)
    (s : State) (lba : Nat) (i : Nat) (data : List Nat) :
    (State.refetched s lba i data).hide fm = s.hide fm := by
  unfold State.refetched
  simp only [State.putFrag_frame hregs_ hlog_ hmem_ hmemX_ hmemu_, State.setCache_frame hcache_]

theorem execScrubRefetch_frame {fm : Part → Bool} (hregs_ : fm .regs = true) (hlog_ : fm .log = true)
    (hports_ : fm .ports = true) (htl_ : fm .tl = true) (hmem_ : fm .mem = true) (hmemX_ : fm .memX = true)
    (hmemu_ : fm .memu = true) (hcache_ : fm .cache = true) (lba : BitVec 48) (data : List (BitVec 32))
    (h : Fin 16384) (s : State) :
    Framed fm s (execScrubRefetch lba data h s) := by
  apply State.run_frame
  intro t
  repeat' (first | simp only [hide_ite, ite_self, State.endWork_frame hports_ htl_,
                 State.placeWork_frame hports_ htl_, State.refetched_frame hregs_ hlog_ hmem_ hmemX_ hmemu_ hcache_,
                 State.releaseOn_frame hports_ htl_, State.undueStripe_frame htl_] | split
                 | refine (hide_foldl _ (fun t x => ?_) _ _).trans ?_)

theorem State.freeChan_frame {fm : Part → Bool} (hclk_ : fm .clk = true) (hregs_ : fm .regs = true)
    (hlog_ : fm .log = true) (hstaff_ : fm .staff = true) (hresetting_ : fm .resetting = true)
    (hmasked_ : fm .masked = true) (hports_ : fm .ports = true) (hwin_ : fm .win = true) (htl_ : fm .tl = true)
    (hmem_ : fm .mem = true) (hmemX_ : fm .memX = true) (hmemu_ : fm .memu = true) (hlanes_ : fm .lanes = true)
    (hpcb_ : fm .pcb = true) (hcantons_ : fm .cantons = true) (hstr_ : fm .str = true) (hservo_ : fm .servo = true)
    (hseq_ : fm .seq = true) (hcache_ : fm .cache = true) (hstaged_ : fm .staged = true)
    (hbufRecs_ : fm .bufRecs = true) (hstreamers_ : fm .streamers = true) (hlink_ : fm .link = true)
    (hcross_ : fm .cross = true) (hcal_ : fm .cal = true) (hdraws_ : fm .draws = true) (s : State) (ch : Nat) :
    (State.freeChan s ch).hide fm = s.hide fm := by
  unfold State.freeChan
  simp only
  exact (hide_foldl _ (fun t x => (State.request_frame hclk_ hregs_ hlog_ hstaff_ hresetting_ hmasked_ hports_ hwin_
      htl_ hmem_ hmemX_ hmemu_ hlanes_ hpcb_ hcantons_ hstr_ hservo_ hseq_ hcache_ hstaged_ hbufRecs_ hstreamers_
      hlink_ hcross_ hcal_ hdraws_) _ _) _ _).trans (hide_memu hmemu_ _ _)

theorem execSteeringHoldEnd_frame {fm : Part → Bool} (hclk_ : fm .clk = true) (hregs_ : fm .regs = true)
    (hlog_ : fm .log = true) (hstaff_ : fm .staff = true) (hresetting_ : fm .resetting = true)
    (hmasked_ : fm .masked = true) (hports_ : fm .ports = true) (hwin_ : fm .win = true) (htl_ : fm .tl = true)
    (hmem_ : fm .mem = true) (hmemX_ : fm .memX = true) (hmemu_ : fm .memu = true) (hlanes_ : fm .lanes = true)
    (hpcb_ : fm .pcb = true) (hcantons_ : fm .cantons = true) (hstr_ : fm .str = true) (hservo_ : fm .servo = true)
    (hseq_ : fm .seq = true) (hcache_ : fm .cache = true) (hstaged_ : fm .staged = true)
    (hbufRecs_ : fm .bufRecs = true) (hstreamers_ : fm .streamers = true) (hlink_ : fm .link = true)
    (hcross_ : fm .cross = true) (hcal_ : fm .cal = true) (hdraws_ : fm .draws = true) (ch : Channel) (s : State) :
    Framed fm s (execSteeringHoldEnd ch s) := by
  apply State.run_frame
  intro t
  simp only [hide_ite, ite_self, State.freeChan_frame hclk_ hregs_ hlog_ hstaff_ hresetting_ hmasked_ hports_ hwin_
    htl_ hmem_ hmemX_ hmemu_ hlanes_ hpcb_ hcantons_ hstr_ hservo_ hseq_ hcache_ hstaged_ hbufRecs_ hstreamers_ hlink_
    hcross_ hcal_ hdraws_]

theorem execLineSweepBurst_frame {fm : Part → Bool} (hclk_ : fm .clk = true) (hregs_ : fm .regs = true)
    (hlog_ : fm .log = true) (hstaff_ : fm .staff = true) (hresetting_ : fm .resetting = true)
    (hmasked_ : fm .masked = true) (hports_ : fm .ports = true) (hwin_ : fm .win = true) (htl_ : fm .tl = true)
    (hmem_ : fm .mem = true) (hmemX_ : fm .memX = true) (hmemu_ : fm .memu = true) (hlanes_ : fm .lanes = true)
    (hpcb_ : fm .pcb = true) (hcantons_ : fm .cantons = true) (hstr_ : fm .str = true) (hservo_ : fm .servo = true)
    (hseq_ : fm .seq = true) (hcache_ : fm .cache = true) (hstaged_ : fm .staged = true)
    (hbufRecs_ : fm .bufRecs = true) (hstreamers_ : fm .streamers = true) (hlink_ : fm .link = true)
    (hcross_ : fm .cross = true) (hcal_ : fm .cal = true) (hdraws_ : fm .draws = true) (ch : Channel)
    (addr : BitVec 35) (flips : List (BitVec 40)) (s : State) :
    Framed fm s (execLineSweepBurst ch addr flips s) := by
  apply State.run_frame
  intro t
  simp only [hide_memu hmemu_, hide_ite, ite_self, State.each_frame, State.readWord_frame hclk_ hregs_ hlog_ hstaff_
    hresetting_ hmasked_ hports_ hwin_ htl_ hmem_ hmemX_ hmemu_ hlanes_ hpcb_ hcantons_ hstr_ hservo_ hseq_ hcache_
    hstaged_ hbufRecs_ hstreamers_ hlink_ hcross_ hcal_ hdraws_, State.set_frame hregs_, implies_true]

theorem execInjectArm_frame {fm : Part → Bool} (hregs_ : fm .regs = true) (hlog_ : fm .log = true)
    (hmemu_ : fm .memu = true) (o : Origin) (s : State) :
    Framed fm s (execInjectArm o s) := by
  apply State.run_frame
  intro t
  simp only [hide_memu hmemu_, hide_ite, ite_self, State.injEvent_frame hregs_ hlog_, State.logPriv_frame hregs_
    hlog_, State.set_frame hregs_]

theorem execInjectDisarm_frame {fm : Part → Bool} (hregs_ : fm .regs = true) (hlog_ : fm .log = true) (o : Origin)
    (s : State) :
    Framed fm s (execInjectDisarm o s) := by
  apply State.run_frame
  intro t
  simp only [hide_ite, ite_self, State.injEvent_frame hregs_ hlog_, State.logPriv_frame hregs_ hlog_, State.set_frame
    hregs_]

end Sys2Proof.Machine
end

