-- ==== Sys2Proof/Laws/FrameServo.lean ====
section
/-! SUPPORT. Laws/FrameServo.lean: which parts of the state the functions of Machine/Servo.lean can change. -/

namespace Sys2Proof.Machine

theorem State.setMilli_frame {fm : Part → Bool} (hregs_ : fm .regs = true) (s : State) (x : Fld) (q : Rat) :
    (State.setMilli s x q).hide fm = s.hide fm := by
  unfold State.setMilli
  simp only [State.set_frame hregs_]

theorem State.vcmPost_frame {fm : Part → Bool} (hmcb_ : fm .mcb = true) (hservo_ : fm .servo = true) (s : State)
    (c : Nat) (u : Int) (mode : Nat) :
    (State.vcmPost s c u mode).hide fm = s.hide fm := by
  unfold State.vcmPost
  simp only [State.queueVcm_frame hmcb_, State.setServo_frame hservo_]

theorem State.vcmUpdate_frame {fm : Part → Bool} (hregs_ : fm .regs = true) (hmcb_ : fm .mcb = true)
    (hservo_ : fm .servo = true) (s : State) (c : Nat) :
    (State.vcmUpdate s c).hide fm = s.hide fm := by
  unfold State.vcmUpdate
  simp only [hide_ite, ite_self, State.setServo_frame hservo_, State.set_frame hregs_, State.vcmPost_frame hmcb_
    hservo_]

theorem State.maCode_frame {fm : Part → Bool} (hregs_ : fm .regs = true) (hservo_ : fm .servo = true) (s : State)
    (c : Nat) (f : Nat) :
    (State.maCode s c f).hide fm = s.hide fm := by
  unfold State.maCode
  simp only [hide_ite, ite_self, State.setServo_frame hservo_, State.set_frame hregs_]

theorem State.maUpdate_frame {fm : Part → Bool} (hregs_ : fm .regs = true) (hservo_ : fm .servo = true) (s : State)
    (c : Nat) :
    (State.maUpdate s c).hide fm = s.hide fm := by
  unfold State.maUpdate
  simp only [hide_ite, ite_self, State.each_frame, State.maCode_frame hregs_ hservo_, implies_true]

theorem State.seekOrFollow_frame {fm : Part → Bool} (hregs_ : fm .regs = true) (s : State) (c : Nat) (x : Rat) :
    (State.seekOrFollow s c x).hide fm = s.hide fm := by
  unfold State.seekOrFollow
  simp only [State.set_frame hregs_]

theorem State.startMove_frame {fm : Part → Bool} (hregs_ : fm .regs = true) (hservo_ : fm .servo = true) (s : State)
    (c : Nat) (track : Nat) (owner : Nat) :
    (State.startMove s c track owner).hide fm = s.hide fm := by
  unfold State.startMove
  simp only [hide_ite, ite_self, State.seekOrFollow_frame hregs_, State.setServo_frame hservo_, State.set_frame
    hregs_]

theorem execServoMove_frame {fm : Part → Bool} (hregs_ : fm .regs = true) (hservo_ : fm .servo = true) (c : Cluster)
    (track : BitVec 26) (s : State) :
    Framed fm s (execServoMove c track s) := by
  apply State.run_frame
  intro t
  simp only [State.startMove_frame hregs_ hservo_]

theorem execServoHold_frame {fm : Part → Bool} (hregs_ : fm .regs = true) (c : Cluster) (s : State) :
    Framed fm s (execServoHold c s) := by
  apply State.run_frame
  intro t
  simp only [hide_ite, ite_self, State.seekOrFollow_frame hregs_]

theorem State.reacquire_frame {fm : Part → Bool} (hregs_ : fm .regs = true) (hservo_ : fm .servo = true) (s : State)
    (c : Nat) :
    (State.reacquire s c).hide fm = s.hide fm := by
  unfold State.reacquire
  simp only [State.countSat_frame hregs_, State.seqIrq_frame hregs_, State.setServo_frame hservo_, State.set_frame
    hregs_]

theorem execReacquireTimeout_frame {fm : Part → Bool} (hclk_ : fm .clk = true) (hregs_ : fm .regs = true)
    (hlog_ : fm .log = true) (hstaff_ : fm .staff = true) (hresetting_ : fm .resetting = true)
    (hmasked_ : fm .masked = true) (hports_ : fm .ports = true) (hwin_ : fm .win = true) (htl_ : fm .tl = true)
    (hmemu_ : fm .memu = true) (hlanes_ : fm .lanes = true) (hpcb_ : fm .pcb = true) (hmcb_ : fm .mcb = true)
    (hcantons_ : fm .cantons = true) (hstr_ : fm .str = true) (hservo_ : fm .servo = true) (hseq_ : fm .seq = true)
    (hbufRecs_ : fm .bufRecs = true) (hstreamers_ : fm .streamers = true) (hlink_ : fm .link = true)
    (hcross_ : fm .cross = true) (hcal_ : fm .cal = true) (hdraws_ : fm .draws = true) (c : Cluster) (s : State) :
    Framed fm s (execReacquireTimeout c s) := by
  apply State.run_frame
  intro t
  simp only [hide_ite, ite_self, State.loseCluster_frame hregs_ hports_ hwin_ htl_ hlanes_ hpcb_ hcantons_ hstr_ hseq_
    hbufRecs_ hstreamers_ hlink_ hcal_ hdraws_, State.queueVcm_frame hmcb_, State.raiseC_frame hclk_ hregs_ hlog_
    hstaff_ hresetting_ hmasked_ hports_ hwin_ htl_ hmemu_ hlanes_ hpcb_ hcantons_ hstr_ hservo_ hseq_ hbufRecs_
    hstreamers_ hlink_ hcross_ hcal_ hdraws_]

theorem State.shockHold_frame {fm : Part → Bool} (hregs_ : fm .regs = true) (hlanes_ : fm .lanes = true)
    (hstr_ : fm .str = true) (hservo_ : fm .servo = true) (hseq_ : fm .seq = true) (hdraws_ : fm .draws = true)
    (s : State) (k : Nat) :
    (State.shockHold s k).hide fm = s.hide fm := by
  unfold State.shockHold
  simp only [hide_ite, ite_self, State.each_frame, State.seqIrq_frame hregs_, State.setServo_frame hservo_,
    State.setWhy_frame hregs_ hlanes_ hstr_ hseq_ hdraws_, State.set_frame hregs_, implies_true]

theorem State.shock_frame {fm : Part → Bool} (hclk_ : fm .clk = true) (hregs_ : fm .regs = true)
    (hlog_ : fm .log = true) (hstaff_ : fm .staff = true) (hresetting_ : fm .resetting = true)
    (hmasked_ : fm .masked = true) (hports_ : fm .ports = true) (hwin_ : fm .win = true) (htl_ : fm .tl = true)
    (hmemu_ : fm .memu = true) (hlanes_ : fm .lanes = true) (hpcb_ : fm .pcb = true) (hcantons_ : fm .cantons = true)
    (hstr_ : fm .str = true) (hservo_ : fm .servo = true) (hseq_ : fm .seq = true) (hbufRecs_ : fm .bufRecs = true)
    (hstreamers_ : fm .streamers = true) (hlink_ : fm .link = true) (hcross_ : fm .cross = true)
    (hcal_ : fm .cal = true) (hdraws_ : fm .draws = true) (s : State) (c : Nat) :
    (State.shock s c).hide fm = s.hide fm := by
  unfold State.shock
  simp only [hide_ite, ite_self, State.countSat_frame hregs_, State.each_frame, State.raiseC_frame hclk_ hregs_ hlog_
    hstaff_ hresetting_ hmasked_ hports_ hwin_ htl_ hmemu_ hlanes_ hpcb_ hcantons_ hstr_ hservo_ hseq_ hbufRecs_
    hstreamers_ hlink_ hcross_ hcal_ hdraws_, State.setServo_frame hservo_, State.shockHold_frame hregs_ hlanes_ hstr_
    hservo_ hseq_ hdraws_, implies_true]

theorem State.shockWedge_frame {fm : Part → Bool} (hregs_ : fm .regs = true) (hservo_ : fm .servo = true) (s : State)
    (c : Nat) (shocked : Bool) :
    (State.shockWedge s c shocked).hide fm = s.hide fm := by
  unfold State.shockWedge
  simp only [hide_ite, ite_self, State.each_frame, State.setServo_frame hservo_, State.set_frame hregs_, implies_true]

theorem State.settle_frame {fm : Part → Bool} (hregs_ : fm .regs = true) (hservo_ : fm .servo = true) (s : State)
    (c : Nat) :
    (State.settle s c).hide fm = s.hide fm := by
  unfold State.settle
  simp only [State.setServo_frame hservo_, State.set_frame hregs_]

theorem State.moveWedge_frame {fm : Part → Bool} (hclk_ : fm .clk = true) (hregs_ : fm .regs = true)
    (hlog_ : fm .log = true) (hstaff_ : fm .staff = true) (hresetting_ : fm .resetting = true)
    (hmasked_ : fm .masked = true) (hports_ : fm .ports = true) (hwin_ : fm .win = true) (htl_ : fm .tl = true)
    (hmemu_ : fm .memu = true) (hlanes_ : fm .lanes = true) (hpcb_ : fm .pcb = true) (hcantons_ : fm .cantons = true)
    (hstr_ : fm .str = true) (hservo_ : fm .servo = true) (hseq_ : fm .seq = true) (hbufRecs_ : fm .bufRecs = true)
    (hstreamers_ : fm .streamers = true) (hlink_ : fm .link = true) (hcross_ : fm .cross = true)
    (hcal_ : fm .cal = true) (hdraws_ : fm .draws = true) (s : State) (c : Nat) :
    (State.moveWedge s c).hide fm = s.hide fm := by
  unfold State.moveWedge
  repeat' (first | simp only [hide_ite, ite_self, State.countSat_frame hregs_,
                 State.raiseC_frame hclk_ hregs_ hlog_ hstaff_ hresetting_ hmasked_ hports_ hwin_ htl_ hmemu_ hlanes_
                   hpcb_ hcantons_ hstr_ hservo_ hseq_ hbufRecs_ hstreamers_ hlink_ hcross_ hcal_ hdraws_,
                 State.reacquire_frame hregs_ hservo_, State.setServo_frame hservo_, State.set_frame hregs_] | split)

theorem State.astrayWedge_frame {fm : Part → Bool} (hports_ : fm .ports = true) (hservo_ : fm .servo = true)
    (s : State) (c : Nat) :
    (State.astrayWedge s c).hide fm = s.hide fm := by
  unfold State.astrayWedge
  simp only [hide_ite, ite_self, State.failAssumption_frame hports_, State.setServo_frame hservo_]

theorem State.lockWedge_frame {fm : Part → Bool} (hregs_ : fm .regs = true) (hservo_ : fm .servo = true) (s : State)
    (c : Nat) (sams : Nat) (near : Nat) (maj : Option Nat) (est : Option Rat) :
    (State.lockWedge s c sams near maj est).hide fm = s.hide fm := by
  unfold State.lockWedge
  simp only [hide_ite, ite_self, State.seekOrFollow_frame hregs_, State.setServo_frame hservo_, State.set_frame
    hregs_]

theorem State.trackWedge_frame {fm : Part → Bool} (hregs_ : fm .regs = true) (hservo_ : fm .servo = true) (s : State)
    (c : Nat) (maj : Option Nat) :
    (State.trackWedge s c maj).hide fm = s.hide fm := by
  unfold State.trackWedge
  simp only [hide_ite, ite_self, State.reacquire_frame hregs_ hservo_, State.setServo_frame hservo_]

theorem State.anchorWedge_frame {fm : Part → Bool} (hregs_ : fm .regs = true) (htl_ : fm .tl = true)
    (hservo_ : fm .servo = true) (s : State) (c : Nat) :
    (State.anchorWedge s c).hide fm = s.hide fm := by
  unfold State.anchorWedge
  simp only [hide_ite, ite_self, State.seqMode_frame hregs_, State.setOpen_frame hregs_, State.setServo_frame hservo_,
    State.setTl_frame htl_]

theorem State.phaseWedge_frame {fm : Part → Bool} (hclk_ : fm .clk = true) (hregs_ : fm .regs = true)
    (hlog_ : fm .log = true) (hstaff_ : fm .staff = true) (hresetting_ : fm .resetting = true)
    (hmasked_ : fm .masked = true) (hports_ : fm .ports = true) (hwin_ : fm .win = true) (htl_ : fm .tl = true)
    (hmemu_ : fm .memu = true) (hlanes_ : fm .lanes = true) (hpcb_ : fm .pcb = true) (hcantons_ : fm .cantons = true)
    (hstr_ : fm .str = true) (hservo_ : fm .servo = true) (hseq_ : fm .seq = true) (hbufRecs_ : fm .bufRecs = true)
    (hstreamers_ : fm .streamers = true) (hlink_ : fm .link = true) (hcross_ : fm .cross = true)
    (hcal_ : fm .cal = true) (hdraws_ : fm .draws = true) (s : State) (c : Nat) :
    (State.phaseWedge s c).hide fm = s.hide fm := by
  unfold State.phaseWedge
  simp only [hide_ite, ite_self, State.failAssumption_frame hports_, State.raiseC_frame hclk_ hregs_ hlog_ hstaff_
    hresetting_ hmasked_ hports_ hwin_ htl_ hmemu_ hlanes_ hpcb_ hcantons_ hstr_ hservo_ hseq_ hbufRecs_ hstreamers_
    hlink_ hcross_ hcal_ hdraws_, State.set_frame hregs_]

theorem State.laneSeen_frame {fm : Part → Bool} (hclk_ : fm .clk = true) (hregs_ : fm .regs = true)
    (hlog_ : fm .log = true) (hstaff_ : fm .staff = true) (hresetting_ : fm .resetting = true)
    (hmasked_ : fm .masked = true) (hports_ : fm .ports = true) (hwin_ : fm .win = true) (htl_ : fm .tl = true)
    (hmemu_ : fm .memu = true) (hlanes_ : fm .lanes = true) (hpcb_ : fm .pcb = true) (hcantons_ : fm .cantons = true)
    (hstr_ : fm .str = true) (hservo_ : fm .servo = true) (hseq_ : fm .seq = true) (hbufRecs_ : fm .bufRecs = true)
    (hstreamers_ : fm .streamers = true) (hlink_ : fm .link = true) (hcross_ : fm .cross = true)
    (hcal_ : fm .cal = true) (hdraws_ : fm .draws = true) (s : State) (c : Nat) (x : Seen) :
    (State.laneSeen s c x).hide fm = s.hide fm := by
  unfold State.laneSeen
  simp only [hide_ite, ite_self, State.countSat_frame hregs_, State.raiseC_frame hclk_ hregs_ hlog_ hstaff_
    hresetting_ hmasked_ hports_ hwin_ htl_ hmemu_ hlanes_ hpcb_ hcantons_ hstr_ hservo_ hseq_ hbufRecs_ hstreamers_
    hlink_ hcross_ hcal_ hdraws_, State.setMilli_frame hregs_, State.setServo_frame hservo_, State.set_frame hregs_]

theorem State.lanePhiAvg_frame {fm : Part → Bool} (hregs_ : fm .regs = true) (hservo_ : fm .servo = true) (s : State)
    (c : Nat) (f : Nat) :
    (State.lanePhiAvg s c f).hide fm = s.hide fm := by
  unfold State.lanePhiAvg
  simp only [hide_ite, ite_self, State.setMilli_frame hregs_, State.setServo_frame hservo_]

theorem State.laneTarget_frame {fm : Part → Bool} (hregs_ : fm .regs = true) (hservo_ : fm .servo = true) (s : State)
    (c : Nat) (f : Nat) :
    (State.laneTarget s c f).hide fm = s.hide fm := by
  unfold State.laneTarget
  simp only [State.setServo_frame hservo_, State.set_frame hregs_]

theorem State.laneInteg_frame {fm : Part → Bool} (hregs_ : fm .regs = true) (hservo_ : fm .servo = true) (s : State)
    (c : Nat) (f : Nat) :
    (State.laneInteg s c f).hide fm = s.hide fm := by
  unfold State.laneInteg
  simp only [hide_ite, ite_self, State.setMilli_frame hregs_, State.setServo_frame hservo_]

theorem State.laneInhibit_frame {fm : Part → Bool} (hregs_ : fm .regs = true) (hlanes_ : fm .lanes = true)
    (hstr_ : fm .str = true) (hservo_ : fm .servo = true) (hseq_ : fm .seq = true) (hdraws_ : fm .draws = true)
    (s : State) (c : Nat) (f : Nat) :
    (State.laneInhibit s c f).hide fm = s.hide fm := by
  unfold State.laneInhibit
  simp only [hide_ite, ite_self, State.countSat_frame hregs_, State.setServo_frame hservo_, State.setWhy_frame hregs_
    hlanes_ hstr_ hseq_ hdraws_]

theorem State.wedgeWork_frame {fm : Part → Bool} (hclk_ : fm .clk = true) (hregs_ : fm .regs = true)
    (hlog_ : fm .log = true) (hstaff_ : fm .staff = true) (hresetting_ : fm .resetting = true)
    (hmasked_ : fm .masked = true) (hports_ : fm .ports = true) (hwin_ : fm .win = true) (htl_ : fm .tl = true)
    (hmemu_ : fm .memu = true) (hlanes_ : fm .lanes = true) (hpcb_ : fm .pcb = true) (hcantons_ : fm .cantons = true)
    (hstr_ : fm .str = true) (hservo_ : fm .servo = true) (hseq_ : fm .seq = true) (hclr_ : fm .clr = true)
    (hbiasA_ : fm .biasA = true) (hspin_ : fm .spin = true) (hbufRecs_ : fm .bufRecs = true)
    (hstreamers_ : fm .streamers = true) (hlink_ : fm .link = true) (hcross_ : fm .cross = true)
    (hcal_ : fm .cal = true) (hdraws_ : fm .draws = true) (s : State) (c : Nat) :
    (State.wedgeWork s c).hide fm = s.hide fm := by
  unfold State.wedgeWork
  simp only [hide_ite, ite_self, State.biasStep_frame hclk_ hregs_ hlog_ hstaff_ hresetting_ hmasked_ hports_ hwin_
    htl_ hmemu_ hlanes_ hpcb_ hcantons_ hstr_ hservo_ hseq_ hbiasA_ hbufRecs_ hstreamers_ hlink_ hcross_ hcal_
    hdraws_, State.clrClass_frame hregs_ hclr_, State.each_frame, State.senseNone_frame hclk_ hregs_ hlog_ hstaff_
    hresetting_ hmasked_ hports_ hwin_ htl_ hmemu_ hlanes_ hpcb_ hcantons_ hstr_ hservo_ hseq_ hclr_ hbufRecs_
    hstreamers_ hlink_ hcross_ hcal_ hdraws_, State.seqEvent_frame hseq_, State.setPcb_frame hpcb_, State.setSeq_frame
    hseq_, State.spinWd_frame hregs_ hspin_ hcal_, implies_true]

theorem State.measure_frame {fm : Part → Bool} (hservo_ : fm .servo = true) (s : State) (c : Nat) (wtr : Nat)
    (est : Option Rat) (shocked : Bool) :
    (State.measure s c wtr est shocked).hide fm = s.hide fm := by
  unfold State.measure
  simp only [State.setServo_frame hservo_]

theorem State.wdRegs_frame {fm : Part → Bool} (hregs_ : fm .regs = true) (hservo_ : fm .servo = true) (s : State)
    (c : Nat) (est : Option Rat) (index : Nat) :
    (State.wdRegs s c est index).hide fm = s.hide fm := by
  unfold State.wdRegs
  repeat' (first | simp only [State.setMilli_frame hregs_, State.setServo_frame hservo_,
                 State.set_frame hregs_] | split)

theorem State.servoWd_frame {fm : Part → Bool} (hclk_ : fm .clk = true) (hregs_ : fm .regs = true)
    (hlog_ : fm .log = true) (hstaff_ : fm .staff = true) (hresetting_ : fm .resetting = true)
    (hmasked_ : fm .masked = true) (hports_ : fm .ports = true) (hwin_ : fm .win = true) (htl_ : fm .tl = true)
    (hmemu_ : fm .memu = true) (hlanes_ : fm .lanes = true) (hpcb_ : fm .pcb = true) (hmcb_ : fm .mcb = true)
    (hcantons_ : fm .cantons = true) (hstr_ : fm .str = true) (hservo_ : fm .servo = true) (hseq_ : fm .seq = true)
    (hclr_ : fm .clr = true) (hbiasA_ : fm .biasA = true) (hspin_ : fm .spin = true) (hbufRecs_ : fm .bufRecs = true)
    (hstreamers_ : fm .streamers = true) (hlink_ : fm .link = true) (hcross_ : fm .cross = true)
    (hcal_ : fm .cal = true) (hdraws_ : fm .draws = true) (s : State) (c : Nat) (xs : List (Option Reading))
    (wtr : Nat) :
    (State.servoWd s c xs wtr).hide fm = s.hide fm := by
  unfold State.servoWd
  repeat' (first | simp only [hide_ite, ite_self, State.anchorWedge_frame hregs_ htl_ hservo_,
                 State.astrayWedge_frame hports_ hservo_, State.each_frame,
                 State.laneInhibit_frame hregs_ hlanes_ hstr_ hservo_ hseq_ hdraws_,
                 State.laneInteg_frame hregs_ hservo_, State.lanePhiAvg_frame hregs_ hservo_,
                 State.laneSeen_frame hclk_ hregs_ hlog_ hstaff_ hresetting_ hmasked_ hports_ hwin_ htl_ hmemu_
                   hlanes_ hpcb_ hcantons_ hstr_ hservo_ hseq_ hbufRecs_ hstreamers_ hlink_ hcross_ hcal_ hdraws_,
                 State.laneTarget_frame hregs_ hservo_, State.lockWedge_frame hregs_ hservo_,
                 State.maUpdate_frame hregs_ hservo_, State.measure_frame hservo_,
                 State.moveWedge_frame hclk_ hregs_ hlog_ hstaff_ hresetting_ hmasked_ hports_ hwin_ htl_ hmemu_
                   hlanes_ hpcb_ hcantons_ hstr_ hservo_ hseq_ hbufRecs_ hstreamers_ hlink_ hcross_ hcal_ hdraws_,
                 State.phaseWedge_frame hclk_ hregs_ hlog_ hstaff_ hresetting_ hmasked_ hports_ hwin_ htl_ hmemu_
                   hlanes_ hpcb_ hcantons_ hstr_ hservo_ hseq_ hbufRecs_ hstreamers_ hlink_ hcross_ hcal_ hdraws_,
                 State.setServo_frame hservo_, State.set_frame hregs_, State.settle_frame hregs_ hservo_,
                 State.shockWedge_frame hregs_ hservo_,
                 State.shock_frame hclk_ hregs_ hlog_ hstaff_ hresetting_ hmasked_ hports_ hwin_ htl_ hmemu_ hlanes_
                   hpcb_ hcantons_ hstr_ hservo_ hseq_ hbufRecs_ hstreamers_ hlink_ hcross_ hcal_ hdraws_,
                 State.trackWedge_frame hregs_ hservo_, State.vcmUpdate_frame hregs_ hmcb_ hservo_,
                 State.wdRegs_frame hregs_ hservo_,
                 State.wedgeWork_frame hclk_ hregs_ hlog_ hstaff_ hresetting_ hmasked_ hports_ hwin_ htl_ hmemu_
                   hlanes_ hpcb_ hcantons_ hstr_ hservo_ hseq_ hclr_ hbiasA_ hspin_ hbufRecs_ hstreamers_ hlink_
                   hcross_ hcal_ hdraws_,
                 implies_true] | split | refine (State.each_frame _ _ _ (fun i t => ?_)).trans ?_
                 | refine (hide_foldl _ (fun t x => ?_) _ _).trans ?_)

theorem execServoWd_frame {fm : Part → Bool} (hclk_ : fm .clk = true) (hregs_ : fm .regs = true)
    (hlog_ : fm .log = true) (hstaff_ : fm .staff = true) (hresetting_ : fm .resetting = true)
    (hmasked_ : fm .masked = true) (hports_ : fm .ports = true) (hwin_ : fm .win = true) (htl_ : fm .tl = true)
    (hmemu_ : fm .memu = true) (hlanes_ : fm .lanes = true) (hpcb_ : fm .pcb = true) (hmcb_ : fm .mcb = true)
    (hcantons_ : fm .cantons = true) (hstr_ : fm .str = true) (hservo_ : fm .servo = true) (hseq_ : fm .seq = true)
    (hclr_ : fm .clr = true) (hbiasA_ : fm .biasA = true) (hspin_ : fm .spin = true) (hbufRecs_ : fm .bufRecs = true)
    (hstreamers_ : fm .streamers = true) (hlink_ : fm .link = true) (hcross_ : fm .cross = true)
    (hcal_ : fm .cal = true) (hdraws_ : fm .draws = true) (c : Cluster) (xs : Vector (Option Sample) 32)
    (lane : Surface) (s : State) :
    Framed fm s (execServoWd c xs lane s) := by
  apply State.run_frame
  intro t
  simp only [hide_ite, ite_self, State.calWd_frame hregs_ hcal_, State.coastLanes_frame hregs_, State.servoWd_frame
    hclk_ hregs_ hlog_ hstaff_ hresetting_ hmasked_ hports_ hwin_ htl_ hmemu_ hlanes_ hpcb_ hmcb_ hcantons_ hstr_
    hservo_ hseq_ hclr_ hbiasA_ hspin_ hbufRecs_ hstreamers_ hlink_ hcross_ hcal_ hdraws_]

theorem execServoMidw_frame {fm : Part → Bool} (hregs_ : fm .regs = true) (hpcb_ : fm .pcb = true)
    (hmcb_ : fm .mcb = true) (hservo_ : fm .servo = true) (hseq_ : fm .seq = true) (c : Cluster) (s : State) :
    Framed fm s (execServoMidw c s) := by
  apply State.run_frame
  intro t
  simp only [hide_ite, ite_self, State.maUpdate_frame hregs_ hservo_, State.seqEvent_frame hseq_, State.setPcb_frame
    hpcb_, State.vcmUpdate_frame hregs_ hmcb_ hservo_]

end Sys2Proof.Machine
end

