-- ==== Sys2Proof/Laws/FrameOperands.lean ====
section
/-! SUPPORT. Laws/FrameOperands.lean: which parts of the state the functions of Machine/Operands.lean can change. -/

namespace Sys2Proof.Machine

theorem State.putCs_frame {fm : Part → Bool} (hseq_ : fm .seq = true) (s : State) (c : Nat) (a : Nat) (w : BitVec 136) :
    (State.putCs s c a w).hide fm = s.hide fm := by
  unfold State.putCs
  simp only [State.setSeq_frame hseq_]

theorem State.upsetCs_frame {fm : Part → Bool} (hseq_ : fm .seq = true) (s : State) (c : Nat) (a : Nat)
    (flips : BitVec 136) :
    (State.upsetCs s c a flips).hide fm = s.hide fm := by
  unfold State.upsetCs
  simp only [hide_ite, ite_self, State.putCs_frame hseq_]

theorem State.setG_frame {fm : Part → Bool} (hregs_ : fm .regs = true) (s : State) (c : Nat) (n : Nat) (v : Nat) :
    (State.setG s c n v).hide fm = s.hide fm := by
  unfold State.setG
  simp only [State.set_frame hregs_]

end Sys2Proof.Machine
end

