-- ==== Sys2Proof/Laws/FrameFlags.lean ====
section
/-! SUPPORT. Laws/FrameFlags.lean: which parts of the state the functions of Machine/Flags.lean can change. -/

namespace Sys2Proof.Machine

theorem State.alu_frame {fm : Part → Bool} (hregs_ : fm .regs = true) (hseq_ : fm .seq = true) (s : State) (c : Nat)
    (op : Nat) (dst : Nat) (a : Nat) (b : AluB) :
    (State.alu s c op dst a b).hide fm = s.hide fm := by
  unfold State.alu
  simp only [hide_ite, ite_self, State.setG_frame hregs_, State.setSeq_frame hseq_]

end Sys2Proof.Machine
end

