-- ==== Sys2Proof/Laws/FrameSeq.lean ====
section
/-! SUPPORT. Laws/FrameSeq.lean: which parts of the state the functions of Machine/Seq.lean can change. -/

namespace Sys2Proof.Machine

theorem State.consume_frame {fm : Part → Bool} (hseq_ : fm .seq = true) (s : State) (c : Nat) (x : Ctl) :
    (State.consume s c x).hide fm = s.hide fm := by
  unfold State.consume
  simp only [hide_ite, ite_self, State.setSeq_frame hseq_]

theorem State.tlAsk_frame {fm : Part → Bool} (hseq_ : fm .seq = true) (s : State) (c : Nat) (w : Nat) :
    (State.tlAsk s c w).hide fm = s.hide fm := by
  unfold State.tlAsk
  simp only [State.setSeq_frame hseq_]

theorem State.budgetCheck_frame {fm : Part → Bool} (hseq_ : fm .seq = true) (s : State) (c : Nat) (n : Nat)
    (owner : Nat) :
    (State.budgetCheck s c n owner).hide fm = s.hide fm := by
  unfold State.budgetCheck
  simp only [State.setSeq_frame hseq_]

theorem State.portTerminal_frame {fm : Part → Bool} (hregs_ : fm .regs = true) (hports_ : fm .ports = true)
    (hwin_ : fm .win = true) (htl_ : fm .tl = true) (hlink_ : fm .link = true) (s : State) (owner : Nat)
    (status : Nat) :
    (State.portTerminal s owner status).hide fm = s.hide fm := by
  unfold State.portTerminal
  repeat' (first | simp only [hide_ite, ite_self, State.endCmd_frame hregs_ hports_ hwin_ hlink_,
                 State.setCmd_frame hports_, State.tidy_frame hports_ htl_] | split)

theorem State.portDetail_frame {fm : Part → Bool} (hports_ : fm .ports = true) (s : State) (owner : Nat) :
    (State.portDetail s owner).hide fm = s.hide fm := by
  unfold State.portDetail
  repeat' (first | simp only [hide_ite, ite_self, State.setCmd_frame hports_] | split)

theorem State.seqLog_frame {fm : Part → Bool} (hregs_ : fm .regs = true) (hlog_ : fm .log = true) (s : State)
    (c : Nat) (code : Nat) (payload : Nat) :
    (State.seqLog s c code payload).hide fm = s.hide fm := by
  unfold State.seqLog
  simp only [State.event_frame hregs_ hlog_]

theorem State.posSet_frame {fm : Part → Bool} (hseq_ : fm .seq = true) (s : State) (c : Nat) (v : Nat) :
    (State.posSet s c v).hide fm = s.hide fm := by
  unfold State.posSet
  simp only [State.setSeq_frame hseq_]

theorem State.via_frame {fm : Part → Bool} (s : State) (r : Res)
    (h : Framed fm s r) : (s.via r).hide fm = s.hide fm := by
  unfold State.via
  split
  · exact h _ rfl
  · rfl

theorem State.unitCmd_frame {fm : Part → Bool} (hclk_ : fm .clk = true) (hregs_ : fm .regs = true)
    (hlog_ : fm .log = true) (hstaff_ : fm .staff = true) (hresetting_ : fm .resetting = true)
    (hmasked_ : fm .masked = true) (hports_ : fm .ports = true) (hwin_ : fm .win = true) (htl_ : fm .tl = true)
    (hmemu_ : fm .memu = true) (hlanes_ : fm .lanes = true) (hpcb_ : fm .pcb = true) (hcantons_ : fm .cantons = true)
    (hstr_ : fm .str = true) (hservo_ : fm .servo = true) (hseq_ : fm .seq = true) (hcache_ : fm .cache = true)
    (hstaged_ : fm .staged = true) (hbufRecs_ : fm .bufRecs = true) (hstreamers_ : fm .streamers = true)
    (hlink_ : fm .link = true) (hcross_ : fm .cross = true) (hcal_ : fm .cal = true) (hdraws_ : fm .draws = true)
    (s : State) (k : Cluster) (x : Ctl) (a : Nat) (b : Nat) :
    (State.unitCmd s k x a b).hide fm = s.hide fm := by
  unfold State.unitCmd
  repeat' (first | simp only [State.armMask_frame hclk_ hregs_ hlog_ hstaff_ hresetting_ hmasked_ hports_ hwin_ htl_
                 hmemu_ hlanes_ hpcb_ hcantons_ hstr_ hservo_ hseq_ hbufRecs_ hstreamers_ hlink_ hcross_ hcal_
                 hdraws_,
                 State.budgetCheck_frame hseq_, State.disarm_frame hregs_ hlanes_ hcantons_ hstr_ hseq_ hdraws_,
                 State.each_frame, State.portDetail_frame hports_,
                 State.portTerminal_frame hregs_ hports_ hwin_ htl_ hlink_, State.posSet_frame hseq_,
                 State.queueMode_frame hpcb_, State.seqLog_frame hregs_ hlog_,
                 State.stmKick_frame hclk_ hregs_ hlog_ hstaff_ hresetting_ hmasked_ hports_ hwin_ htl_ hmemu_ hlanes_
                   hpcb_ hcantons_ hstr_ hservo_ hseq_ hcache_ hstaged_ hbufRecs_ hstreamers_ hlink_ hcross_ hcal_
                   hdraws_,
                 State.tlAsk_frame hseq_, State.via_frame, execServoHold_frame hregs_,
                 execServoMove_frame hregs_ hservo_, execStrClose_frame hstr_, execStrCommitTest_frame hstr_,
                 execStrOpen_frame hstr_, execStrWriteset_frame hstr_, implies_true] | split)

theorem execTimelineRead_frame {fm : Part → Bool} (hseq_ : fm .seq = true) (c : Cluster) (wedge : BitVec 32)
    (s : State) :
    Framed fm s (execTimelineRead c wedge s) := by
  apply State.run_frame
  intro t
  simp only [State.tlAsk_frame hseq_]

theorem State.slotOwner_frame {fm : Part → Bool} (hdraws_ : fm .draws = true) (s : State) (c : Nat) (w : WSlot) :
    (State.slotOwner s c w).1.hide fm = s.hide fm := by
  unfold State.slotOwner
  repeat' (first | simp only [State.draw_frame hdraws_] | split)

theorem execTimelineReadDone_frame {fm : Part → Bool} (hregs_ : fm .regs = true) (hseq_ : fm .seq = true)
    (hdraws_ : fm .draws = true) (c : Cluster) (s : State) :
    Framed fm s (execTimelineReadDone c s) := by
  apply State.run_frame
  intro t
  repeat' (first | simp only [State.seqEvent_frame hseq_, State.setG_frame hregs_,
                 State.setSeq_frame hseq_, State.slotOwner_frame hdraws_] | split)

theorem execPcbMode_frame {fm : Part → Bool} (hpcb_ : fm .pcb = true) (c : Cluster) (mask : BitVec 32) (mode : Fin 4)
    (act : BitVec 12) (s : State) :
    Framed fm s (execPcbMode c mask mode act s) := by
  apply State.run_frame
  intro t
  simp only [State.queueMode_frame hpcb_]

theorem execStmKick_frame {fm : Part → Bool} (hclk_ : fm .clk = true) (hregs_ : fm .regs = true)
    (hlog_ : fm .log = true) (hstaff_ : fm .staff = true) (hresetting_ : fm .resetting = true)
    (hmasked_ : fm .masked = true) (hports_ : fm .ports = true) (hwin_ : fm .win = true) (htl_ : fm .tl = true)
    (hmemu_ : fm .memu = true) (hlanes_ : fm .lanes = true) (hpcb_ : fm .pcb = true) (hcantons_ : fm .cantons = true)
    (hstr_ : fm .str = true) (hservo_ : fm .servo = true) (hseq_ : fm .seq = true) (hcache_ : fm .cache = true)
    (hstaged_ : fm .staged = true) (hbufRecs_ : fm .bufRecs = true) (hstreamers_ : fm .streamers = true)
    (hlink_ : fm .link = true) (hcross_ : fm .cross = true) (hcal_ : fm .cal = true) (hdraws_ : fm .draws = true)
    (c : Cluster) (addr : BitVec 32) (s : State) :
    Framed fm s (execStmKick c addr s) := by
  apply State.run_frame
  intro t
  simp only [State.stmKick_frame hclk_ hregs_ hlog_ hstaff_ hresetting_ hmasked_ hports_ hwin_ htl_ hmemu_ hlanes_
    hpcb_ hcantons_ hstr_ hservo_ hseq_ hcache_ hstaged_ hbufRecs_ hstreamers_ hlink_ hcross_ hcal_ hdraws_]

theorem execBudgetCheck_frame {fm : Part → Bool} (hseq_ : fm .seq = true) (c : Cluster) (cells : BitVec 32)
    (owner : BitVec 32) (s : State) :
    Framed fm s (execBudgetCheck c cells owner s) := by
  apply State.run_frame
  intro t
  simp only [State.budgetCheck_frame hseq_]

theorem execPortTerminal_frame {fm : Part → Bool} (hregs_ : fm .regs = true) (hports_ : fm .ports = true)
    (hwin_ : fm .win = true) (htl_ : fm .tl = true) (hlink_ : fm .link = true) (owner : BitVec 32) (status : BitVec 8)
    (s : State) :
    Framed fm s (execPortTerminal owner status s) := by
  apply State.run_frame
  intro t
  simp only [State.portTerminal_frame hregs_ hports_ hwin_ htl_ hlink_]

theorem execPortDetail_frame {fm : Part → Bool} (hports_ : fm .ports = true) (owner : BitVec 32) (s : State) :
    Framed fm s (execPortDetail owner s) := by
  apply State.run_frame
  intro t
  simp only [State.portDetail_frame hports_]

theorem execEventLog_frame {fm : Part → Bool} (hregs_ : fm .regs = true) (hlog_ : fm .log = true) (c : Cluster)
    (code : BitVec 16) (payload : BitVec 32) (s : State) :
    Framed fm s (execEventLog c code payload s) := by
  apply State.run_frame
  intro t
  simp only [State.seqLog_frame hregs_ hlog_]

theorem execPosSet_frame {fm : Part → Bool} (hseq_ : fm .seq = true) (c : Cluster) (v : BitVec 32) (s : State) :
    Framed fm s (execPosSet c v s) := by
  apply State.run_frame
  intro t
  simp only [State.posSet_frame hseq_]

theorem execPosHit_frame {fm : Part → Bool} (hseq_ : fm .seq = true) (c : Cluster) (s : State) :
    Framed fm s (execPosHit c s) := by
  apply State.run_frame
  intro t
  simp only [hide_ite, ite_self, State.seqEvent_frame hseq_]

theorem State.safeMax_frame {fm : Part → Bool} (hregs_ : fm .regs = true) (s : State) (c : Nat) :
    (State.safeMax s c).hide fm = s.hide fm := by
  unfold State.safeMax
  simp only [State.set_frame hregs_]

theorem State.safePoint_frame {fm : Part → Bool} (hregs_ : fm .regs = true) (hseq_ : fm .seq = true) (s : State)
    (c : Nat) :
    (State.safePoint s c).hide fm = s.hide fm := by
  unfold State.safePoint
  simp only [State.safeMax_frame hregs_, State.setSeq_frame hseq_]

theorem execSeqSafeLate_frame {fm : Part → Bool} (hclk_ : fm .clk = true) (hregs_ : fm .regs = true)
    (hlog_ : fm .log = true) (hstaff_ : fm .staff = true) (hresetting_ : fm .resetting = true)
    (hmasked_ : fm .masked = true) (hports_ : fm .ports = true) (hwin_ : fm .win = true) (htl_ : fm .tl = true)
    (hmemu_ : fm .memu = true) (hlanes_ : fm .lanes = true) (hpcb_ : fm .pcb = true) (hcantons_ : fm .cantons = true)
    (hstr_ : fm .str = true) (hservo_ : fm .servo = true) (hseq_ : fm .seq = true) (hbufRecs_ : fm .bufRecs = true)
    (hstreamers_ : fm .streamers = true) (hlink_ : fm .link = true) (hcross_ : fm .cross = true)
    (hcal_ : fm .cal = true) (hdraws_ : fm .draws = true) (c : Cluster) (s : State) :
    Framed fm s (execSeqSafeLate c s) := by
  apply State.run_frame
  intro t
  simp only [hide_ite, ite_self, State.raiseC_frame hclk_ hregs_ hlog_ hstaff_ hresetting_ hmasked_ hports_ hwin_ htl_
    hmemu_ hlanes_ hpcb_ hcantons_ hstr_ hservo_ hseq_ hbufRecs_ hstreamers_ hlink_ hcross_ hcal_ hdraws_,
    State.safeMax_frame hregs_, State.setSeq_frame hseq_, State.set_frame hregs_]

theorem State.seqFault_frame {fm : Part → Bool} (hclk_ : fm .clk = true) (hregs_ : fm .regs = true)
    (hlog_ : fm .log = true) (hstaff_ : fm .staff = true) (hresetting_ : fm .resetting = true)
    (hmasked_ : fm .masked = true) (hports_ : fm .ports = true) (hwin_ : fm .win = true) (htl_ : fm .tl = true)
    (hmemu_ : fm .memu = true) (hlanes_ : fm .lanes = true) (hpcb_ : fm .pcb = true) (hcantons_ : fm .cantons = true)
    (hstr_ : fm .str = true) (hservo_ : fm .servo = true) (hseq_ : fm .seq = true) (hbufRecs_ : fm .bufRecs = true)
    (hstreamers_ : fm .streamers = true) (hlink_ : fm .link = true) (hcross_ : fm .cross = true)
    (hcal_ : fm .cal = true) (hdraws_ : fm .draws = true) (s : State) (c : Nat) (bit : Fld) (kind : Nat) :
    (State.seqFault s c bit kind).hide fm = s.hide fm := by
  unfold State.seqFault
  simp only [State.raiseC_frame hclk_ hregs_ hlog_ hstaff_ hresetting_ hmasked_ hports_ hwin_ htl_ hmemu_ hlanes_
    hpcb_ hcantons_ hstr_ hservo_ hseq_ hbufRecs_ hstreamers_ hlink_ hcross_ hcal_ hdraws_, State.seqStop_frame hregs_
    hports_ hwin_ htl_ hlanes_ hpcb_ hcantons_ hstr_ hseq_ hbufRecs_ hstreamers_ hlink_ hcal_ hdraws_, State.set_frame
    hregs_]

theorem State.pushRet_frame {fm : Part → Bool} (hregs_ : fm .regs = true) (hseq_ : fm .seq = true) (s : State)
    (c : Nat) (r : Ret) :
    (State.pushRet s c r).hide fm = s.hide fm := by
  unfold State.pushRet
  simp only [State.setSeq_frame hseq_, State.set_frame hregs_]

theorem State.takeInterrupt_frame {fm : Part → Bool} (hclk_ : fm .clk = true) (hregs_ : fm .regs = true)
    (hlog_ : fm .log = true) (hstaff_ : fm .staff = true) (hresetting_ : fm .resetting = true)
    (hmasked_ : fm .masked = true) (hports_ : fm .ports = true) (hwin_ : fm .win = true) (htl_ : fm .tl = true)
    (hmemu_ : fm .memu = true) (hlanes_ : fm .lanes = true) (hpcb_ : fm .pcb = true) (hcantons_ : fm .cantons = true)
    (hstr_ : fm .str = true) (hservo_ : fm .servo = true) (hseq_ : fm .seq = true) (hbufRecs_ : fm .bufRecs = true)
    (hstreamers_ : fm .streamers = true) (hlink_ : fm .link = true) (hcross_ : fm .cross = true)
    (hcal_ : fm .cal = true) (hdraws_ : fm .draws = true) (s : State) (c : Nat) :
    (State.takeInterrupt s c).hide fm = s.hide fm := by
  unfold State.takeInterrupt
  simp only [hide_ite, ite_self, State.countSat_frame hregs_, State.pushRet_frame hregs_ hseq_, State.seqFault_frame
    hclk_ hregs_ hlog_ hstaff_ hresetting_ hmasked_ hports_ hwin_ htl_ hmemu_ hlanes_ hpcb_ hcantons_ hstr_ hservo_
    hseq_ hbufRecs_ hstreamers_ hlink_ hcross_ hcal_ hdraws_, State.setSeq_frame hseq_, State.set_frame hregs_]

theorem execSeqInterrupt_frame {fm : Part → Bool} (hclk_ : fm .clk = true) (hregs_ : fm .regs = true)
    (hlog_ : fm .log = true) (hstaff_ : fm .staff = true) (hresetting_ : fm .resetting = true)
    (hmasked_ : fm .masked = true) (hports_ : fm .ports = true) (hwin_ : fm .win = true) (htl_ : fm .tl = true)
    (hmemu_ : fm .memu = true) (hlanes_ : fm .lanes = true) (hpcb_ : fm .pcb = true) (hcantons_ : fm .cantons = true)
    (hstr_ : fm .str = true) (hservo_ : fm .servo = true) (hseq_ : fm .seq = true) (hbufRecs_ : fm .bufRecs = true)
    (hstreamers_ : fm .streamers = true) (hlink_ : fm .link = true) (hcross_ : fm .cross = true)
    (hcal_ : fm .cal = true) (hdraws_ : fm .draws = true) (c : Cluster) (s : State) :
    Framed fm s (execSeqInterrupt c s) := by
  apply State.run_frame
  intro t
  simp only [hide_ite, ite_self, State.takeInterrupt_frame hclk_ hregs_ hlog_ hstaff_ hresetting_ hmasked_ hports_
    hwin_ htl_ hmemu_ hlanes_ hpcb_ hcantons_ hstr_ hservo_ hseq_ hbufRecs_ hstreamers_ hlink_ hcross_ hcal_ hdraws_]

theorem State.beginWord_frame {fm : Part → Bool} (hclk_ : fm .clk = true) (hregs_ : fm .regs = true)
    (hlog_ : fm .log = true) (hstaff_ : fm .staff = true) (hresetting_ : fm .resetting = true)
    (hmasked_ : fm .masked = true) (hports_ : fm .ports = true) (hwin_ : fm .win = true) (htl_ : fm .tl = true)
    (hmemu_ : fm .memu = true) (hlanes_ : fm .lanes = true) (hpcb_ : fm .pcb = true) (hcantons_ : fm .cantons = true)
    (hstr_ : fm .str = true) (hservo_ : fm .servo = true) (hseq_ : fm .seq = true) (hcache_ : fm .cache = true)
    (hstaged_ : fm .staged = true) (hbufRecs_ : fm .bufRecs = true) (hstreamers_ : fm .streamers = true)
    (hlink_ : fm .link = true) (hcross_ : fm .cross = true) (hcal_ : fm .cal = true) (hdraws_ : fm .draws = true)
    (s : State) (k : Cluster) (x : Ctl) :
    (State.beginWord s k x).hide fm = s.hide fm := by
  unfold State.beginWord
  simp only [State.alu_frame hregs_ hseq_, State.countSat_frame hregs_, State.setSeq_frame hseq_, State.unitCmd_frame
    hclk_ hregs_ hlog_ hstaff_ hresetting_ hmasked_ hports_ hwin_ htl_ hmemu_ hlanes_ hpcb_ hcantons_ hstr_ hservo_
    hseq_ hcache_ hstaged_ hbufRecs_ hstreamers_ hlink_ hcross_ hcal_ hdraws_]

theorem State.endWord_frame {fm : Part → Bool} (hregs_ : fm .regs = true) (hseq_ : fm .seq = true) (s : State)
    (c : Nat) (x : Ctl) (pc : Nat) :
    (State.endWord s c x pc).hide fm = s.hide fm := by
  unfold State.endWord
  simp only [hide_ite, ite_self, State.safePoint_frame hregs_ hseq_, State.setSeq_frame hseq_, State.set_frame hregs_]

theorem State.popRet_frame {fm : Part → Bool} (hregs_ : fm .regs = true) (hseq_ : fm .seq = true) (s : State)
    (c : Nat) :
    (State.popRet s c).hide fm = s.hide fm := by
  unfold State.popRet
  simp only [State.setSeq_frame hseq_, State.set_frame hregs_]

theorem State.waitOn_frame {fm : Part → Bool} (hregs_ : fm .regs = true) (hseq_ : fm .seq = true) (s : State)
    (c : Nat) (x : Ctl) (held : Nat) :
    (State.waitOn s c x held).hide fm = s.hide fm := by
  unfold State.waitOn
  simp only [hide_ite, ite_self, State.addSat_frame hregs_, State.consume_frame hseq_, State.endWord_frame hregs_
    hseq_, State.setSeq_frame hseq_, State.set_frame hregs_]

theorem State.iret_frame {fm : Part → Bool} (hregs_ : fm .regs = true) (hseq_ : fm .seq = true)
    (hdraws_ : fm .draws = true) (s : State) (c : Nat) (x : Ctl) (r : Ret) :
    (State.iret s c x r).hide fm = s.hide fm := by
  unfold State.iret
  repeat' (first | simp only [hide_ite, ite_self, State.draw_frame hdraws_, State.endWord_frame hregs_ hseq_,
                 State.popRet_frame hregs_ hseq_, State.setSeq_frame hseq_, State.set_frame hregs_] | split)

theorem State.runWord_frame {fm : Part → Bool} (hclk_ : fm .clk = true) (hregs_ : fm .regs = true)
    (hlog_ : fm .log = true) (hstaff_ : fm .staff = true) (hresetting_ : fm .resetting = true)
    (hmasked_ : fm .masked = true) (hports_ : fm .ports = true) (hwin_ : fm .win = true) (htl_ : fm .tl = true)
    (hmemu_ : fm .memu = true) (hlanes_ : fm .lanes = true) (hpcb_ : fm .pcb = true) (hcantons_ : fm .cantons = true)
    (hstr_ : fm .str = true) (hservo_ : fm .servo = true) (hseq_ : fm .seq = true) (hcache_ : fm .cache = true)
    (hstaged_ : fm .staged = true) (hbufRecs_ : fm .bufRecs = true) (hstreamers_ : fm .streamers = true)
    (hlink_ : fm .link = true) (hcross_ : fm .cross = true) (hcal_ : fm .cal = true) (hdraws_ : fm .draws = true)
    (s : State) (k : Cluster) (x : Ctl) (held : Nat) :
    (State.runWord s k x held).hide fm = s.hide fm := by
  unfold State.runWord
  repeat' (first | simp only [hide_ite, ite_self,
                 State.beginWord_frame hclk_ hregs_ hlog_ hstaff_ hresetting_ hmasked_ hports_ hwin_ htl_ hmemu_
                   hlanes_ hpcb_ hcantons_ hstr_ hservo_ hseq_ hcache_ hstaged_ hbufRecs_ hstreamers_ hlink_ hcross_
                   hcal_ hdraws_,
                 State.consume_frame hseq_, State.endWord_frame hregs_ hseq_, State.iret_frame hregs_ hseq_ hdraws_,
                 State.popRet_frame hregs_ hseq_, State.pushRet_frame hregs_ hseq_,
                 State.seqFault_frame hclk_ hregs_ hlog_ hstaff_ hresetting_ hmasked_ hports_ hwin_ htl_ hmemu_
                   hlanes_ hpcb_ hcantons_ hstr_ hservo_ hseq_ hbufRecs_ hstreamers_ hlink_ hcross_ hcal_ hdraws_,
                 State.setSeq_frame hseq_, State.set_frame hregs_, State.waitOn_frame hregs_ hseq_] | split)

theorem State.runFetched_frame {fm : Part → Bool} (hclk_ : fm .clk = true) (hregs_ : fm .regs = true)
    (hlog_ : fm .log = true) (hstaff_ : fm .staff = true) (hresetting_ : fm .resetting = true)
    (hmasked_ : fm .masked = true) (hports_ : fm .ports = true) (hwin_ : fm .win = true) (htl_ : fm .tl = true)
    (hmemu_ : fm .memu = true) (hlanes_ : fm .lanes = true) (hpcb_ : fm .pcb = true) (hcantons_ : fm .cantons = true)
    (hstr_ : fm .str = true) (hservo_ : fm .servo = true) (hseq_ : fm .seq = true) (hcache_ : fm .cache = true)
    (hstaged_ : fm .staged = true) (hbufRecs_ : fm .bufRecs = true) (hstreamers_ : fm .streamers = true)
    (hlink_ : fm .link = true) (hcross_ : fm .cross = true) (hcal_ : fm .cal = true) (hdraws_ : fm .draws = true)
    (s : State) (k : Cluster) (held : Nat) :
    (State.runFetched s k held).hide fm = s.hide fm := by
  unfold State.runFetched
  simp only [hide_ite, ite_self, State.runWord_frame hclk_ hregs_ hlog_ hstaff_ hresetting_ hmasked_ hports_ hwin_
    htl_ hmemu_ hlanes_ hpcb_ hcantons_ hstr_ hservo_ hseq_ hcache_ hstaged_ hbufRecs_ hstreamers_ hlink_ hcross_
    hcal_ hdraws_, State.seqFault_frame hclk_ hregs_ hlog_ hstaff_ hresetting_ hmasked_ hports_ hwin_ htl_ hmemu_
    hlanes_ hpcb_ hcantons_ hstr_ hservo_ hseq_ hbufRecs_ hstreamers_ hlink_ hcross_ hcal_ hdraws_]

theorem State.wordAt_frame {fm : Part → Bool} (hclk_ : fm .clk = true) (hregs_ : fm .regs = true)
    (hlog_ : fm .log = true) (hstaff_ : fm .staff = true) (hresetting_ : fm .resetting = true)
    (hmasked_ : fm .masked = true) (hports_ : fm .ports = true) (hwin_ : fm .win = true) (htl_ : fm .tl = true)
    (hmemu_ : fm .memu = true) (hlanes_ : fm .lanes = true) (hpcb_ : fm .pcb = true) (hcantons_ : fm .cantons = true)
    (hstr_ : fm .str = true) (hservo_ : fm .servo = true) (hseq_ : fm .seq = true) (hcache_ : fm .cache = true)
    (hstaged_ : fm .staged = true) (hbufRecs_ : fm .bufRecs = true) (hstreamers_ : fm .streamers = true)
    (hlink_ : fm .link = true) (hcross_ : fm .cross = true) (hcal_ : fm .cal = true) (hdraws_ : fm .draws = true)
    (s : State) (k : Cluster) (flips : BitVec 136) (held : Nat) (p : Ctl → Bool) :
    (State.wordAt s k flips held p).hide fm = s.hide fm := by
  unfold State.wordAt
  simp only [hide_ite, ite_self, State.runFetched_frame hclk_ hregs_ hlog_ hstaff_ hresetting_ hmasked_ hports_ hwin_
    htl_ hmemu_ hlanes_ hpcb_ hcantons_ hstr_ hservo_ hseq_ hcache_ hstaged_ hbufRecs_ hstreamers_ hlink_ hcross_
    hcal_ hdraws_, State.upsetCs_frame hseq_]

theorem execSeqGo_frame {fm : Part → Bool} (hclk_ : fm .clk = true) (hregs_ : fm .regs = true)
    (hlog_ : fm .log = true) (hstaff_ : fm .staff = true) (hresetting_ : fm .resetting = true)
    (hmasked_ : fm .masked = true) (hports_ : fm .ports = true) (hwin_ : fm .win = true) (htl_ : fm .tl = true)
    (hmemu_ : fm .memu = true) (hlanes_ : fm .lanes = true) (hpcb_ : fm .pcb = true) (hcantons_ : fm .cantons = true)
    (hstr_ : fm .str = true) (hservo_ : fm .servo = true) (hseq_ : fm .seq = true) (hcache_ : fm .cache = true)
    (hstaged_ : fm .staged = true) (hbufRecs_ : fm .bufRecs = true) (hstreamers_ : fm .streamers = true)
    (hlink_ : fm .link = true) (hcross_ : fm .cross = true) (hcal_ : fm .cal = true) (hdraws_ : fm .draws = true)
    (c : Cluster) (flips : BitVec 136) (s : State) :
    Framed fm s (execSeqGo c flips s) := by
  apply State.run_frame
  intro t
  simp only [State.wordAt_frame hclk_ hregs_ hlog_ hstaff_ hresetting_ hmasked_ hports_ hwin_ htl_ hmemu_ hlanes_
    hpcb_ hcantons_ hstr_ hservo_ hseq_ hcache_ hstaged_ hbufRecs_ hstreamers_ hlink_ hcross_ hcal_ hdraws_]

theorem execSeqBranch_frame {fm : Part → Bool} (hclk_ : fm .clk = true) (hregs_ : fm .regs = true)
    (hlog_ : fm .log = true) (hstaff_ : fm .staff = true) (hresetting_ : fm .resetting = true)
    (hmasked_ : fm .masked = true) (hports_ : fm .ports = true) (hwin_ : fm .win = true) (htl_ : fm .tl = true)
    (hmemu_ : fm .memu = true) (hlanes_ : fm .lanes = true) (hpcb_ : fm .pcb = true) (hcantons_ : fm .cantons = true)
    (hstr_ : fm .str = true) (hservo_ : fm .servo = true) (hseq_ : fm .seq = true) (hcache_ : fm .cache = true)
    (hstaged_ : fm .staged = true) (hbufRecs_ : fm .bufRecs = true) (hstreamers_ : fm .streamers = true)
    (hlink_ : fm .link = true) (hcross_ : fm .cross = true) (hcal_ : fm .cal = true) (hdraws_ : fm .draws = true)
    (c : Cluster) (flips : BitVec 136) (s : State) :
    Framed fm s (execSeqBranch c flips s) := by
  apply State.run_frame
  intro t
  simp only [State.wordAt_frame hclk_ hregs_ hlog_ hstaff_ hresetting_ hmasked_ hports_ hwin_ htl_ hmemu_ hlanes_
    hpcb_ hcantons_ hstr_ hservo_ hseq_ hcache_ hstaged_ hbufRecs_ hstreamers_ hlink_ hcross_ hcal_ hdraws_]

theorem execSeqWait_frame {fm : Part → Bool} (hclk_ : fm .clk = true) (hregs_ : fm .regs = true)
    (hlog_ : fm .log = true) (hstaff_ : fm .staff = true) (hresetting_ : fm .resetting = true)
    (hmasked_ : fm .masked = true) (hports_ : fm .ports = true) (hwin_ : fm .win = true) (htl_ : fm .tl = true)
    (hmemu_ : fm .memu = true) (hlanes_ : fm .lanes = true) (hpcb_ : fm .pcb = true) (hcantons_ : fm .cantons = true)
    (hstr_ : fm .str = true) (hservo_ : fm .servo = true) (hseq_ : fm .seq = true) (hcache_ : fm .cache = true)
    (hstaged_ : fm .staged = true) (hbufRecs_ : fm .bufRecs = true) (hstreamers_ : fm .streamers = true)
    (hlink_ : fm .link = true) (hcross_ : fm .cross = true) (hcal_ : fm .cal = true) (hdraws_ : fm .draws = true)
    (c : Cluster) (flips : BitVec 136) (held : BitVec 16) (s : State) :
    Framed fm s (execSeqWait c flips held s) := by
  apply State.run_frame
  intro t
  simp only [State.wordAt_frame hclk_ hregs_ hlog_ hstaff_ hresetting_ hmasked_ hports_ hwin_ htl_ hmemu_ hlanes_
    hpcb_ hcantons_ hstr_ hservo_ hseq_ hcache_ hstaged_ hbufRecs_ hstreamers_ hlink_ hcross_ hcal_ hdraws_]

theorem execSeqWaitTimeout_frame {fm : Part → Bool} (hregs_ : fm .regs = true) (hseq_ : fm .seq = true) (c : Cluster)
    (s : State) :
    Framed fm s (execSeqWaitTimeout c s) := by
  apply State.run_frame
  intro t
  simp only [hide_ite, ite_self, State.consume_frame hseq_, State.endWord_frame hregs_ hseq_, State.waitOn_frame
    hregs_ hseq_]

theorem execSeqCall_frame {fm : Part → Bool} (hclk_ : fm .clk = true) (hregs_ : fm .regs = true)
    (hlog_ : fm .log = true) (hstaff_ : fm .staff = true) (hresetting_ : fm .resetting = true)
    (hmasked_ : fm .masked = true) (hports_ : fm .ports = true) (hwin_ : fm .win = true) (htl_ : fm .tl = true)
    (hmemu_ : fm .memu = true) (hlanes_ : fm .lanes = true) (hpcb_ : fm .pcb = true) (hcantons_ : fm .cantons = true)
    (hstr_ : fm .str = true) (hservo_ : fm .servo = true) (hseq_ : fm .seq = true) (hcache_ : fm .cache = true)
    (hstaged_ : fm .staged = true) (hbufRecs_ : fm .bufRecs = true) (hstreamers_ : fm .streamers = true)
    (hlink_ : fm .link = true) (hcross_ : fm .cross = true) (hcal_ : fm .cal = true) (hdraws_ : fm .draws = true)
    (c : Cluster) (flips : BitVec 136) (s : State) :
    Framed fm s (execSeqCall c flips s) := by
  apply State.run_frame
  intro t
  simp only [State.wordAt_frame hclk_ hregs_ hlog_ hstaff_ hresetting_ hmasked_ hports_ hwin_ htl_ hmemu_ hlanes_
    hpcb_ hcantons_ hstr_ hservo_ hseq_ hcache_ hstaged_ hbufRecs_ hstreamers_ hlink_ hcross_ hcal_ hdraws_]

theorem execSeqReturn_frame {fm : Part → Bool} (hclk_ : fm .clk = true) (hregs_ : fm .regs = true)
    (hlog_ : fm .log = true) (hstaff_ : fm .staff = true) (hresetting_ : fm .resetting = true)
    (hmasked_ : fm .masked = true) (hports_ : fm .ports = true) (hwin_ : fm .win = true) (htl_ : fm .tl = true)
    (hmemu_ : fm .memu = true) (hlanes_ : fm .lanes = true) (hpcb_ : fm .pcb = true) (hcantons_ : fm .cantons = true)
    (hstr_ : fm .str = true) (hservo_ : fm .servo = true) (hseq_ : fm .seq = true) (hcache_ : fm .cache = true)
    (hstaged_ : fm .staged = true) (hbufRecs_ : fm .bufRecs = true) (hstreamers_ : fm .streamers = true)
    (hlink_ : fm .link = true) (hcross_ : fm .cross = true) (hcal_ : fm .cal = true) (hdraws_ : fm .draws = true)
    (c : Cluster) (flips : BitVec 136) (s : State) :
    Framed fm s (execSeqReturn c flips s) := by
  apply State.run_frame
  intro t
  simp only [State.wordAt_frame hclk_ hregs_ hlog_ hstaff_ hresetting_ hmasked_ hports_ hwin_ htl_ hmemu_ hlanes_
    hpcb_ hcantons_ hstr_ hservo_ hseq_ hcache_ hstaged_ hbufRecs_ hstreamers_ hlink_ hcross_ hcal_ hdraws_]

theorem execSeqIret_frame {fm : Part → Bool} (hclk_ : fm .clk = true) (hregs_ : fm .regs = true)
    (hlog_ : fm .log = true) (hstaff_ : fm .staff = true) (hresetting_ : fm .resetting = true)
    (hmasked_ : fm .masked = true) (hports_ : fm .ports = true) (hwin_ : fm .win = true) (htl_ : fm .tl = true)
    (hmemu_ : fm .memu = true) (hlanes_ : fm .lanes = true) (hpcb_ : fm .pcb = true) (hcantons_ : fm .cantons = true)
    (hstr_ : fm .str = true) (hservo_ : fm .servo = true) (hseq_ : fm .seq = true) (hcache_ : fm .cache = true)
    (hstaged_ : fm .staged = true) (hbufRecs_ : fm .bufRecs = true) (hstreamers_ : fm .streamers = true)
    (hlink_ : fm .link = true) (hcross_ : fm .cross = true) (hcal_ : fm .cal = true) (hdraws_ : fm .draws = true)
    (c : Cluster) (flips : BitVec 136) (s : State) :
    Framed fm s (execSeqIret c flips s) := by
  apply State.run_frame
  intro t
  simp only [State.wordAt_frame hclk_ hregs_ hlog_ hstaff_ hresetting_ hmasked_ hports_ hwin_ htl_ hmemu_ hlanes_
    hpcb_ hcantons_ hstr_ hservo_ hseq_ hcache_ hstaged_ hbufRecs_ hstreamers_ hlink_ hcross_ hcal_ hdraws_]

theorem execSeqJumpclr_frame {fm : Part → Bool} (hclk_ : fm .clk = true) (hregs_ : fm .regs = true)
    (hlog_ : fm .log = true) (hstaff_ : fm .staff = true) (hresetting_ : fm .resetting = true)
    (hmasked_ : fm .masked = true) (hports_ : fm .ports = true) (hwin_ : fm .win = true) (htl_ : fm .tl = true)
    (hmemu_ : fm .memu = true) (hlanes_ : fm .lanes = true) (hpcb_ : fm .pcb = true) (hcantons_ : fm .cantons = true)
    (hstr_ : fm .str = true) (hservo_ : fm .servo = true) (hseq_ : fm .seq = true) (hcache_ : fm .cache = true)
    (hstaged_ : fm .staged = true) (hbufRecs_ : fm .bufRecs = true) (hstreamers_ : fm .streamers = true)
    (hlink_ : fm .link = true) (hcross_ : fm .cross = true) (hcal_ : fm .cal = true) (hdraws_ : fm .draws = true)
    (c : Cluster) (flips : BitVec 136) (s : State) :
    Framed fm s (execSeqJumpclr c flips s) := by
  apply State.run_frame
  intro t
  simp only [State.wordAt_frame hclk_ hregs_ hlog_ hstaff_ hresetting_ hmasked_ hports_ hwin_ htl_ hmemu_ hlanes_
    hpcb_ hcantons_ hstr_ hservo_ hseq_ hcache_ hstaged_ hbufRecs_ hstreamers_ hlink_ hcross_ hcal_ hdraws_]

theorem execSeqIllegalWord_frame {fm : Part → Bool} (hclk_ : fm .clk = true) (hregs_ : fm .regs = true)
    (hlog_ : fm .log = true) (hstaff_ : fm .staff = true) (hresetting_ : fm .resetting = true)
    (hmasked_ : fm .masked = true) (hports_ : fm .ports = true) (hwin_ : fm .win = true) (htl_ : fm .tl = true)
    (hmemu_ : fm .memu = true) (hlanes_ : fm .lanes = true) (hpcb_ : fm .pcb = true) (hcantons_ : fm .cantons = true)
    (hstr_ : fm .str = true) (hservo_ : fm .servo = true) (hseq_ : fm .seq = true) (hcache_ : fm .cache = true)
    (hstaged_ : fm .staged = true) (hbufRecs_ : fm .bufRecs = true) (hstreamers_ : fm .streamers = true)
    (hlink_ : fm .link = true) (hcross_ : fm .cross = true) (hcal_ : fm .cal = true) (hdraws_ : fm .draws = true)
    (c : Cluster) (flips : BitVec 136) (s : State) :
    Framed fm s (execSeqIllegalWord c flips s) := by
  apply State.run_frame
  intro t
  simp only [State.wordAt_frame hclk_ hregs_ hlog_ hstaff_ hresetting_ hmasked_ hports_ hwin_ htl_ hmemu_ hlanes_
    hpcb_ hcantons_ hstr_ hservo_ hseq_ hcache_ hstaged_ hbufRecs_ hstreamers_ hlink_ hcross_ hcal_ hdraws_]

theorem State.aluCmd_frame {fm : Part → Bool} (hregs_ : fm .regs = true) (hseq_ : fm .seq = true) (s : State)
    (c : Cluster) (op : Nat) (dst : Fin 16) (a : Fin 16) (b : AluB) :
    Framed fm s (State.aluCmd s c op dst a b) := by
  apply State.run_frame
  intro t
  simp only [hide_ite, ite_self, State.alu_frame hregs_ hseq_]

theorem execAluMov_frame {fm : Part → Bool} (hregs_ : fm .regs = true) (hseq_ : fm .seq = true) (c : Cluster)
    (dst : Fin 16) (b : AluB) (s : State) :
    Framed fm s (execAluMov c dst b s) := (State.aluCmd_frame hregs_ hseq_) _ _ _ _ _ _

theorem execAluAdd_frame {fm : Part → Bool} (hregs_ : fm .regs = true) (hseq_ : fm .seq = true) (c : Cluster)
    (dst : Fin 16) (a : Fin 16) (b : AluB) (s : State) :
    Framed fm s (execAluAdd c dst a b s) := (State.aluCmd_frame hregs_ hseq_) _ _ _ _ _ _

theorem execAluSub_frame {fm : Part → Bool} (hregs_ : fm .regs = true) (hseq_ : fm .seq = true) (c : Cluster)
    (dst : Fin 16) (a : Fin 16) (b : AluB) (s : State) :
    Framed fm s (execAluSub c dst a b s) := (State.aluCmd_frame hregs_ hseq_) _ _ _ _ _ _

theorem execAluAnd_frame {fm : Part → Bool} (hregs_ : fm .regs = true) (hseq_ : fm .seq = true) (c : Cluster)
    (dst : Fin 16) (a : Fin 16) (b : AluB) (s : State) :
    Framed fm s (execAluAnd c dst a b s) := (State.aluCmd_frame hregs_ hseq_) _ _ _ _ _ _

theorem execAluOr_frame {fm : Part → Bool} (hregs_ : fm .regs = true) (hseq_ : fm .seq = true) (c : Cluster)
    (dst : Fin 16) (a : Fin 16) (b : AluB) (s : State) :
    Framed fm s (execAluOr c dst a b s) := (State.aluCmd_frame hregs_ hseq_) _ _ _ _ _ _

theorem execAluXor_frame {fm : Part → Bool} (hregs_ : fm .regs = true) (hseq_ : fm .seq = true) (c : Cluster)
    (dst : Fin 16) (a : Fin 16) (b : AluB) (s : State) :
    Framed fm s (execAluXor c dst a b s) := (State.aluCmd_frame hregs_ hseq_) _ _ _ _ _ _

theorem execAluShl_frame {fm : Part → Bool} (hregs_ : fm .regs = true) (hseq_ : fm .seq = true) (c : Cluster)
    (dst : Fin 16) (a : Fin 16) (b : AluB) (s : State) :
    Framed fm s (execAluShl c dst a b s) := (State.aluCmd_frame hregs_ hseq_) _ _ _ _ _ _

theorem execAluShr_frame {fm : Part → Bool} (hregs_ : fm .regs = true) (hseq_ : fm .seq = true) (c : Cluster)
    (dst : Fin 16) (a : Fin 16) (b : AluB) (s : State) :
    Framed fm s (execAluShr c dst a b s) := (State.aluCmd_frame hregs_ hseq_) _ _ _ _ _ _

theorem execAluPopcnt_frame {fm : Part → Bool} (hregs_ : fm .regs = true) (hseq_ : fm .seq = true) (c : Cluster)
    (dst : Fin 16) (b : AluB) (s : State) :
    Framed fm s (execAluPopcnt c dst b s) := (State.aluCmd_frame hregs_ hseq_) _ _ _ _ _ _

theorem execAluFfs_frame {fm : Part → Bool} (hregs_ : fm .regs = true) (hseq_ : fm .seq = true) (c : Cluster)
    (dst : Fin 16) (b : AluB) (s : State) :
    Framed fm s (execAluFfs c dst b s) := (State.aluCmd_frame hregs_ hseq_) _ _ _ _ _ _

theorem execAluMin_frame {fm : Part → Bool} (hregs_ : fm .regs = true) (hseq_ : fm .seq = true) (c : Cluster)
    (dst : Fin 16) (a : Fin 16) (b : AluB) (s : State) :
    Framed fm s (execAluMin c dst a b s) := (State.aluCmd_frame hregs_ hseq_) _ _ _ _ _ _

theorem State.seqBegin_frame {fm : Part → Bool} (hregs_ : fm .regs = true) (s : State) (c : Nat) (mode : Nat)
    (pc : Nat) :
    (State.seqBegin s c mode pc).hide fm = s.hide fm := by
  unfold State.seqBegin
  simp only [State.seqMode_frame hregs_, State.set_frame hregs_]

theorem State.ctlReject_frame {fm : Part → Bool} (hregs_ : fm .regs = true) (hlog_ : fm .log = true) (s : State)
    (o : Origin) (c : Nat) (v : Nat) :
    (State.ctlReject s o c v).hide fm = s.hide fm := by
  unfold State.ctlReject
  simp only [State.logPriv_frame hregs_ hlog_, State.set_frame hregs_]

theorem execSeqRestart_frame {fm : Part → Bool} (hregs_ : fm .regs = true) (hlog_ : fm .log = true)
    (hseq_ : fm .seq = true) (o : Origin) (c : Cluster) (s : State) :
    Framed fm s (execSeqRestart o c s) := by
  apply State.run_frame
  intro t
  simp only [hide_ite, ite_self, State.ctlReject_frame hregs_ hlog_, State.logPriv_frame hregs_ hlog_,
    State.seqBegin_frame hregs_, State.setSeq_frame hseq_]

theorem State.seqReload_frame {fm : Part → Bool} (hregs_ : fm .regs = true) (hseq_ : fm .seq = true) (s : State)
    (c : Nat) :
    (State.seqReload s c).hide fm = s.hide fm := by
  unfold State.seqReload
  simp only [State.setSeq_frame hseq_, State.set_frame hregs_]

theorem execStoreReloadDone_frame {fm : Part → Bool} (hregs_ : fm .regs = true) (hseq_ : fm .seq = true) (c : Cluster)
    (s : State) :
    Framed fm s (execStoreReloadDone c s) := by
  apply State.run_frame
  intro t
  simp only [hide_ite, ite_self, State.seqBegin_frame hregs_, State.seqReload_frame hregs_ hseq_]

theorem execSeqTest_frame {fm : Part → Bool} (hregs_ : fm .regs = true) (hlog_ : fm .log = true) (o : Origin)
    (c : Cluster) (s : State) :
    Framed fm s (execSeqTest o c s) := by
  apply State.run_frame
  intro t
  simp only [hide_ite, ite_self, State.ctlReject_frame hregs_ hlog_, State.logPriv_frame hregs_ hlog_,
    State.seqBegin_frame hregs_]

theorem execSeqHalt_frame {fm : Part → Bool} (hregs_ : fm .regs = true) (hlog_ : fm .log = true)
    (hlanes_ : fm .lanes = true) (hpcb_ : fm .pcb = true) (hcantons_ : fm .cantons = true) (hstr_ : fm .str = true)
    (hseq_ : fm .seq = true) (hstreamers_ : fm .streamers = true) (hdraws_ : fm .draws = true) (o : Origin)
    (c : Cluster) (s : State) :
    Framed fm s (execSeqHalt o c s) := by
  apply State.run_frame
  intro t
  simp only [hide_ite, ite_self, State.ctlReject_frame hregs_ hlog_, State.logPriv_frame hregs_ hlog_,
    State.seqHalt_frame hregs_ hlanes_ hpcb_ hcantons_ hstr_ hseq_ hstreamers_ hdraws_]

theorem execSeqStep_frame {fm : Part → Bool} (hclk_ : fm .clk = true) (hregs_ : fm .regs = true)
    (hlog_ : fm .log = true) (hstaff_ : fm .staff = true) (hresetting_ : fm .resetting = true)
    (hmasked_ : fm .masked = true) (hports_ : fm .ports = true) (hwin_ : fm .win = true) (htl_ : fm .tl = true)
    (hmemu_ : fm .memu = true) (hlanes_ : fm .lanes = true) (hpcb_ : fm .pcb = true) (hcantons_ : fm .cantons = true)
    (hstr_ : fm .str = true) (hservo_ : fm .servo = true) (hseq_ : fm .seq = true) (hcache_ : fm .cache = true)
    (hstaged_ : fm .staged = true) (hbufRecs_ : fm .bufRecs = true) (hstreamers_ : fm .streamers = true)
    (hlink_ : fm .link = true) (hcross_ : fm .cross = true) (hcal_ : fm .cal = true) (hdraws_ : fm .draws = true)
    (o : Origin) (c : Cluster) (flips : BitVec 136) (s : State) :
    Framed fm s (execSeqStep o c flips s) := by
  apply State.run_frame
  intro t
  simp only [hide_ite, ite_self, State.ctlReject_frame hregs_ hlog_, State.logPriv_frame hregs_ hlog_,
    State.runFetched_frame hclk_ hregs_ hlog_ hstaff_ hresetting_ hmasked_ hports_ hwin_ htl_ hmemu_ hlanes_ hpcb_
    hcantons_ hstr_ hservo_ hseq_ hcache_ hstaged_ hbufRecs_ hstreamers_ hlink_ hcross_ hcal_ hdraws_,
    State.takeInterrupt_frame hclk_ hregs_ hlog_ hstaff_ hresetting_ hmasked_ hports_ hwin_ htl_ hmemu_ hlanes_ hpcb_
    hcantons_ hstr_ hservo_ hseq_ hbufRecs_ hstreamers_ hlink_ hcross_ hcal_ hdraws_, State.upsetCs_frame hseq_]

theorem State.csCmd_frame {fm : Part → Bool} (hregs_ : fm .regs = true) (hlog_ : fm .log = true) (s : State)
    (o : Origin) (c : Nat) (op : Nat) (f : State → State) (hf : ∀  t, (f  t).hide fm = t.hide fm) :
    (State.csCmd s o c op f).hide fm = s.hide fm := by
  unfold State.csCmd
  simp only [hide_ite, ite_self, State.logPriv_frame hregs_ hlog_, hf]

theorem execCsRead_frame {fm : Part → Bool} (hregs_ : fm .regs = true) (hlog_ : fm .log = true)
    (hseq_ : fm .seq = true) (o : Origin) (c : Cluster) (flips : BitVec 136) (s : State) :
    Framed fm s (execCsRead o c flips s) := by
  apply State.run_frame
  intro t
  simp only [hide_ite, ite_self, State.csCmd_frame hregs_ hlog_, State.each_frame, State.logPriv_frame hregs_ hlog_,
    State.set_frame hregs_, State.upsetCs_frame hseq_, implies_true]

theorem execCsWrite_frame {fm : Part → Bool} (hregs_ : fm .regs = true) (hlog_ : fm .log = true)
    (hseq_ : fm .seq = true) (o : Origin) (c : Cluster) (s : State) :
    Framed fm s (execCsWrite o c s) := by
  apply State.run_frame
  intro t
  simp only [hide_ite, ite_self, State.csCmd_frame hregs_ hlog_, State.logPriv_frame hregs_ hlog_, State.putCs_frame
    hseq_, State.set_frame hregs_, implies_true]

theorem execCsVerify_frame {fm : Part → Bool} (hregs_ : fm .regs = true) (hlog_ : fm .log = true)
    (hseq_ : fm .seq = true) (o : Origin) (c : Cluster) (s : State) :
    Framed fm s (execCsVerify o c s) := by
  apply State.run_frame
  intro t
  simp only [hide_ite, ite_self, State.csCmd_frame hregs_ hlog_, State.logPriv_frame hregs_ hlog_, State.setSeq_frame
    hseq_, State.set_frame hregs_, implies_true]

theorem execCsVerifyDone_frame {fm : Part → Bool} (hclk_ : fm .clk = true) (hregs_ : fm .regs = true)
    (hlog_ : fm .log = true) (hstaff_ : fm .staff = true) (hresetting_ : fm .resetting = true)
    (hmasked_ : fm .masked = true) (hports_ : fm .ports = true) (hwin_ : fm .win = true) (htl_ : fm .tl = true)
    (hmemu_ : fm .memu = true) (hlanes_ : fm .lanes = true) (hpcb_ : fm .pcb = true) (hcantons_ : fm .cantons = true)
    (hstr_ : fm .str = true) (hservo_ : fm .servo = true) (hseq_ : fm .seq = true) (hbufRecs_ : fm .bufRecs = true)
    (hstreamers_ : fm .streamers = true) (hlink_ : fm .link = true) (hcross_ : fm .cross = true)
    (hcal_ : fm .cal = true) (hdraws_ : fm .draws = true) (c : Cluster) (flips : List (BitVec 14 × BitVec 136))
    (s : State) :
    Framed fm s (execCsVerifyDone c flips s) := by
  apply State.run_frame
  intro t
  repeat' (first | simp only [hide_ite, State.raiseC_frame hclk_ hregs_ hlog_ hstaff_ hresetting_ hmasked_ hports_
                 hwin_ htl_ hmemu_ hlanes_ hpcb_ hcantons_ hstr_ hservo_ hseq_ hbufRecs_ hstreamers_ hlink_ hcross_
                 hcal_ hdraws_,
                 State.setSeq_frame hseq_, State.set_frame hregs_, State.upsetCs_frame hseq_] | split
                   | refine (hide_foldl _ (fun t x => ?_) _ _).trans ?_)

theorem execGflagWrite_frame {fm : Part → Bool} (hregs_ : fm .regs = true) (hlog_ : fm .log = true) (o : Origin)
    (c : Cluster) (v : Fin 16) (s : State) :
    Framed fm s (execGflagWrite o c v s) := by
  apply State.run_frame
  intro t
  simp only [hide_ite, ite_self, State.logPriv_frame hregs_ hlog_, State.seqIrq_frame hregs_, State.set_frame hregs_]

end Sys2Proof.Machine
end

