-- ==== Sys2Proof/Laws/FrameBoundary.lean ====
section
/-! SUPPORT. Laws/FrameBoundary.lean: which parts of the state the functions of Machine/Boundary.lean can change. -/

namespace Sys2Proof.Machine

theorem State.placeLog_frame {fm : Part → Bool} (hlog_ : fm .log = true) (hports_ : fm .ports = true)
    (htl_ : fm .tl = true) (s : State) (c : Nat) :
    (State.placeLog s c).hide fm = s.hide fm := by
  unfold State.placeLog
  simp only [hide_log hlog_, hide_ite, ite_self, State.placeWork_frame hports_ htl_]

theorem State.refillOnce_frame {fm : Part → Bool} (htl_ : fm .tl = true) (s : State) (c : Nat) :
    (State.refillOnce s c).hide fm = s.hide fm := by
  unfold State.refillOnce
  simp only [hide_ite, ite_self, State.refill_frame htl_]

theorem State.revolution_frame {fm : Part → Bool} (hclk_ : fm .clk = true) (hregs_ : fm .regs = true)
    (hlog_ : fm .log = true) (hstaff_ : fm .staff = true) (hresetting_ : fm .resetting = true)
    (hmasked_ : fm .masked = true) (hports_ : fm .ports = true) (hwin_ : fm .win = true) (htl_ : fm .tl = true)
    (hmemu_ : fm .memu = true) (hlanes_ : fm .lanes = true) (hpcb_ : fm .pcb = true) (hcantons_ : fm .cantons = true)
    (hstr_ : fm .str = true) (hservo_ : fm .servo = true) (hseq_ : fm .seq = true) (hclr_ : fm .clr = true)
    (hspin_ : fm .spin = true) (hbufRecs_ : fm .bufRecs = true) (hstreamers_ : fm .streamers = true)
    (hlink_ : fm .link = true) (hcross_ : fm .cross = true) (hcal_ : fm .cal = true) (hmedia_ : fm .media = true)
    (hdraws_ : fm .draws = true) (s : State) (c : Nat) (b : Boundary) :
    (State.revolution s c b).hide fm = s.hide fm := by
  unfold State.revolution
  repeat' (first | simp only [hide_ite, ite_self, State.clrRevs_frame hclr_, State.flushMaps_frame hstr_ hmedia_,
                 State.placeLog_frame hlog_ hports_ htl_,
                 State.raise_frame hclk_ hregs_ hlog_ hstaff_ hresetting_ hmasked_ hports_ hwin_ htl_ hmemu_ hlanes_
                   hpcb_ hcantons_ hstr_ hservo_ hseq_ hbufRecs_ hstreamers_ hlink_ hcross_ hcal_ hdraws_,
                 State.refillOnce_frame htl_, State.seqEvent_frame hseq_, State.setSpin_frame hspin_,
                 State.set_frame hregs_] | split
                 | refine (hide_foldl _ (fun t x => ?_) _ _).trans ?_)

theorem State.beginStripes_frame {fm : Part → Bool} (hports_ : fm .ports = true) (s : State) (c : Nat) (now : Nat) :
    (State.beginStripes s c now).hide fm = s.hide fm := by
  unfold State.beginStripes
  simp only [hide_ports hports_]

theorem execWedgeBoundary_frame {fm : Part → Bool} (hclk_ : fm .clk = true) (hregs_ : fm .regs = true)
    (hlog_ : fm .log = true) (hstaff_ : fm .staff = true) (hresetting_ : fm .resetting = true)
    (hmasked_ : fm .masked = true) (hports_ : fm .ports = true) (hwin_ : fm .win = true) (htl_ : fm .tl = true)
    (hmemu_ : fm .memu = true) (hlanes_ : fm .lanes = true) (hpcb_ : fm .pcb = true) (hcantons_ : fm .cantons = true)
    (hstr_ : fm .str = true) (hservo_ : fm .servo = true) (hseq_ : fm .seq = true) (hclr_ : fm .clr = true)
    (hspin_ : fm .spin = true) (hbufRecs_ : fm .bufRecs = true) (hstreamers_ : fm .streamers = true)
    (hlink_ : fm .link = true) (hcross_ : fm .cross = true) (hcal_ : fm .cal = true) (hmedia_ : fm .media = true)
    (hdraws_ : fm .draws = true) (c : Cluster) (b : Boundary) (s : State) :
    Framed fm s (execWedgeBoundary c b s) := by
  apply State.run_frame
  intro t
  simp only [hide_ite, ite_self, State.beginCells_frame htl_, State.beginStripes_frame hports_, State.clrLate_frame
    hregs_, State.deferWrites_frame hregs_ hports_, State.pcbWedge_frame hlanes_ hpcb_, State.retire_frame htl_,
    State.revolution_frame hclk_ hregs_ hlog_ hstaff_ hresetting_ hmasked_ hports_ hwin_ htl_ hmemu_ hlanes_ hpcb_
    hcantons_ hstr_ hservo_ hseq_ hclr_ hspin_ hbufRecs_ hstreamers_ hlink_ hcross_ hcal_ hmedia_ hdraws_,
    State.tidy_frame hports_ htl_]

end Sys2Proof.Machine
end

