-- ==== Sys2Proof/Laws/FrameBlocks.lean ====
section
/-! SUPPORT. Laws/FrameBlocks.lean: which parts of the state the functions of Machine/Blocks.lean can change. -/

namespace Sys2Proof.Machine

theorem State.lockFalls_frame {fm : Part → Bool} (hregs_ : fm .regs = true) (s : State) :
    (State.lockFalls s).hide fm = s.hide fm := by
  unfold State.lockFalls
  simp only [State.set_frame hregs_, State.when_frame, implies_true]

theorem State.refclkLoss_frame {fm : Part → Bool} (hclk_ : fm .clk = true) (hregs_ : fm .regs = true)
    (hlog_ : fm .log = true) (hstaff_ : fm .staff = true) (hresetting_ : fm .resetting = true)
    (hmasked_ : fm .masked = true) (hports_ : fm .ports = true) (hwin_ : fm .win = true) (htl_ : fm .tl = true)
    (hmemu_ : fm .memu = true) (hlanes_ : fm .lanes = true) (hpcb_ : fm .pcb = true) (hcantons_ : fm .cantons = true)
    (hstr_ : fm .str = true) (hservo_ : fm .servo = true) (hseq_ : fm .seq = true) (hbufRecs_ : fm .bufRecs = true)
    (hstreamers_ : fm .streamers = true) (hlink_ : fm .link = true) (hcross_ : fm .cross = true)
    (hcal_ : fm .cal = true) (hdraws_ : fm .draws = true) (s : State) :
    (State.refclkLoss s).hide fm = s.hide fm := by
  unfold State.refclkLoss
  simp only [hide_ite, ite_self, State.failAssumption_frame hports_, State.lockFalls_frame hregs_, State.raise_frame
    hclk_ hregs_ hlog_ hstaff_ hresetting_ hmasked_ hports_ hwin_ htl_ hmemu_ hlanes_ hpcb_ hcantons_ hstr_ hservo_
    hseq_ hbufRecs_ hstreamers_ hlink_ hcross_ hcal_ hdraws_, State.set_frame hregs_, State.when_frame, implies_true]

theorem State.gapInWindow_frame {fm : Part → Bool} (hclk_ : fm .clk = true) (s : State) (b : Bool) :
    (State.gapInWindow s b).hide fm = s.hide fm := by
  unfold State.gapInWindow
  simp only [hide_clk hclk_]

theorem execRefclkGapTimeout_frame {fm : Part → Bool} (hclk_ : fm .clk = true) (hregs_ : fm .regs = true)
    (hlog_ : fm .log = true) (hstaff_ : fm .staff = true) (hresetting_ : fm .resetting = true)
    (hmasked_ : fm .masked = true) (hports_ : fm .ports = true) (hwin_ : fm .win = true) (htl_ : fm .tl = true)
    (hmemu_ : fm .memu = true) (hlanes_ : fm .lanes = true) (hpcb_ : fm .pcb = true) (hcantons_ : fm .cantons = true)
    (hstr_ : fm .str = true) (hservo_ : fm .servo = true) (hseq_ : fm .seq = true) (hbufRecs_ : fm .bufRecs = true)
    (hstreamers_ : fm .streamers = true) (hlink_ : fm .link = true) (hcross_ : fm .cross = true)
    (hcal_ : fm .cal = true) (hdraws_ : fm .draws = true) (s : State) :
    Framed fm s (execRefclkGapTimeout s) := by
  intro t ht
  cases ht
  exact ((State.gapInWindow_frame hclk_) _ _).trans ((State.refclkLoss_frame hclk_ hregs_ hlog_ hstaff_ hresetting_
      hmasked_ hports_ hwin_ htl_ hmemu_ hlanes_ hpcb_ hcantons_ hstr_ hservo_ hseq_ hbufRecs_ hstreamers_ hlink_
      hcross_ hcal_ hdraws_) _)

theorem execRefclkWindowEnd_frame {fm : Part → Bool} (hclk_ : fm .clk = true) (hregs_ : fm .regs = true)
    (hlog_ : fm .log = true) (hstaff_ : fm .staff = true) (hresetting_ : fm .resetting = true)
    (hmasked_ : fm .masked = true) (hports_ : fm .ports = true) (hwin_ : fm .win = true) (htl_ : fm .tl = true)
    (hmemu_ : fm .memu = true) (hlanes_ : fm .lanes = true) (hpcb_ : fm .pcb = true) (hcantons_ : fm .cantons = true)
    (hstr_ : fm .str = true) (hservo_ : fm .servo = true) (hseq_ : fm .seq = true) (hbufRecs_ : fm .bufRecs = true)
    (hstreamers_ : fm .streamers = true) (hlink_ : fm .link = true) (hcross_ : fm .cross = true)
    (hcal_ : fm .cal = true) (hdraws_ : fm .draws = true) (inRange : Bool) (s : State) :
    Framed fm s (execRefclkWindowEnd inRange s) := by
  intro t ht
  cases ht
  simp only [hide_ite,
                 (State.refclkLoss_frame hclk_ hregs_ hlog_ hstaff_ hresetting_ hmasked_ hports_ hwin_ htl_ hmemu_
                   hlanes_ hpcb_ hcantons_ hstr_ hservo_ hseq_ hbufRecs_ hstreamers_ hlink_ hcross_ hcal_ hdraws_),
                 (State.set_frame hregs_), (State.gapInWindow_frame hclk_), ite_self]

theorem execRootStop_frame {fm : Part → Bool} (hclk_ : fm .clk = true) (hregs_ : fm .regs = true) (s : State) :
    Framed fm s (execRootStop s) := by
  intro t ht
  cases ht
  exact (hide_clk hclk_ _ _ _ _ _ _ _ _ _ _ _).trans ((State.lockFalls_frame hregs_) _)

theorem execTimeReplicaCompare_frame {fm : Part → Bool} (hclk_ : fm .clk = true) (hregs_ : fm .regs = true)
    (hlog_ : fm .log = true) (hstaff_ : fm .staff = true) (hresetting_ : fm .resetting = true)
    (hmasked_ : fm .masked = true) (hports_ : fm .ports = true) (hwin_ : fm .win = true) (htl_ : fm .tl = true)
    (hmemu_ : fm .memu = true) (hlanes_ : fm .lanes = true) (hpcb_ : fm .pcb = true) (hcantons_ : fm .cantons = true)
    (hstr_ : fm .str = true) (hservo_ : fm .servo = true) (hseq_ : fm .seq = true) (hbufRecs_ : fm .bufRecs = true)
    (hstreamers_ : fm .streamers = true) (hlink_ : fm .link = true) (hcross_ : fm .cross = true)
    (hcal_ : fm .cal = true) (hdraws_ : fm .draws = true) (d : Die) (rep : BitVec 64) (s : State) :
    Framed fm s (execTimeReplicaCompare d rep s) := by
  apply State.run_frame
  intro t
  simp only [hide_clk hclk_, hide_ite, ite_self, State.raise_frame hclk_ hregs_ hlog_ hstaff_ hresetting_ hmasked_
    hports_ hwin_ htl_ hmemu_ hlanes_ hpcb_ hcantons_ hstr_ hservo_ hseq_ hbufRecs_ hstreamers_ hlink_ hcross_ hcal_
    hdraws_]

theorem State.crossingLost_frame {fm : Part → Bool} (hclk_ : fm .clk = true) (hregs_ : fm .regs = true)
    (hlog_ : fm .log = true) (hstaff_ : fm .staff = true) (hresetting_ : fm .resetting = true)
    (hmasked_ : fm .masked = true) (hports_ : fm .ports = true) (hwin_ : fm .win = true) (htl_ : fm .tl = true)
    (hmemu_ : fm .memu = true) (hlanes_ : fm .lanes = true) (hpcb_ : fm .pcb = true) (hcantons_ : fm .cantons = true)
    (hstr_ : fm .str = true) (hservo_ : fm .servo = true) (hseq_ : fm .seq = true) (hbufRecs_ : fm .bufRecs = true)
    (hstreamers_ : fm .streamers = true) (hlink_ : fm .link = true) (hcross_ : fm .cross = true)
    (hcal_ : fm .cal = true) (hdraws_ : fm .draws = true) (s : State) (n : Nat) :
    (State.crossingLost s n).hide fm = s.hide fm := by
  unfold State.crossingLost
  simp only [hide_ite,
                 (State.loseLane_frame hclk_ hregs_ hlog_ hstaff_ hresetting_ hmasked_ hports_ hwin_ htl_ hmemu_
                   hlanes_ hpcb_ hcantons_ hstr_ hservo_ hseq_ hbufRecs_ hstreamers_ hlink_ hcross_ hcal_ hdraws_),
                 (State.preampLost_frame hclk_ hregs_ hlog_ hstaff_ hresetting_ hmasked_ hports_ hwin_ htl_ hmemu_
                   hlanes_ hpcb_ hcantons_ hstr_ hservo_ hseq_ hbufRecs_ hstreamers_ hlink_ hcross_ hcal_ hdraws_),
                 (State.motorLost_frame hclk_ hregs_ hlog_ hstaff_ hresetting_ hmasked_ hports_ hwin_ htl_ hmemu_
                   hlanes_ hpcb_ hcantons_ hstr_ hservo_ hseq_ hbufRecs_ hstreamers_ hlink_ hcross_ hcal_ hdraws_),
                 ite_self]

theorem execCdcClockTimeout_frame {fm : Part → Bool} (hclk_ : fm .clk = true) (hregs_ : fm .regs = true)
    (hlog_ : fm .log = true) (hstaff_ : fm .staff = true) (hresetting_ : fm .resetting = true)
    (hmasked_ : fm .masked = true) (hports_ : fm .ports = true) (hwin_ : fm .win = true) (htl_ : fm .tl = true)
    (hmemu_ : fm .memu = true) (hlanes_ : fm .lanes = true) (hpcb_ : fm .pcb = true) (hcantons_ : fm .cantons = true)
    (hstr_ : fm .str = true) (hservo_ : fm .servo = true) (hseq_ : fm .seq = true) (hbufRecs_ : fm .bufRecs = true)
    (hstreamers_ : fm .streamers = true) (hlink_ : fm .link = true) (hcross_ : fm .cross = true)
    (hcal_ : fm .cal = true) (hdraws_ : fm .draws = true) (n : Crossing) (s : State) :
    Framed fm s (execCdcClockTimeout n s) := by
  apply State.run_frame
  intro t
  simp only [hide_ite, ite_self, State.crossingLost_frame hclk_ hregs_ hlog_ hstaff_ hresetting_ hmasked_ hports_
    hwin_ htl_ hmemu_ hlanes_ hpcb_ hcantons_ hstr_ hservo_ hseq_ hbufRecs_ hstreamers_ hlink_ hcross_ hcal_ hdraws_,
    State.raise_frame hclk_ hregs_ hlog_ hstaff_ hresetting_ hmasked_ hports_ hwin_ htl_ hmemu_ hlanes_ hpcb_
    hcantons_ hstr_ hservo_ hseq_ hbufRecs_ hstreamers_ hlink_ hcross_ hcal_ hdraws_, State.setCross_frame hcross_,
    State.set_frame hregs_]

theorem execForeignClockReturn_frame {fm : Part → Bool} (hregs_ : fm .regs = true) (hcross_ : fm .cross = true)
    (n : Crossing) (s : State) :
    Framed fm s (execForeignClockReturn n s) := by
  apply State.run_frame
  intro t
  simp only [hide_ite, ite_self, State.setCross_frame hcross_, State.set_frame hregs_]

theorem execCdcPulse_frame {fm : Part → Bool} (hregs_ : fm .regs = true) (n : Crossing) (busy : Bool) (s : State) :
    Framed fm s (execCdcPulse n busy s) := by
  apply State.run_frame
  intro t
  simp only [hide_ite, ite_self, State.countSat_frame hregs_, State.set_frame hregs_]

theorem execCdcReopen_frame {fm : Part → Bool} (hcross_ : fm .cross = true) (n : Crossing) (s : State) :
    Framed fm s (execCdcReopen n s) := by
  apply State.run_frame
  intro t
  simp only [hide_ite, ite_self, State.setCross_frame hcross_]

theorem State.clrResume_frame {fm : Part → Bool} (hregs_ : fm .regs = true) (hclr_ : fm .clr = true) (s : State)
    (c : Nat) (f : Nat) :
    (State.clrResume s c f).hide fm = s.hide fm := by
  unfold State.clrResume
  simp only [hide_ite, ite_self, State.clrRamp_frame hregs_, State.setClr_frame hclr_, State.set_frame hregs_]

theorem State.loopResume_frame {fm : Part → Bool} (hregs_ : fm .regs = true) (hclr_ : fm .clr = true)
    (hbiasA_ : fm .biasA = true) (hspin_ : fm .spin = true) (s : State) (d : Nat) :
    (State.loopResume s d).hide fm = s.hide fm := by
  unfold State.loopResume
  simp only [hide_biasA hbiasA_, State.clrResume_frame hregs_ hclr_, State.each_frame, State.setSpin_frame hspin_,
    State.set_frame hregs_, implies_true]

theorem State.blockResume_frame {fm : Part → Bool} (hclk_ : fm .clk = true) (hregs_ : fm .regs = true)
    (hlog_ : fm .log = true) (hstaff_ : fm .staff = true) (hresetting_ : fm .resetting = true)
    (hmasked_ : fm .masked = true) (hports_ : fm .ports = true) (hwin_ : fm .win = true) (htl_ : fm .tl = true)
    (hmemu_ : fm .memu = true) (hlanes_ : fm .lanes = true) (hpcb_ : fm .pcb = true) (hcantons_ : fm .cantons = true)
    (hstr_ : fm .str = true) (hservo_ : fm .servo = true) (hseq_ : fm .seq = true) (hclr_ : fm .clr = true)
    (hbiasA_ : fm .biasA = true) (hspin_ : fm .spin = true) (hcache_ : fm .cache = true)
    (hstaged_ : fm .staged = true) (hbufRecs_ : fm .bufRecs = true) (hstreamers_ : fm .streamers = true)
    (hlink_ : fm .link = true) (hcross_ : fm .cross = true) (hcal_ : fm .cal = true) (hdraws_ : fm .draws = true)
    (s : State) (x1 : BlockId) :
    (State.blockResume s x1).hide fm = s.hide fm := by
  unfold State.blockResume
  repeat' (first | simp only [hide_ite, ite_self, State.loopResume_frame hregs_ hclr_ hbiasA_ hspin_,
                 State.peerBack_frame hregs_ hcross_, State.seqReload_frame hregs_ hseq_, State.setLane_frame hlanes_,
                 State.set_frame hregs_,
                 State.stmResetEnd_frame hclk_ hregs_ hlog_ hstaff_ hresetting_ hmasked_ hports_ hwin_ htl_ hmemu_
                   hlanes_ hpcb_ hcantons_ hstr_ hservo_ hseq_ hcache_ hstaged_ hbufRecs_ hstreamers_ hlink_ hcross_
                   hcal_ hdraws_]
                 | split)

theorem execBlockResetEnd_frame {fm : Part → Bool} (hclk_ : fm .clk = true) (hregs_ : fm .regs = true)
    (hlog_ : fm .log = true) (hstaff_ : fm .staff = true) (hresetting_ : fm .resetting = true)
    (hmasked_ : fm .masked = true) (hports_ : fm .ports = true) (hwin_ : fm .win = true) (htl_ : fm .tl = true)
    (hmemu_ : fm .memu = true) (hlanes_ : fm .lanes = true) (hpcb_ : fm .pcb = true) (hcantons_ : fm .cantons = true)
    (hstr_ : fm .str = true) (hservo_ : fm .servo = true) (hseq_ : fm .seq = true) (hclr_ : fm .clr = true)
    (hbiasA_ : fm .biasA = true) (hspin_ : fm .spin = true) (hcache_ : fm .cache = true)
    (hstaged_ : fm .staged = true) (hbufRecs_ : fm .bufRecs = true) (hstreamers_ : fm .streamers = true)
    (hlink_ : fm .link = true) (hcross_ : fm .cross = true) (hcal_ : fm .cal = true) (hdraws_ : fm .draws = true)
    (b : BlockId) (s : State) :
    Framed fm s (execBlockResetEnd b s) := by
  apply State.run_frame
  intro t
  simp only [hide_ite, ite_self, State.blockResume_frame hclk_ hregs_ hlog_ hstaff_ hresetting_ hmasked_ hports_ hwin_
    htl_ hmemu_ hlanes_ hpcb_ hcantons_ hstr_ hservo_ hseq_ hclr_ hbiasA_ hspin_ hcache_ hstaged_ hbufRecs_
    hstreamers_ hlink_ hcross_ hcal_ hdraws_, State.endWindow_frame hclk_ hresetting_]

theorem execFaultMaskEnd_frame {fm : Part → Bool} (hclk_ : fm .clk = true) (hmasked_ : fm .masked = true)
    (b : BlockId) (s : State) :
    Framed fm s (execFaultMaskEnd b s) := by
  apply State.run_frame
  intro t
  simp only [hide_clk_masked hclk_ hmasked_, hide_ite, ite_self]

theorem execFltFirstClear_frame {fm : Part → Bool} (hregs_ : fm .regs = true) (hlog_ : fm .log = true) (o : Origin)
    (s : State) :
    Framed fm s (execFltFirstClear o s) := by
  apply State.run_frame
  intro t
  simp only [State.logPriv_frame hregs_ hlog_, State.wr_frame hregs_]

theorem execFltPendClear_frame {fm : Part → Bool} (hregs_ : fm .regs = true) (hlog_ : fm .log = true) (o : Origin)
    (k : Fin 10) (v : BitVec 32) (s : State) :
    Framed fm s (execFltPendClear o k v s) := by
  apply State.run_frame
  intro t
  simp only [State.logPriv_frame hregs_ hlog_, State.wr_frame hregs_]

theorem State.supplySample_frame {fm : Part → Bool} (hregs_ : fm .regs = true) (s : State) (v : Nat) (mv : Nat) :
    (State.supplySample s v mv).hide fm = s.hide fm := by
  unfold State.supplySample
  simp only [hide_ite, ite_self, State.set_frame hregs_]

theorem State.junctionSample_frame {fm : Part → Bool} (hregs_ : fm .regs = true) (s : State) (i : Nat) (t : Nat) :
    (State.junctionSample s i t).hide fm = s.hide fm := by
  unfold State.junctionSample
  simp only [hide_ite, ite_self, State.set_frame hregs_]

theorem State.supplyFail_frame {fm : Part → Bool} (hports_ : fm .ports = true) (s : State) :
    (State.supplyFail s).hide fm = s.hide fm := by
  unfold State.supplyFail
  simp only [hide_ite, ite_self, State.failAssumption_frame hports_]

theorem execMonitorSample_frame {fm : Part → Bool} (hregs_ : fm .regs = true) (hports_ : fm .ports = true)
    (mv : Vector (BitVec 12) 5) (tj : Vector (BitVec 16) 9) (s : State) :
    Framed fm s (execMonitorSample mv tj s) := by
  apply State.run_frame
  intro t
  simp only [hide_ite, ite_self, State.each_frame, State.junctionSample_frame hregs_, State.set_frame hregs_,
    State.supplyFail_frame hports_, State.supplySample_frame hregs_, implies_true]

end Sys2Proof.Machine
end

