-- ==== Sys2Proof/Laws/FrameAccess.lean ====
section
/-! SUPPORT. Laws/FrameAccess.lean: which parts of the state the functions of Machine/Access.lean can change. -/

namespace Sys2Proof.Machine

theorem State.unmapped_frame {fm : Part → Bool} (hregs_ : fm .regs = true) (hlog_ : fm .log = true) (s : State)
    (o : Origin) (a : Nat) (write : Bool) :
    (State.unmapped s o a write).hide fm = s.hide fm := by
  unfold State.unmapped
  simp only [State.event_frame hregs_ hlog_]

theorem State.afterRead_frame {fm : Part → Bool} (hregs_ : fm .regs = true) (hports_ : fm .ports = true)
    (htl_ : fm .tl = true) (s : State) (r : RegDef) (ix : List Nat) (a : Nat) :
    (State.afterRead s r ix a).hide fm = s.hide fm := by
  unfold State.afterRead
  repeat' (first | simp only [hide_ports hports_, State.pop_frame hregs_ hports_ htl_, State.set_frame hregs_,
                 State.wr_frame hregs_] | split)

theorem State.readAt_frame {fm : Part → Bool} (hregs_ : fm .regs = true) (hlog_ : fm .log = true)
    (hports_ : fm .ports = true) (htl_ : fm .tl = true) (s : State) (o : Origin) (a : Nat) :
    (State.readAt s o a).1.hide fm = s.hide fm := by
  unfold State.readAt
  repeat' (first | simp only [State.afterRead_frame hregs_ hports_ htl_,
                 State.unmapped_frame hregs_ hlog_] | split)

theorem State.readReg_frame {fm : Part → Bool} (hregs_ : fm .regs = true) (hlog_ : fm .log = true)
    (hports_ : fm .ports = true) (htl_ : fm .tl = true) (s : State) (o : Origin) (a : Nat) :
    (State.readReg s o a).1.hide fm = s.hide fm := by
  unfold State.readReg
  repeat' (first | simp only [State.readAt_frame hregs_ hlog_ hports_ htl_,
                 State.viewViolation_frame hregs_ hlog_] | split)

theorem State.logWrite_frame {fm : Part → Bool} (hregs_ : fm .regs = true) (hlog_ : fm .log = true) (s : State)
    (o : Origin) (a : Nat) (v : Nat) (result : Nat) :
    (State.logWrite s o a v result).hide fm = s.hide fm := by
  unfold State.logWrite
  simp only [hide_ite, ite_self, State.logPriv_frame hregs_ hlog_]

theorem State.plainWrite_frame {fm : Part → Bool} (hregs_ : fm .regs = true) (hlog_ : fm .log = true) (s : State)
    (o : Origin) (r : RegDef) (a : Nat) (v : Nat) :
    (State.plainWrite s o r a v).hide fm = s.hide fm := by
  unfold State.plainWrite
  simp only [State.logWrite_frame hregs_ hlog_, State.wr_frame hregs_]

theorem State.pageWrite_frame {fm : Part → Bool} (hclk_ : fm .clk = true) (hregs_ : fm .regs = true)
    (hlog_ : fm .log = true) (hstaff_ : fm .staff = true) (hresetting_ : fm .resetting = true)
    (hmasked_ : fm .masked = true) (hports_ : fm .ports = true) (hwin_ : fm .win = true) (htl_ : fm .tl = true)
    (hmemu_ : fm .memu = true) (hlanes_ : fm .lanes = true) (hpcb_ : fm .pcb = true) (hcantons_ : fm .cantons = true)
    (hstr_ : fm .str = true) (hservo_ : fm .servo = true) (hseq_ : fm .seq = true) (hcache_ : fm .cache = true)
    (hstaged_ : fm .staged = true) (hbufRecs_ : fm .bufRecs = true) (hstreamers_ : fm .streamers = true)
    (hlink_ : fm .link = true) (hcross_ : fm .cross = true) (hcal_ : fm .cal = true) (hdraws_ : fm .draws = true)
    (s : State) (o : Origin) (r : RegDef) (n : Nat) (a : Nat) (v : Nat) :
    (State.pageWrite s o r n a v).hide fm = s.hide fm := by
  unfold State.pageWrite
  repeat' (first | simp only [hide_ite, ite_self, State.countSat_frame hregs_,
                 State.hoist_frame hclk_ hregs_ hlog_ hstaff_ hresetting_ hmasked_ hports_ hwin_ htl_ hmemu_ hlanes_
                   hpcb_ hcantons_ hstr_ hservo_ hseq_ hcache_ hstaged_ hbufRecs_ hstreamers_ hlink_ hcross_ hcal_
                   hdraws_,
                 State.plainWrite_frame hregs_ hlog_, State.slotOp_frame hregs_ hlog_ hports_] | split)

theorem State.injCtl_frame {fm : Part → Bool} (hregs_ : fm .regs = true) (hlog_ : fm .log = true)
    (hmemu_ : fm .memu = true) (s : State) (o : Origin) (v : Nat) :
    (State.injCtl s o v).hide fm = s.hide fm := by
  unfold State.injCtl
  simp only
  have e : (if bitAt v 1 then s.set MEM_INJ_CTL_DONE 0 else s).hide fm = s.hide fm := by
    simp only [hide_ite, (State.set_frame hregs_), ite_self]
  revert e
  generalize (if bitAt v 1 then s.set MEM_INJ_CTL_DONE 0 else s) = u
  intro e
  split
  · exact ((State.logPriv_frame hregs_ hlog_) _ _ _ _ _).trans e
  · split
    · exact (State.via_frame _ _ ((execInjectArm_frame hregs_ hlog_ hmemu_) _ _)).trans e
    · exact (State.via_frame _ _ ((execInjectDisarm_frame hregs_ hlog_) _ _)).trans e

theorem State.calCtlWrite_frame {fm : Part → Bool} (hregs_ : fm .regs = true) (hlog_ : fm .log = true)
    (hcal_ : fm .cal = true) (s : State) (o : Origin) (r : RegDef) (v : Nat) :
    (State.calCtlWrite s o r v).hide fm = s.hide fm := by
  unfold State.calCtlWrite
  repeat' (first | simp only [hide_ite, State.calBusy_frame hregs_ hlog_,
                 State.plainWrite_frame hregs_ hlog_, State.via_frame, execCalAnalog_frame hregs_ hlog_ hcal_,
                 execCalMedia_frame hregs_ hlog_ hcal_, execCalRefdac_frame hregs_ hlog_ hcal_,
                 execCalTimebase_frame hregs_ hlog_ hcal_] | split)

theorem State.stmWrite_frame {fm : Part → Bool} (hclk_ : fm .clk = true) (hregs_ : fm .regs = true)
    (hlog_ : fm .log = true) (hstaff_ : fm .staff = true) (hresetting_ : fm .resetting = true)
    (hmasked_ : fm .masked = true) (hports_ : fm .ports = true) (hwin_ : fm .win = true) (htl_ : fm .tl = true)
    (hmemu_ : fm .memu = true) (hlanes_ : fm .lanes = true) (hpcb_ : fm .pcb = true) (hcantons_ : fm .cantons = true)
    (hstr_ : fm .str = true) (hservo_ : fm .servo = true) (hseq_ : fm .seq = true) (hcache_ : fm .cache = true)
    (hstaged_ : fm .staged = true) (hbufRecs_ : fm .bufRecs = true) (hstreamers_ : fm .streamers = true)
    (hlink_ : fm .link = true) (hcross_ : fm .cross = true) (hcal_ : fm .cal = true) (hdraws_ : fm .draws = true)
    (s : State) (o : Origin) (r : RegDef) (n : Nat) (a : Nat) (v : Nat) :
    (State.stmWrite s o r n a v).hide fm = s.hide fm := by
  unfold State.stmWrite
  repeat' (first | simp only [hide_ite, ite_self, State.logPriv_frame hregs_ hlog_,
                 State.plainWrite_frame hregs_ hlog_, State.via_frame,
                 execStmGo_frame hclk_ hregs_ hlog_ hstaff_ hresetting_ hmasked_ hports_ hwin_ htl_ hmemu_ hlanes_
                   hpcb_ hcantons_ hstr_ hservo_ hseq_ hcache_ hstaged_ hbufRecs_ hstreamers_ hlink_ hcross_ hcal_
                   hdraws_,
                 execStmPause_frame hregs_ hlog_ hstreamers_, execStmResume_frame hregs_ hlog_,
                 execStmStop_frame hregs_ hlog_ hstreamers_] | split)

theorem State.cluWrite_frame {fm : Part → Bool} (hclk_ : fm .clk = true) (hregs_ : fm .regs = true)
    (hlog_ : fm .log = true) (hstaff_ : fm .staff = true) (hresetting_ : fm .resetting = true)
    (hmasked_ : fm .masked = true) (hports_ : fm .ports = true) (hwin_ : fm .win = true) (htl_ : fm .tl = true)
    (hmemu_ : fm .memu = true) (hlanes_ : fm .lanes = true) (hpcb_ : fm .pcb = true) (hcantons_ : fm .cantons = true)
    (hstr_ : fm .str = true) (hservo_ : fm .servo = true) (hseq_ : fm .seq = true) (hclr_ : fm .clr = true)
    (hcache_ : fm .cache = true) (hstaged_ : fm .staged = true) (hbufRecs_ : fm .bufRecs = true)
    (hstreamers_ : fm .streamers = true) (hlink_ : fm .link = true) (hcross_ : fm .cross = true)
    (hcal_ : fm .cal = true) (hdraws_ : fm .draws = true) (s : State) (o : Origin) (r : RegDef) (c : Nat) (f : Nat)
    (a : Nat) (v : Nat) :
    (State.cluWrite s o r c f a v).hide fm = s.hide fm := by
  unfold State.cluWrite
  repeat' (first | simp only [hide_ite, ite_self, State.ctlReject_frame hregs_ hlog_,
                 State.laneCtl_frame hclk_ hregs_ hlog_ hstaff_ hresetting_ hmasked_ hports_ hwin_ htl_ hmemu_ hlanes_
                   hpcb_ hcantons_ hstr_ hservo_ hseq_ hclr_ hbufRecs_ hstreamers_ hlink_ hcross_ hcal_ hdraws_,
                 State.logPriv_frame hregs_ hlog_, State.pcbReg_frame hregs_ hlog_ hpcb_,
                 State.plainWrite_frame hregs_ hlog_, State.via_frame, execCsRead_frame hregs_ hlog_ hseq_,
                 execCsVerify_frame hregs_ hlog_ hseq_, execCsWrite_frame hregs_ hlog_ hseq_,
                 execGflagWrite_frame hregs_ hlog_,
                 execSeqHalt_frame hregs_ hlog_ hlanes_ hpcb_ hcantons_ hstr_ hseq_ hstreamers_ hdraws_,
                 execSeqRestart_frame hregs_ hlog_ hseq_,
                 execSeqStep_frame hclk_ hregs_ hlog_ hstaff_ hresetting_ hmasked_ hports_ hwin_ htl_ hmemu_ hlanes_
                   hpcb_ hcantons_ hstr_ hservo_ hseq_ hcache_ hstaged_ hbufRecs_ hstreamers_ hlink_ hcross_ hcal_
                   hdraws_,
                 execSeqTest_frame hregs_ hlog_] | split)

theorem State.coreWrite_frame {fm : Part → Bool} (hregs_ : fm .regs = true) (hlog_ : fm .log = true)
    (hports_ : fm .ports = true) (hwin_ : fm .win = true) (hmemu_ : fm .memu = true) (hmcb_ : fm .mcb = true)
    (hcache_ : fm .cache = true) (hcal_ : fm .cal = true) (s : State) (o : Origin) (r : RegDef) (i : Nat) (a : Nat)
    (v : Nat) :
    (State.coreWrite s o r i a v).hide fm = s.hide fm := by
  unfold State.coreWrite
  repeat' (first | simp only [hide_ite, ite_self, State.budgetCmd_frame hregs_ hlog_ hports_,
                 State.budgetEvent_frame hregs_ hlog_, State.calBusy_frame hregs_ hlog_,
                 State.calCtlWrite_frame hregs_ hlog_ hcal_, State.grantCmd_frame hregs_ hlog_ hwin_,
                 State.grantEvent_frame hregs_ hlog_, State.holdWrite_frame hregs_ hlog_ hwin_,
                 State.injCtl_frame hregs_ hlog_ hmemu_, State.injEvent_frame hregs_ hlog_,
                 State.logPriv_frame hregs_ hlog_, State.mcbReg_frame hregs_ hlog_ hmcb_,
                 State.plainWrite_frame hregs_ hlog_, State.portCfg_frame hregs_ hlog_ hports_,
                 State.rightsCmd_frame hregs_ hlog_ hports_, State.rightsEvent_frame hregs_ hlog_, State.via_frame,
                 execCacheDisable_frame hregs_ hlog_, execCacheEnable_frame hregs_ hlog_,
                 execCacheInvalidate_frame hregs_ hlog_ hcache_, execCalStore_frame hregs_ hlog_ hcal_,
                 execCalendarClear_frame hregs_ hlog_, execCalendarSet_frame hregs_ hlog_,
                 execFltFirstClear_frame hregs_ hlog_, execFltPendClear_frame hregs_ hlog_,
                 execLogFreeze_frame hregs_ hlog_, execLogReadSelect_frame hregs_ hlog_,
                 execLogThaw_frame hregs_ hlog_] | split)

theorem State.writeAt_frame {fm : Part → Bool} (hclk_ : fm .clk = true) (hregs_ : fm .regs = true)
    (hlog_ : fm .log = true) (hstaff_ : fm .staff = true) (hresetting_ : fm .resetting = true)
    (hmasked_ : fm .masked = true) (hports_ : fm .ports = true) (hwin_ : fm .win = true) (htl_ : fm .tl = true)
    (hmemu_ : fm .memu = true) (hlanes_ : fm .lanes = true) (hpcb_ : fm .pcb = true) (hmcb_ : fm .mcb = true)
    (hcantons_ : fm .cantons = true) (hstr_ : fm .str = true) (hservo_ : fm .servo = true) (hseq_ : fm .seq = true)
    (hclr_ : fm .clr = true) (hcache_ : fm .cache = true) (hstaged_ : fm .staged = true)
    (hbufRecs_ : fm .bufRecs = true) (hstreamers_ : fm .streamers = true) (hlink_ : fm .link = true)
    (hcross_ : fm .cross = true) (hcal_ : fm .cal = true) (hdraws_ : fm .draws = true) (s : State) (o : Origin)
    (a : Nat) (v : Nat) :
    (State.writeAt s o a v).hide fm = s.hide fm := by
  unfold State.writeAt
  repeat' (first | simp only [hide_ite, ite_self,
                 State.cluWrite_frame hclk_ hregs_ hlog_ hstaff_ hresetting_ hmasked_ hports_ hwin_ htl_ hmemu_
                   hlanes_ hpcb_ hcantons_ hstr_ hservo_ hseq_ hclr_ hcache_ hstaged_ hbufRecs_ hstreamers_ hlink_
                   hcross_ hcal_ hdraws_,
                 State.coreWrite_frame hregs_ hlog_ hports_ hwin_ hmemu_ hmcb_ hcache_ hcal_,
                 State.pageWrite_frame hclk_ hregs_ hlog_ hstaff_ hresetting_ hmasked_ hports_ hwin_ htl_ hmemu_
                   hlanes_ hpcb_ hcantons_ hstr_ hservo_ hseq_ hcache_ hstaged_ hbufRecs_ hstreamers_ hlink_ hcross_
                   hcal_ hdraws_,
                 State.stmWrite_frame hclk_ hregs_ hlog_ hstaff_ hresetting_ hmasked_ hports_ hwin_ htl_ hmemu_
                   hlanes_ hpcb_ hcantons_ hstr_ hservo_ hseq_ hcache_ hstaged_ hbufRecs_ hstreamers_ hlink_ hcross_
                   hcal_ hdraws_,
                 State.unmapped_frame hregs_ hlog_, State.viewViolation_frame hregs_ hlog_] | split)

theorem State.writeReg_frame {fm : Part → Bool} (hclk_ : fm .clk = true) (hregs_ : fm .regs = true)
    (hlog_ : fm .log = true) (hstaff_ : fm .staff = true) (hresetting_ : fm .resetting = true)
    (hmasked_ : fm .masked = true) (hports_ : fm .ports = true) (hwin_ : fm .win = true) (htl_ : fm .tl = true)
    (hmemu_ : fm .memu = true) (hlanes_ : fm .lanes = true) (hpcb_ : fm .pcb = true) (hmcb_ : fm .mcb = true)
    (hcantons_ : fm .cantons = true) (hstr_ : fm .str = true) (hservo_ : fm .servo = true) (hseq_ : fm .seq = true)
    (hclr_ : fm .clr = true) (hcache_ : fm .cache = true) (hstaged_ : fm .staged = true)
    (hbufRecs_ : fm .bufRecs = true) (hstreamers_ : fm .streamers = true) (hlink_ : fm .link = true)
    (hcross_ : fm .cross = true) (hcal_ : fm .cal = true) (hdraws_ : fm .draws = true) (s : State) (o : Origin)
    (a : Nat) (v : Nat) :
    (State.writeReg s o a v).hide fm = s.hide fm := by
  unfold State.writeReg
  repeat' (first | simp only [State.viewViolation_frame hregs_ hlog_,
                 State.writeAt_frame hclk_ hregs_ hlog_ hstaff_ hresetting_ hmasked_ hports_ hwin_ htl_ hmemu_ hlanes_
                   hpcb_ hmcb_ hcantons_ hstr_ hservo_ hseq_ hclr_ hcache_ hstaged_ hbufRecs_ hstreamers_ hlink_
                   hcross_ hcal_ hdraws_]
                 | split)

theorem execRegisterWrite_frame {fm : Part → Bool} (hclk_ : fm .clk = true) (hregs_ : fm .regs = true)
    (hlog_ : fm .log = true) (hstaff_ : fm .staff = true) (hresetting_ : fm .resetting = true)
    (hmasked_ : fm .masked = true) (hports_ : fm .ports = true) (hwin_ : fm .win = true) (htl_ : fm .tl = true)
    (hmemu_ : fm .memu = true) (hlanes_ : fm .lanes = true) (hpcb_ : fm .pcb = true) (hmcb_ : fm .mcb = true)
    (hcantons_ : fm .cantons = true) (hstr_ : fm .str = true) (hservo_ : fm .servo = true) (hseq_ : fm .seq = true)
    (hclr_ : fm .clr = true) (hcache_ : fm .cache = true) (hstaged_ : fm .staged = true)
    (hbufRecs_ : fm .bufRecs = true) (hstreamers_ : fm .streamers = true) (hlink_ : fm .link = true)
    (hcross_ : fm .cross = true) (hcal_ : fm .cal = true) (hdraws_ : fm .draws = true) (o : Origin) (a : BitVec 48)
    (v : Word) (s : State) :
    Framed fm s (execRegisterWrite o a v s) := by
  apply State.run_frame
  intro t
  simp only [State.writeReg_frame hclk_ hregs_ hlog_ hstaff_ hresetting_ hmasked_ hports_ hwin_ htl_ hmemu_ hlanes_
    hpcb_ hmcb_ hcantons_ hstr_ hservo_ hseq_ hclr_ hcache_ hstaged_ hbufRecs_ hstreamers_ hlink_ hcross_ hcal_
    hdraws_]

theorem execRcFieldRead_frame {fm : Part → Bool} (hregs_ : fm .regs = true) (hlog_ : fm .log = true)
    (hports_ : fm .ports = true) (htl_ : fm .tl = true) (o : Origin) (a : BitVec 48) (s : State) :
    Framed fm s (execRcFieldRead o a s) := by
  apply State.run_frame
  intro t
  simp only [State.readReg_frame hregs_ hlog_ hports_ htl_]

theorem State.putSlot_frame {fm : Part → Bool} (hregs_ : fm .regs = true) (hlog_ : fm .log = true)
    (hmem_ : fm .mem = true) (hmemX_ : fm .memX = true) (hmemu_ : fm .memu = true) (s : State) (origin : Nat)
    (m : Nat) (off : Nat) (x4 : List Nat) :
    (State.putSlot s origin m off x4).hide fm = s.hide fm := by
  fun_induction State.putSlot <;> simp_all only [State.putReq_frame hregs_ hlog_ hmem_ hmemX_ hmemu_]

theorem State.windowViolation_frame {fm : Part → Bool} (hregs_ : fm .regs = true) (hlog_ : fm .log = true)
    (hports_ : fm .ports = true) (s : State) (b : Nat) (origin : Nat) (m : Nat) (write : Bool) :
    (State.windowViolation s b origin m write).hide fm = s.hide fm := by
  unfold State.windowViolation
  simp only [hide_ports hports_, State.countSat_frame hregs_, State.violation_frame hregs_ hlog_]

theorem State.readSlot_frame {fm : Part → Bool} (hregs_ : fm .regs = true) (hlog_ : fm .log = true)
    (hports_ : fm .ports = true) (s : State) (o : Origin) (a : Nat) (n : Nat) :
    (State.readSlot s o a n).1.hide fm = s.hide fm := by
  unfold State.readSlot
  repeat' (first | simp only [State.unmapped_frame hregs_ hlog_,
                 State.viewViolation_frame hregs_ hlog_, State.windowViolation_frame hregs_ hlog_ hports_] | split)

theorem State.writeOwned_frame {fm : Part → Bool} (hregs_ : fm .regs = true) (hlog_ : fm .log = true)
    (hports_ : fm .ports = true) (hmem_ : fm .mem = true) (hmemX_ : fm .memX = true) (hmemu_ : fm .memu = true)
    (s : State) (b : Nat) (origin : Nat) (m : Nat) (off : Nat) (ws : List Nat) :
    (State.writeOwned s b origin m off ws).hide fm = s.hide fm := by
  unfold State.writeOwned
  simp only [hide_ite, ite_self, State.putSlot_frame hregs_ hlog_ hmem_ hmemX_ hmemu_, State.windowViolation_frame
    hregs_ hlog_ hports_]

theorem State.writeSlot_frame {fm : Part → Bool} (hregs_ : fm .regs = true) (hlog_ : fm .log = true)
    (hports_ : fm .ports = true) (hmem_ : fm .mem = true) (hmemX_ : fm .memX = true) (hmemu_ : fm .memu = true)
    (s : State) (o : Origin) (a : Nat) (ws : List Nat) :
    (State.writeSlot s o a ws).hide fm = s.hide fm := by
  unfold State.writeSlot
  repeat' (first | simp only [State.putSlot_frame hregs_ hlog_ hmem_ hmemX_ hmemu_,
                 State.unmapped_frame hregs_ hlog_, State.viewViolation_frame hregs_ hlog_,
                 State.writeOwned_frame hregs_ hlog_ hports_ hmem_ hmemX_ hmemu_] | split)

theorem State.donePosted_frame {fm : Part → Bool} (hlink_ : fm .link = true) (s : State) (p : Nat) (n : Nat) :
    (State.donePosted s p n).hide fm = s.hide fm := by
  unfold State.donePosted
  simp only [State.setLink_frame hlink_]

theorem State.answer_frame {fm : Part → Bool} (hlink_ : fm .link = true) (s : State) (p : Nat) (k : Pkt) :
    (State.answer s p k).hide fm = s.hide fm := by
  unfold State.answer
  exact ((State.sendPkt_frame hlink_) _ _ _).trans ((State.setLink_frame hlink_) _ _ _)

theorem execLinkRreg_frame {fm : Part → Bool} (hregs_ : fm .regs = true) (hlog_ : fm .log = true)
    (hports_ : fm .ports = true) (htl_ : fm .tl = true) (hlink_ : fm .link = true) (p : LinkPort) (view : Bool)
    (func : Fin 256) (burgee : Fin 4096) (tag : BitVec 12) (a : BitVec 48) (s : State) :
    Framed fm s (execLinkRreg p view func burgee tag a s) := by
  apply State.run_frame
  intro t
  simp only [State.answer_frame hlink_, State.readReg_frame hregs_ hlog_ hports_ htl_]

theorem execLinkWreg_frame {fm : Part → Bool} (hclk_ : fm .clk = true) (hregs_ : fm .regs = true)
    (hlog_ : fm .log = true) (hstaff_ : fm .staff = true) (hresetting_ : fm .resetting = true)
    (hmasked_ : fm .masked = true) (hports_ : fm .ports = true) (hwin_ : fm .win = true) (htl_ : fm .tl = true)
    (hmemu_ : fm .memu = true) (hlanes_ : fm .lanes = true) (hpcb_ : fm .pcb = true) (hmcb_ : fm .mcb = true)
    (hcantons_ : fm .cantons = true) (hstr_ : fm .str = true) (hservo_ : fm .servo = true) (hseq_ : fm .seq = true)
    (hclr_ : fm .clr = true) (hcache_ : fm .cache = true) (hstaged_ : fm .staged = true)
    (hbufRecs_ : fm .bufRecs = true) (hstreamers_ : fm .streamers = true) (hlink_ : fm .link = true)
    (hcross_ : fm .cross = true) (hcal_ : fm .cal = true) (hdraws_ : fm .draws = true) (p : LinkPort) (view : Bool)
    (func : Fin 256) (burgee : Fin 4096) (a : BitVec 32) (v : Word) (s : State) :
    Framed fm s (execLinkWreg p view func burgee a v s) := by
  apply State.run_frame
  intro t
  simp only [State.donePosted_frame hlink_, State.writeReg_frame hclk_ hregs_ hlog_ hstaff_ hresetting_ hmasked_
    hports_ hwin_ htl_ hmemu_ hlanes_ hpcb_ hmcb_ hcantons_ hstr_ hservo_ hseq_ hclr_ hcache_ hstaged_ hbufRecs_
    hstreamers_ hlink_ hcross_ hcal_ hdraws_]

theorem execLinkWrd_frame {fm : Part → Bool} (hregs_ : fm .regs = true) (hlog_ : fm .log = true)
    (hports_ : fm .ports = true) (hlink_ : fm .link = true) (p : LinkPort) (view : Bool) (func : Fin 256)
    (burgee : Fin 4096) (tag : BitVec 12) (lenw : Fin 1024) (a : BitVec 48) (s : State) :
    Framed fm s (execLinkWrd p view func burgee tag lenw a s) := by
  apply State.run_frame
  intro t
  simp only [State.answer_frame hlink_, State.readSlot_frame hregs_ hlog_ hports_]

theorem execLinkWwr_frame {fm : Part → Bool} (hregs_ : fm .regs = true) (hlog_ : fm .log = true)
    (hports_ : fm .ports = true) (hmem_ : fm .mem = true) (hmemX_ : fm .memX = true) (hmemu_ : fm .memu = true)
    (hlink_ : fm .link = true) (p : LinkPort) (view : Bool) (func : Fin 256) (burgee : Fin 4096) (a : BitVec 48)
    (data : List Word) (s : State) :
    Framed fm s (execLinkWwr p view func burgee a data s) := by
  apply State.run_frame
  intro t
  simp only [State.donePosted_frame hlink_, State.writeSlot_frame hregs_ hlog_ hports_ hmem_ hmemX_ hmemu_]

end Sys2Proof.Machine
end

