-- ==== Sys2Proof/Laws/FrameImageCheck.lean ====
section
/-! SUPPORT. Laws/FrameImageCheck.lean: which parts of the state the functions of Machine/ImageCheck.lean can change. -/

namespace Sys2Proof.Machine

theorem State.load_frame {fm : Part → Bool} (hregs_ : fm .regs = true) (s : State) (x1 : List (Nat × BitVec 32)) :
    (State.load s x1).hide fm = s.hide fm := by
  fun_induction State.load <;> simp_all only [State.wr_frame hregs_]

theorem State.computed_frame {fm : Part → Bool} (hregs_ : fm .regs = true) (s : State) :
    (State.computed s).hide fm = s.hide fm := by
  unfold State.computed
  simp only [State.each_frame, State.set_frame hregs_, State.wr_frame hregs_, implies_true]

end Sys2Proof.Machine
end

