-- ==== Sys2Proof/Laws/FrameStart.lean ====
section
/-! SUPPORT. Laws/FrameStart.lean: which parts of the state the functions of Machine/Start.lean can change. -/

namespace Sys2Proof.Machine

theorem State.startResult_frame {fm : Part → Bool} (hregs_ : fm .regs = true) (hlog_ : fm .log = true) (s : State)
    (code : Nat) (detail : Nat) :
    (State.startResult s code detail).hide fm = s.hide fm := by
  unfold State.startResult
  simp only [State.event_frame hregs_ hlog_, State.set_frame hregs_]

theorem State.drainNow_frame {fm : Part → Bool} (hregs_ : fm .regs = true) (hlog_ : fm .log = true) (s : State) :
    (State.drainNow s).hide fm = s.hide fm := by
  unfold State.drainNow
  simp only [hide_ite, ite_self, State.drainIntake_frame hregs_ hlog_]

theorem State.startHalt_frame {fm : Part → Bool} (hclk_ : fm .clk = true) (hregs_ : fm .regs = true)
    (hlog_ : fm .log = true) (s : State) (code : Nat) (detail : Nat) :
    (State.startHalt s code detail).hide fm = s.hide fm := by
  unfold State.startHalt
  simp only [hide_clk hclk_, State.drainNow_frame hregs_ hlog_, State.startResult_frame hregs_ hlog_]

theorem State.keepOut_frame {fm : Part → Bool} (hregs_ : fm .regs = true) (hports_ : fm .ports = true)
    (hwin_ : fm .win = true) (htl_ : fm .tl = true) (hlanes_ : fm .lanes = true) (hpcb_ : fm .pcb = true)
    (hcantons_ : fm .cantons = true) (hstr_ : fm .str = true) (hseq_ : fm .seq = true)
    (hbufRecs_ : fm .bufRecs = true) (hstreamers_ : fm .streamers = true) (hlink_ : fm .link = true)
    (hcal_ : fm .cal = true) (hdraws_ : fm .draws = true) (s : State) (c : Nat) :
    (State.keepOut s c).hide fm = s.hide fm := by
  unfold State.keepOut
  simp only [hide_ite, ite_self, State.loseCluster_frame hregs_ hports_ hwin_ htl_ hlanes_ hpcb_ hcantons_ hstr_ hseq_
    hbufRecs_ hstreamers_ hlink_ hcal_ hdraws_, State.set_frame hregs_]

theorem State.startComplete_frame {fm : Part → Bool} (hregs_ : fm .regs = true) (hlog_ : fm .log = true) (s : State) :
    (State.startComplete s).hide fm = s.hide fm := by
  unfold State.startComplete
  simp only [hide_ite, ite_self, State.event_frame hregs_ hlog_, State.set_frame hregs_]

theorem State.allOut_frame {fm : Part → Bool} (hregs_ : fm .regs = true) (hlog_ : fm .log = true)
    (hports_ : fm .ports = true) (hwin_ : fm .win = true) (htl_ : fm .tl = true) (hlanes_ : fm .lanes = true)
    (hpcb_ : fm .pcb = true) (hcantons_ : fm .cantons = true) (hstr_ : fm .str = true) (hseq_ : fm .seq = true)
    (hbufRecs_ : fm .bufRecs = true) (hstreamers_ : fm .streamers = true) (hlink_ : fm .link = true)
    (hcal_ : fm .cal = true) (hdraws_ : fm .draws = true) (s : State) :
    (State.allOut s).hide fm = s.hide fm := by
  unfold State.allOut
  simp only [State.each_frame, State.keepOut_frame hregs_ hports_ hwin_ htl_ hlanes_ hpcb_ hcantons_ hstr_ hseq_
    hbufRecs_ hstreamers_ hlink_ hcal_ hdraws_, State.startComplete_frame hregs_ hlog_, implies_true]

theorem State.repairRow_frame {fm : Part → Bool} (hregs_ : fm .regs = true) (hlog_ : fm .log = true)
    (hstart_ : fm .start = true) (s : State) (e : Nat × Bool) :
    (State.repairRow s e).hide fm = s.hide fm := by
  unfold State.repairRow
  simp only [hide_start hstart_, hide_ite, ite_self, State.addCount_frame hregs_, State.countSat_frame hregs_,
    State.event_frame hregs_ hlog_]

theorem State.linkFields_frame {fm : Part → Bool} (hregs_ : fm .regs = true) (s : State) (h : Header) :
    (State.linkFields s h).hide fm = s.hide fm := by
  unfold State.linkFields
  simp only [State.each_frame, State.set_frame hregs_, State.wr_frame hregs_, implies_true]

theorem State.trainWith_frame {fm : Part → Bool} (hregs_ : fm .regs = true) (hlink_ : fm .link = true) (s : State)
    (old : Option Header) (h : Header) :
    (State.trainWith s old h).hide fm = s.hide fm := by
  unfold State.trainWith
  split
  · split
    · rfl
    · refine (State.each_frame _ _ _ (fun i t => (State.equalize_frame hregs_ hlink_) _ _)).trans ?_
      refine ((State.linkFields_frame hregs_) _ _).trans ?_
      exact State.each_frame _ _ _ (fun i t => ((State.setPortState_frame hregs_ hlink_) _ _ _).trans
          ((State.setLink_frame hlink_) _ _ _))
  · exact (State.each_frame _ _ _ (fun i t => (State.equalize_frame hregs_ hlink_) _ _)).trans
        ((State.linkFields_frame hregs_) _ _)

theorem State.fallback_frame {fm : Part → Bool} (hregs_ : fm .regs = true) (hlog_ : fm .log = true)
    (hports_ : fm .ports = true) (hwin_ : fm .win = true) (htl_ : fm .tl = true) (hlanes_ : fm .lanes = true)
    (hpcb_ : fm .pcb = true) (hcantons_ : fm .cantons = true) (hstr_ : fm .str = true) (hseq_ : fm .seq = true)
    (hbufRecs_ : fm .bufRecs = true) (hstreamers_ : fm .streamers = true) (hlink_ : fm .link = true)
    (hcal_ : fm .cal = true) (hdraws_ : fm .draws = true) (s : State) (code : Nat) (detail : Nat) :
    (State.fallback s code detail).hide fm = s.hide fm := by
  unfold State.fallback
  simp only [hide_ite, ite_self, State.allOut_frame hregs_ hlog_ hports_ hwin_ htl_ hlanes_ hpcb_ hcantons_ hstr_
    hseq_ hbufRecs_ hstreamers_ hlink_ hcal_ hdraws_, State.set_frame hregs_, State.startResult_frame hregs_ hlog_]

theorem State.useSlot_frame {fm : Part → Bool} (hregs_ : fm .regs = true) (hlog_ : fm .log = true)
    (hports_ : fm .ports = true) (hwin_ : fm .win = true) (htl_ : fm .tl = true) (hlanes_ : fm .lanes = true)
    (hpcb_ : fm .pcb = true) (hcantons_ : fm .cantons = true) (hstr_ : fm .str = true) (hseq_ : fm .seq = true)
    (hbufRecs_ : fm .bufRecs = true) (hstreamers_ : fm .streamers = true) (hlink_ : fm .link = true)
    (hstart_ : fm .start = true) (hcal_ : fm .cal = true) (hdraws_ : fm .draws = true) (s : State)
    (old : Option Header) :
    (State.useSlot s old).hide fm = s.hide fm := by
  unfold State.useSlot
  repeat' (first | simp only [hide_start hstart_,
                 hide_ite, State.each_frame,
                 State.fallback_frame hregs_ hlog_ hports_ hwin_ htl_ hlanes_ hpcb_ hcantons_ hstr_ hseq_ hbufRecs_
                   hstreamers_ hlink_ hcal_ hdraws_,
                 State.repairRow_frame hregs_ hlog_ hstart_, State.set_frame hregs_,
                 State.trainWith_frame hregs_ hlink_, implies_true] | split
                 | refine (State.each_frame _ _ _ (fun i t => ?_)).trans ?_
                 | refine (hide_foldl _ (fun t x => ?_) _ _).trans ?_)

theorem State.stepHeaders_frame {fm : Part → Bool} (hclk_ : fm .clk = true) (hregs_ : fm .regs = true)
    (hlog_ : fm .log = true) (hports_ : fm .ports = true) (hwin_ : fm .win = true) (htl_ : fm .tl = true)
    (hlanes_ : fm .lanes = true) (hpcb_ : fm .pcb = true) (hcantons_ : fm .cantons = true) (hstr_ : fm .str = true)
    (hseq_ : fm .seq = true) (hbufRecs_ : fm .bufRecs = true) (hstreamers_ : fm .streamers = true)
    (hlink_ : fm .link = true) (hstart_ : fm .start = true) (hcal_ : fm .cal = true) (hdraws_ : fm .draws = true)
    (s : State) (fuse : Option (BitVec 12)) (a : SlotBytes) (b : SlotBytes) :
    (State.stepHeaders s fuse a b).hide fm = s.hide fm := by
  unfold State.stepHeaders
  repeat' (first | simp only [hide_start hstart_, State.set_frame hregs_,
                 State.startHalt_frame hclk_ hregs_ hlog_,
                 State.useSlot_frame hregs_ hlog_ hports_ hwin_ htl_ hlanes_ hpcb_ hcantons_ hstr_ hseq_ hbufRecs_
                   hstreamers_ hlink_ hstart_ hcal_ hdraws_]
                 | split)

theorem State.stepMemory_frame {fm : Part → Bool} (hclk_ : fm .clk = true) (hregs_ : fm .regs = true)
    (hlog_ : fm .log = true) (hports_ : fm .ports = true) (hwin_ : fm .win = true) (htl_ : fm .tl = true)
    (hmem_ : fm .mem = true) (hmemX_ : fm .memX = true) (hlanes_ : fm .lanes = true) (hpcb_ : fm .pcb = true)
    (hcantons_ : fm .cantons = true) (hstr_ : fm .str = true) (hseq_ : fm .seq = true)
    (hbufRecs_ : fm .bufRecs = true) (hstreamers_ : fm .streamers = true) (hlink_ : fm .link = true)
    (hstart_ : fm .start = true) (hcal_ : fm .cal = true) (hdraws_ : fm .draws = true) (s : State)
    (failed : Option (Fin 16)) (kept : Nat) (rl : Nat) (rb : Nat) :
    (State.stepMemory s failed kept rl rb).hide fm = s.hide fm := by
  unfold State.stepMemory
  repeat' (first | simp only [hide_clk hclk_, hide_mem_memX_start hmem_ hmemX_ hstart_, hide_ite, ite_self,
                 State.allOut_frame hregs_ hlog_ hports_ hwin_ htl_ hlanes_ hpcb_ hcantons_ hstr_ hseq_ hbufRecs_
                   hstreamers_ hlink_ hcal_ hdraws_,
                 State.each_frame, State.setStr_frame hstr_, State.set_frame hregs_,
                 State.startResult_frame hregs_ hlog_, State.wr_frame hregs_, implies_true] | split)

theorem State.loadStore_frame {fm : Part → Bool} (hregs_ : fm .regs = true) (hseq_ : fm .seq = true) (s : State)
    (ps : List Patch) (c : Nat) :
    (State.loadStore s ps c).hide fm = s.hide fm := by
  unfold State.loadStore
  simp only [State.setSeq_frame hseq_, State.set_frame hregs_]

theorem State.stepImage_frame {fm : Part → Bool} (hregs_ : fm .regs = true) (hlog_ : fm .log = true)
    (hports_ : fm .ports = true) (hwin_ : fm .win = true) (htl_ : fm .tl = true) (hlanes_ : fm .lanes = true)
    (hpcb_ : fm .pcb = true) (hcantons_ : fm .cantons = true) (hstr_ : fm .str = true) (hseq_ : fm .seq = true)
    (hbufRecs_ : fm .bufRecs = true) (hstreamers_ : fm .streamers = true) (hlink_ : fm .link = true)
    (hstart_ : fm .start = true) (hcal_ : fm .cal = true) (hdraws_ : fm .draws = true) (s : State) (x : Image) :
    (State.stepImage s x).hide fm = s.hide fm := by
  unfold State.stepImage
  repeat' (first | simp only [hide_start hstart_,
                 hide_ite, ite_self, State.each_frame,
                 State.fallback_frame hregs_ hlog_ hports_ hwin_ htl_ hlanes_ hpcb_ hcantons_ hstr_ hseq_ hbufRecs_
                   hstreamers_ hlink_ hcal_ hdraws_,
                 State.loadStore_frame hregs_ hseq_, State.seqBegin_frame hregs_, State.set_frame hregs_,
                 State.startResult_frame hregs_ hlog_, implies_true] | split)

theorem State.loadRows_frame {fm : Part → Bool} (htl_ : fm .tl = true) (s : State) (rows : List ImgRow) (c : Nat) :
    (State.loadRows s rows c).hide fm = s.hide fm := by
  unfold State.loadRows
  simp only [State.setTl_frame htl_]

theorem State.loadPort_frame {fm : Part → Bool} (hregs_ : fm .regs = true) (s : State) (p : Nat × BitVec 32) :
    (State.loadPort s p).hide fm = s.hide fm := by
  unfold State.loadPort
  simp only [State.set_frame hregs_, State.wr_frame hregs_]

theorem State.loadRights_frame {fm : Part → Bool} (hports_ : fm .ports = true) (s : State) (p : Nat × Rights) :
    (State.loadRights s p).hide fm = s.hide fm := by
  unfold State.loadRights
  simp only [hide_ports hports_]

theorem State.applyImage_frame {fm : Part → Bool} (hregs_ : fm .regs = true) (hports_ : fm .ports = true)
    (hwin_ : fm .win = true) (htl_ : fm .tl = true) (s : State) (x : Image) :
    (State.applyImage s x).hide fm = s.hide fm := by
  unfold State.applyImage
  repeat' (first | simp only [State.computed_frame hregs_, State.each_frame,
                 State.grantSet_frame hwin_, State.loadPort_frame hregs_, State.loadRights_frame hports_,
                 State.loadRows_frame htl_, State.load_frame hregs_, State.set_frame hregs_, implies_true] | split
                   | refine (State.each_frame _ _ _ (fun i t => ?_)).trans ?_
                 | refine (hide_foldl _ (fun t x => ?_) _ _).trans ?_)

theorem State.calCluster_frame {fm : Part → Bool} (hregs_ : fm .regs = true) (hlog_ : fm .log = true)
    (hports_ : fm .ports = true) (hwin_ : fm .win = true) (htl_ : fm .tl = true) (hlanes_ : fm .lanes = true)
    (hpcb_ : fm .pcb = true) (hcantons_ : fm .cantons = true) (hstr_ : fm .str = true) (hseq_ : fm .seq = true)
    (hbufRecs_ : fm .bufRecs = true) (hstreamers_ : fm .streamers = true) (hlink_ : fm .link = true)
    (hcal_ : fm .cal = true) (hdraws_ : fm .draws = true) (s : State) (p : Option CalCopy × Option CalCopy)
    (c : Nat) :
    (State.calCluster s p c).hide fm = s.hide fm := by
  unfold State.calCluster
  repeat' (first | simp only [State.keepOut_frame hregs_ hports_ hwin_ htl_ hlanes_ hpcb_ hcantons_ hstr_ hseq_
                 hbufRecs_ hstreamers_ hlink_ hcal_ hdraws_,
                 State.loadCluster_frame hregs_ hcal_, State.startResult_frame hregs_ hlog_] | split)

theorem State.stepTables_frame {fm : Part → Bool} (hregs_ : fm .regs = true) (hlog_ : fm .log = true)
    (hports_ : fm .ports = true) (hwin_ : fm .win = true) (htl_ : fm .tl = true) (hlanes_ : fm .lanes = true)
    (hpcb_ : fm .pcb = true) (hcantons_ : fm .cantons = true) (hstr_ : fm .str = true) (hseq_ : fm .seq = true)
    (hbufRecs_ : fm .bufRecs = true) (hstreamers_ : fm .streamers = true) (hlink_ : fm .link = true)
    (hcal_ : fm .cal = true) (hdraws_ : fm .draws = true) (s : State)
    (prog : Option (Option CalCopy × Option CalCopy)) :
    (State.stepTables s prog).hide fm = s.hide fm := by
  unfold State.stepTables
  repeat' (first | simp only [hide_regs hregs_, hide_cal hcal_,
                 State.allOut_frame hregs_ hlog_ hports_ hwin_ htl_ hlanes_ hpcb_ hcantons_ hstr_ hseq_ hbufRecs_
                   hstreamers_ hlink_ hcal_ hdraws_,
                 State.applyImage_frame hregs_ hports_ hwin_ htl_,
                 State.calCluster_frame hregs_ hlog_ hports_ hwin_ htl_ hlanes_ hpcb_ hcantons_ hstr_ hseq_ hbufRecs_
                   hstreamers_ hlink_ hcal_ hdraws_,
                 State.each_frame, State.loadTable_frame hregs_ hcal_, State.set_frame hregs_,
                 State.startComplete_frame hregs_ hlog_, State.startResult_frame hregs_ hlog_, implies_true] | split)

theorem State.preampUp_frame {fm : Part → Bool} (hclk_ : fm .clk = true) (hregs_ : fm .regs = true)
    (hlog_ : fm .log = true) (hstaff_ : fm .staff = true) (hresetting_ : fm .resetting = true)
    (hmasked_ : fm .masked = true) (hports_ : fm .ports = true) (hwin_ : fm .win = true) (htl_ : fm .tl = true)
    (hmemu_ : fm .memu = true) (hlanes_ : fm .lanes = true) (hpcb_ : fm .pcb = true) (hcantons_ : fm .cantons = true)
    (hstr_ : fm .str = true) (hservo_ : fm .servo = true) (hseq_ : fm .seq = true) (hbufRecs_ : fm .bufRecs = true)
    (hstreamers_ : fm .streamers = true) (hlink_ : fm .link = true) (hcross_ : fm .cross = true)
    (hcal_ : fm .cal = true) (hdraws_ : fm .draws = true) (s : State) (answers : Nat) (c : Nat) :
    (State.preampUp s answers c).hide fm = s.hide fm := by
  unfold State.preampUp
  simp only [hide_ite, ite_self, State.clrStart_frame hregs_, State.each_frame, State.keepOut_frame hregs_ hports_
    hwin_ htl_ hlanes_ hpcb_ hcantons_ hstr_ hseq_ hbufRecs_ hstreamers_ hlink_ hcal_ hdraws_, State.preampLost_frame
    hclk_ hregs_ hlog_ hstaff_ hresetting_ hmasked_ hports_ hwin_ htl_ hmemu_ hlanes_ hpcb_ hcantons_ hstr_ hservo_
    hseq_ hbufRecs_ hstreamers_ hlink_ hcross_ hcal_ hdraws_, State.set_frame hregs_, State.startResult_frame hregs_
    hlog_, implies_true]

theorem State.enterSpinup_frame {fm : Part → Bool} (hregs_ : fm .regs = true) (hmcb_ : fm .mcb = true)
    (hspin_ : fm .spin = true) (s : State) :
    (State.enterSpinup s).hide fm = s.hide fm := by
  unfold State.enterSpinup
  simp only [State.queueSpmode_frame hmcb_, State.set_frame hregs_, State.spinBoth_frame hspin_]

theorem State.stepElectronics_frame {fm : Part → Bool} (hclk_ : fm .clk = true) (hregs_ : fm .regs = true)
    (hlog_ : fm .log = true) (hstaff_ : fm .staff = true) (hresetting_ : fm .resetting = true)
    (hmasked_ : fm .masked = true) (hports_ : fm .ports = true) (hwin_ : fm .win = true) (htl_ : fm .tl = true)
    (hmemu_ : fm .memu = true) (hlanes_ : fm .lanes = true) (hpcb_ : fm .pcb = true) (hmcb_ : fm .mcb = true)
    (hcantons_ : fm .cantons = true) (hstr_ : fm .str = true) (hservo_ : fm .servo = true) (hseq_ : fm .seq = true)
    (hspin_ : fm .spin = true) (hbufRecs_ : fm .bufRecs = true) (hstreamers_ : fm .streamers = true)
    (hlink_ : fm .link = true) (hcross_ : fm .cross = true) (hstart_ : fm .start = true) (hcal_ : fm .cal = true)
    (hdraws_ : fm .draws = true) (s : State) (preamps : Nat) (motor : Bool) :
    (State.stepElectronics s preamps motor).hide fm = s.hide fm := by
  unfold State.stepElectronics
  simp only [hide_clk hclk_, hide_start hstart_, hide_ite, ite_self, State.allOut_frame hregs_ hlog_ hports_ hwin_
    htl_ hlanes_ hpcb_ hcantons_ hstr_ hseq_ hbufRecs_ hstreamers_ hlink_ hcal_ hdraws_, State.each_frame,
    State.enterSpinup_frame hregs_ hmcb_ hspin_, State.preampUp_frame hclk_ hregs_ hlog_ hstaff_ hresetting_ hmasked_
    hports_ hwin_ htl_ hmemu_ hlanes_ hpcb_ hcantons_ hstr_ hservo_ hseq_ hbufRecs_ hstreamers_ hlink_ hcross_ hcal_
    hdraws_, State.raise_frame hclk_ hregs_ hlog_ hstaff_ hresetting_ hmasked_ hports_ hwin_ htl_ hmemu_ hlanes_ hpcb_
    hcantons_ hstr_ hservo_ hseq_ hbufRecs_ hstreamers_ hlink_ hcross_ hcal_ hdraws_, State.set_frame hregs_,
    State.startComplete_frame hregs_ hlog_, State.startResult_frame hregs_ hlog_, implies_true]

theorem State.enableServo_frame {fm : Part → Bool} (hregs_ : fm .regs = true) (hstart_ : fm .start = true) (s : State)
    (c : Nat) :
    (State.enableServo s c).hide fm = s.hide fm := by
  unfold State.enableServo
  simp only [hide_start hstart_, hide_ite, ite_self, State.set_frame hregs_]

theorem State.stepSpinup_frame {fm : Part → Bool} (hregs_ : fm .regs = true) (hlog_ : fm .log = true)
    (hports_ : fm .ports = true) (hwin_ : fm .win = true) (htl_ : fm .tl = true) (hlanes_ : fm .lanes = true)
    (hpcb_ : fm .pcb = true) (hcantons_ : fm .cantons = true) (hstr_ : fm .str = true) (hseq_ : fm .seq = true)
    (hbufRecs_ : fm .bufRecs = true) (hstreamers_ : fm .streamers = true) (hlink_ : fm .link = true)
    (hstart_ : fm .start = true) (hcal_ : fm .cal = true) (hdraws_ : fm .draws = true) (s : State) :
    (State.stepSpinup s).hide fm = s.hide fm := by
  unfold State.stepSpinup
  simp only [hide_ite, ite_self, State.allOut_frame hregs_ hlog_ hports_ hwin_ htl_ hlanes_ hpcb_ hcantons_ hstr_
    hseq_ hbufRecs_ hstreamers_ hlink_ hcal_ hdraws_, State.each_frame, State.enableServo_frame hregs_ hstart_,
    State.set_frame hregs_, State.startResult_frame hregs_ hlog_, implies_true]

theorem execStartPfailHoldEnd_frame {fm : Part → Bool} (hregs_ : fm .regs = true) (hmcb_ : fm .mcb = true)
    (hpf_ : fm .pf = true) (hspin_ : fm .spin = true) (hstart_ : fm .start = true) (s : State) :
    Framed fm s (execStartPfailHoldEnd s) := by
  apply State.run_frame
  intro t
  simp only [hide_pf_start hpf_ hstart_, hide_ite, ite_self, State.enterSpinup_frame hregs_ hmcb_ hspin_]

theorem State.clusterStep_frame {fm : Part → Bool} (hregs_ : fm .regs = true) (hstart_ : fm .start = true) (s : State)
    (c : Nat) (n : Nat) :
    (State.clusterStep s c n).hide fm = s.hide fm := by
  unfold State.clusterStep
  simp only [hide_start hstart_, State.set_frame hregs_]

theorem State.clusterFails_frame {fm : Part → Bool} (hregs_ : fm .regs = true) (hlog_ : fm .log = true)
    (hports_ : fm .ports = true) (hwin_ : fm .win = true) (htl_ : fm .tl = true) (hlanes_ : fm .lanes = true)
    (hpcb_ : fm .pcb = true) (hcantons_ : fm .cantons = true) (hstr_ : fm .str = true) (hseq_ : fm .seq = true)
    (hbufRecs_ : fm .bufRecs = true) (hstreamers_ : fm .streamers = true) (hlink_ : fm .link = true)
    (hstart_ : fm .start = true) (hcal_ : fm .cal = true) (hdraws_ : fm .draws = true) (s : State) (c : Nat) :
    (State.clusterFails s c).hide fm = s.hide fm := by
  unfold State.clusterFails
  simp only [State.clusterStep_frame hregs_ hstart_, State.keepOut_frame hregs_ hports_ hwin_ htl_ hlanes_ hpcb_
    hcantons_ hstr_ hseq_ hbufRecs_ hstreamers_ hlink_ hcal_ hdraws_, State.startComplete_frame hregs_ hlog_]

theorem State.stepLocked_frame {fm : Part → Bool} (hregs_ : fm .regs = true) (hlog_ : fm .log = true)
    (hports_ : fm .ports = true) (hwin_ : fm .win = true) (htl_ : fm .tl = true) (hlanes_ : fm .lanes = true)
    (hpcb_ : fm .pcb = true) (hcantons_ : fm .cantons = true) (hstr_ : fm .str = true) (hseq_ : fm .seq = true)
    (hbufRecs_ : fm .bufRecs = true) (hstreamers_ : fm .streamers = true) (hlink_ : fm .link = true)
    (hstart_ : fm .start = true) (hcal_ : fm .cal = true) (hdraws_ : fm .draws = true) (s : State) (c : Nat) :
    (State.stepLocked s c).hide fm = s.hide fm := by
  unfold State.stepLocked
  simp only [hide_ite, ite_self, State.addSat_frame hregs_, State.clusterFails_frame hregs_ hlog_ hports_ hwin_ htl_
    hlanes_ hpcb_ hcantons_ hstr_ hseq_ hbufRecs_ hstreamers_ hlink_ hstart_ hcal_ hdraws_, State.clusterStep_frame
    hregs_ hstart_, State.startResult_frame hregs_ hlog_]

theorem State.surfaceWasLost_frame {fm : Part → Bool} (hregs_ : fm .regs = true) (hlog_ : fm .log = true)
    (hclr_ : fm .clr = true) (s : State) (c : Nat) (f : Nat) :
    (State.surfaceWasLost s c f).hide fm = s.hide fm := by
  unfold State.surfaceWasLost
  simp only [State.clrOff_frame hregs_ hclr_, State.event_frame hregs_ hlog_, State.set_frame hregs_]

theorem State.readMaps_frame {fm : Part → Bool} (hregs_ : fm .regs = true) (hlog_ : fm .log = true)
    (hstr_ : fm .str = true) (hclr_ : fm .clr = true) (s : State) (c : Nat) (header : Bool) :
    (State.readMaps s c header).hide fm = s.hide fm := by
  unfold State.readMaps
  repeat' (first | simp only [State.setStr_frame hstr_, State.set_frame hregs_,
                 State.surfaceWasLost_frame hregs_ hlog_ hclr_] | split
                 | refine (hide_foldl _ (fun t x => ?_) _ _).trans ?_)

theorem State.copyLogStripe_frame {fm : Part → Bool} (hregs_ : fm .regs = true) (hmedia_ : fm .media = true)
    (s : State) (c : Nat) :
    (State.copyLogStripe s c).hide fm = s.hide fm := by
  unfold State.copyLogStripe
  simp only [State.setMedia_frame hmedia_, State.set_frame hregs_]

theorem State.replay_frame {fm : Part → Bool} (hregs_ : fm .regs = true) (hports_ : fm .ports = true)
    (hwin_ : fm .win = true) (htl_ : fm .tl = true) (hlanes_ : fm .lanes = true) (hpcb_ : fm .pcb = true)
    (hcantons_ : fm .cantons = true) (hstr_ : fm .str = true) (hseq_ : fm .seq = true)
    (hbufRecs_ : fm .bufRecs = true) (hstreamers_ : fm .streamers = true) (hlink_ : fm .link = true)
    (hcal_ : fm .cal = true) (hdraws_ : fm .draws = true) (s : State) (c : Nat) (slot : Nat)
    (own : List (Nat × List Nat)) (lost : Nat) (h : HomePass) :
    (State.replay s c slot own lost h).hide fm = s.hide fm := by
  unfold State.replay
  simp only [State.commitPass_frame hregs_ hports_ hwin_ htl_ hlanes_ hpcb_ hcantons_ hstr_ hseq_ hbufRecs_
    hstreamers_ hlink_ hcal_ hdraws_, State.nextWseq_frame hstr_]

theorem State.replayAll_frame {fm : Part → Bool} (hregs_ : fm .regs = true) (hports_ : fm .ports = true)
    (hwin_ : fm .win = true) (htl_ : fm .tl = true) (hlanes_ : fm .lanes = true) (hpcb_ : fm .pcb = true)
    (hcantons_ : fm .cantons = true) (hstr_ : fm .str = true) (hseq_ : fm .seq = true)
    (hbufRecs_ : fm .bufRecs = true) (hstreamers_ : fm .streamers = true) (hlink_ : fm .link = true)
    (hcal_ : fm .cal = true) (hdraws_ : fm .draws = true) (s : State) (c : Nat) (m : MapsFound)
    (done : List DumpStripe) :
    (State.replayAll s c m done).hide fm = s.hide fm := by
  unfold State.replayAll
  repeat' (first | simp only [State.replay_frame hregs_ hports_ hwin_ htl_ hlanes_ hpcb_ hcantons_ hstr_ hseq_
                 hbufRecs_ hstreamers_ hlink_ hcal_ hdraws_] | split
                 | refine (hide_foldl _ (fun t x => ?_) _ _).trans ?_)

theorem State.itemBlocks_frame {fm : Part → Bool} (hdraws_ : fm .draws = true) (s : State) (c : Nat) (x2 : DumpItem) :
    (State.itemBlocks s c x2).1.hide fm = s.hide fm := by
  unfold State.itemBlocks
  repeat' (first | simp only [State.draw_frame hdraws_] | split)

theorem State.markLost_frame {fm : Part → Bool} (hregs_ : fm .regs = true) (hports_ : fm .ports = true)
    (hwin_ : fm .win = true) (htl_ : fm .tl = true) (hlanes_ : fm .lanes = true) (hpcb_ : fm .pcb = true)
    (hcantons_ : fm .cantons = true) (hstr_ : fm .str = true) (hseq_ : fm .seq = true)
    (hbufRecs_ : fm .bufRecs = true) (hstreamers_ : fm .streamers = true) (hlink_ : fm .link = true)
    (hcal_ : fm .cal = true) (hdraws_ : fm .draws = true) (s : State) (c : Nat) (lba : Nat) :
    (State.markLost s c lba).hide fm = s.hide fm := by
  unfold State.markLost
  simp only [State.putRepair_frame hregs_ hports_ hwin_ htl_ hlanes_ hpcb_ hcantons_ hstr_ hseq_ hbufRecs_ hstreamers_
    hlink_ hcal_ hdraws_]

theorem State.bufferedLost_frame {fm : Part → Bool} (hregs_ : fm .regs = true) (hlog_ : fm .log = true) (s : State)
    (r : Nat × Nat × Nat) :
    (State.bufferedLost s r).hide fm = s.hide fm := by
  unfold State.bufferedLost
  simp only [State.event_frame hregs_ hlog_]

theorem State.recoverCluster_frame {fm : Part → Bool} (hregs_ : fm .regs = true) (hlog_ : fm .log = true)
    (hports_ : fm .ports = true) (hwin_ : fm .win = true) (htl_ : fm .tl = true) (hlanes_ : fm .lanes = true)
    (hpcb_ : fm .pcb = true) (hcantons_ : fm .cantons = true) (hstr_ : fm .str = true) (hseq_ : fm .seq = true)
    (hclr_ : fm .clr = true) (hbufRecs_ : fm .bufRecs = true) (hstreamers_ : fm .streamers = true)
    (hlink_ : fm .link = true) (hcal_ : fm .cal = true) (hmedia_ : fm .media = true) (hdraws_ : fm .draws = true)
    (s : State) (c : Nat) (f : MapsFound) :
    (State.recoverCluster s c f).hide fm = s.hide fm := by
  unfold State.recoverCluster
  repeat' (first | simp only [hide_regs hregs_, hide_bufRecs hbufRecs_, State.bufferedLost_frame hregs_ hlog_,
                 State.copyLogStripe_frame hregs_ hmedia_,
                 State.itemBlocks_frame hdraws_,
                 State.markLost_frame hregs_ hports_ hwin_ htl_ hlanes_ hpcb_ hcantons_ hstr_ hseq_ hbufRecs_
                   hstreamers_ hlink_ hcal_ hdraws_,
                 State.readMaps_frame hregs_ hlog_ hstr_ hclr_,
                 State.replayAll_frame hregs_ hports_ hwin_ htl_ hlanes_ hpcb_ hcantons_ hstr_ hseq_ hbufRecs_
                   hstreamers_ hlink_ hcal_ hdraws_,
                 State.setMedia_frame hmedia_, State.set_frame hregs_] | split
                 | refine (hide_foldl _ (fun t x => ?_) _ _).trans ?_
                 | refine (hide_foldl_fst _ (fun t x => ?_) _ _).trans ?_)

theorem State.fillFirst_frame {fm : Part → Bool} (hregs_ : fm .regs = true) (hlog_ : fm .log = true)
    (hstart_ : fm .start = true) (s : State) :
    (State.fillFirst s).hide fm = s.hide fm := by
  unfold State.fillFirst
  repeat' (first | simp only [hide_log hlog_, hide_start hstart_, hide_ite, State.programFirst_frame hregs_ hlog_] |
                 split
                 | refine (hide_foldl _ (fun t x => ?_) _ _).trans ?_)

theorem State.stepRecovered_frame {fm : Part → Bool} (hregs_ : fm .regs = true) (hlog_ : fm .log = true)
    (hports_ : fm .ports = true) (hwin_ : fm .win = true) (htl_ : fm .tl = true) (hlanes_ : fm .lanes = true)
    (hpcb_ : fm .pcb = true) (hcantons_ : fm .cantons = true) (hstr_ : fm .str = true) (hseq_ : fm .seq = true)
    (hclr_ : fm .clr = true) (hbufRecs_ : fm .bufRecs = true) (hstreamers_ : fm .streamers = true)
    (hlink_ : fm .link = true) (hstart_ : fm .start = true) (hcal_ : fm .cal = true) (hmedia_ : fm .media = true)
    (hdraws_ : fm .draws = true) (s : State) (c : Nat) (m : MapsFound) :
    (State.stepRecovered s c m).hide fm = s.hide fm := by
  unfold State.stepRecovered
  simp only [hide_ite, ite_self, State.clusterFails_frame hregs_ hlog_ hports_ hwin_ htl_ hlanes_ hpcb_ hcantons_
    hstr_ hseq_ hbufRecs_ hstreamers_ hlink_ hstart_ hcal_ hdraws_, State.clusterStep_frame hregs_ hstart_,
    State.fillFirst_frame hregs_ hlog_ hstart_, State.recoverCluster_frame hregs_ hlog_ hports_ hwin_ htl_ hlanes_
    hpcb_ hcantons_ hstr_ hseq_ hclr_ hbufRecs_ hstreamers_ hlink_ hcal_ hmedia_ hdraws_, State.startResult_frame
    hregs_ hlog_]

theorem State.stepOpened_frame {fm : Part → Bool} (hregs_ : fm .regs = true) (hlog_ : fm .log = true)
    (hports_ : fm .ports = true) (hwin_ : fm .win = true) (htl_ : fm .tl = true) (hlanes_ : fm .lanes = true)
    (hpcb_ : fm .pcb = true) (hcantons_ : fm .cantons = true) (hstr_ : fm .str = true) (hseq_ : fm .seq = true)
    (hbufRecs_ : fm .bufRecs = true) (hstreamers_ : fm .streamers = true) (hlink_ : fm .link = true)
    (hstart_ : fm .start = true) (hcal_ : fm .cal = true) (hdraws_ : fm .draws = true) (s : State) (c : Nat) :
    (State.stepOpened s c).hide fm = s.hide fm := by
  unfold State.stepOpened
  simp only [hide_ite, ite_self, State.clusterFails_frame hregs_ hlog_ hports_ hwin_ htl_ hlanes_ hpcb_ hcantons_
    hstr_ hseq_ hbufRecs_ hstreamers_ hlink_ hstart_ hcal_ hdraws_, State.clusterStep_frame hregs_ hstart_,
    State.setOpen_frame hregs_, State.startComplete_frame hregs_ hlog_]

theorem State.stepRoot_frame {fm : Part → Bool} (hclk_ : fm .clk = true) (hregs_ : fm .regs = true)
    (hlog_ : fm .log = true) (s : State) (ok : Bool) :
    (State.stepRoot s ok).hide fm = s.hide fm := by
  unfold State.stepRoot
  simp only [hide_clk hclk_, hide_ite, ite_self, State.set_frame hregs_, State.startHalt_frame hclk_ hregs_ hlog_]

theorem State.startStep_frame {fm : Part → Bool} (hclk_ : fm .clk = true) (hregs_ : fm .regs = true)
    (hlog_ : fm .log = true) (hstaff_ : fm .staff = true) (hresetting_ : fm .resetting = true)
    (hmasked_ : fm .masked = true) (hports_ : fm .ports = true) (hwin_ : fm .win = true) (htl_ : fm .tl = true)
    (hmem_ : fm .mem = true) (hmemX_ : fm .memX = true) (hmemu_ : fm .memu = true) (hlanes_ : fm .lanes = true)
    (hpcb_ : fm .pcb = true) (hmcb_ : fm .mcb = true) (hcantons_ : fm .cantons = true) (hstr_ : fm .str = true)
    (hservo_ : fm .servo = true) (hseq_ : fm .seq = true) (hclr_ : fm .clr = true) (hspin_ : fm .spin = true)
    (hbufRecs_ : fm .bufRecs = true) (hstreamers_ : fm .streamers = true) (hlink_ : fm .link = true)
    (hcross_ : fm .cross = true) (hstart_ : fm .start = true) (hcal_ : fm .cal = true) (hmedia_ : fm .media = true)
    (hdraws_ : fm .draws = true) (s : State) (x1 : Found) :
    (State.startStep s x1).hide fm = s.hide fm := by
  unfold State.startStep
  repeat' (first | simp only [hide_ite, ite_self, State.set_frame hregs_,
                 State.stepElectronics_frame hclk_ hregs_ hlog_ hstaff_ hresetting_ hmasked_ hports_ hwin_ htl_ hmemu_
                   hlanes_ hpcb_ hmcb_ hcantons_ hstr_ hservo_ hseq_ hspin_ hbufRecs_ hstreamers_ hlink_ hcross_
                   hstart_ hcal_ hdraws_,
                 State.stepHeaders_frame hclk_ hregs_ hlog_ hports_ hwin_ htl_ hlanes_ hpcb_ hcantons_ hstr_ hseq_
                   hbufRecs_ hstreamers_ hlink_ hstart_ hcal_ hdraws_,
                 State.stepImage_frame hregs_ hlog_ hports_ hwin_ htl_ hlanes_ hpcb_ hcantons_ hstr_ hseq_ hbufRecs_
                   hstreamers_ hlink_ hstart_ hcal_ hdraws_,
                 State.stepLocked_frame hregs_ hlog_ hports_ hwin_ htl_ hlanes_ hpcb_ hcantons_ hstr_ hseq_ hbufRecs_
                   hstreamers_ hlink_ hstart_ hcal_ hdraws_,
                 State.stepMemory_frame hclk_ hregs_ hlog_ hports_ hwin_ htl_ hmem_ hmemX_ hlanes_ hpcb_ hcantons_
                   hstr_ hseq_ hbufRecs_ hstreamers_ hlink_ hstart_ hcal_ hdraws_,
                 State.stepOpened_frame hregs_ hlog_ hports_ hwin_ htl_ hlanes_ hpcb_ hcantons_ hstr_ hseq_ hbufRecs_
                   hstreamers_ hlink_ hstart_ hcal_ hdraws_,
                 State.stepRecovered_frame hregs_ hlog_ hports_ hwin_ htl_ hlanes_ hpcb_ hcantons_ hstr_ hseq_ hclr_
                   hbufRecs_ hstreamers_ hlink_ hstart_ hcal_ hmedia_ hdraws_,
                 State.stepRoot_frame hclk_ hregs_ hlog_,
                 State.stepSpinup_frame hregs_ hlog_ hports_ hwin_ htl_ hlanes_ hpcb_ hcantons_ hstr_ hseq_ hbufRecs_
                   hstreamers_ hlink_ hstart_ hcal_ hdraws_,
                 State.stepTables_frame hregs_ hlog_ hports_ hwin_ htl_ hlanes_ hpcb_ hcantons_ hstr_ hseq_ hbufRecs_
                   hstreamers_ hlink_ hcal_ hdraws_,
                 State.useSlot_frame hregs_ hlog_ hports_ hwin_ htl_ hlanes_ hpcb_ hcantons_ hstr_ hseq_ hbufRecs_
                   hstreamers_ hlink_ hstart_ hcal_ hdraws_]
                 | split)

theorem execStartStepDone_frame {fm : Part → Bool} (hclk_ : fm .clk = true) (hregs_ : fm .regs = true)
    (hlog_ : fm .log = true) (hstaff_ : fm .staff = true) (hresetting_ : fm .resetting = true)
    (hmasked_ : fm .masked = true) (hports_ : fm .ports = true) (hwin_ : fm .win = true) (htl_ : fm .tl = true)
    (hmem_ : fm .mem = true) (hmemX_ : fm .memX = true) (hmemu_ : fm .memu = true) (hlanes_ : fm .lanes = true)
    (hpcb_ : fm .pcb = true) (hmcb_ : fm .mcb = true) (hcantons_ : fm .cantons = true) (hstr_ : fm .str = true)
    (hservo_ : fm .servo = true) (hseq_ : fm .seq = true) (hclr_ : fm .clr = true) (hspin_ : fm .spin = true)
    (hbufRecs_ : fm .bufRecs = true) (hstreamers_ : fm .streamers = true) (hlink_ : fm .link = true)
    (hcross_ : fm .cross = true) (hstart_ : fm .start = true) (hcal_ : fm .cal = true) (hmedia_ : fm .media = true)
    (hdraws_ : fm .draws = true) (f : Found) (s : State) :
    Framed fm s (execStartStepDone f s) := by
  apply State.run_frame
  intro t
  simp only [hide_ite, ite_self, State.startStep_frame hclk_ hregs_ hlog_ hstaff_ hresetting_ hmasked_ hports_ hwin_
    htl_ hmem_ hmemX_ hmemu_ hlanes_ hpcb_ hmcb_ hcantons_ hstr_ hservo_ hseq_ hclr_ hspin_ hbufRecs_ hstreamers_
    hlink_ hcross_ hstart_ hcal_ hmedia_ hdraws_]

end Sys2Proof.Machine
end

