-- ==== Sys2Proof/Laws/Memory.lean ====
section
/-! SUPPORT. Laws/Memory.lean: every operation that stores to memory keeps both memory tables in canonical form. -/

namespace Sys2Proof.Machine

/-- Every part but the two memory tables. -/
def notMem (p : Part) : Bool := decide (p ≠ .mem) && decide (p ≠ .memX)

theorem canon {s t : State} (h : t.hide notMem = s.hide notMem) : t.canonical ↔ s.canonical := by
  have h1 : t.mem = s.mem := same_of_hide h .mem rfl
  have h2 : t.memX = s.memX := same_of_hide h .memX rfl
  unfold State.canonical
  rw [h1, h2]

theorem canon_eq {s t : State} (h1 : t.mem = s.mem) (h2 : t.memX = s.memX) : t.canonical ↔ s.canonical := by
  unfold State.canonical
  rw [h1, h2]

theorem canonical_each {f : Nat → State → State} (hf : ∀ i s, s.canonical → (f i s).canonical) (l : List Nat) (s :
    State)
    (h : s.canonical) : (State.each s f l).canonical := by
  induction l generalizing s with
  | nil => exact h
  | cons i is ih => exact ih _ (hf i s h)

theorem canonical_foldl {α : Type} {f : State → α → State} (hf : ∀ s a, s.canonical → (f s a).canonical) (l : List α)
    (s : State) (h : s.canonical) : (l.foldl f s).canonical := by
  induction l generalizing s with
  | nil => exact h
  | cons i is ih => exact ih _ (hf s i h)

theorem canonical_ite {c : Prop} [Decidable c] {s t : State} (hs : s.canonical) (ht : t.canonical) :
    (if c then s else t).canonical := by
  split
  · exact hs
  · exact ht

theorem putByte_wf {m : List Host.Cell} (h : Memory.wf m = true) (k : Nat) (v : Byte) : Memory.wf (putByte m k v) =
    true :=
  Tab.wf_put _ m k v h

theorem putWord_wf {m : List Host.Cell} (h : Memory.wf m = true) (k v : Nat) : Memory.wf (putWord m k v) = true :=
  putByte_wf (putByte_wf (putByte_wf (putByte_wf h _ _) _ _) _ _) _ _

theorem filter_wf {m : List Host.Cell} (h : Memory.wf m = true) (f : Host.Cell → Bool) : Memory.wf (m.filter f) =
    true :=
  Tab.wf_filter _ m f h

theorem State.reset_canonical : State.reset.canonical := ⟨rfl, rfl⟩

theorem State.putStored_canonical {s : State} (h : s.canonical) (k : Nat) (w : Stored) : (s.putStored k w).canonical
    := by
  constructor
  · show Memory.wf (if s.wordLost k then s.mem else putWord s.mem k w.data) = true
    split
    · exact h.1
    · exact putWord_wf h.1 k w.data
  · show Memory.wf (if s.wordLost k then s.memX else putByte s.memX k _) = true
    split
    · exact h.2
    · exact putByte_wf h.2 k _

theorem State.putReq_canonical {s : State} (h : s.canonical) (o k : Nat) (w : Stored) : (s.putReq o k w).canonical
    := by
  unfold State.putReq
  split
  · simp only
    rw [canon (State.injEvent_frame rfl rfl _ _ _)]
    refine (canon_eq (s := (s.putStored k (w.flip s.injMask))) rfl rfl).mpr ?_
    exact s.putStored_canonical h _ _
  · exact s.putStored_canonical h _ _

theorem State.copyWords_canonical {s : State} (h : s.canonical) (o a b : Nat) : (n : Nat) → (s.copyWords o a b
    n).canonical
  | 0 => h
  | n + 1 => by
    rw [State.copyWords]
    exact State.putReq_canonical (s.copyWords_canonical h o a b n) _ _ _

theorem canonical_of_part {s t : State} (h : t.canonical) : State.canonical
    { s with regs := t.regs, log := t.log, mem := t.mem, memX := t.memX, memu := t.memu } := ⟨h.1, h.2⟩

theorem State.putFrag_canonical {s : State} (h : s.canonical) (o k : Nat) (d : List Nat) : (s.putFrag o k
    d).canonical := by
  unfold State.putFrag
  exact canonical_of_part (canonical_each (fun i s h => s.putReq_canonical h _ _ _) _ s h)

theorem State.copyBlock_canonical {s : State} (h : s.canonical) (a b : Nat) : (s.copyBlock a b).canonical := by
  unfold State.copyBlock
  exact canonical_of_part (s.copyWords_canonical h _ a b _)

theorem canonical_of_mem {s t : State} (h : t.canonical) : State.canonical
    { s with mem := t.mem, memX := t.memX, memu := t.memu } := ⟨h.1, h.2⟩

theorem State.poisonLine_canonical {s : State} (h : s.canonical) (d i : Nat) : (s.poisonLine d i).canonical := by
  unfold State.poisonLine
  have hf : ∀ (j : Nat) (s : State), s.canonical → (s.putStored (lineKey d i + 4 * j)
      (freshWord (s.stored (lineKey d i + 4 * j)).data true)).canonical := fun j s h => s.putStored_canonical h _ _
  exact canonical_of_mem (canonical_each hf _ s h)

theorem canonical_staged {t : State} (h : t.canonical) (v : Tab (Option (Nat × Nat))) :
    State.canonical { t with staged := v } := ⟨h.1, h.2⟩

theorem canonical_ports {t : State} (h : t.canonical) (v : Ports) : State.canonical { t with ports := v } := ⟨h.1,
    h.2⟩

theorem canonical_clk {t : State} (h : t.canonical) (v : Clock) : State.canonical { t with clk := v } := ⟨h.1, h.2⟩

theorem State.putSlot_canonical {s : State} (h : s.canonical) (o m off : Nat) (ws : List Nat) :
    (s.putSlot o m off ws).canonical := by
  induction ws generalizing s off with
  | nil => exact h
  | cons w ws ih => exact ih (s.putReq_canonical h _ _ _) _

theorem State.lineHit_canonical {s : State} (h : s.canonical) (d i : Nat) : (s.lineHit d i).canonical := by
  unfold State.lineHit
  simp only
  split
  · exact h
  · exact (canon (State.setCache_frame rfl _ _ _)).mpr h
  · exact (canon (State.event_frame rfl rfl _ _ _ _)).mpr (s.poisonLine_canonical h _ _)

theorem State.stagedBlock_canonical {s : State} (h : s.canonical) (x : Cmd) (b a : Nat) : (s.stagedBlock x b
    a).canonical := by
  unfold State.stagedBlock
  exact (canon (State.setCmd_frame rfl _ _)).mpr (s.putStored_canonical h _ _)

theorem State.stagedHit_canonical {s : State} (h : s.canonical) (c f k a : Nat) : (s.stagedHit c f k a).canonical :=
    by
  unfold State.stagedHit
  simp only
  split
  · exact h
  split
  · exact (canon (State.setStr_frame rfl _ _ _)).mpr h
  split
  · exact h
  split
  · exact canonical_ite (s.stagedBlock_canonical h _ _ _) h
  · exact h

theorem State.regionHit_canonical {s : State} (h : s.canonical) (m : MemAt) (b : FoundBy) : (s.regionHit m
    b).canonical := by
  unfold State.regionHit
  split
  · exact (canon (State.packetHit_frame rfl rfl rfl _ _ _)).mpr h
  · exact s.stagedHit_canonical h _ _ _ _
  · exact (canon (State.decLost_frame rfl rfl rfl rfl rfl rfl rfl rfl rfl rfl rfl rfl rfl rfl rfl rfl rfl rfl rfl
      rfl rfl rfl _ _ _)).mpr h
  · exact (canon (State.cellHit_frame rfl rfl rfl _ _ _ _)).mpr h
  · split
    · exact (canon (State.staffLost_frame rfl rfl rfl rfl rfl rfl rfl rfl rfl rfl rfl rfl rfl rfl rfl rfl rfl rfl
        rfl rfl rfl rfl _ _ _)).mpr ((canon_eq (s := s) rfl rfl).mpr h)
    · exact h
  · split
    · exact (canon (State.slotHit_frame rfl rfl rfl rfl rfl rfl _ _)).mpr h
    · split
      · exact s.lineHit_canonical h _ _
      · exact h

theorem State.corr_canonical {s : State} (h : s.canonical) (m : MemAt) (b : FoundBy) (w v : Stored) :
    (s.corr m b w v).canonical := by
  unfold State.corr
  have h1 : (if s.is MEM_SYNCFG_LOG_CE then s.logSyn m b w.syndrome false false else s).canonical :=
    canonical_ite ((canon (State.logSyn_frame rfl rfl _ _ _ _ _ _)).mpr h) h
  have h2 := State.putStored_canonical h1 m.key (freshWord v.data v.poison)
  simp only
  split
  · rw [canon (State.lineError_frame rfl rfl rfl rfl rfl rfl rfl rfl rfl rfl rfl rfl rfl rfl rfl rfl rfl rfl rfl rfl
      rfl rfl _ _ _), canon (State.countSat_frame rfl _ _)]
    exact h2
  · rw [canon (State.countSat_frame rfl _ _)]
    exact h2

theorem State.unc_canonical {s : State} (h : s.canonical) (m : MemAt) (b : FoundBy) (w g : Stored) :
    (s.unc m b w g).canonical := by
  unfold State.unc
  have h1 : (if m.space = 0 then s.countSat (MEM_CH_UE_COUNT (channelOf m.at))
      else s.countSat (MEM_SRAM_UE_COUNT m.die)).canonical :=
    canonical_ite ((canon (State.countSat_frame rfl _ _)).mpr h) ((canon (State.countSat_frame rfl _ _)).mpr h)
  have h2 (r z : Bool) (v : Stored) := State.putStored_canonical
    ((canon (State.logSyn_frame rfl rfl _ m b w.syndrome r z)).mpr h1) m.key v
  simp only
  split
  · split
    · rw [canon (State.raise_frame rfl rfl rfl rfl rfl rfl rfl rfl rfl rfl rfl rfl rfl rfl rfl rfl rfl rfl rfl rfl
        rfl rfl _ _ _ _)]
      exact h2 _ _ _
    · exact h2 _ _ _
  · refine State.regionHit_canonical (canonical_ite ?_ ?_) _ _
    · rw [canon (State.raise_frame rfl rfl rfl rfl rfl rfl rfl rfl rfl rfl rfl rfl rfl rfl rfl rfl rfl rfl rfl rfl
        rfl rfl _ _ _ _)]
      exact h2 _ _ _
    · rw [canon (State.raise_frame rfl rfl rfl rfl rfl rfl rfl rfl rfl rfl rfl rfl rfl rfl rfl rfl rfl rfl rfl rfl
        rfl rfl _ _ _ _)]
      exact h2 _ _ _

theorem State.memBurst_canonical {s : State} (h : s.canonical) (m : MemAt) : (s.memBurst m).canonical :=
  (canon (State.memBurst_frame rfl _ _)).mpr h

theorem State.readFound_canonical {s : State} (h : s.canonical) (m : MemAt) (b : FoundBy) (o : Stored) :
    (s.readFound m b o).canonical := by
  unfold State.readFound
  simp only
  split
  · exact h
  · exact State.corr_canonical h _ _ _ _
  · exact State.unc_canonical h _ _ _ _

theorem State.readWord_canonical {s : State} (h : s.canonical) (m : MemAt) (b : FoundBy) : (s.readWord m
    b).canonical :=
  (s.memBurst m).readFound_canonical (s.memBurst_canonical h m) _ _ _

theorem State.writeWord_canonical {s : State} (h : s.canonical) (o : Nat) (m : MemAt) (v : Nat) :
    (s.writeWord o m v).canonical := (s.memBurst m).putReq_canonical (s.memBurst_canonical h m) _ _ _

theorem State.mergeFound_canonical {s : State} (h : s.canonical) (o : Nat) (m : MemAt) (k v : Nat) (x : Stored) :
    (s.mergeFound o m k v x).canonical := by
  unfold State.mergeFound
  simp only
  split
  · exact State.putReq_canonical h _ _ _
  · exact State.putReq_canonical (State.corr_canonical h _ _ _ _) _ _ _
  · exact State.putReq_canonical (State.unc_canonical h _ _ _ _) _ _ _

theorem State.mergeWord_canonical {s : State} (h : s.canonical) (o : Nat) (m : MemAt) (k v : Nat) :
    (s.mergeWord o m k v).canonical := (s.memBurst m).mergeFound_canonical (s.memBurst_canonical h m) _ _ _ _ _

theorem State.access_canonical {s : State} (h : s.canonical) (x : MemAccess) : (s.access x).canonical := by
  unfold State.access
  split
  · exact h
  · cases x with
    | read m => exact s.readWord_canonical h _ _
    | write o m v => exact s.writeWord_canonical h _ _ _
    | merge o m k v => exact s.mergeWord_canonical h _ _ _ _

theorem canonical_memu {t : State} (h : t.canonical) (v : MemUnit) : State.canonical { t with memu := v } := ⟨h.1,
    h.2⟩

theorem State.request_canonical {s : State} (h : s.canonical) (x : MemAccess) : (s.request x).canonical := by
  unfold State.request
  exact canonical_ite (canonical_memu h _) (s.access_canonical h x)

theorem State.freeChan_canonical {s : State} (h : s.canonical) (ch : Nat) : (s.freeChan ch).canonical := by
  unfold State.freeChan
  exact canonical_foldl (fun t x ht => t.request_canonical ht x) _ _ (canonical_memu h _)

theorem State.allocLine_canonical {s : State} (h : s.canonical) (lba : Nat) (r : State × Nat) (e : s.allocLine lba =
    some r) :
    r.1.canonical := by
  unfold State.allocLine at e
  simp only at e
  split at e
  · cases e; exact h
  · split at e
    · cases e; exact (canon (State.setCache_frame rfl _ _ _)).mpr h
    · split at e
      · cases e
        simp only
        rw [canon (State.count_frame rfl _ _), canon (State.set_frame rfl _ _ _), canon (State.setCache_frame rfl _
            _ _)]
        exact canonical_staged (s.copyBlock_canonical h _ _) _
      · cases e

theorem State.install_canonical {s : State} (h : s.canonical) (lba : Nat) (d : List Nat) (f : Bool) :
    (s.install lba d f).canonical := by
  unfold State.install
  simp only
  split
  · exact h
  split
  · exact h
  split
  · exact (canon (State.count_frame rfl _ _)).mpr h
  · rename_i t i ht
    rw [canon (State.count_frame rfl _ _), canon (State.setCache_frame rfl _ _ _)]
    exact State.putFrag_canonical (s.allocLine_canonical h lba _ ht) _ _ _

theorem State.drainLines_canonical {s : State} (h : s.canonical) (d : Nat) (l : List Nat) : (s.drainLines d
    l).canonical := by
  induction l generalizing s with
  | nil => exact h
  | cons i is ih =>
    refine ih (canonical_ite ?_ h)
    rw [canon (State.setCache_frame rfl _ _ _)]
    exact canonical_staged (s.copyBlock_canonical h _ _) _

theorem State.intakeBlock_canonical {s : State} (h : s.canonical) (c : Cmd) (i : Nat) : (s.intakeBlock c
    i).1.canonical := by
  have hs (t : State) (v : Tab (Option (Nat × Nat))) (x : Fld) (ht : t.canonical) :
      (State.count { t with staged := v } x).canonical :=
    (canon (State.count_frame rfl _ _)).mpr ((canon_eq (s := t) rfl rfl).mpr ht)
  unfold State.intakeBlock
  simp only
  split
  · exact hs _ _ _ h
  · split
    · exact hs _ _ _ h
    · rename_i t l ht
      rw [canon (State.setCache_frame rfl _ _ _)]
      exact s.allocLine_canonical h _ _ ht

theorem State.intakeAll_canonical {s : State} (h : s.canonical) (c : Cmd) : (s.intakeAll c).canonical := by
  unfold State.intakeAll
  refine canonical_each (fun b s h => ?_) _ _ h
  simp only
  rw [canon (State.stmQueue_frame rfl rfl rfl rfl rfl rfl rfl rfl rfl rfl rfl rfl rfl rfl rfl rfl rfl rfl rfl rfl
      rfl rfl rfl rfl _ _ _)]
  exact s.intakeBlock_canonical h c b

theorem State.promise_canonical {s : State} (h : s.canonical) (c : Cmd) (u : Nat) : (s.promise c u).canonical := by
  unfold State.promise
  refine canonical_each (fun a s h => (canon (State.abortActs_frame rfl rfl rfl rfl rfl rfl rfl rfl rfl rfl rfl rfl
      rfl rfl rfl rfl rfl rfl rfl rfl rfl rfl rfl rfl _ _ _)).mpr h) _ _ ?_
  have h1 : ((s.unqueue c.id).setCmd c).canonical := by
    rw [canon (State.setCmd_frame rfl _ _), canon (State.unqueue_frame rfl _ _)]
    exact h
  have h2 := canonical_ite (c := c.hoisted = true) ((canon (State.promiseRec_frame rfl rfl rfl _ c)).mpr h1) h1
  exact canonical_ite ((canon (State.serveCached_frame rfl rfl rfl rfl rfl rfl rfl rfl rfl rfl rfl rfl rfl rfl rfl
      rfl rfl rfl rfl rfl rfl rfl rfl rfl _ _ _)).mpr h2) (canonical_ite (State.intakeAll_canonical h2 c) h2)

theorem State.admitMedia_canonical {s : State} (h : s.canonical) (c : Cmd) (hn u : Nat) : (s.admitMedia c hn
    u).canonical := by
  have hr (t : State) (ht : t.canonical) (x : Cmd) (a b k e d : Nat) : (t.refuse x a b k e d).canonical :=
    (canon (State.refuse_frame rfl rfl rfl rfl t x a b k e d)).mpr ht
  unfold State.admitMedia
  split
  · exact hr _ h _ _ _ _ _ _
  · rename_i h' _
    simp only
    generalize hr' : State.tryPlace false _ _ = r
    have e : r.s.canonical := by
      rw [← hr', canon (State.tryPlace_frame rfl rfl _ _ _)]; exact (canon (State.setCmd_frame rfl _ _)).mpr h
    clear hr'
    split
    · exact r.s.promise_canonical e _ _
    · exact hr _ ((canon (State.release_frame rfl rfl _ _)).mpr ((canon (State.setCmd_frame rfl _ _)).mpr h)) _ _ _
        _ _ _

theorem State.weigh_canonical {s : State} (h : s.canonical) (c : Cmd) (hn u : Nat) : (s.weigh c hn u).canonical := by
  have hr (t : State) (ht : t.canonical) (x : Cmd) (a b k e d : Nat) : (t.refuse x a b k e d).canonical :=
    (canon (State.refuse_frame rfl rfl rfl rfl t x a b k e d)).mpr ht
  unfold State.weigh
  simp only
  exact canonical_ite (hr _ h _ _ _ _ _ _) (canonical_ite
    (canonical_ite (s.promise_canonical h _ _) (hr _ h _ _ _ _ _ _))
    (canonical_ite (hr _ h _ _ _ _ _ _) (s.admitMedia_canonical h _ _ _)))

theorem State.burstCopy_canonical {s : State} (h : s.canonical) (n : Nat) (d : Desc) (a b l : Nat) :
    (s.burstCopy n d a b l).canonical := by
  unfold State.burstCopy
  refine canonical_ite ?_ (s.copyWords_canonical h _ _ _ _)
  split
  · refine canonical_ite h ?_
    simp only
    rw [canon (State.violation_frame rfl rfl _ _ _ _ _), canon (State.countSat_frame rfl _ _)]
    exact canonical_ports h _
  · exact h

theorem State.issueBurst_canonical {s : State} (h : s.canonical) (n : Nat) (x : Streamer) (j : Job) (d : Desc) :
    (s.issueBurst n x j d).canonical := by
  unfold State.issueBurst
  simp only
  split
  · exact (canon (State.stmFault_frame rfl rfl rfl rfl rfl rfl rfl rfl rfl _ _ _ _ _ _)).mpr h
  · split
    · rw [canon (State.issuedWhole_frame rfl rfl _ _ _ _ _), canon (State.afterBurst_frame rfl _ _ _ _ _ _ _), canon
        (State.bursting_frame rfl _ _)]
      exact canonical_ite (s.burstCopy_canonical h _ _ _ _ _) h
    · rw [canon (State.setStm_frame rfl _ _ _), canon (State.afterBurst_frame rfl _ _ _ _ _ _ _), canon
        (State.bursting_frame rfl _ _)]
      exact canonical_ite (s.burstCopy_canonical h _ _ _ _ _) h

theorem State.copyVersion_canonical {s : State} (h : s.canonical) (l v k m : Nat) (e : Bool) :
    (s.copyVersion l v k m e).canonical := by
  have h1 := s.copyBlock_canonical h k m
  unfold State.copyVersion
  simp only
  split
  · exact (canon (State.setCache_frame rfl _ _ _)).mpr h1
  · exact canonical_ite ((canon (State.countSat_frame rfl _ _)).mpr h1) h1

theorem State.fillSlot_canonical {s : State} (h : s.canonical) (x : Cmd) (i : Nat) (d : List Nat) :
    (s.fillSlot x i d).canonical := by
  unfold State.fillSlot
  simp only
  split
  · exact s.copyVersion_canonical h _ _ _ _ _
  · exact s.putFrag_canonical h _ _ _

theorem State.deliverBlock_canonical {s : State} (h : s.canonical) (x : Cmd) (i : Nat) (d : List Nat) :
    (s.deliverBlock x i d).canonical := by
  have h1 := s.fillSlot_canonical h x i d
  unfold State.deliverBlock
  exact canonical_ite ((canon (State.setCmd_frame rfl _ _)).mpr h1) ((canon (State.setCmd_frame rfl _ _)).mpr h1)

theorem State.deliverStripe_canonical {s : State} (h : s.canonical) (c q : Nat) (x : Cmd) (y : CmdStripe) (r :
    Settled)
    (b : Bool) : (s.deliverStripe c q x y r b).canonical := by
  have h1 (l : List (Nat × Nat)) (f : State → Nat × Nat → State) (hf : ∀ s a, s.canonical → (f s a).canonical) :
    (l.foldl f s).canonical := canonical_foldl hf l s h
  unfold State.deliverStripe
  simp only
  split
  · refine h1 _ _ (fun t p ht => ?_)
    split
    · exact ht
    · exact canonical_ite ((canon (State.setCmd_frame rfl _ _)).mpr ht) (canonical_ite (t.deliverBlock_canonical ht
        _ _ _) ht)
  · rw [canon (State.endIfSettled_frame rfl rfl rfl rfl _ _), canon (State.setCmd_frame rfl _ _)]
    refine h1 _ _ (fun t p ht => ?_)
    split
    · exact ht
    · exact canonical_ite ((canon (State.setCmd_frame rfl _ _)).mpr ht) (canonical_ite (t.deliverBlock_canonical ht
        _ _ _) ht)

theorem State.installStripe_canonical {s : State} (h : s.canonical) (c q : Nat) (x : Cmd) (r : Settled) :
    (s.installStripe c q x r).canonical := by
  unfold State.installStripe
  exact canonical_ite h (canonical_foldl (fun s i h => s.install_canonical h _ _ _) _ _ h)

theorem State.writeOwned_canonical {s : State} (h : s.canonical) (b o m off : Nat) (ws : List Nat) :
    (s.writeOwned b o m off ws).canonical := by
  unfold State.writeOwned
  exact canonical_ite (s.putSlot_canonical h _ _ _ _) (canonical_ite h ((canon (State.windowViolation_frame rfl rfl
      rfl _ _ _ _ _)).mpr h))

theorem State.writeSlot_canonical {s : State} (h : s.canonical) (o : Origin) (a : Nat) (ws : List Nat) :
    (s.writeSlot o a ws).canonical := by
  unfold State.writeSlot
  split
  · exact (canon (State.viewViolation_frame rfl rfl _ _ _ _ _ _)).mpr h
  · split
    · exact (canon (State.unmapped_frame rfl rfl _ _ _ _)).mpr h
    · split
      · exact s.writeOwned_canonical h _ _ _ _ _
      · exact s.putSlot_canonical h _ _ _ _

theorem State.packageReset_canonical {s : State} (h : s.canonical) : s.packageReset.canonical := by
  have h1 : s.logReset.canonical := (canon (State.logReset_frame rfl rfl _)).mpr h
  unfold State.packageReset
  generalize s.logReset = t at h1
  simp only
  rw [canon (State.set_frame rfl _ _ _)]
  exact ⟨filter_wf h1.1 _, filter_wf h1.2 _⟩

theorem State.stepMemory_canonical {s : State} (h : s.canonical) (f : Option (Fin 16)) (k rl rb : Nat) :
    (s.stepMemory f k rl rb).canonical := by
  unfold State.stepMemory
  split
  · refine canonical_clk ?_ _
    rw [canon (State.allOut_frame rfl rfl rfl rfl rfl rfl rfl rfl rfl rfl rfl rfl rfl rfl rfl _), canon
        (State.startResult_frame rfl rfl _ _ _)]
    exact h
  · simp only
    rw [canon (State.set_frame rfl _ _ _), canon (State.set_frame rfl _ _ _), canon (State.set_frame rfl _ _ _)]
    refine canonical_each (fun c s h => ?_) _ _ (canonical_each (fun c s h => ?_) _ _ ?_)
    · exact canonical_ite ((canon (State.setStr_frame rfl _ _ _)).mpr h) h
    · exact canonical_ite h ((canon (State.wr_frame rfl _ _ _)).mpr ((canon (State.wr_frame rfl _ _ _)).mpr h))
    · exact ⟨filter_wf h.1 _, filter_wf h.2 _⟩

/-- The answer is no next state, or one with both memory tables in canonical form. -/
def KeepsCanonical (r : Res) : Prop := ∀ t, r = .next t → t.canonical

theorem State.run_keeps {s : State} {f : State → State} (hf : s.canonical → (f s).canonical) (h : s.canonical) :
    KeepsCanonical (s.run f) := by
  intro t e
  unfold State.run at e
  injection e with e
  rw [← e]
  exact canonical_ite (hf h) h

theorem onWord_keeps {m : MemAt} {s : State} {f : State → State} (hf : s.canonical → (f s).canonical) (h :
    s.canonical) :
    KeepsCanonical (onWord m s f) := by
  unfold onWord
  split
  · exact State.run_keeps hf h
  · intro t e; cases e

/-- A command whose frame leaves the memory tables alone keeps their form. -/
theorem Framed.keeps {s : State} {r : Res} (hf : Framed notMem s r) (h : s.canonical) : KeepsCanonical r :=
  fun t e => (canon (hf t e)).mpr h

theorem execMemoryRead_keeps {s : State} (h : s.canonical) (m : MemAt) : KeepsCanonical (execMemoryRead m s) :=
  onWord_keeps (fun h => s.request_canonical h _) h

theorem execMemoryWrite_keeps {s : State} (h : s.canonical) (o : Origin) (m : MemAt) (v : Word) :
    KeepsCanonical (execMemoryWrite o m v s) := onWord_keeps (fun h => s.request_canonical h _) h

theorem execMemoryPartialWrite_keeps {s : State} (h : s.canonical) (o : Origin) (m : MemAt) (k : BitVec 4) (v :
    Word) :
    KeepsCanonical (execMemoryPartialWrite o m k v s) := onWord_keeps (fun h => s.request_canonical h _) h

theorem execScrubRead_keeps {s : State} (h : s.canonical) (m : MemAt) (row : BitVec 32) (last : Bool) :
    KeepsCanonical (execScrubRead m row last s) := by
  refine onWord_keeps (fun h => ?_) h
  have h1 := s.readWord_canonical h m 1
  refine canonical_ite h ?_
  simp only
  split
  · refine canonical_ite h ?_
    exact (canon (State.scrubStep_frame rfl rfl _ _)).mpr ((canon (State.rowSuspect_frame rfl rfl rfl _ _ _)).mpr
        (canonical_memu h1 _))
  · exact canonical_ite ((canon (State.count_frame rfl _ _)).mpr h1) h1

theorem execSteeringHoldEnd_keeps {s : State} (h : s.canonical) (ch : Channel) :
    KeepsCanonical (execSteeringHoldEnd ch s) := State.run_keeps (fun h => canonical_ite (s.freeChan_canonical h _)
        h) h

theorem execLineSweepBurst_keeps {s : State} (h : s.canonical) (ch : Channel) (a : BitVec 35) (l : List (BitVec 40)) :
    KeepsCanonical (execLineSweepBurst ch a l s) := by
  refine State.run_keeps (fun h => ?_) h
  refine canonical_ite h ?_
  have h0 : State.canonical { s with memu := { s.memu with lineAt := tset 0 s.memu.lineAt ch s.now } } :=
      canonical_memu h _
  have h1 := canonical_each (f := fun i s => s.readWord ⟨0, BitVec.ofNat 35 (a.toNat / 128 * 128 + 4 * i), .plain,
    l.getD i 0⟩ 3) (fun i s h => s.readWord_canonical h _ _) (List.range 32) _ h0
  exact canonical_ite ((canon (State.set_frame rfl _ _ _)).mpr h1) ((canon (State.set_frame rfl _ _ _)).mpr h1)

theorem State.refetched_canonical {s : State} (h : s.canonical) (b i : Nat) (d : List Nat) : (s.refetched b i
    d).canonical :=
  (canon (State.setCache_frame rfl _ _ _)).mpr (s.putFrag_canonical h _ _ _)

theorem execScrubRefetch_keeps {s : State} (h : s.canonical) (lba : BitVec 48) (d : List (BitVec 32)) (k : Fin
    16384) :
    KeepsCanonical (execScrubRefetch lba d k s) := by
  refine State.run_keeps (fun h => ?_) h
  simp only
  split
  · exact (canon (State.placeWork_frame rfl rfl _ _ _ _ _)).mpr h
  · exact canonical_ite ((canon (State.endWork_frame rfl rfl _ _)).mpr (s.refetched_canonical h _ _ _)) h
  · refine canonical_ite ((canon (State.endWork_frame rfl rfl _ _)).mpr (canonical_foldl (fun t y ht => ?_) _ _ ?_)) h
    · exact (canon (State.undueStripe_frame rfl _ _ _)).mpr ht
    · exact (canon (State.releaseOn_frame rfl rfl _ _ _ _ _)).mpr h
  · exact h

theorem execCacheDrainEnd_keeps {s : State} (h : s.canonical) (d : Die) : KeepsCanonical (execCacheDrainEnd d s) := by
  refine State.run_keeps (fun h => canonical_ite ?_ h) h
  have h1 := s.drainLines_canonical h d ((s.cacheOf d).lines.map Prod.fst)
  have h2 (t : State) (ht : t.canonical) (v : CacheDie) (x : Fld) (n : Nat) : ((t.setCache d v).set x n).canonical :=
    (canon (State.set_frame rfl _ _ _)).mpr ((canon (State.setCache_frame rfl _ _ _)).mpr ht)
  exact canonical_ite ((canon (State.set_frame rfl _ _ _)).mpr (h2 _ h1 _ _ _)) (h2 _ h1 _ _ _)

theorem execStmBurstIssue_keeps {s : State} (h : s.canonical) (n : StreamerNo) : KeepsCanonical (execStmBurstIssue n
    s) := by
  refine State.run_keeps (fun h => ?_) h
  split
  · exact canonical_ite h (s.issueBurst_canonical h _ _ _ _)
  · exact h

theorem execAdmissionUnitTake_keeps {s : State} (h : s.canonical) (d : Die) (k : Fin 16384) (u : Fin 4) (a b :
    BitVec 8) :
    KeepsCanonical (execAdmissionUnitTake d k u a b s) := by
  refine State.run_keeps (fun h => ?_) h
  have e : ((s.refillAhead b.toNat).meeting a.toNat).canonical :=
    (canon (State.meeting_frame rfl _ _)).mpr ((canon (State.refillAhead_frame rfl _ _)).mpr h)
  revert e
  generalize (s.refillAhead b.toNat).meeting a.toNat = s
  intro h
  simp only
  split
  · exact h
  · split
    · exact h
    · exact canonical_ite h (s.weigh_canonical h _ _ _)

theorem execStripeSettle_keeps {s : State} (h : s.canonical) (c : Cluster) (n : BitVec 32) :
    KeepsCanonical (execStripeSettle c n s) := by
  refine State.run_keeps (fun h => ?_) h
  split
  · exact h
  · refine canonical_ite h ?_
    have h1 (v : Stripes) (k : Nat) : (((s.setStr c v).seqEvent c 13).addSat (STR_REBUILT_COUNT c) k).canonical := by
      rw [canon (State.addSat_frame rfl _ _ _), canon (State.seqEvent_frame rfl _ _ _), canon (State.setStr_frame
          rfl _ _ _)]
      exact h
    have h2 (v : Stripes) (k : Nat) (b : Prop) [Decidable b] (x : Fld) := canonical_ite (c := b) (h1 v k)
      ((canon (State.countSat_frame rfl _ x)).mpr (h1 v k))
    simp only
    split
    · exact h2 _ _ _ _
    · split
      · exact h2 _ _ _ _
      · split
        · exact h2 _ _ _ _
        split
        · exact (canon (State.setCmd_frame rfl _ _)).mpr (h2 _ _ _ _)
        · exact State.installStripe_canonical (State.deliverStripe_canonical (h2 _ _ _ _) _ _ _ _ _ _) _ _ _ _

theorem execLinkWwr_keeps {s : State} (h : s.canonical) (p : LinkPort) (v : Bool) (f : Fin 256) (b : Fin 4096)
    (a : BitVec 48) (d : List Word) : KeepsCanonical (execLinkWwr p v f b a d s) :=
  State.run_keeps (fun h => (canon (State.donePosted_frame rfl _ _ _)).mpr (s.writeSlot_canonical h _ _ _)) h

theorem execChipReset_keeps {s : State} (h : s.canonical) : KeepsCanonical (execChipReset s) :=
  State.run_keeps (fun h => canonical_ite ((canon (State.set_frame rfl _ _ _)).mpr (s.packageReset_canonical h)) h) h

theorem execResetNAssert_keeps {s : State} (h : s.canonical) : KeepsCanonical (execResetNAssert s) := by
  have h1 := s.packageReset_canonical h
  intro t e
  unfold execResetNAssert at e
  injection e with e
  rw [← e]
  refine canonical_ite h ?_
  unfold State.heldInReset
  generalize s.packageReset = u at h1
  have h2 := (canon (State.set_frame rfl _ TOP_RSTCAUSE_PIN 1)).mpr
    (canonical_clk h1 { u.clk with resetLow := true, rootStopped := false, monErr := false })
  exact canonical_ite ((canon (State.set_frame rfl _ _ _)).mpr h2) h2

theorem execPowerOnDetect_keeps {s : State} : KeepsCanonical (execPowerOnDetect s) := by
  intro t e
  unfold execPowerOnDetect at e
  injection e with e
  rw [← e, canon (State.set_frame rfl _ _ _), canon (State.resume_frame rfl rfl _), canon (State.firstDone_frame rfl
      _)]
  exact ⟨rfl, rfl⟩

theorem execStartStepDone_keeps {s : State} (h : s.canonical) (f : Found) : KeepsCanonical (execStartStepDone f s)
    := by
  refine State.run_keeps (fun h => canonical_ite ?_ h) h
  cases f with
  | straps p t =>
    exact (canon (State.set_frame rfl _ _ _)).mpr ((canon (State.set_frame rfl _ _ _)).mpr ((canon (State.set_frame
        rfl _ _ _)).mpr h))
  | root ok =>
    exact (canon (State.stepRoot_frame rfl rfl rfl _ _)).mpr h
  | headers fuse a b =>
    exact canonical_ite ((canon (State.stepHeaders_frame rfl rfl rfl rfl rfl rfl rfl rfl rfl rfl rfl rfl rfl rfl rfl
        rfl rfl _ _ _ _)).mpr h) h
  | again =>
    exact canonical_ite h ((canon (State.useSlot_frame rfl rfl rfl rfl rfl rfl rfl rfl rfl rfl rfl rfl rfl rfl rfl
        rfl _ _)).mpr h)
  | memory failed kept rl rb =>
    exact s.stepMemory_canonical h _ _ _ _
  | image x =>
    exact (canon (State.stepImage_frame rfl rfl rfl rfl rfl rfl rfl rfl rfl rfl rfl rfl rfl rfl rfl rfl _ _)).mpr h
  | tables p =>
    exact (canon (State.stepTables_frame rfl rfl rfl rfl rfl rfl rfl rfl rfl rfl rfl rfl rfl rfl rfl _ _)).mpr h
  | electronics p m =>
    exact (canon (State.stepElectronics_frame rfl rfl rfl rfl rfl rfl rfl rfl rfl rfl rfl rfl rfl rfl rfl rfl rfl
        rfl rfl rfl rfl rfl rfl rfl rfl _ _ _)).mpr h
  | spinup =>
    exact (canon (State.stepSpinup_frame rfl rfl rfl rfl rfl rfl rfl rfl rfl rfl rfl rfl rfl rfl rfl rfl _)).mpr h
  | locked c =>
    exact (canon (State.stepLocked_frame rfl rfl rfl rfl rfl rfl rfl rfl rfl rfl rfl rfl rfl rfl rfl rfl _ _)).mpr h
  | recovered c m =>
    exact (canon (State.stepRecovered_frame rfl rfl rfl rfl rfl rfl rfl rfl rfl rfl rfl rfl rfl rfl rfl rfl rfl rfl
        _ _ _)).mpr h
  | opened c =>
    exact (canon (State.stepOpened_frame rfl rfl rfl rfl rfl rfl rfl rfl rfl rfl rfl rfl rfl rfl rfl rfl _ _)).mpr h

end Sys2Proof.Machine
end

