-- ==== Sys2Proof/Laws/Regs.lean ====
section
/-! SUPPORT. Laws/Regs.lean: registers and fields: what a write changes and what it leaves (R8 to R14). -/

namespace Sys2Proof.Machine

/-- A field lies within its 32-bit word. -/
abbrev Fld.inWord (x : Fld) : Prop := x.lo + x.w ≤ 32

/-- Two fields share no bit: other registers, or other bits of one. -/
abbrev Fld.apart (x y : Fld) : Prop := x.addr ≠ y.addr ∨ x.lo + x.w ≤ y.lo ∨ y.lo + y.w ≤ x.lo

theorem State.rd_wr (s : State) (a b : Nat) (v : Word) : (s.wr a v).rd b = if b = a then v else s.rd b :=
  Tab.get_put resetWord s.regs a b v

theorem State.rd_wr_same (s : State) (a : Nat) (v : Word) : (s.wr a v).rd a = v := Tab.get_put_same resetWord s.regs a v

theorem State.rd_wr_other (s : State) (a b : Nat) (v : Word) (h : b ≠ a) : (s.wr a v).rd b = s.rd b :=
  Tab.get_put_other resetWord s.regs a b v h

theorem State.rd_set_other (s : State) (x : Fld) (n a : Nat) (h : a ≠ x.addr) : (s.set x n).rd a = s.rd a :=
  State.rd_wr_other s x.addr a _ h

theorem putBits_lt (v lo w n : Nat) (hv : v < 2 ^ 32) (h : lo + w ≤ 32) : putBits v lo w n < 2 ^ 32 := by
  unfold putBits
  have h1 : v % 2 ^ lo < 2 ^ lo := Nat.mod_lt _ (Nat.two_pow_pos lo)
  have h2 : n % 2 ^ w < 2 ^ w := Nat.mod_lt _ (Nat.two_pow_pos w)
  have h3 : n % 2 ^ w * 2 ^ lo + v % 2 ^ lo < 2 ^ (lo + w) := by
    have : (n % 2 ^ w + 1) * 2 ^ lo ≤ 2 ^ w * 2 ^ lo := Nat.mul_le_mul_right _ h2
    rw [Nat.add_mul, Nat.one_mul] at this
    rw [Nat.pow_add, Nat.mul_comm (2 ^ lo)]
    omega
  have h4 : v / 2 ^ (lo + w) < 2 ^ (32 - (lo + w)) := by
    rw [Nat.div_lt_iff_lt_mul (Nat.two_pow_pos _), ← Nat.pow_add]
    rwa [Nat.sub_add_cancel h]
  have h5 : (v / 2 ^ (lo + w) + 1) * 2 ^ (lo + w) ≤ 2 ^ (32 - (lo + w)) * 2 ^ (lo + w) := Nat.mul_le_mul_right _ h4
  rw [← Nat.pow_add, Nat.sub_add_cancel h, Nat.add_mul, Nat.one_mul] at h5
  omega

theorem bitsOf_putBits_same (v lo w n : Nat) : bitsOf (putBits v lo w n) lo w = n % 2 ^ w := by
  unfold bitsOf putBits
  have h1 : v % 2 ^ lo < 2 ^ lo := Nat.mod_lt _ (Nat.two_pow_pos lo)
  have e : v / 2 ^ (lo + w) * 2 ^ (lo + w) + n % 2 ^ w * 2 ^ lo + v % 2 ^ lo
      = v % 2 ^ lo + (n % 2 ^ w + v / 2 ^ (lo + w) * 2 ^ w) * 2 ^ lo := by
    rw [Nat.add_mul, Nat.mul_assoc, Nat.pow_add, Nat.mul_comm (2 ^ w)]
    omega
  rw [e, Nat.add_mul_div_right _ _ (Nat.two_pow_pos lo), Nat.div_eq_of_lt h1, Nat.zero_add, Nat.add_mul_mod_self_right,
    Nat.mod_mod]

theorem bitsOf_putBits_low (v lo w n lo' w' : Nat) (h : lo' + w' ≤ lo) : bitsOf (putBits v lo w n) lo' w' = bitsOf v
    lo' w' := by
  unfold bitsOf putBits
  obtain ⟨k, rfl⟩ : ∃ k, lo = lo' + w' + k := ⟨lo - (lo' + w'), by omega⟩
  have e : v / 2 ^ (lo' + w' + k + w) * 2 ^ (lo' + w' + k + w) + n % 2 ^ w * 2 ^ (lo' + w' + k) + v % 2 ^ (lo' + w' + k)
      = v % 2 ^ (lo' + w' + k) + (v / 2 ^ (lo' + w' + k + w) * 2 ^ (k + w) + n % 2 ^ w * 2 ^ k) * 2 ^ w' * 2 ^ lo' := by
    rw [Nat.mul_assoc, ← Nat.pow_add, Nat.add_mul, Nat.mul_assoc, Nat.mul_assoc, ← Nat.pow_add, ← Nat.pow_add]
    have a : k + w + (w' + lo') = lo' + w' + k + w := by omega
    have b : k + (w' + lo') = lo' + w' + k := by omega
    rw [a, b]
    omega
  rw [e, Nat.add_mul_div_right _ _ (Nat.two_pow_pos lo'), Nat.add_mul_mod_self_right]
  have p : (2 : Nat) ^ (lo' + w' + k) = 2 ^ lo' * 2 ^ (w' + k) := by rw [← Nat.pow_add, Nat.add_assoc]
  rw [p, Nat.mod_mul_right_div_self, Nat.pow_add, Nat.mod_mul_right_mod]

theorem bitsOf_putBits_high (v lo w n lo' w' : Nat) (h : lo + w ≤ lo') : bitsOf (putBits v lo w n) lo' w' = bitsOf v
    lo' w' := by
  unfold bitsOf putBits
  obtain ⟨k, rfl⟩ : ∃ k, lo' = lo + w + k := ⟨lo' - (lo + w), by omega⟩
  have h1 : v % 2 ^ lo < 2 ^ lo := Nat.mod_lt _ (Nat.two_pow_pos lo)
  have h2 : n % 2 ^ w < 2 ^ w := Nat.mod_lt _ (Nat.two_pow_pos w)
  have h3 : n % 2 ^ w * 2 ^ lo + v % 2 ^ lo < 2 ^ (lo + w) := by
    have : (n % 2 ^ w + 1) * 2 ^ lo ≤ 2 ^ w * 2 ^ lo := Nat.mul_le_mul_right _ h2
    rw [Nat.add_mul, Nat.one_mul] at this
    rw [Nat.pow_add, Nat.mul_comm (2 ^ lo)]
    omega
  have e : (v / 2 ^ (lo + w) * 2 ^ (lo + w) + n % 2 ^ w * 2 ^ lo + v % 2 ^ lo) / 2 ^ (lo + w) = v / 2 ^ (lo + w) := by
    rw [Nat.add_assoc, Nat.add_comm, Nat.add_mul_div_right _ _ (Nat.two_pow_pos _), Nat.div_eq_of_lt h3, Nat.zero_add]
  rw [Nat.pow_add 2 (lo + w) k, ← Nat.div_div_eq_div_mul, ← Nat.div_div_eq_div_mul, e]

/-- The word a field write leaves, as a number. -/
theorem State.rd_set_same (s : State) (x : Fld) (n : Nat) (h : x.inWord) :
    ((s.set x n).rd x.addr).toNat = putBits (s.rd x.addr).toNat x.lo x.w n := by
  unfold State.set
  rw [State.rd_wr_same, BitVec.toNat_ofNat]
  exact Nat.mod_eq_of_lt (putBits_lt _ _ _ _ (s.rd x.addr).isLt h)

/-- A field just written holds what was written, in its width. -/
theorem State.get_set_same (s : State) (x : Fld) (n : Nat) (h : x.inWord) : (s.set x n).get x = n % 2 ^ x.w := by
  unfold State.get
  rw [State.rd_set_same s x n h, bitsOf_putBits_same]

/-- A field just written with a value that fits holds that value. -/
theorem State.get_set_fits (s : State) (x : Fld) (n : Nat) (h : x.inWord) (hn : n < 2 ^ x.w) : (s.set x n).get x = n
    := by
  rw [State.get_set_same s x n h, Nat.mod_eq_of_lt hn]

/-- A field apart from the one written is as before. -/
theorem State.get_set_other (s : State) (x y : Fld) (n : Nat) (hx : x.inWord) (h : x.apart y) :
    (s.set x n).get y = s.get y := by
  by_cases e : y.addr = x.addr
  · unfold State.get
    rw [e, State.rd_set_same s x n hx]
    rcases h with h | h | h
    · exact absurd e.symm h
    · exact bitsOf_putBits_high _ _ _ _ _ _ h
    · exact bitsOf_putBits_low _ _ _ _ _ _ h
  · unfold State.get
    rw [State.rd_set_other s x n y.addr e]

/-- A field of another register is as before. -/
theorem State.get_set_reg (s : State) (x y : Fld) (n : Nat) (h : y.addr ≠ x.addr) : (s.set x n).get y = s.get y := by
  unfold State.get
  rw [State.rd_set_other s x n y.addr h]

theorem State.get_wr_other (s : State) (x : Fld) (a : Nat) (v : Word) (h : x.addr ≠ a) : (s.wr a v).get x = s.get x :=
    by
  unfold State.get
  rw [State.rd_wr_other s a x.addr v h]

/-- A field of one bit is 0 or 1. -/
theorem State.get_lt (s : State) (x : Fld) : s.get x < 2 ^ x.w := Nat.mod_lt _ (Nat.two_pow_pos x.w)

/-- Registers depend on the register table only. -/
theorem State.rd_congr {s t : State} (h : t.regs = s.regs) (a : Nat) : t.rd a = s.rd a := by
  unfold State.rd
  rw [h]

theorem State.get_congr {s t : State} (h : t.regs = s.regs) (x : Fld) : t.get x = s.get x := by
  unfold State.get
  rw [State.rd_congr h]

/-- Entries of a table with a constant unlisted value. -/
theorem tget_tset {α : Type} [DecidableEq α] (d : α) (t : Tab α) (k j : Nat) (v : α) :
    tget d (tset d t k v) j = if j = k then v else tget d t j := Tab.get_put _ t k j v

theorem tget_tset_same {α : Type} [DecidableEq α] (d : α) (t : Tab α) (k : Nat) (v : α) : tget d (tset d t k v) k = v :=
  Tab.get_put_same _ t k v

theorem tget_tset_other {α : Type} [DecidableEq α] (d : α) (t : Tab α) (k j : Nat) (v : α) (h : j ≠ k) :
    tget d (tset d t k v) j = tget d t j := Tab.get_put_other _ t k j v h

end Sys2Proof.Machine
end

