-- ==== Sys2Proof/Laws/State.lean ====
section
/-! SUPPORT. Laws/State.lean: what each named update leaves alone, one lemma for each field of the state, and that an
entry just set reads back. -/

namespace Sys2Proof.Machine

@[simp] theorem State.wr_pending (s : State) (a : Nat) (v : Word) : (s.wr a v).pending = s.pending := id rfl
@[simp] theorem State.wr_clk (s : State) (a : Nat) (v : Word) : (s.wr a v).clk = s.clk := id rfl
@[simp] theorem State.wr_log (s : State) (a : Nat) (v : Word) : (s.wr a v).log = s.log := id rfl
@[simp] theorem State.wr_staff (s : State) (a : Nat) (v : Word) : (s.wr a v).staff = s.staff := id rfl
@[simp] theorem State.wr_resetting (s : State) (a : Nat) (v : Word) : (s.wr a v).resetting = s.resetting := id rfl
@[simp] theorem State.wr_masked (s : State) (a : Nat) (v : Word) : (s.wr a v).masked = s.masked := id rfl
@[simp] theorem State.wr_ports (s : State) (a : Nat) (v : Word) : (s.wr a v).ports = s.ports := id rfl
@[simp] theorem State.wr_win (s : State) (a : Nat) (v : Word) : (s.wr a v).win = s.win := id rfl
@[simp] theorem State.wr_tl (s : State) (a : Nat) (v : Word) : (s.wr a v).tl = s.tl := id rfl
@[simp] theorem State.wr_mem (s : State) (a : Nat) (v : Word) : (s.wr a v).mem = s.mem := id rfl
@[simp] theorem State.wr_memX (s : State) (a : Nat) (v : Word) : (s.wr a v).memX = s.memX := id rfl
@[simp] theorem State.wr_memu (s : State) (a : Nat) (v : Word) : (s.wr a v).memu = s.memu := id rfl
@[simp] theorem State.wr_lanes (s : State) (a : Nat) (v : Word) : (s.wr a v).lanes = s.lanes := id rfl
@[simp] theorem State.wr_pcb (s : State) (a : Nat) (v : Word) : (s.wr a v).pcb = s.pcb := id rfl
@[simp] theorem State.wr_mcb (s : State) (a : Nat) (v : Word) : (s.wr a v).mcb = s.mcb := id rfl
@[simp] theorem State.wr_pf (s : State) (a : Nat) (v : Word) : (s.wr a v).pf = s.pf := id rfl
@[simp] theorem State.wr_cantons (s : State) (a : Nat) (v : Word) : (s.wr a v).cantons = s.cantons := id rfl
@[simp] theorem State.wr_str (s : State) (a : Nat) (v : Word) : (s.wr a v).str = s.str := id rfl
@[simp] theorem State.wr_servo (s : State) (a : Nat) (v : Word) : (s.wr a v).servo = s.servo := id rfl
@[simp] theorem State.wr_seq (s : State) (a : Nat) (v : Word) : (s.wr a v).seq = s.seq := id rfl
@[simp] theorem State.wr_clr (s : State) (a : Nat) (v : Word) : (s.wr a v).clr = s.clr := id rfl
@[simp] theorem State.wr_biasA (s : State) (a : Nat) (v : Word) : (s.wr a v).biasA = s.biasA := id rfl
@[simp] theorem State.wr_spin (s : State) (a : Nat) (v : Word) : (s.wr a v).spin = s.spin := id rfl
@[simp] theorem State.wr_cache (s : State) (a : Nat) (v : Word) : (s.wr a v).cache = s.cache := id rfl
@[simp] theorem State.wr_staged (s : State) (a : Nat) (v : Word) : (s.wr a v).staged = s.staged := id rfl
@[simp] theorem State.wr_bufRecs (s : State) (a : Nat) (v : Word) : (s.wr a v).bufRecs = s.bufRecs := id rfl
@[simp] theorem State.wr_streamers (s : State) (a : Nat) (v : Word) : (s.wr a v).streamers = s.streamers := id rfl
@[simp] theorem State.wr_link (s : State) (a : Nat) (v : Word) : (s.wr a v).link = s.link := id rfl
@[simp] theorem State.wr_cross (s : State) (a : Nat) (v : Word) : (s.wr a v).cross = s.cross := id rfl
@[simp] theorem State.wr_start (s : State) (a : Nat) (v : Word) : (s.wr a v).start = s.start := id rfl
@[simp] theorem State.wr_cal (s : State) (a : Nat) (v : Word) : (s.wr a v).cal = s.cal := id rfl
@[simp] theorem State.wr_media (s : State) (a : Nat) (v : Word) : (s.wr a v).media = s.media := id rfl
@[simp] theorem State.wr_draws (s : State) (a : Nat) (v : Word) : (s.wr a v).draws = s.draws := id rfl
@[simp] theorem State.wr_live (s : State) (a : Nat) (v : Word) : (s.wr a v).live = s.live := id rfl

@[simp] theorem State.set_pending (s : State) (x : Fld) (n : Nat) : (s.set x n).pending = s.pending := id rfl
@[simp] theorem State.set_clk (s : State) (x : Fld) (n : Nat) : (s.set x n).clk = s.clk := id rfl
@[simp] theorem State.set_log (s : State) (x : Fld) (n : Nat) : (s.set x n).log = s.log := id rfl
@[simp] theorem State.set_staff (s : State) (x : Fld) (n : Nat) : (s.set x n).staff = s.staff := id rfl
@[simp] theorem State.set_resetting (s : State) (x : Fld) (n : Nat) : (s.set x n).resetting = s.resetting := id rfl
@[simp] theorem State.set_masked (s : State) (x : Fld) (n : Nat) : (s.set x n).masked = s.masked := id rfl
@[simp] theorem State.set_ports (s : State) (x : Fld) (n : Nat) : (s.set x n).ports = s.ports := id rfl
@[simp] theorem State.set_win (s : State) (x : Fld) (n : Nat) : (s.set x n).win = s.win := id rfl
@[simp] theorem State.set_tl (s : State) (x : Fld) (n : Nat) : (s.set x n).tl = s.tl := id rfl
@[simp] theorem State.set_mem (s : State) (x : Fld) (n : Nat) : (s.set x n).mem = s.mem := id rfl
@[simp] theorem State.set_memX (s : State) (x : Fld) (n : Nat) : (s.set x n).memX = s.memX := id rfl
@[simp] theorem State.set_memu (s : State) (x : Fld) (n : Nat) : (s.set x n).memu = s.memu := id rfl
@[simp] theorem State.set_lanes (s : State) (x : Fld) (n : Nat) : (s.set x n).lanes = s.lanes := id rfl
@[simp] theorem State.set_pcb (s : State) (x : Fld) (n : Nat) : (s.set x n).pcb = s.pcb := id rfl
@[simp] theorem State.set_mcb (s : State) (x : Fld) (n : Nat) : (s.set x n).mcb = s.mcb := id rfl
@[simp] theorem State.set_pf (s : State) (x : Fld) (n : Nat) : (s.set x n).pf = s.pf := id rfl
@[simp] theorem State.set_cantons (s : State) (x : Fld) (n : Nat) : (s.set x n).cantons = s.cantons := id rfl
@[simp] theorem State.set_str (s : State) (x : Fld) (n : Nat) : (s.set x n).str = s.str := id rfl
@[simp] theorem State.set_servo (s : State) (x : Fld) (n : Nat) : (s.set x n).servo = s.servo := id rfl
@[simp] theorem State.set_seq (s : State) (x : Fld) (n : Nat) : (s.set x n).seq = s.seq := id rfl
@[simp] theorem State.set_clr (s : State) (x : Fld) (n : Nat) : (s.set x n).clr = s.clr := id rfl
@[simp] theorem State.set_biasA (s : State) (x : Fld) (n : Nat) : (s.set x n).biasA = s.biasA := id rfl
@[simp] theorem State.set_spin (s : State) (x : Fld) (n : Nat) : (s.set x n).spin = s.spin := id rfl
@[simp] theorem State.set_cache (s : State) (x : Fld) (n : Nat) : (s.set x n).cache = s.cache := id rfl
@[simp] theorem State.set_staged (s : State) (x : Fld) (n : Nat) : (s.set x n).staged = s.staged := id rfl
@[simp] theorem State.set_bufRecs (s : State) (x : Fld) (n : Nat) : (s.set x n).bufRecs = s.bufRecs := id rfl
@[simp] theorem State.set_streamers (s : State) (x : Fld) (n : Nat) : (s.set x n).streamers = s.streamers := id rfl
@[simp] theorem State.set_link (s : State) (x : Fld) (n : Nat) : (s.set x n).link = s.link := id rfl
@[simp] theorem State.set_cross (s : State) (x : Fld) (n : Nat) : (s.set x n).cross = s.cross := id rfl
@[simp] theorem State.set_start (s : State) (x : Fld) (n : Nat) : (s.set x n).start = s.start := id rfl
@[simp] theorem State.set_cal (s : State) (x : Fld) (n : Nat) : (s.set x n).cal = s.cal := id rfl
@[simp] theorem State.set_media (s : State) (x : Fld) (n : Nat) : (s.set x n).media = s.media := id rfl
@[simp] theorem State.set_draws (s : State) (x : Fld) (n : Nat) : (s.set x n).draws = s.draws := id rfl
@[simp] theorem State.set_live (s : State) (x : Fld) (n : Nat) : (s.set x n).live = s.live := id rfl

@[simp] theorem State.setLane_pending (s : State) (c f : Nat) (l : Lane) : (s.setLane c f l).pending = s.pending := id
    rfl
@[simp] theorem State.setLane_clk (s : State) (c f : Nat) (l : Lane) : (s.setLane c f l).clk = s.clk := id rfl
@[simp] theorem State.setLane_regs (s : State) (c f : Nat) (l : Lane) : (s.setLane c f l).regs = s.regs := id rfl
@[simp] theorem State.setLane_log (s : State) (c f : Nat) (l : Lane) : (s.setLane c f l).log = s.log := id rfl
@[simp] theorem State.setLane_staff (s : State) (c f : Nat) (l : Lane) : (s.setLane c f l).staff = s.staff := id rfl
@[simp] theorem State.setLane_resetting (s : State) (c f : Nat) (l : Lane) : (s.setLane c f l).resetting = s.resetting
    := id rfl
@[simp] theorem State.setLane_masked (s : State) (c f : Nat) (l : Lane) : (s.setLane c f l).masked = s.masked := id rfl
@[simp] theorem State.setLane_ports (s : State) (c f : Nat) (l : Lane) : (s.setLane c f l).ports = s.ports := id rfl
@[simp] theorem State.setLane_win (s : State) (c f : Nat) (l : Lane) : (s.setLane c f l).win = s.win := id rfl
@[simp] theorem State.setLane_tl (s : State) (c f : Nat) (l : Lane) : (s.setLane c f l).tl = s.tl := id rfl
@[simp] theorem State.setLane_mem (s : State) (c f : Nat) (l : Lane) : (s.setLane c f l).mem = s.mem := id rfl
@[simp] theorem State.setLane_memX (s : State) (c f : Nat) (l : Lane) : (s.setLane c f l).memX = s.memX := id rfl
@[simp] theorem State.setLane_memu (s : State) (c f : Nat) (l : Lane) : (s.setLane c f l).memu = s.memu := id rfl
@[simp] theorem State.setLane_pcb (s : State) (c f : Nat) (l : Lane) : (s.setLane c f l).pcb = s.pcb := id rfl
@[simp] theorem State.setLane_mcb (s : State) (c f : Nat) (l : Lane) : (s.setLane c f l).mcb = s.mcb := id rfl
@[simp] theorem State.setLane_pf (s : State) (c f : Nat) (l : Lane) : (s.setLane c f l).pf = s.pf := id rfl
@[simp] theorem State.setLane_cantons (s : State) (c f : Nat) (l : Lane) : (s.setLane c f l).cantons = s.cantons := id
    rfl
@[simp] theorem State.setLane_str (s : State) (c f : Nat) (l : Lane) : (s.setLane c f l).str = s.str := id rfl
@[simp] theorem State.setLane_servo (s : State) (c f : Nat) (l : Lane) : (s.setLane c f l).servo = s.servo := id rfl
@[simp] theorem State.setLane_seq (s : State) (c f : Nat) (l : Lane) : (s.setLane c f l).seq = s.seq := id rfl
@[simp] theorem State.setLane_clr (s : State) (c f : Nat) (l : Lane) : (s.setLane c f l).clr = s.clr := id rfl
@[simp] theorem State.setLane_biasA (s : State) (c f : Nat) (l : Lane) : (s.setLane c f l).biasA = s.biasA := id rfl
@[simp] theorem State.setLane_spin (s : State) (c f : Nat) (l : Lane) : (s.setLane c f l).spin = s.spin := id rfl
@[simp] theorem State.setLane_cache (s : State) (c f : Nat) (l : Lane) : (s.setLane c f l).cache = s.cache := id rfl
@[simp] theorem State.setLane_staged (s : State) (c f : Nat) (l : Lane) : (s.setLane c f l).staged = s.staged := id rfl
@[simp] theorem State.setLane_bufRecs (s : State) (c f : Nat) (l : Lane) : (s.setLane c f l).bufRecs = s.bufRecs := id
    rfl
@[simp] theorem State.setLane_streamers (s : State) (c f : Nat) (l : Lane) : (s.setLane c f l).streamers = s.streamers
    := id rfl
@[simp] theorem State.setLane_link (s : State) (c f : Nat) (l : Lane) : (s.setLane c f l).link = s.link := id rfl
@[simp] theorem State.setLane_cross (s : State) (c f : Nat) (l : Lane) : (s.setLane c f l).cross = s.cross := id rfl
@[simp] theorem State.setLane_start (s : State) (c f : Nat) (l : Lane) : (s.setLane c f l).start = s.start := id rfl
@[simp] theorem State.setLane_cal (s : State) (c f : Nat) (l : Lane) : (s.setLane c f l).cal = s.cal := id rfl
@[simp] theorem State.setLane_media (s : State) (c f : Nat) (l : Lane) : (s.setLane c f l).media = s.media := id rfl
@[simp] theorem State.setLane_draws (s : State) (c f : Nat) (l : Lane) : (s.setLane c f l).draws = s.draws := id rfl
@[simp] theorem State.setLane_rd (s : State) (c f : Nat) (l : Lane) (b : Nat) : (s.setLane c f l).rd b = s.rd b := id
    rfl
@[simp] theorem State.setLane_get (s : State) (c f : Nat) (l : Lane) (y : Fld) : (s.setLane c f l).get y = s.get y :=
    id rfl
@[simp] theorem State.setLane_is (s : State) (c f : Nat) (l : Lane) (y : Fld) : (s.setLane c f l).is y = s.is y := id
    rfl
@[simp] theorem State.setLane_live (s : State) (c f : Nat) (l : Lane) : (s.setLane c f l).live = s.live := id rfl
@[simp] theorem State.setLane_lane_same (s : State) (c f : Nat) (l : Lane) : (s.setLane c f l).lane c f = l :=
  tget_tset_same _ _ _ _

@[simp] theorem State.setPcb_pending (s : State) (c : Nat) (x : Pcb) : (s.setPcb c x).pending = s.pending := id rfl
@[simp] theorem State.setPcb_clk (s : State) (c : Nat) (x : Pcb) : (s.setPcb c x).clk = s.clk := id rfl
@[simp] theorem State.setPcb_regs (s : State) (c : Nat) (x : Pcb) : (s.setPcb c x).regs = s.regs := id rfl
@[simp] theorem State.setPcb_log (s : State) (c : Nat) (x : Pcb) : (s.setPcb c x).log = s.log := id rfl
@[simp] theorem State.setPcb_staff (s : State) (c : Nat) (x : Pcb) : (s.setPcb c x).staff = s.staff := id rfl
@[simp] theorem State.setPcb_resetting (s : State) (c : Nat) (x : Pcb) : (s.setPcb c x).resetting = s.resetting := id
    rfl
@[simp] theorem State.setPcb_masked (s : State) (c : Nat) (x : Pcb) : (s.setPcb c x).masked = s.masked := id rfl
@[simp] theorem State.setPcb_ports (s : State) (c : Nat) (x : Pcb) : (s.setPcb c x).ports = s.ports := id rfl
@[simp] theorem State.setPcb_win (s : State) (c : Nat) (x : Pcb) : (s.setPcb c x).win = s.win := id rfl
@[simp] theorem State.setPcb_tl (s : State) (c : Nat) (x : Pcb) : (s.setPcb c x).tl = s.tl := id rfl
@[simp] theorem State.setPcb_mem (s : State) (c : Nat) (x : Pcb) : (s.setPcb c x).mem = s.mem := id rfl
@[simp] theorem State.setPcb_memX (s : State) (c : Nat) (x : Pcb) : (s.setPcb c x).memX = s.memX := id rfl
@[simp] theorem State.setPcb_memu (s : State) (c : Nat) (x : Pcb) : (s.setPcb c x).memu = s.memu := id rfl
@[simp] theorem State.setPcb_lanes (s : State) (c : Nat) (x : Pcb) : (s.setPcb c x).lanes = s.lanes := id rfl
@[simp] theorem State.setPcb_mcb (s : State) (c : Nat) (x : Pcb) : (s.setPcb c x).mcb = s.mcb := id rfl
@[simp] theorem State.setPcb_pf (s : State) (c : Nat) (x : Pcb) : (s.setPcb c x).pf = s.pf := id rfl
@[simp] theorem State.setPcb_cantons (s : State) (c : Nat) (x : Pcb) : (s.setPcb c x).cantons = s.cantons := id rfl
@[simp] theorem State.setPcb_str (s : State) (c : Nat) (x : Pcb) : (s.setPcb c x).str = s.str := id rfl
@[simp] theorem State.setPcb_servo (s : State) (c : Nat) (x : Pcb) : (s.setPcb c x).servo = s.servo := id rfl
@[simp] theorem State.setPcb_seq (s : State) (c : Nat) (x : Pcb) : (s.setPcb c x).seq = s.seq := id rfl
@[simp] theorem State.setPcb_clr (s : State) (c : Nat) (x : Pcb) : (s.setPcb c x).clr = s.clr := id rfl
@[simp] theorem State.setPcb_biasA (s : State) (c : Nat) (x : Pcb) : (s.setPcb c x).biasA = s.biasA := id rfl
@[simp] theorem State.setPcb_spin (s : State) (c : Nat) (x : Pcb) : (s.setPcb c x).spin = s.spin := id rfl
@[simp] theorem State.setPcb_cache (s : State) (c : Nat) (x : Pcb) : (s.setPcb c x).cache = s.cache := id rfl
@[simp] theorem State.setPcb_staged (s : State) (c : Nat) (x : Pcb) : (s.setPcb c x).staged = s.staged := id rfl
@[simp] theorem State.setPcb_bufRecs (s : State) (c : Nat) (x : Pcb) : (s.setPcb c x).bufRecs = s.bufRecs := id rfl
@[simp] theorem State.setPcb_streamers (s : State) (c : Nat) (x : Pcb) : (s.setPcb c x).streamers = s.streamers := id
    rfl
@[simp] theorem State.setPcb_link (s : State) (c : Nat) (x : Pcb) : (s.setPcb c x).link = s.link := id rfl
@[simp] theorem State.setPcb_cross (s : State) (c : Nat) (x : Pcb) : (s.setPcb c x).cross = s.cross := id rfl
@[simp] theorem State.setPcb_start (s : State) (c : Nat) (x : Pcb) : (s.setPcb c x).start = s.start := id rfl
@[simp] theorem State.setPcb_cal (s : State) (c : Nat) (x : Pcb) : (s.setPcb c x).cal = s.cal := id rfl
@[simp] theorem State.setPcb_media (s : State) (c : Nat) (x : Pcb) : (s.setPcb c x).media = s.media := id rfl
@[simp] theorem State.setPcb_draws (s : State) (c : Nat) (x : Pcb) : (s.setPcb c x).draws = s.draws := id rfl
@[simp] theorem State.setPcb_rd (s : State) (c : Nat) (x : Pcb) (b : Nat) : (s.setPcb c x).rd b = s.rd b := id rfl
@[simp] theorem State.setPcb_get (s : State) (c : Nat) (x : Pcb) (y : Fld) : (s.setPcb c x).get y = s.get y := id rfl
@[simp] theorem State.setPcb_is (s : State) (c : Nat) (x : Pcb) (y : Fld) : (s.setPcb c x).is y = s.is y := id rfl
@[simp] theorem State.setPcb_live (s : State) (c : Nat) (x : Pcb) : (s.setPcb c x).live = s.live := id rfl
@[simp] theorem State.setPcb_pcbOf_same (s : State) (c : Nat) (x : Pcb) : (s.setPcb c x).pcbOf c = x :=
  tget_tset_same _ _ _ _

@[simp] theorem State.setSeq_pending (s : State) (c : Nat) (x : Seq) : (s.setSeq c x).pending = s.pending := id rfl
@[simp] theorem State.setSeq_clk (s : State) (c : Nat) (x : Seq) : (s.setSeq c x).clk = s.clk := id rfl
@[simp] theorem State.setSeq_regs (s : State) (c : Nat) (x : Seq) : (s.setSeq c x).regs = s.regs := id rfl
@[simp] theorem State.setSeq_log (s : State) (c : Nat) (x : Seq) : (s.setSeq c x).log = s.log := id rfl
@[simp] theorem State.setSeq_staff (s : State) (c : Nat) (x : Seq) : (s.setSeq c x).staff = s.staff := id rfl
@[simp] theorem State.setSeq_resetting (s : State) (c : Nat) (x : Seq) : (s.setSeq c x).resetting = s.resetting := id
    rfl
@[simp] theorem State.setSeq_masked (s : State) (c : Nat) (x : Seq) : (s.setSeq c x).masked = s.masked := id rfl
@[simp] theorem State.setSeq_ports (s : State) (c : Nat) (x : Seq) : (s.setSeq c x).ports = s.ports := id rfl
@[simp] theorem State.setSeq_win (s : State) (c : Nat) (x : Seq) : (s.setSeq c x).win = s.win := id rfl
@[simp] theorem State.setSeq_tl (s : State) (c : Nat) (x : Seq) : (s.setSeq c x).tl = s.tl := id rfl
@[simp] theorem State.setSeq_mem (s : State) (c : Nat) (x : Seq) : (s.setSeq c x).mem = s.mem := id rfl
@[simp] theorem State.setSeq_memX (s : State) (c : Nat) (x : Seq) : (s.setSeq c x).memX = s.memX := id rfl
@[simp] theorem State.setSeq_memu (s : State) (c : Nat) (x : Seq) : (s.setSeq c x).memu = s.memu := id rfl
@[simp] theorem State.setSeq_lanes (s : State) (c : Nat) (x : Seq) : (s.setSeq c x).lanes = s.lanes := id rfl
@[simp] theorem State.setSeq_pcb (s : State) (c : Nat) (x : Seq) : (s.setSeq c x).pcb = s.pcb := id rfl
@[simp] theorem State.setSeq_mcb (s : State) (c : Nat) (x : Seq) : (s.setSeq c x).mcb = s.mcb := id rfl
@[simp] theorem State.setSeq_pf (s : State) (c : Nat) (x : Seq) : (s.setSeq c x).pf = s.pf := id rfl
@[simp] theorem State.setSeq_cantons (s : State) (c : Nat) (x : Seq) : (s.setSeq c x).cantons = s.cantons := id rfl
@[simp] theorem State.setSeq_str (s : State) (c : Nat) (x : Seq) : (s.setSeq c x).str = s.str := id rfl
@[simp] theorem State.setSeq_servo (s : State) (c : Nat) (x : Seq) : (s.setSeq c x).servo = s.servo := id rfl
@[simp] theorem State.setSeq_clr (s : State) (c : Nat) (x : Seq) : (s.setSeq c x).clr = s.clr := id rfl
@[simp] theorem State.setSeq_biasA (s : State) (c : Nat) (x : Seq) : (s.setSeq c x).biasA = s.biasA := id rfl
@[simp] theorem State.setSeq_spin (s : State) (c : Nat) (x : Seq) : (s.setSeq c x).spin = s.spin := id rfl
@[simp] theorem State.setSeq_cache (s : State) (c : Nat) (x : Seq) : (s.setSeq c x).cache = s.cache := id rfl
@[simp] theorem State.setSeq_staged (s : State) (c : Nat) (x : Seq) : (s.setSeq c x).staged = s.staged := id rfl
@[simp] theorem State.setSeq_bufRecs (s : State) (c : Nat) (x : Seq) : (s.setSeq c x).bufRecs = s.bufRecs := id rfl
@[simp] theorem State.setSeq_streamers (s : State) (c : Nat) (x : Seq) : (s.setSeq c x).streamers = s.streamers := id
    rfl
@[simp] theorem State.setSeq_link (s : State) (c : Nat) (x : Seq) : (s.setSeq c x).link = s.link := id rfl
@[simp] theorem State.setSeq_cross (s : State) (c : Nat) (x : Seq) : (s.setSeq c x).cross = s.cross := id rfl
@[simp] theorem State.setSeq_start (s : State) (c : Nat) (x : Seq) : (s.setSeq c x).start = s.start := id rfl
@[simp] theorem State.setSeq_cal (s : State) (c : Nat) (x : Seq) : (s.setSeq c x).cal = s.cal := id rfl
@[simp] theorem State.setSeq_media (s : State) (c : Nat) (x : Seq) : (s.setSeq c x).media = s.media := id rfl
@[simp] theorem State.setSeq_draws (s : State) (c : Nat) (x : Seq) : (s.setSeq c x).draws = s.draws := id rfl
@[simp] theorem State.setSeq_rd (s : State) (c : Nat) (x : Seq) (b : Nat) : (s.setSeq c x).rd b = s.rd b := id rfl
@[simp] theorem State.setSeq_get (s : State) (c : Nat) (x : Seq) (y : Fld) : (s.setSeq c x).get y = s.get y := id rfl
@[simp] theorem State.setSeq_is (s : State) (c : Nat) (x : Seq) (y : Fld) : (s.setSeq c x).is y = s.is y := id rfl
@[simp] theorem State.setSeq_live (s : State) (c : Nat) (x : Seq) : (s.setSeq c x).live = s.live := id rfl
@[simp] theorem State.setSeq_seqOf_same (s : State) (c : Nat) (x : Seq) : (s.setSeq c x).seqOf c = x :=
  tget_tset_same _ _ _ _

@[simp] theorem State.setStr_pending (s : State) (c : Nat) (x : Stripes) : (s.setStr c x).pending = s.pending := id rfl
@[simp] theorem State.setStr_clk (s : State) (c : Nat) (x : Stripes) : (s.setStr c x).clk = s.clk := id rfl
@[simp] theorem State.setStr_regs (s : State) (c : Nat) (x : Stripes) : (s.setStr c x).regs = s.regs := id rfl
@[simp] theorem State.setStr_log (s : State) (c : Nat) (x : Stripes) : (s.setStr c x).log = s.log := id rfl
@[simp] theorem State.setStr_staff (s : State) (c : Nat) (x : Stripes) : (s.setStr c x).staff = s.staff := id rfl
@[simp] theorem State.setStr_resetting (s : State) (c : Nat) (x : Stripes) : (s.setStr c x).resetting = s.resetting :=
    id rfl
@[simp] theorem State.setStr_masked (s : State) (c : Nat) (x : Stripes) : (s.setStr c x).masked = s.masked := id rfl
@[simp] theorem State.setStr_ports (s : State) (c : Nat) (x : Stripes) : (s.setStr c x).ports = s.ports := id rfl
@[simp] theorem State.setStr_win (s : State) (c : Nat) (x : Stripes) : (s.setStr c x).win = s.win := id rfl
@[simp] theorem State.setStr_tl (s : State) (c : Nat) (x : Stripes) : (s.setStr c x).tl = s.tl := id rfl
@[simp] theorem State.setStr_mem (s : State) (c : Nat) (x : Stripes) : (s.setStr c x).mem = s.mem := id rfl
@[simp] theorem State.setStr_memX (s : State) (c : Nat) (x : Stripes) : (s.setStr c x).memX = s.memX := id rfl
@[simp] theorem State.setStr_memu (s : State) (c : Nat) (x : Stripes) : (s.setStr c x).memu = s.memu := id rfl
@[simp] theorem State.setStr_lanes (s : State) (c : Nat) (x : Stripes) : (s.setStr c x).lanes = s.lanes := id rfl
@[simp] theorem State.setStr_pcb (s : State) (c : Nat) (x : Stripes) : (s.setStr c x).pcb = s.pcb := id rfl
@[simp] theorem State.setStr_mcb (s : State) (c : Nat) (x : Stripes) : (s.setStr c x).mcb = s.mcb := id rfl
@[simp] theorem State.setStr_pf (s : State) (c : Nat) (x : Stripes) : (s.setStr c x).pf = s.pf := id rfl
@[simp] theorem State.setStr_cantons (s : State) (c : Nat) (x : Stripes) : (s.setStr c x).cantons = s.cantons := id rfl
@[simp] theorem State.setStr_servo (s : State) (c : Nat) (x : Stripes) : (s.setStr c x).servo = s.servo := id rfl
@[simp] theorem State.setStr_seq (s : State) (c : Nat) (x : Stripes) : (s.setStr c x).seq = s.seq := id rfl
@[simp] theorem State.setStr_clr (s : State) (c : Nat) (x : Stripes) : (s.setStr c x).clr = s.clr := id rfl
@[simp] theorem State.setStr_biasA (s : State) (c : Nat) (x : Stripes) : (s.setStr c x).biasA = s.biasA := id rfl
@[simp] theorem State.setStr_spin (s : State) (c : Nat) (x : Stripes) : (s.setStr c x).spin = s.spin := id rfl
@[simp] theorem State.setStr_cache (s : State) (c : Nat) (x : Stripes) : (s.setStr c x).cache = s.cache := id rfl
@[simp] theorem State.setStr_staged (s : State) (c : Nat) (x : Stripes) : (s.setStr c x).staged = s.staged := id rfl
@[simp] theorem State.setStr_bufRecs (s : State) (c : Nat) (x : Stripes) : (s.setStr c x).bufRecs = s.bufRecs := id rfl
@[simp] theorem State.setStr_streamers (s : State) (c : Nat) (x : Stripes) : (s.setStr c x).streamers = s.streamers :=
    id rfl
@[simp] theorem State.setStr_link (s : State) (c : Nat) (x : Stripes) : (s.setStr c x).link = s.link := id rfl
@[simp] theorem State.setStr_cross (s : State) (c : Nat) (x : Stripes) : (s.setStr c x).cross = s.cross := id rfl
@[simp] theorem State.setStr_start (s : State) (c : Nat) (x : Stripes) : (s.setStr c x).start = s.start := id rfl
@[simp] theorem State.setStr_cal (s : State) (c : Nat) (x : Stripes) : (s.setStr c x).cal = s.cal := id rfl
@[simp] theorem State.setStr_media (s : State) (c : Nat) (x : Stripes) : (s.setStr c x).media = s.media := id rfl
@[simp] theorem State.setStr_draws (s : State) (c : Nat) (x : Stripes) : (s.setStr c x).draws = s.draws := id rfl
@[simp] theorem State.setStr_rd (s : State) (c : Nat) (x : Stripes) (b : Nat) : (s.setStr c x).rd b = s.rd b := id rfl
@[simp] theorem State.setStr_get (s : State) (c : Nat) (x : Stripes) (y : Fld) : (s.setStr c x).get y = s.get y := id
    rfl
@[simp] theorem State.setStr_is (s : State) (c : Nat) (x : Stripes) (y : Fld) : (s.setStr c x).is y = s.is y := id rfl
@[simp] theorem State.setStr_live (s : State) (c : Nat) (x : Stripes) : (s.setStr c x).live = s.live := id rfl
@[simp] theorem State.setStr_strOf_same (s : State) (c : Nat) (x : Stripes) : (s.setStr c x).strOf c = x :=
  tget_tset_same _ _ _ _

@[simp] theorem State.setTl_pending (s : State) (c : Nat) (x : Timeline) : (s.setTl c x).pending = s.pending := id rfl
@[simp] theorem State.setTl_clk (s : State) (c : Nat) (x : Timeline) : (s.setTl c x).clk = s.clk := id rfl
@[simp] theorem State.setTl_regs (s : State) (c : Nat) (x : Timeline) : (s.setTl c x).regs = s.regs := id rfl
@[simp] theorem State.setTl_log (s : State) (c : Nat) (x : Timeline) : (s.setTl c x).log = s.log := id rfl
@[simp] theorem State.setTl_staff (s : State) (c : Nat) (x : Timeline) : (s.setTl c x).staff = s.staff := id rfl
@[simp] theorem State.setTl_resetting (s : State) (c : Nat) (x : Timeline) : (s.setTl c x).resetting = s.resetting :=
    id rfl
@[simp] theorem State.setTl_masked (s : State) (c : Nat) (x : Timeline) : (s.setTl c x).masked = s.masked := id rfl
@[simp] theorem State.setTl_ports (s : State) (c : Nat) (x : Timeline) : (s.setTl c x).ports = s.ports := id rfl
@[simp] theorem State.setTl_win (s : State) (c : Nat) (x : Timeline) : (s.setTl c x).win = s.win := id rfl
@[simp] theorem State.setTl_mem (s : State) (c : Nat) (x : Timeline) : (s.setTl c x).mem = s.mem := id rfl
@[simp] theorem State.setTl_memX (s : State) (c : Nat) (x : Timeline) : (s.setTl c x).memX = s.memX := id rfl
@[simp] theorem State.setTl_memu (s : State) (c : Nat) (x : Timeline) : (s.setTl c x).memu = s.memu := id rfl
@[simp] theorem State.setTl_lanes (s : State) (c : Nat) (x : Timeline) : (s.setTl c x).lanes = s.lanes := id rfl
@[simp] theorem State.setTl_pcb (s : State) (c : Nat) (x : Timeline) : (s.setTl c x).pcb = s.pcb := id rfl
@[simp] theorem State.setTl_mcb (s : State) (c : Nat) (x : Timeline) : (s.setTl c x).mcb = s.mcb := id rfl
@[simp] theorem State.setTl_pf (s : State) (c : Nat) (x : Timeline) : (s.setTl c x).pf = s.pf := id rfl
@[simp] theorem State.setTl_cantons (s : State) (c : Nat) (x : Timeline) : (s.setTl c x).cantons = s.cantons := id rfl
@[simp] theorem State.setTl_str (s : State) (c : Nat) (x : Timeline) : (s.setTl c x).str = s.str := id rfl
@[simp] theorem State.setTl_servo (s : State) (c : Nat) (x : Timeline) : (s.setTl c x).servo = s.servo := id rfl
@[simp] theorem State.setTl_seq (s : State) (c : Nat) (x : Timeline) : (s.setTl c x).seq = s.seq := id rfl
@[simp] theorem State.setTl_clr (s : State) (c : Nat) (x : Timeline) : (s.setTl c x).clr = s.clr := id rfl
@[simp] theorem State.setTl_biasA (s : State) (c : Nat) (x : Timeline) : (s.setTl c x).biasA = s.biasA := id rfl
@[simp] theorem State.setTl_spin (s : State) (c : Nat) (x : Timeline) : (s.setTl c x).spin = s.spin := id rfl
@[simp] theorem State.setTl_cache (s : State) (c : Nat) (x : Timeline) : (s.setTl c x).cache = s.cache := id rfl
@[simp] theorem State.setTl_staged (s : State) (c : Nat) (x : Timeline) : (s.setTl c x).staged = s.staged := id rfl
@[simp] theorem State.setTl_bufRecs (s : State) (c : Nat) (x : Timeline) : (s.setTl c x).bufRecs = s.bufRecs := id rfl
@[simp] theorem State.setTl_streamers (s : State) (c : Nat) (x : Timeline) : (s.setTl c x).streamers = s.streamers :=
    id rfl
@[simp] theorem State.setTl_link (s : State) (c : Nat) (x : Timeline) : (s.setTl c x).link = s.link := id rfl
@[simp] theorem State.setTl_cross (s : State) (c : Nat) (x : Timeline) : (s.setTl c x).cross = s.cross := id rfl
@[simp] theorem State.setTl_start (s : State) (c : Nat) (x : Timeline) : (s.setTl c x).start = s.start := id rfl
@[simp] theorem State.setTl_cal (s : State) (c : Nat) (x : Timeline) : (s.setTl c x).cal = s.cal := id rfl
@[simp] theorem State.setTl_media (s : State) (c : Nat) (x : Timeline) : (s.setTl c x).media = s.media := id rfl
@[simp] theorem State.setTl_draws (s : State) (c : Nat) (x : Timeline) : (s.setTl c x).draws = s.draws := id rfl
@[simp] theorem State.setTl_rd (s : State) (c : Nat) (x : Timeline) (b : Nat) : (s.setTl c x).rd b = s.rd b := id rfl
@[simp] theorem State.setTl_get (s : State) (c : Nat) (x : Timeline) (y : Fld) : (s.setTl c x).get y = s.get y := id rfl
@[simp] theorem State.setTl_is (s : State) (c : Nat) (x : Timeline) (y : Fld) : (s.setTl c x).is y = s.is y := id rfl
@[simp] theorem State.setTl_live (s : State) (c : Nat) (x : Timeline) : (s.setTl c x).live = s.live := id rfl
@[simp] theorem State.setTl_tlOf_same (s : State) (c : Nat) (x : Timeline) : (s.setTl c x).tlOf c = x :=
  tget_tset_same _ _ _ _

@[simp] theorem State.setStm_pending (s : State) (n : Nat) (x : Streamer) : (s.setStm n x).pending = s.pending := id rfl
@[simp] theorem State.setStm_clk (s : State) (n : Nat) (x : Streamer) : (s.setStm n x).clk = s.clk := id rfl
@[simp] theorem State.setStm_regs (s : State) (n : Nat) (x : Streamer) : (s.setStm n x).regs = s.regs := id rfl
@[simp] theorem State.setStm_log (s : State) (n : Nat) (x : Streamer) : (s.setStm n x).log = s.log := id rfl
@[simp] theorem State.setStm_staff (s : State) (n : Nat) (x : Streamer) : (s.setStm n x).staff = s.staff := id rfl
@[simp] theorem State.setStm_resetting (s : State) (n : Nat) (x : Streamer) : (s.setStm n x).resetting = s.resetting
    := id rfl
@[simp] theorem State.setStm_masked (s : State) (n : Nat) (x : Streamer) : (s.setStm n x).masked = s.masked := id rfl
@[simp] theorem State.setStm_ports (s : State) (n : Nat) (x : Streamer) : (s.setStm n x).ports = s.ports := id rfl
@[simp] theorem State.setStm_win (s : State) (n : Nat) (x : Streamer) : (s.setStm n x).win = s.win := id rfl
@[simp] theorem State.setStm_tl (s : State) (n : Nat) (x : Streamer) : (s.setStm n x).tl = s.tl := id rfl
@[simp] theorem State.setStm_mem (s : State) (n : Nat) (x : Streamer) : (s.setStm n x).mem = s.mem := id rfl
@[simp] theorem State.setStm_memX (s : State) (n : Nat) (x : Streamer) : (s.setStm n x).memX = s.memX := id rfl
@[simp] theorem State.setStm_memu (s : State) (n : Nat) (x : Streamer) : (s.setStm n x).memu = s.memu := id rfl
@[simp] theorem State.setStm_lanes (s : State) (n : Nat) (x : Streamer) : (s.setStm n x).lanes = s.lanes := id rfl
@[simp] theorem State.setStm_pcb (s : State) (n : Nat) (x : Streamer) : (s.setStm n x).pcb = s.pcb := id rfl
@[simp] theorem State.setStm_mcb (s : State) (n : Nat) (x : Streamer) : (s.setStm n x).mcb = s.mcb := id rfl
@[simp] theorem State.setStm_pf (s : State) (n : Nat) (x : Streamer) : (s.setStm n x).pf = s.pf := id rfl
@[simp] theorem State.setStm_cantons (s : State) (n : Nat) (x : Streamer) : (s.setStm n x).cantons = s.cantons := id rfl
@[simp] theorem State.setStm_str (s : State) (n : Nat) (x : Streamer) : (s.setStm n x).str = s.str := id rfl
@[simp] theorem State.setStm_servo (s : State) (n : Nat) (x : Streamer) : (s.setStm n x).servo = s.servo := id rfl
@[simp] theorem State.setStm_seq (s : State) (n : Nat) (x : Streamer) : (s.setStm n x).seq = s.seq := id rfl
@[simp] theorem State.setStm_clr (s : State) (n : Nat) (x : Streamer) : (s.setStm n x).clr = s.clr := id rfl
@[simp] theorem State.setStm_biasA (s : State) (n : Nat) (x : Streamer) : (s.setStm n x).biasA = s.biasA := id rfl
@[simp] theorem State.setStm_spin (s : State) (n : Nat) (x : Streamer) : (s.setStm n x).spin = s.spin := id rfl
@[simp] theorem State.setStm_cache (s : State) (n : Nat) (x : Streamer) : (s.setStm n x).cache = s.cache := id rfl
@[simp] theorem State.setStm_staged (s : State) (n : Nat) (x : Streamer) : (s.setStm n x).staged = s.staged := id rfl
@[simp] theorem State.setStm_bufRecs (s : State) (n : Nat) (x : Streamer) : (s.setStm n x).bufRecs = s.bufRecs := id rfl
@[simp] theorem State.setStm_link (s : State) (n : Nat) (x : Streamer) : (s.setStm n x).link = s.link := id rfl
@[simp] theorem State.setStm_cross (s : State) (n : Nat) (x : Streamer) : (s.setStm n x).cross = s.cross := id rfl
@[simp] theorem State.setStm_start (s : State) (n : Nat) (x : Streamer) : (s.setStm n x).start = s.start := id rfl
@[simp] theorem State.setStm_cal (s : State) (n : Nat) (x : Streamer) : (s.setStm n x).cal = s.cal := id rfl
@[simp] theorem State.setStm_media (s : State) (n : Nat) (x : Streamer) : (s.setStm n x).media = s.media := id rfl
@[simp] theorem State.setStm_draws (s : State) (n : Nat) (x : Streamer) : (s.setStm n x).draws = s.draws := id rfl
@[simp] theorem State.setStm_rd (s : State) (n : Nat) (x : Streamer) (b : Nat) : (s.setStm n x).rd b = s.rd b := id rfl
@[simp] theorem State.setStm_get (s : State) (n : Nat) (x : Streamer) (y : Fld) : (s.setStm n x).get y = s.get y := id
    rfl
@[simp] theorem State.setStm_is (s : State) (n : Nat) (x : Streamer) (y : Fld) : (s.setStm n x).is y = s.is y := id rfl
@[simp] theorem State.setStm_live (s : State) (n : Nat) (x : Streamer) : (s.setStm n x).live = s.live := id rfl
@[simp] theorem State.setStm_stmOf_same (s : State) (n : Nat) (x : Streamer) : (s.setStm n x).stmOf n = x :=
  tget_tset_same _ _ _ _

@[simp] theorem State.setCanton_pending (s : State) (k : Nat) (x : Canton) : (s.setCanton k x).pending = s.pending :=
    id rfl
@[simp] theorem State.setCanton_clk (s : State) (k : Nat) (x : Canton) : (s.setCanton k x).clk = s.clk := id rfl
@[simp] theorem State.setCanton_regs (s : State) (k : Nat) (x : Canton) : (s.setCanton k x).regs = s.regs := id rfl
@[simp] theorem State.setCanton_log (s : State) (k : Nat) (x : Canton) : (s.setCanton k x).log = s.log := id rfl
@[simp] theorem State.setCanton_staff (s : State) (k : Nat) (x : Canton) : (s.setCanton k x).staff = s.staff := id rfl
@[simp] theorem State.setCanton_resetting (s : State) (k : Nat) (x : Canton) : (s.setCanton k x).resetting =
    s.resetting := id rfl
@[simp] theorem State.setCanton_masked (s : State) (k : Nat) (x : Canton) : (s.setCanton k x).masked = s.masked := id
    rfl
@[simp] theorem State.setCanton_ports (s : State) (k : Nat) (x : Canton) : (s.setCanton k x).ports = s.ports := id rfl
@[simp] theorem State.setCanton_win (s : State) (k : Nat) (x : Canton) : (s.setCanton k x).win = s.win := id rfl
@[simp] theorem State.setCanton_tl (s : State) (k : Nat) (x : Canton) : (s.setCanton k x).tl = s.tl := id rfl
@[simp] theorem State.setCanton_mem (s : State) (k : Nat) (x : Canton) : (s.setCanton k x).mem = s.mem := id rfl
@[simp] theorem State.setCanton_memX (s : State) (k : Nat) (x : Canton) : (s.setCanton k x).memX = s.memX := id rfl
@[simp] theorem State.setCanton_memu (s : State) (k : Nat) (x : Canton) : (s.setCanton k x).memu = s.memu := id rfl
@[simp] theorem State.setCanton_lanes (s : State) (k : Nat) (x : Canton) : (s.setCanton k x).lanes = s.lanes := id rfl
@[simp] theorem State.setCanton_pcb (s : State) (k : Nat) (x : Canton) : (s.setCanton k x).pcb = s.pcb := id rfl
@[simp] theorem State.setCanton_mcb (s : State) (k : Nat) (x : Canton) : (s.setCanton k x).mcb = s.mcb := id rfl
@[simp] theorem State.setCanton_pf (s : State) (k : Nat) (x : Canton) : (s.setCanton k x).pf = s.pf := id rfl
@[simp] theorem State.setCanton_str (s : State) (k : Nat) (x : Canton) : (s.setCanton k x).str = s.str := id rfl
@[simp] theorem State.setCanton_servo (s : State) (k : Nat) (x : Canton) : (s.setCanton k x).servo = s.servo := id rfl
@[simp] theorem State.setCanton_seq (s : State) (k : Nat) (x : Canton) : (s.setCanton k x).seq = s.seq := id rfl
@[simp] theorem State.setCanton_clr (s : State) (k : Nat) (x : Canton) : (s.setCanton k x).clr = s.clr := id rfl
@[simp] theorem State.setCanton_biasA (s : State) (k : Nat) (x : Canton) : (s.setCanton k x).biasA = s.biasA := id rfl
@[simp] theorem State.setCanton_spin (s : State) (k : Nat) (x : Canton) : (s.setCanton k x).spin = s.spin := id rfl
@[simp] theorem State.setCanton_cache (s : State) (k : Nat) (x : Canton) : (s.setCanton k x).cache = s.cache := id rfl
@[simp] theorem State.setCanton_staged (s : State) (k : Nat) (x : Canton) : (s.setCanton k x).staged = s.staged := id
    rfl
@[simp] theorem State.setCanton_bufRecs (s : State) (k : Nat) (x : Canton) : (s.setCanton k x).bufRecs = s.bufRecs :=
    id rfl
@[simp] theorem State.setCanton_streamers (s : State) (k : Nat) (x : Canton) : (s.setCanton k x).streamers =
    s.streamers := id rfl
@[simp] theorem State.setCanton_link (s : State) (k : Nat) (x : Canton) : (s.setCanton k x).link = s.link := id rfl
@[simp] theorem State.setCanton_cross (s : State) (k : Nat) (x : Canton) : (s.setCanton k x).cross = s.cross := id rfl
@[simp] theorem State.setCanton_start (s : State) (k : Nat) (x : Canton) : (s.setCanton k x).start = s.start := id rfl
@[simp] theorem State.setCanton_cal (s : State) (k : Nat) (x : Canton) : (s.setCanton k x).cal = s.cal := id rfl
@[simp] theorem State.setCanton_media (s : State) (k : Nat) (x : Canton) : (s.setCanton k x).media = s.media := id rfl
@[simp] theorem State.setCanton_draws (s : State) (k : Nat) (x : Canton) : (s.setCanton k x).draws = s.draws := id rfl
@[simp] theorem State.setCanton_rd (s : State) (k : Nat) (x : Canton) (b : Nat) : (s.setCanton k x).rd b = s.rd b :=
    id rfl
@[simp] theorem State.setCanton_get (s : State) (k : Nat) (x : Canton) (y : Fld) : (s.setCanton k x).get y = s.get y
    := id rfl
@[simp] theorem State.setCanton_is (s : State) (k : Nat) (x : Canton) (y : Fld) : (s.setCanton k x).is y = s.is y :=
    id rfl
@[simp] theorem State.setCanton_live (s : State) (k : Nat) (x : Canton) : (s.setCanton k x).live = s.live := id rfl
@[simp] theorem State.setCanton_cantonOf_same (s : State) (k : Nat) (x : Canton) : (s.setCanton k x).cantonOf k = x :=
  tget_tset_same _ _ _ _

@[simp] theorem State.setServo_pending (s : State) (c : Nat) (x : Servo) : (s.setServo c x).pending = s.pending := id
    rfl
@[simp] theorem State.setServo_clk (s : State) (c : Nat) (x : Servo) : (s.setServo c x).clk = s.clk := id rfl
@[simp] theorem State.setServo_regs (s : State) (c : Nat) (x : Servo) : (s.setServo c x).regs = s.regs := id rfl
@[simp] theorem State.setServo_log (s : State) (c : Nat) (x : Servo) : (s.setServo c x).log = s.log := id rfl
@[simp] theorem State.setServo_staff (s : State) (c : Nat) (x : Servo) : (s.setServo c x).staff = s.staff := id rfl
@[simp] theorem State.setServo_resetting (s : State) (c : Nat) (x : Servo) : (s.setServo c x).resetting = s.resetting
    := id rfl
@[simp] theorem State.setServo_masked (s : State) (c : Nat) (x : Servo) : (s.setServo c x).masked = s.masked := id rfl
@[simp] theorem State.setServo_ports (s : State) (c : Nat) (x : Servo) : (s.setServo c x).ports = s.ports := id rfl
@[simp] theorem State.setServo_win (s : State) (c : Nat) (x : Servo) : (s.setServo c x).win = s.win := id rfl
@[simp] theorem State.setServo_tl (s : State) (c : Nat) (x : Servo) : (s.setServo c x).tl = s.tl := id rfl
@[simp] theorem State.setServo_mem (s : State) (c : Nat) (x : Servo) : (s.setServo c x).mem = s.mem := id rfl
@[simp] theorem State.setServo_memX (s : State) (c : Nat) (x : Servo) : (s.setServo c x).memX = s.memX := id rfl
@[simp] theorem State.setServo_memu (s : State) (c : Nat) (x : Servo) : (s.setServo c x).memu = s.memu := id rfl
@[simp] theorem State.setServo_lanes (s : State) (c : Nat) (x : Servo) : (s.setServo c x).lanes = s.lanes := id rfl
@[simp] theorem State.setServo_pcb (s : State) (c : Nat) (x : Servo) : (s.setServo c x).pcb = s.pcb := id rfl
@[simp] theorem State.setServo_mcb (s : State) (c : Nat) (x : Servo) : (s.setServo c x).mcb = s.mcb := id rfl
@[simp] theorem State.setServo_pf (s : State) (c : Nat) (x : Servo) : (s.setServo c x).pf = s.pf := id rfl
@[simp] theorem State.setServo_cantons (s : State) (c : Nat) (x : Servo) : (s.setServo c x).cantons = s.cantons := id
    rfl
@[simp] theorem State.setServo_str (s : State) (c : Nat) (x : Servo) : (s.setServo c x).str = s.str := id rfl
@[simp] theorem State.setServo_seq (s : State) (c : Nat) (x : Servo) : (s.setServo c x).seq = s.seq := id rfl
@[simp] theorem State.setServo_clr (s : State) (c : Nat) (x : Servo) : (s.setServo c x).clr = s.clr := id rfl
@[simp] theorem State.setServo_biasA (s : State) (c : Nat) (x : Servo) : (s.setServo c x).biasA = s.biasA := id rfl
@[simp] theorem State.setServo_spin (s : State) (c : Nat) (x : Servo) : (s.setServo c x).spin = s.spin := id rfl
@[simp] theorem State.setServo_cache (s : State) (c : Nat) (x : Servo) : (s.setServo c x).cache = s.cache := id rfl
@[simp] theorem State.setServo_staged (s : State) (c : Nat) (x : Servo) : (s.setServo c x).staged = s.staged := id rfl
@[simp] theorem State.setServo_bufRecs (s : State) (c : Nat) (x : Servo) : (s.setServo c x).bufRecs = s.bufRecs := id
    rfl
@[simp] theorem State.setServo_streamers (s : State) (c : Nat) (x : Servo) : (s.setServo c x).streamers = s.streamers
    := id rfl
@[simp] theorem State.setServo_link (s : State) (c : Nat) (x : Servo) : (s.setServo c x).link = s.link := id rfl
@[simp] theorem State.setServo_cross (s : State) (c : Nat) (x : Servo) : (s.setServo c x).cross = s.cross := id rfl
@[simp] theorem State.setServo_start (s : State) (c : Nat) (x : Servo) : (s.setServo c x).start = s.start := id rfl
@[simp] theorem State.setServo_cal (s : State) (c : Nat) (x : Servo) : (s.setServo c x).cal = s.cal := id rfl
@[simp] theorem State.setServo_media (s : State) (c : Nat) (x : Servo) : (s.setServo c x).media = s.media := id rfl
@[simp] theorem State.setServo_draws (s : State) (c : Nat) (x : Servo) : (s.setServo c x).draws = s.draws := id rfl
@[simp] theorem State.setServo_rd (s : State) (c : Nat) (x : Servo) (b : Nat) : (s.setServo c x).rd b = s.rd b := id rfl
@[simp] theorem State.setServo_get (s : State) (c : Nat) (x : Servo) (y : Fld) : (s.setServo c x).get y = s.get y :=
    id rfl
@[simp] theorem State.setServo_is (s : State) (c : Nat) (x : Servo) (y : Fld) : (s.setServo c x).is y = s.is y := id rfl
@[simp] theorem State.setServo_live (s : State) (c : Nat) (x : Servo) : (s.setServo c x).live = s.live := id rfl
@[simp] theorem State.setServo_servoOf_same (s : State) (c : Nat) (x : Servo) : (s.setServo c x).servoOf c = x :=
  tget_tset_same _ _ _ _

@[simp] theorem State.setClr_pending (s : State) (c f : Nat) (x : Clr) : (s.setClr c f x).pending = s.pending := id rfl
@[simp] theorem State.setClr_clk (s : State) (c f : Nat) (x : Clr) : (s.setClr c f x).clk = s.clk := id rfl
@[simp] theorem State.setClr_regs (s : State) (c f : Nat) (x : Clr) : (s.setClr c f x).regs = s.regs := id rfl
@[simp] theorem State.setClr_log (s : State) (c f : Nat) (x : Clr) : (s.setClr c f x).log = s.log := id rfl
@[simp] theorem State.setClr_staff (s : State) (c f : Nat) (x : Clr) : (s.setClr c f x).staff = s.staff := id rfl
@[simp] theorem State.setClr_resetting (s : State) (c f : Nat) (x : Clr) : (s.setClr c f x).resetting = s.resetting :=
    id rfl
@[simp] theorem State.setClr_masked (s : State) (c f : Nat) (x : Clr) : (s.setClr c f x).masked = s.masked := id rfl
@[simp] theorem State.setClr_ports (s : State) (c f : Nat) (x : Clr) : (s.setClr c f x).ports = s.ports := id rfl
@[simp] theorem State.setClr_win (s : State) (c f : Nat) (x : Clr) : (s.setClr c f x).win = s.win := id rfl
@[simp] theorem State.setClr_tl (s : State) (c f : Nat) (x : Clr) : (s.setClr c f x).tl = s.tl := id rfl
@[simp] theorem State.setClr_mem (s : State) (c f : Nat) (x : Clr) : (s.setClr c f x).mem = s.mem := id rfl
@[simp] theorem State.setClr_memX (s : State) (c f : Nat) (x : Clr) : (s.setClr c f x).memX = s.memX := id rfl
@[simp] theorem State.setClr_memu (s : State) (c f : Nat) (x : Clr) : (s.setClr c f x).memu = s.memu := id rfl
@[simp] theorem State.setClr_lanes (s : State) (c f : Nat) (x : Clr) : (s.setClr c f x).lanes = s.lanes := id rfl
@[simp] theorem State.setClr_pcb (s : State) (c f : Nat) (x : Clr) : (s.setClr c f x).pcb = s.pcb := id rfl
@[simp] theorem State.setClr_mcb (s : State) (c f : Nat) (x : Clr) : (s.setClr c f x).mcb = s.mcb := id rfl
@[simp] theorem State.setClr_pf (s : State) (c f : Nat) (x : Clr) : (s.setClr c f x).pf = s.pf := id rfl
@[simp] theorem State.setClr_cantons (s : State) (c f : Nat) (x : Clr) : (s.setClr c f x).cantons = s.cantons := id rfl
@[simp] theorem State.setClr_str (s : State) (c f : Nat) (x : Clr) : (s.setClr c f x).str = s.str := id rfl
@[simp] theorem State.setClr_servo (s : State) (c f : Nat) (x : Clr) : (s.setClr c f x).servo = s.servo := id rfl
@[simp] theorem State.setClr_seq (s : State) (c f : Nat) (x : Clr) : (s.setClr c f x).seq = s.seq := id rfl
@[simp] theorem State.setClr_biasA (s : State) (c f : Nat) (x : Clr) : (s.setClr c f x).biasA = s.biasA := id rfl
@[simp] theorem State.setClr_spin (s : State) (c f : Nat) (x : Clr) : (s.setClr c f x).spin = s.spin := id rfl
@[simp] theorem State.setClr_cache (s : State) (c f : Nat) (x : Clr) : (s.setClr c f x).cache = s.cache := id rfl
@[simp] theorem State.setClr_staged (s : State) (c f : Nat) (x : Clr) : (s.setClr c f x).staged = s.staged := id rfl
@[simp] theorem State.setClr_bufRecs (s : State) (c f : Nat) (x : Clr) : (s.setClr c f x).bufRecs = s.bufRecs := id rfl
@[simp] theorem State.setClr_streamers (s : State) (c f : Nat) (x : Clr) : (s.setClr c f x).streamers = s.streamers :=
    id rfl
@[simp] theorem State.setClr_link (s : State) (c f : Nat) (x : Clr) : (s.setClr c f x).link = s.link := id rfl
@[simp] theorem State.setClr_cross (s : State) (c f : Nat) (x : Clr) : (s.setClr c f x).cross = s.cross := id rfl
@[simp] theorem State.setClr_start (s : State) (c f : Nat) (x : Clr) : (s.setClr c f x).start = s.start := id rfl
@[simp] theorem State.setClr_cal (s : State) (c f : Nat) (x : Clr) : (s.setClr c f x).cal = s.cal := id rfl
@[simp] theorem State.setClr_media (s : State) (c f : Nat) (x : Clr) : (s.setClr c f x).media = s.media := id rfl
@[simp] theorem State.setClr_draws (s : State) (c f : Nat) (x : Clr) : (s.setClr c f x).draws = s.draws := id rfl
@[simp] theorem State.setClr_rd (s : State) (c f : Nat) (x : Clr) (b : Nat) : (s.setClr c f x).rd b = s.rd b := id rfl
@[simp] theorem State.setClr_get (s : State) (c f : Nat) (x : Clr) (y : Fld) : (s.setClr c f x).get y = s.get y := id
    rfl
@[simp] theorem State.setClr_is (s : State) (c f : Nat) (x : Clr) (y : Fld) : (s.setClr c f x).is y = s.is y := id rfl
@[simp] theorem State.setClr_live (s : State) (c f : Nat) (x : Clr) : (s.setClr c f x).live = s.live := id rfl
@[simp] theorem State.setClr_clrOf_same (s : State) (c f : Nat) (x : Clr) : (s.setClr c f x).clrOf c f = x :=
  tget_tset_same _ _ _ _

@[simp] theorem State.setSpin_pending (s : State) (d : Nat) (x : Spin) : (s.setSpin d x).pending = s.pending := id rfl
@[simp] theorem State.setSpin_clk (s : State) (d : Nat) (x : Spin) : (s.setSpin d x).clk = s.clk := id rfl
@[simp] theorem State.setSpin_regs (s : State) (d : Nat) (x : Spin) : (s.setSpin d x).regs = s.regs := id rfl
@[simp] theorem State.setSpin_log (s : State) (d : Nat) (x : Spin) : (s.setSpin d x).log = s.log := id rfl
@[simp] theorem State.setSpin_staff (s : State) (d : Nat) (x : Spin) : (s.setSpin d x).staff = s.staff := id rfl
@[simp] theorem State.setSpin_resetting (s : State) (d : Nat) (x : Spin) : (s.setSpin d x).resetting = s.resetting :=
    id rfl
@[simp] theorem State.setSpin_masked (s : State) (d : Nat) (x : Spin) : (s.setSpin d x).masked = s.masked := id rfl
@[simp] theorem State.setSpin_ports (s : State) (d : Nat) (x : Spin) : (s.setSpin d x).ports = s.ports := id rfl
@[simp] theorem State.setSpin_win (s : State) (d : Nat) (x : Spin) : (s.setSpin d x).win = s.win := id rfl
@[simp] theorem State.setSpin_tl (s : State) (d : Nat) (x : Spin) : (s.setSpin d x).tl = s.tl := id rfl
@[simp] theorem State.setSpin_mem (s : State) (d : Nat) (x : Spin) : (s.setSpin d x).mem = s.mem := id rfl
@[simp] theorem State.setSpin_memX (s : State) (d : Nat) (x : Spin) : (s.setSpin d x).memX = s.memX := id rfl
@[simp] theorem State.setSpin_memu (s : State) (d : Nat) (x : Spin) : (s.setSpin d x).memu = s.memu := id rfl
@[simp] theorem State.setSpin_lanes (s : State) (d : Nat) (x : Spin) : (s.setSpin d x).lanes = s.lanes := id rfl
@[simp] theorem State.setSpin_pcb (s : State) (d : Nat) (x : Spin) : (s.setSpin d x).pcb = s.pcb := id rfl
@[simp] theorem State.setSpin_mcb (s : State) (d : Nat) (x : Spin) : (s.setSpin d x).mcb = s.mcb := id rfl
@[simp] theorem State.setSpin_pf (s : State) (d : Nat) (x : Spin) : (s.setSpin d x).pf = s.pf := id rfl
@[simp] theorem State.setSpin_cantons (s : State) (d : Nat) (x : Spin) : (s.setSpin d x).cantons = s.cantons := id rfl
@[simp] theorem State.setSpin_str (s : State) (d : Nat) (x : Spin) : (s.setSpin d x).str = s.str := id rfl
@[simp] theorem State.setSpin_servo (s : State) (d : Nat) (x : Spin) : (s.setSpin d x).servo = s.servo := id rfl
@[simp] theorem State.setSpin_seq (s : State) (d : Nat) (x : Spin) : (s.setSpin d x).seq = s.seq := id rfl
@[simp] theorem State.setSpin_clr (s : State) (d : Nat) (x : Spin) : (s.setSpin d x).clr = s.clr := id rfl
@[simp] theorem State.setSpin_biasA (s : State) (d : Nat) (x : Spin) : (s.setSpin d x).biasA = s.biasA := id rfl
@[simp] theorem State.setSpin_cache (s : State) (d : Nat) (x : Spin) : (s.setSpin d x).cache = s.cache := id rfl
@[simp] theorem State.setSpin_staged (s : State) (d : Nat) (x : Spin) : (s.setSpin d x).staged = s.staged := id rfl
@[simp] theorem State.setSpin_bufRecs (s : State) (d : Nat) (x : Spin) : (s.setSpin d x).bufRecs = s.bufRecs := id rfl
@[simp] theorem State.setSpin_streamers (s : State) (d : Nat) (x : Spin) : (s.setSpin d x).streamers = s.streamers :=
    id rfl
@[simp] theorem State.setSpin_link (s : State) (d : Nat) (x : Spin) : (s.setSpin d x).link = s.link := id rfl
@[simp] theorem State.setSpin_cross (s : State) (d : Nat) (x : Spin) : (s.setSpin d x).cross = s.cross := id rfl
@[simp] theorem State.setSpin_start (s : State) (d : Nat) (x : Spin) : (s.setSpin d x).start = s.start := id rfl
@[simp] theorem State.setSpin_cal (s : State) (d : Nat) (x : Spin) : (s.setSpin d x).cal = s.cal := id rfl
@[simp] theorem State.setSpin_media (s : State) (d : Nat) (x : Spin) : (s.setSpin d x).media = s.media := id rfl
@[simp] theorem State.setSpin_draws (s : State) (d : Nat) (x : Spin) : (s.setSpin d x).draws = s.draws := id rfl
@[simp] theorem State.setSpin_rd (s : State) (d : Nat) (x : Spin) (b : Nat) : (s.setSpin d x).rd b = s.rd b := id rfl
@[simp] theorem State.setSpin_get (s : State) (d : Nat) (x : Spin) (y : Fld) : (s.setSpin d x).get y = s.get y := id rfl
@[simp] theorem State.setSpin_is (s : State) (d : Nat) (x : Spin) (y : Fld) : (s.setSpin d x).is y = s.is y := id rfl
@[simp] theorem State.setSpin_live (s : State) (d : Nat) (x : Spin) : (s.setSpin d x).live = s.live := id rfl
@[simp] theorem State.setSpin_spinOf_same (s : State) (d : Nat) (x : Spin) : (s.setSpin d x).spinOf d = x :=
  tget_tset_same _ _ _ _

@[simp] theorem State.setCross_pending (s : State) (n : Nat) (x : Cross) : (s.setCross n x).pending = s.pending := id
    rfl
@[simp] theorem State.setCross_clk (s : State) (n : Nat) (x : Cross) : (s.setCross n x).clk = s.clk := id rfl
@[simp] theorem State.setCross_regs (s : State) (n : Nat) (x : Cross) : (s.setCross n x).regs = s.regs := id rfl
@[simp] theorem State.setCross_log (s : State) (n : Nat) (x : Cross) : (s.setCross n x).log = s.log := id rfl
@[simp] theorem State.setCross_staff (s : State) (n : Nat) (x : Cross) : (s.setCross n x).staff = s.staff := id rfl
@[simp] theorem State.setCross_resetting (s : State) (n : Nat) (x : Cross) : (s.setCross n x).resetting = s.resetting
    := id rfl
@[simp] theorem State.setCross_masked (s : State) (n : Nat) (x : Cross) : (s.setCross n x).masked = s.masked := id rfl
@[simp] theorem State.setCross_ports (s : State) (n : Nat) (x : Cross) : (s.setCross n x).ports = s.ports := id rfl
@[simp] theorem State.setCross_win (s : State) (n : Nat) (x : Cross) : (s.setCross n x).win = s.win := id rfl
@[simp] theorem State.setCross_tl (s : State) (n : Nat) (x : Cross) : (s.setCross n x).tl = s.tl := id rfl
@[simp] theorem State.setCross_mem (s : State) (n : Nat) (x : Cross) : (s.setCross n x).mem = s.mem := id rfl
@[simp] theorem State.setCross_memX (s : State) (n : Nat) (x : Cross) : (s.setCross n x).memX = s.memX := id rfl
@[simp] theorem State.setCross_memu (s : State) (n : Nat) (x : Cross) : (s.setCross n x).memu = s.memu := id rfl
@[simp] theorem State.setCross_lanes (s : State) (n : Nat) (x : Cross) : (s.setCross n x).lanes = s.lanes := id rfl
@[simp] theorem State.setCross_pcb (s : State) (n : Nat) (x : Cross) : (s.setCross n x).pcb = s.pcb := id rfl
@[simp] theorem State.setCross_mcb (s : State) (n : Nat) (x : Cross) : (s.setCross n x).mcb = s.mcb := id rfl
@[simp] theorem State.setCross_pf (s : State) (n : Nat) (x : Cross) : (s.setCross n x).pf = s.pf := id rfl
@[simp] theorem State.setCross_cantons (s : State) (n : Nat) (x : Cross) : (s.setCross n x).cantons = s.cantons := id
    rfl
@[simp] theorem State.setCross_str (s : State) (n : Nat) (x : Cross) : (s.setCross n x).str = s.str := id rfl
@[simp] theorem State.setCross_servo (s : State) (n : Nat) (x : Cross) : (s.setCross n x).servo = s.servo := id rfl
@[simp] theorem State.setCross_seq (s : State) (n : Nat) (x : Cross) : (s.setCross n x).seq = s.seq := id rfl
@[simp] theorem State.setCross_clr (s : State) (n : Nat) (x : Cross) : (s.setCross n x).clr = s.clr := id rfl
@[simp] theorem State.setCross_biasA (s : State) (n : Nat) (x : Cross) : (s.setCross n x).biasA = s.biasA := id rfl
@[simp] theorem State.setCross_spin (s : State) (n : Nat) (x : Cross) : (s.setCross n x).spin = s.spin := id rfl
@[simp] theorem State.setCross_cache (s : State) (n : Nat) (x : Cross) : (s.setCross n x).cache = s.cache := id rfl
@[simp] theorem State.setCross_staged (s : State) (n : Nat) (x : Cross) : (s.setCross n x).staged = s.staged := id rfl
@[simp] theorem State.setCross_bufRecs (s : State) (n : Nat) (x : Cross) : (s.setCross n x).bufRecs = s.bufRecs := id
    rfl
@[simp] theorem State.setCross_streamers (s : State) (n : Nat) (x : Cross) : (s.setCross n x).streamers = s.streamers
    := id rfl
@[simp] theorem State.setCross_link (s : State) (n : Nat) (x : Cross) : (s.setCross n x).link = s.link := id rfl
@[simp] theorem State.setCross_start (s : State) (n : Nat) (x : Cross) : (s.setCross n x).start = s.start := id rfl
@[simp] theorem State.setCross_cal (s : State) (n : Nat) (x : Cross) : (s.setCross n x).cal = s.cal := id rfl
@[simp] theorem State.setCross_media (s : State) (n : Nat) (x : Cross) : (s.setCross n x).media = s.media := id rfl
@[simp] theorem State.setCross_draws (s : State) (n : Nat) (x : Cross) : (s.setCross n x).draws = s.draws := id rfl
@[simp] theorem State.setCross_rd (s : State) (n : Nat) (x : Cross) (b : Nat) : (s.setCross n x).rd b = s.rd b := id rfl
@[simp] theorem State.setCross_get (s : State) (n : Nat) (x : Cross) (y : Fld) : (s.setCross n x).get y = s.get y :=
    id rfl
@[simp] theorem State.setCross_is (s : State) (n : Nat) (x : Cross) (y : Fld) : (s.setCross n x).is y = s.is y := id rfl
@[simp] theorem State.setCross_live (s : State) (n : Nat) (x : Cross) : (s.setCross n x).live = s.live := id rfl
@[simp] theorem State.setCross_crossOf_same (s : State) (n : Nat) (x : Cross) : (s.setCross n x).crossOf n = x :=
  tget_tset_same _ _ _ _

@[simp] theorem State.setLink_pending (s : State) (p : Nat) (x : LinkPortSt) : (s.setLink p x).pending = s.pending :=
    id rfl
@[simp] theorem State.setLink_clk (s : State) (p : Nat) (x : LinkPortSt) : (s.setLink p x).clk = s.clk := id rfl
@[simp] theorem State.setLink_regs (s : State) (p : Nat) (x : LinkPortSt) : (s.setLink p x).regs = s.regs := id rfl
@[simp] theorem State.setLink_log (s : State) (p : Nat) (x : LinkPortSt) : (s.setLink p x).log = s.log := id rfl
@[simp] theorem State.setLink_staff (s : State) (p : Nat) (x : LinkPortSt) : (s.setLink p x).staff = s.staff := id rfl
@[simp] theorem State.setLink_resetting (s : State) (p : Nat) (x : LinkPortSt) : (s.setLink p x).resetting =
    s.resetting := id rfl
@[simp] theorem State.setLink_masked (s : State) (p : Nat) (x : LinkPortSt) : (s.setLink p x).masked = s.masked := id
    rfl
@[simp] theorem State.setLink_ports (s : State) (p : Nat) (x : LinkPortSt) : (s.setLink p x).ports = s.ports := id rfl
@[simp] theorem State.setLink_win (s : State) (p : Nat) (x : LinkPortSt) : (s.setLink p x).win = s.win := id rfl
@[simp] theorem State.setLink_tl (s : State) (p : Nat) (x : LinkPortSt) : (s.setLink p x).tl = s.tl := id rfl
@[simp] theorem State.setLink_mem (s : State) (p : Nat) (x : LinkPortSt) : (s.setLink p x).mem = s.mem := id rfl
@[simp] theorem State.setLink_memX (s : State) (p : Nat) (x : LinkPortSt) : (s.setLink p x).memX = s.memX := id rfl
@[simp] theorem State.setLink_memu (s : State) (p : Nat) (x : LinkPortSt) : (s.setLink p x).memu = s.memu := id rfl
@[simp] theorem State.setLink_lanes (s : State) (p : Nat) (x : LinkPortSt) : (s.setLink p x).lanes = s.lanes := id rfl
@[simp] theorem State.setLink_pcb (s : State) (p : Nat) (x : LinkPortSt) : (s.setLink p x).pcb = s.pcb := id rfl
@[simp] theorem State.setLink_mcb (s : State) (p : Nat) (x : LinkPortSt) : (s.setLink p x).mcb = s.mcb := id rfl
@[simp] theorem State.setLink_pf (s : State) (p : Nat) (x : LinkPortSt) : (s.setLink p x).pf = s.pf := id rfl
@[simp] theorem State.setLink_cantons (s : State) (p : Nat) (x : LinkPortSt) : (s.setLink p x).cantons = s.cantons :=
    id rfl
@[simp] theorem State.setLink_str (s : State) (p : Nat) (x : LinkPortSt) : (s.setLink p x).str = s.str := id rfl
@[simp] theorem State.setLink_servo (s : State) (p : Nat) (x : LinkPortSt) : (s.setLink p x).servo = s.servo := id rfl
@[simp] theorem State.setLink_seq (s : State) (p : Nat) (x : LinkPortSt) : (s.setLink p x).seq = s.seq := id rfl
@[simp] theorem State.setLink_clr (s : State) (p : Nat) (x : LinkPortSt) : (s.setLink p x).clr = s.clr := id rfl
@[simp] theorem State.setLink_biasA (s : State) (p : Nat) (x : LinkPortSt) : (s.setLink p x).biasA = s.biasA := id rfl
@[simp] theorem State.setLink_spin (s : State) (p : Nat) (x : LinkPortSt) : (s.setLink p x).spin = s.spin := id rfl
@[simp] theorem State.setLink_cache (s : State) (p : Nat) (x : LinkPortSt) : (s.setLink p x).cache = s.cache := id rfl
@[simp] theorem State.setLink_staged (s : State) (p : Nat) (x : LinkPortSt) : (s.setLink p x).staged = s.staged := id
    rfl
@[simp] theorem State.setLink_bufRecs (s : State) (p : Nat) (x : LinkPortSt) : (s.setLink p x).bufRecs = s.bufRecs :=
    id rfl
@[simp] theorem State.setLink_streamers (s : State) (p : Nat) (x : LinkPortSt) : (s.setLink p x).streamers =
    s.streamers := id rfl
@[simp] theorem State.setLink_cross (s : State) (p : Nat) (x : LinkPortSt) : (s.setLink p x).cross = s.cross := id rfl
@[simp] theorem State.setLink_start (s : State) (p : Nat) (x : LinkPortSt) : (s.setLink p x).start = s.start := id rfl
@[simp] theorem State.setLink_cal (s : State) (p : Nat) (x : LinkPortSt) : (s.setLink p x).cal = s.cal := id rfl
@[simp] theorem State.setLink_media (s : State) (p : Nat) (x : LinkPortSt) : (s.setLink p x).media = s.media := id rfl
@[simp] theorem State.setLink_draws (s : State) (p : Nat) (x : LinkPortSt) : (s.setLink p x).draws = s.draws := id rfl
@[simp] theorem State.setLink_rd (s : State) (p : Nat) (x : LinkPortSt) (b : Nat) : (s.setLink p x).rd b = s.rd b :=
    id rfl
@[simp] theorem State.setLink_get (s : State) (p : Nat) (x : LinkPortSt) (y : Fld) : (s.setLink p x).get y = s.get y
    := id rfl
@[simp] theorem State.setLink_is (s : State) (p : Nat) (x : LinkPortSt) (y : Fld) : (s.setLink p x).is y = s.is y :=
    id rfl
@[simp] theorem State.setLink_live (s : State) (p : Nat) (x : LinkPortSt) : (s.setLink p x).live = s.live := id rfl
@[simp] theorem State.setLink_linkOf_same (s : State) (p : Nat) (x : LinkPortSt) : (s.setLink p x).linkOf p = x :=
  tget_tset_same _ _ _ _

@[simp] theorem State.setHlane_pending (s : State) (n : Nat) (x : HLaneSt) : (s.setHlane n x).pending = s.pending :=
    id rfl
@[simp] theorem State.setHlane_clk (s : State) (n : Nat) (x : HLaneSt) : (s.setHlane n x).clk = s.clk := id rfl
@[simp] theorem State.setHlane_regs (s : State) (n : Nat) (x : HLaneSt) : (s.setHlane n x).regs = s.regs := id rfl
@[simp] theorem State.setHlane_log (s : State) (n : Nat) (x : HLaneSt) : (s.setHlane n x).log = s.log := id rfl
@[simp] theorem State.setHlane_staff (s : State) (n : Nat) (x : HLaneSt) : (s.setHlane n x).staff = s.staff := id rfl
@[simp] theorem State.setHlane_resetting (s : State) (n : Nat) (x : HLaneSt) : (s.setHlane n x).resetting =
    s.resetting := id rfl
@[simp] theorem State.setHlane_masked (s : State) (n : Nat) (x : HLaneSt) : (s.setHlane n x).masked = s.masked := id rfl
@[simp] theorem State.setHlane_ports (s : State) (n : Nat) (x : HLaneSt) : (s.setHlane n x).ports = s.ports := id rfl
@[simp] theorem State.setHlane_win (s : State) (n : Nat) (x : HLaneSt) : (s.setHlane n x).win = s.win := id rfl
@[simp] theorem State.setHlane_tl (s : State) (n : Nat) (x : HLaneSt) : (s.setHlane n x).tl = s.tl := id rfl
@[simp] theorem State.setHlane_mem (s : State) (n : Nat) (x : HLaneSt) : (s.setHlane n x).mem = s.mem := id rfl
@[simp] theorem State.setHlane_memX (s : State) (n : Nat) (x : HLaneSt) : (s.setHlane n x).memX = s.memX := id rfl
@[simp] theorem State.setHlane_memu (s : State) (n : Nat) (x : HLaneSt) : (s.setHlane n x).memu = s.memu := id rfl
@[simp] theorem State.setHlane_lanes (s : State) (n : Nat) (x : HLaneSt) : (s.setHlane n x).lanes = s.lanes := id rfl
@[simp] theorem State.setHlane_pcb (s : State) (n : Nat) (x : HLaneSt) : (s.setHlane n x).pcb = s.pcb := id rfl
@[simp] theorem State.setHlane_mcb (s : State) (n : Nat) (x : HLaneSt) : (s.setHlane n x).mcb = s.mcb := id rfl
@[simp] theorem State.setHlane_pf (s : State) (n : Nat) (x : HLaneSt) : (s.setHlane n x).pf = s.pf := id rfl
@[simp] theorem State.setHlane_cantons (s : State) (n : Nat) (x : HLaneSt) : (s.setHlane n x).cantons = s.cantons :=
    id rfl
@[simp] theorem State.setHlane_str (s : State) (n : Nat) (x : HLaneSt) : (s.setHlane n x).str = s.str := id rfl
@[simp] theorem State.setHlane_servo (s : State) (n : Nat) (x : HLaneSt) : (s.setHlane n x).servo = s.servo := id rfl
@[simp] theorem State.setHlane_seq (s : State) (n : Nat) (x : HLaneSt) : (s.setHlane n x).seq = s.seq := id rfl
@[simp] theorem State.setHlane_clr (s : State) (n : Nat) (x : HLaneSt) : (s.setHlane n x).clr = s.clr := id rfl
@[simp] theorem State.setHlane_biasA (s : State) (n : Nat) (x : HLaneSt) : (s.setHlane n x).biasA = s.biasA := id rfl
@[simp] theorem State.setHlane_spin (s : State) (n : Nat) (x : HLaneSt) : (s.setHlane n x).spin = s.spin := id rfl
@[simp] theorem State.setHlane_cache (s : State) (n : Nat) (x : HLaneSt) : (s.setHlane n x).cache = s.cache := id rfl
@[simp] theorem State.setHlane_staged (s : State) (n : Nat) (x : HLaneSt) : (s.setHlane n x).staged = s.staged := id rfl
@[simp] theorem State.setHlane_bufRecs (s : State) (n : Nat) (x : HLaneSt) : (s.setHlane n x).bufRecs = s.bufRecs :=
    id rfl
@[simp] theorem State.setHlane_streamers (s : State) (n : Nat) (x : HLaneSt) : (s.setHlane n x).streamers =
    s.streamers := id rfl
@[simp] theorem State.setHlane_cross (s : State) (n : Nat) (x : HLaneSt) : (s.setHlane n x).cross = s.cross := id rfl
@[simp] theorem State.setHlane_start (s : State) (n : Nat) (x : HLaneSt) : (s.setHlane n x).start = s.start := id rfl
@[simp] theorem State.setHlane_cal (s : State) (n : Nat) (x : HLaneSt) : (s.setHlane n x).cal = s.cal := id rfl
@[simp] theorem State.setHlane_media (s : State) (n : Nat) (x : HLaneSt) : (s.setHlane n x).media = s.media := id rfl
@[simp] theorem State.setHlane_draws (s : State) (n : Nat) (x : HLaneSt) : (s.setHlane n x).draws = s.draws := id rfl
@[simp] theorem State.setHlane_rd (s : State) (n : Nat) (x : HLaneSt) (b : Nat) : (s.setHlane n x).rd b = s.rd b := id
    rfl
@[simp] theorem State.setHlane_get (s : State) (n : Nat) (x : HLaneSt) (y : Fld) : (s.setHlane n x).get y = s.get y :=
    id rfl
@[simp] theorem State.setHlane_is (s : State) (n : Nat) (x : HLaneSt) (y : Fld) : (s.setHlane n x).is y = s.is y := id
    rfl
@[simp] theorem State.setHlane_live (s : State) (n : Nat) (x : HLaneSt) : (s.setHlane n x).live = s.live := id rfl
@[simp] theorem State.setHlane_hlaneOf_same (s : State) (n : Nat) (x : HLaneSt) : (s.setHlane n x).hlaneOf n = x :=
  tget_tset_same _ _ _ _

@[simp] theorem State.setMedia_pending (s : State) (c : Nat) (x : Media) : (s.setMedia c x).pending = s.pending := id
    rfl
@[simp] theorem State.setMedia_clk (s : State) (c : Nat) (x : Media) : (s.setMedia c x).clk = s.clk := id rfl
@[simp] theorem State.setMedia_regs (s : State) (c : Nat) (x : Media) : (s.setMedia c x).regs = s.regs := id rfl
@[simp] theorem State.setMedia_log (s : State) (c : Nat) (x : Media) : (s.setMedia c x).log = s.log := id rfl
@[simp] theorem State.setMedia_staff (s : State) (c : Nat) (x : Media) : (s.setMedia c x).staff = s.staff := id rfl
@[simp] theorem State.setMedia_resetting (s : State) (c : Nat) (x : Media) : (s.setMedia c x).resetting = s.resetting
    := id rfl
@[simp] theorem State.setMedia_masked (s : State) (c : Nat) (x : Media) : (s.setMedia c x).masked = s.masked := id rfl
@[simp] theorem State.setMedia_ports (s : State) (c : Nat) (x : Media) : (s.setMedia c x).ports = s.ports := id rfl
@[simp] theorem State.setMedia_win (s : State) (c : Nat) (x : Media) : (s.setMedia c x).win = s.win := id rfl
@[simp] theorem State.setMedia_tl (s : State) (c : Nat) (x : Media) : (s.setMedia c x).tl = s.tl := id rfl
@[simp] theorem State.setMedia_mem (s : State) (c : Nat) (x : Media) : (s.setMedia c x).mem = s.mem := id rfl
@[simp] theorem State.setMedia_memX (s : State) (c : Nat) (x : Media) : (s.setMedia c x).memX = s.memX := id rfl
@[simp] theorem State.setMedia_memu (s : State) (c : Nat) (x : Media) : (s.setMedia c x).memu = s.memu := id rfl
@[simp] theorem State.setMedia_lanes (s : State) (c : Nat) (x : Media) : (s.setMedia c x).lanes = s.lanes := id rfl
@[simp] theorem State.setMedia_pcb (s : State) (c : Nat) (x : Media) : (s.setMedia c x).pcb = s.pcb := id rfl
@[simp] theorem State.setMedia_mcb (s : State) (c : Nat) (x : Media) : (s.setMedia c x).mcb = s.mcb := id rfl
@[simp] theorem State.setMedia_pf (s : State) (c : Nat) (x : Media) : (s.setMedia c x).pf = s.pf := id rfl
@[simp] theorem State.setMedia_cantons (s : State) (c : Nat) (x : Media) : (s.setMedia c x).cantons = s.cantons := id
    rfl
@[simp] theorem State.setMedia_str (s : State) (c : Nat) (x : Media) : (s.setMedia c x).str = s.str := id rfl
@[simp] theorem State.setMedia_servo (s : State) (c : Nat) (x : Media) : (s.setMedia c x).servo = s.servo := id rfl
@[simp] theorem State.setMedia_seq (s : State) (c : Nat) (x : Media) : (s.setMedia c x).seq = s.seq := id rfl
@[simp] theorem State.setMedia_clr (s : State) (c : Nat) (x : Media) : (s.setMedia c x).clr = s.clr := id rfl
@[simp] theorem State.setMedia_biasA (s : State) (c : Nat) (x : Media) : (s.setMedia c x).biasA = s.biasA := id rfl
@[simp] theorem State.setMedia_spin (s : State) (c : Nat) (x : Media) : (s.setMedia c x).spin = s.spin := id rfl
@[simp] theorem State.setMedia_cache (s : State) (c : Nat) (x : Media) : (s.setMedia c x).cache = s.cache := id rfl
@[simp] theorem State.setMedia_staged (s : State) (c : Nat) (x : Media) : (s.setMedia c x).staged = s.staged := id rfl
@[simp] theorem State.setMedia_bufRecs (s : State) (c : Nat) (x : Media) : (s.setMedia c x).bufRecs = s.bufRecs := id
    rfl
@[simp] theorem State.setMedia_streamers (s : State) (c : Nat) (x : Media) : (s.setMedia c x).streamers = s.streamers
    := id rfl
@[simp] theorem State.setMedia_link (s : State) (c : Nat) (x : Media) : (s.setMedia c x).link = s.link := id rfl
@[simp] theorem State.setMedia_cross (s : State) (c : Nat) (x : Media) : (s.setMedia c x).cross = s.cross := id rfl
@[simp] theorem State.setMedia_start (s : State) (c : Nat) (x : Media) : (s.setMedia c x).start = s.start := id rfl
@[simp] theorem State.setMedia_cal (s : State) (c : Nat) (x : Media) : (s.setMedia c x).cal = s.cal := id rfl
@[simp] theorem State.setMedia_draws (s : State) (c : Nat) (x : Media) : (s.setMedia c x).draws = s.draws := id rfl
@[simp] theorem State.setMedia_rd (s : State) (c : Nat) (x : Media) (b : Nat) : (s.setMedia c x).rd b = s.rd b := id rfl
@[simp] theorem State.setMedia_get (s : State) (c : Nat) (x : Media) (y : Fld) : (s.setMedia c x).get y = s.get y :=
    id rfl
@[simp] theorem State.setMedia_is (s : State) (c : Nat) (x : Media) (y : Fld) : (s.setMedia c x).is y = s.is y := id rfl
@[simp] theorem State.setMedia_live (s : State) (c : Nat) (x : Media) : (s.setMedia c x).live = s.live := id rfl
@[simp] theorem State.setMedia_mediaOf_same (s : State) (c : Nat) (x : Media) : (s.setMedia c x).mediaOf c = x :=
  tget_tset_same _ _ _ _

@[simp] theorem State.setCache_pending (s : State) (d : Nat) (x : CacheDie) : (s.setCache d x).pending = s.pending :=
    id rfl
@[simp] theorem State.setCache_clk (s : State) (d : Nat) (x : CacheDie) : (s.setCache d x).clk = s.clk := id rfl
@[simp] theorem State.setCache_regs (s : State) (d : Nat) (x : CacheDie) : (s.setCache d x).regs = s.regs := id rfl
@[simp] theorem State.setCache_log (s : State) (d : Nat) (x : CacheDie) : (s.setCache d x).log = s.log := id rfl
@[simp] theorem State.setCache_staff (s : State) (d : Nat) (x : CacheDie) : (s.setCache d x).staff = s.staff := id rfl
@[simp] theorem State.setCache_resetting (s : State) (d : Nat) (x : CacheDie) : (s.setCache d x).resetting =
    s.resetting := id rfl
@[simp] theorem State.setCache_masked (s : State) (d : Nat) (x : CacheDie) : (s.setCache d x).masked = s.masked := id
    rfl
@[simp] theorem State.setCache_ports (s : State) (d : Nat) (x : CacheDie) : (s.setCache d x).ports = s.ports := id rfl
@[simp] theorem State.setCache_win (s : State) (d : Nat) (x : CacheDie) : (s.setCache d x).win = s.win := id rfl
@[simp] theorem State.setCache_tl (s : State) (d : Nat) (x : CacheDie) : (s.setCache d x).tl = s.tl := id rfl
@[simp] theorem State.setCache_mem (s : State) (d : Nat) (x : CacheDie) : (s.setCache d x).mem = s.mem := id rfl
@[simp] theorem State.setCache_memX (s : State) (d : Nat) (x : CacheDie) : (s.setCache d x).memX = s.memX := id rfl
@[simp] theorem State.setCache_memu (s : State) (d : Nat) (x : CacheDie) : (s.setCache d x).memu = s.memu := id rfl
@[simp] theorem State.setCache_lanes (s : State) (d : Nat) (x : CacheDie) : (s.setCache d x).lanes = s.lanes := id rfl
@[simp] theorem State.setCache_pcb (s : State) (d : Nat) (x : CacheDie) : (s.setCache d x).pcb = s.pcb := id rfl
@[simp] theorem State.setCache_mcb (s : State) (d : Nat) (x : CacheDie) : (s.setCache d x).mcb = s.mcb := id rfl
@[simp] theorem State.setCache_pf (s : State) (d : Nat) (x : CacheDie) : (s.setCache d x).pf = s.pf := id rfl
@[simp] theorem State.setCache_cantons (s : State) (d : Nat) (x : CacheDie) : (s.setCache d x).cantons = s.cantons :=
    id rfl
@[simp] theorem State.setCache_str (s : State) (d : Nat) (x : CacheDie) : (s.setCache d x).str = s.str := id rfl
@[simp] theorem State.setCache_servo (s : State) (d : Nat) (x : CacheDie) : (s.setCache d x).servo = s.servo := id rfl
@[simp] theorem State.setCache_seq (s : State) (d : Nat) (x : CacheDie) : (s.setCache d x).seq = s.seq := id rfl
@[simp] theorem State.setCache_clr (s : State) (d : Nat) (x : CacheDie) : (s.setCache d x).clr = s.clr := id rfl
@[simp] theorem State.setCache_biasA (s : State) (d : Nat) (x : CacheDie) : (s.setCache d x).biasA = s.biasA := id rfl
@[simp] theorem State.setCache_spin (s : State) (d : Nat) (x : CacheDie) : (s.setCache d x).spin = s.spin := id rfl
@[simp] theorem State.setCache_staged (s : State) (d : Nat) (x : CacheDie) : (s.setCache d x).staged = s.staged := id
    rfl
@[simp] theorem State.setCache_bufRecs (s : State) (d : Nat) (x : CacheDie) : (s.setCache d x).bufRecs = s.bufRecs :=
    id rfl
@[simp] theorem State.setCache_streamers (s : State) (d : Nat) (x : CacheDie) : (s.setCache d x).streamers =
    s.streamers := id rfl
@[simp] theorem State.setCache_link (s : State) (d : Nat) (x : CacheDie) : (s.setCache d x).link = s.link := id rfl
@[simp] theorem State.setCache_cross (s : State) (d : Nat) (x : CacheDie) : (s.setCache d x).cross = s.cross := id rfl
@[simp] theorem State.setCache_start (s : State) (d : Nat) (x : CacheDie) : (s.setCache d x).start = s.start := id rfl
@[simp] theorem State.setCache_cal (s : State) (d : Nat) (x : CacheDie) : (s.setCache d x).cal = s.cal := id rfl
@[simp] theorem State.setCache_media (s : State) (d : Nat) (x : CacheDie) : (s.setCache d x).media = s.media := id rfl
@[simp] theorem State.setCache_draws (s : State) (d : Nat) (x : CacheDie) : (s.setCache d x).draws = s.draws := id rfl
@[simp] theorem State.setCache_rd (s : State) (d : Nat) (x : CacheDie) (b : Nat) : (s.setCache d x).rd b = s.rd b :=
    id rfl
@[simp] theorem State.setCache_get (s : State) (d : Nat) (x : CacheDie) (y : Fld) : (s.setCache d x).get y = s.get y
    := id rfl
@[simp] theorem State.setCache_is (s : State) (d : Nat) (x : CacheDie) (y : Fld) : (s.setCache d x).is y = s.is y :=
    id rfl
@[simp] theorem State.setCache_live (s : State) (d : Nat) (x : CacheDie) : (s.setCache d x).live = s.live := id rfl
@[simp] theorem State.setCache_cacheOf_same (s : State) (d : Nat) (x : CacheDie) : (s.setCache d x).cacheOf d = x :=
  tget_tset_same _ _ _ _

@[simp] theorem State.putStored_pending (s : State) (k : Nat) (w : Stored) : (s.putStored k w).pending = s.pending :=
    id rfl
@[simp] theorem State.putStored_clk (s : State) (k : Nat) (w : Stored) : (s.putStored k w).clk = s.clk := id rfl
@[simp] theorem State.putStored_regs (s : State) (k : Nat) (w : Stored) : (s.putStored k w).regs = s.regs := id rfl
@[simp] theorem State.putStored_log (s : State) (k : Nat) (w : Stored) : (s.putStored k w).log = s.log := id rfl
@[simp] theorem State.putStored_staff (s : State) (k : Nat) (w : Stored) : (s.putStored k w).staff = s.staff := id rfl
@[simp] theorem State.putStored_resetting (s : State) (k : Nat) (w : Stored) : (s.putStored k w).resetting =
    s.resetting := id rfl
@[simp] theorem State.putStored_masked (s : State) (k : Nat) (w : Stored) : (s.putStored k w).masked = s.masked := id
    rfl
@[simp] theorem State.putStored_ports (s : State) (k : Nat) (w : Stored) : (s.putStored k w).ports = s.ports := id rfl
@[simp] theorem State.putStored_win (s : State) (k : Nat) (w : Stored) : (s.putStored k w).win = s.win := id rfl
@[simp] theorem State.putStored_tl (s : State) (k : Nat) (w : Stored) : (s.putStored k w).tl = s.tl := id rfl
@[simp] theorem State.putStored_lanes (s : State) (k : Nat) (w : Stored) : (s.putStored k w).lanes = s.lanes := id rfl
@[simp] theorem State.putStored_pcb (s : State) (k : Nat) (w : Stored) : (s.putStored k w).pcb = s.pcb := id rfl
@[simp] theorem State.putStored_mcb (s : State) (k : Nat) (w : Stored) : (s.putStored k w).mcb = s.mcb := id rfl
@[simp] theorem State.putStored_pf (s : State) (k : Nat) (w : Stored) : (s.putStored k w).pf = s.pf := id rfl
@[simp] theorem State.putStored_cantons (s : State) (k : Nat) (w : Stored) : (s.putStored k w).cantons = s.cantons :=
    id rfl
@[simp] theorem State.putStored_str (s : State) (k : Nat) (w : Stored) : (s.putStored k w).str = s.str := id rfl
@[simp] theorem State.putStored_servo (s : State) (k : Nat) (w : Stored) : (s.putStored k w).servo = s.servo := id rfl
@[simp] theorem State.putStored_seq (s : State) (k : Nat) (w : Stored) : (s.putStored k w).seq = s.seq := id rfl
@[simp] theorem State.putStored_clr (s : State) (k : Nat) (w : Stored) : (s.putStored k w).clr = s.clr := id rfl
@[simp] theorem State.putStored_biasA (s : State) (k : Nat) (w : Stored) : (s.putStored k w).biasA = s.biasA := id rfl
@[simp] theorem State.putStored_spin (s : State) (k : Nat) (w : Stored) : (s.putStored k w).spin = s.spin := id rfl
@[simp] theorem State.putStored_cache (s : State) (k : Nat) (w : Stored) : (s.putStored k w).cache = s.cache := id rfl
@[simp] theorem State.putStored_staged (s : State) (k : Nat) (w : Stored) : (s.putStored k w).staged = s.staged := id
    rfl
@[simp] theorem State.putStored_bufRecs (s : State) (k : Nat) (w : Stored) : (s.putStored k w).bufRecs = s.bufRecs :=
    id rfl
@[simp] theorem State.putStored_streamers (s : State) (k : Nat) (w : Stored) : (s.putStored k w).streamers =
    s.streamers := id rfl
@[simp] theorem State.putStored_link (s : State) (k : Nat) (w : Stored) : (s.putStored k w).link = s.link := id rfl
@[simp] theorem State.putStored_cross (s : State) (k : Nat) (w : Stored) : (s.putStored k w).cross = s.cross := id rfl
@[simp] theorem State.putStored_start (s : State) (k : Nat) (w : Stored) : (s.putStored k w).start = s.start := id rfl
@[simp] theorem State.putStored_cal (s : State) (k : Nat) (w : Stored) : (s.putStored k w).cal = s.cal := id rfl
@[simp] theorem State.putStored_media (s : State) (k : Nat) (w : Stored) : (s.putStored k w).media = s.media := id rfl
@[simp] theorem State.putStored_draws (s : State) (k : Nat) (w : Stored) : (s.putStored k w).draws = s.draws := id rfl
@[simp] theorem State.putStored_rd (s : State) (k : Nat) (w : Stored) (b : Nat) : (s.putStored k w).rd b = s.rd b :=
    id rfl
@[simp] theorem State.putStored_get (s : State) (k : Nat) (w : Stored) (y : Fld) : (s.putStored k w).get y = s.get y
    := id rfl
@[simp] theorem State.putStored_is (s : State) (k : Nat) (w : Stored) (y : Fld) : (s.putStored k w).is y = s.is y :=
    id rfl
@[simp] theorem State.putStored_live (s : State) (k : Nat) (w : Stored) : (s.putStored k w).live = s.live := id rfl

end Sys2Proof.Machine
end

