-- ==== Sys2Proof/Laws/Ops.lean ====
section
/-! SUPPORT. Laws/Ops.lean: what a command on a running part answers, and what recording an event leaves alone. -/

namespace Sys2Proof.Machine

theorem State.run_live (s : State) (f : State → State) (h : s.live = true) : s.run f = .next (f s) := by
  unfold State.run
  rw [if_pos h]

theorem State.run_dead (s : State) (f : State → State) (h : s.live = false) : s.run f = .next s := by
  unfold State.run
  rw [h]
  rfl

theorem State.runOn_live (s : State) (d : Nat) (f : State → State) (h : s.live = true)
    (hd : bitAt (s.get FLT_STAT_DIE_LOST) d = false) : s.runOn d f = .next (f s) := by
  unfold State.runOn
  rw [State.run_live s _ h, hd]
  rfl

theorem State.runOn_lost (s : State) (d : Nat) (f : State → State) (hd : bitAt (s.get FLT_STAT_DIE_LOST) d = true) :
    s.runOn d f = .next s := by
  unfold State.runOn State.run
  simp only [hd, if_true, ite_self]

theorem Answers.next {t : State} {P : State → Prop} (h : P t) : Answers (.next t) P := ⟨t, rfl, h⟩

theorem Answers.run {s : State} {f : State → State} {P : State → Prop} (hl : s.live = true) (h : P (f s)) :
    Answers (s.run f) P := ⟨f s, State.run_live s f hl, h⟩

theorem Answers.runOn {s : State} {d : Nat} {f : State → State} {P : State → Prop} (hl : s.live = true)
    (hd : bitAt (s.get FLT_STAT_DIE_LOST) d = false) (h : P (f s)) :
    Answers (s.runOn d f) P := ⟨f s, State.runOn_live s d f hl hd, h⟩

/-! ### Counters -/

theorem State.addCount_rd (s : State) (x : Fld) (n b : Nat) (h : b ≠ x.addr) : (s.addCount x n).rd b = s.rd b := by
  unfold State.addCount
  split <;> exact State.rd_set_other _ _ _ _ h

theorem State.count_rd (s : State) (x : Fld) (b : Nat) (h : b ≠ x.addr) : (s.count x).rd b = s.rd b :=
  State.addCount_rd s x 1 b h

theorem State.addSat_rd (s : State) (x : Fld) (n b : Nat) (h : b ≠ x.addr) : (s.addSat x n).rd b = s.rd b :=
  State.rd_set_other _ _ _ _ h

theorem State.countSat_rd (s : State) (x : Fld) (b : Nat) (h : b ≠ x.addr) : (s.countSat x).rd b = s.rd b :=
  State.rd_set_other _ _ _ _ h

theorem State.countSat_get (s : State) (x : Fld) (h : x.inWord) :
    (s.countSat x).get x = min (s.get x + 1) (2 ^ x.w - 1) := by
  have hp := Nat.two_pow_pos x.w
  exact State.get_set_fits _ _ _ h (by omega)

@[simp] theorem State.addCount_pending (s : State) (x : Fld) (n : Nat) : (s.addCount x n).pending = s.pending := by
  unfold State.addCount
  split <;> rfl
@[simp] theorem State.addCount_clk (s : State) (x : Fld) (n : Nat) : (s.addCount x n).clk = s.clk := by
  unfold State.addCount
  split <;> rfl
@[simp] theorem State.addCount_log (s : State) (x : Fld) (n : Nat) : (s.addCount x n).log = s.log := by
  unfold State.addCount
  split <;> rfl
@[simp] theorem State.addCount_staff (s : State) (x : Fld) (n : Nat) : (s.addCount x n).staff = s.staff := by
  unfold State.addCount
  split <;> rfl
@[simp] theorem State.addCount_resetting (s : State) (x : Fld) (n : Nat) : (s.addCount x n).resetting = s.resetting :=
    by
  unfold State.addCount
  split <;> rfl
@[simp] theorem State.addCount_masked (s : State) (x : Fld) (n : Nat) : (s.addCount x n).masked = s.masked := by
  unfold State.addCount
  split <;> rfl
@[simp] theorem State.addCount_ports (s : State) (x : Fld) (n : Nat) : (s.addCount x n).ports = s.ports := by
  unfold State.addCount
  split <;> rfl
@[simp] theorem State.addCount_win (s : State) (x : Fld) (n : Nat) : (s.addCount x n).win = s.win := by
  unfold State.addCount
  split <;> rfl
@[simp] theorem State.addCount_tl (s : State) (x : Fld) (n : Nat) : (s.addCount x n).tl = s.tl := by
  unfold State.addCount
  split <;> rfl
@[simp] theorem State.addCount_mem (s : State) (x : Fld) (n : Nat) : (s.addCount x n).mem = s.mem := by
  unfold State.addCount
  split <;> rfl
@[simp] theorem State.addCount_memX (s : State) (x : Fld) (n : Nat) : (s.addCount x n).memX = s.memX := by
  unfold State.addCount
  split <;> rfl
@[simp] theorem State.addCount_memu (s : State) (x : Fld) (n : Nat) : (s.addCount x n).memu = s.memu := by
  unfold State.addCount
  split <;> rfl
@[simp] theorem State.addCount_lanes (s : State) (x : Fld) (n : Nat) : (s.addCount x n).lanes = s.lanes := by
  unfold State.addCount
  split <;> rfl
@[simp] theorem State.addCount_pcb (s : State) (x : Fld) (n : Nat) : (s.addCount x n).pcb = s.pcb := by
  unfold State.addCount
  split <;> rfl
@[simp] theorem State.addCount_mcb (s : State) (x : Fld) (n : Nat) : (s.addCount x n).mcb = s.mcb := by
  unfold State.addCount
  split <;> rfl
@[simp] theorem State.addCount_pf (s : State) (x : Fld) (n : Nat) : (s.addCount x n).pf = s.pf := by
  unfold State.addCount
  split <;> rfl
@[simp] theorem State.addCount_cantons (s : State) (x : Fld) (n : Nat) : (s.addCount x n).cantons = s.cantons := by
  unfold State.addCount
  split <;> rfl
@[simp] theorem State.addCount_str (s : State) (x : Fld) (n : Nat) : (s.addCount x n).str = s.str := by
  unfold State.addCount
  split <;> rfl
@[simp] theorem State.addCount_servo (s : State) (x : Fld) (n : Nat) : (s.addCount x n).servo = s.servo := by
  unfold State.addCount
  split <;> rfl
@[simp] theorem State.addCount_seq (s : State) (x : Fld) (n : Nat) : (s.addCount x n).seq = s.seq := by
  unfold State.addCount
  split <;> rfl
@[simp] theorem State.addCount_clr (s : State) (x : Fld) (n : Nat) : (s.addCount x n).clr = s.clr := by
  unfold State.addCount
  split <;> rfl
@[simp] theorem State.addCount_biasA (s : State) (x : Fld) (n : Nat) : (s.addCount x n).biasA = s.biasA := by
  unfold State.addCount
  split <;> rfl
@[simp] theorem State.addCount_spin (s : State) (x : Fld) (n : Nat) : (s.addCount x n).spin = s.spin := by
  unfold State.addCount
  split <;> rfl
@[simp] theorem State.addCount_cache (s : State) (x : Fld) (n : Nat) : (s.addCount x n).cache = s.cache := by
  unfold State.addCount
  split <;> rfl
@[simp] theorem State.addCount_staged (s : State) (x : Fld) (n : Nat) : (s.addCount x n).staged = s.staged := by
  unfold State.addCount
  split <;> rfl
@[simp] theorem State.addCount_bufRecs (s : State) (x : Fld) (n : Nat) : (s.addCount x n).bufRecs = s.bufRecs := by
  unfold State.addCount
  split <;> rfl
@[simp] theorem State.addCount_streamers (s : State) (x : Fld) (n : Nat) : (s.addCount x n).streamers = s.streamers :=
    by
  unfold State.addCount
  split <;> rfl
@[simp] theorem State.addCount_link (s : State) (x : Fld) (n : Nat) : (s.addCount x n).link = s.link := by
  unfold State.addCount
  split <;> rfl
@[simp] theorem State.addCount_cross (s : State) (x : Fld) (n : Nat) : (s.addCount x n).cross = s.cross := by
  unfold State.addCount
  split <;> rfl
@[simp] theorem State.addCount_start (s : State) (x : Fld) (n : Nat) : (s.addCount x n).start = s.start := by
  unfold State.addCount
  split <;> rfl
@[simp] theorem State.addCount_cal (s : State) (x : Fld) (n : Nat) : (s.addCount x n).cal = s.cal := by
  unfold State.addCount
  split <;> rfl
@[simp] theorem State.addCount_media (s : State) (x : Fld) (n : Nat) : (s.addCount x n).media = s.media := by
  unfold State.addCount
  split <;> rfl
@[simp] theorem State.addCount_draws (s : State) (x : Fld) (n : Nat) : (s.addCount x n).draws = s.draws := by
  unfold State.addCount
  split <;> rfl

@[simp] theorem State.count_pending (s : State) (x : Fld) : (s.count x).pending = s.pending := State.addCount_pending
    s x 1
@[simp] theorem State.count_clk (s : State) (x : Fld) : (s.count x).clk = s.clk := State.addCount_clk s x 1
@[simp] theorem State.count_log (s : State) (x : Fld) : (s.count x).log = s.log := State.addCount_log s x 1
@[simp] theorem State.count_staff (s : State) (x : Fld) : (s.count x).staff = s.staff := State.addCount_staff s x 1
@[simp] theorem State.count_resetting (s : State) (x : Fld) : (s.count x).resetting = s.resetting :=
    State.addCount_resetting s x 1
@[simp] theorem State.count_masked (s : State) (x : Fld) : (s.count x).masked = s.masked := State.addCount_masked s x 1
@[simp] theorem State.count_ports (s : State) (x : Fld) : (s.count x).ports = s.ports := State.addCount_ports s x 1
@[simp] theorem State.count_win (s : State) (x : Fld) : (s.count x).win = s.win := State.addCount_win s x 1
@[simp] theorem State.count_tl (s : State) (x : Fld) : (s.count x).tl = s.tl := State.addCount_tl s x 1
@[simp] theorem State.count_mem (s : State) (x : Fld) : (s.count x).mem = s.mem := State.addCount_mem s x 1
@[simp] theorem State.count_memX (s : State) (x : Fld) : (s.count x).memX = s.memX := State.addCount_memX s x 1
@[simp] theorem State.count_memu (s : State) (x : Fld) : (s.count x).memu = s.memu := State.addCount_memu s x 1
@[simp] theorem State.count_lanes (s : State) (x : Fld) : (s.count x).lanes = s.lanes := State.addCount_lanes s x 1
@[simp] theorem State.count_pcb (s : State) (x : Fld) : (s.count x).pcb = s.pcb := State.addCount_pcb s x 1
@[simp] theorem State.count_mcb (s : State) (x : Fld) : (s.count x).mcb = s.mcb := State.addCount_mcb s x 1
@[simp] theorem State.count_pf (s : State) (x : Fld) : (s.count x).pf = s.pf := State.addCount_pf s x 1
@[simp] theorem State.count_cantons (s : State) (x : Fld) : (s.count x).cantons = s.cantons := State.addCount_cantons
    s x 1
@[simp] theorem State.count_str (s : State) (x : Fld) : (s.count x).str = s.str := State.addCount_str s x 1
@[simp] theorem State.count_servo (s : State) (x : Fld) : (s.count x).servo = s.servo := State.addCount_servo s x 1
@[simp] theorem State.count_seq (s : State) (x : Fld) : (s.count x).seq = s.seq := State.addCount_seq s x 1
@[simp] theorem State.count_clr (s : State) (x : Fld) : (s.count x).clr = s.clr := State.addCount_clr s x 1
@[simp] theorem State.count_biasA (s : State) (x : Fld) : (s.count x).biasA = s.biasA := State.addCount_biasA s x 1
@[simp] theorem State.count_spin (s : State) (x : Fld) : (s.count x).spin = s.spin := State.addCount_spin s x 1
@[simp] theorem State.count_cache (s : State) (x : Fld) : (s.count x).cache = s.cache := State.addCount_cache s x 1
@[simp] theorem State.count_staged (s : State) (x : Fld) : (s.count x).staged = s.staged := State.addCount_staged s x 1
@[simp] theorem State.count_bufRecs (s : State) (x : Fld) : (s.count x).bufRecs = s.bufRecs := State.addCount_bufRecs
    s x 1
@[simp] theorem State.count_streamers (s : State) (x : Fld) : (s.count x).streamers = s.streamers :=
    State.addCount_streamers s x 1
@[simp] theorem State.count_link (s : State) (x : Fld) : (s.count x).link = s.link := State.addCount_link s x 1
@[simp] theorem State.count_cross (s : State) (x : Fld) : (s.count x).cross = s.cross := State.addCount_cross s x 1
@[simp] theorem State.count_start (s : State) (x : Fld) : (s.count x).start = s.start := State.addCount_start s x 1
@[simp] theorem State.count_cal (s : State) (x : Fld) : (s.count x).cal = s.cal := State.addCount_cal s x 1
@[simp] theorem State.count_media (s : State) (x : Fld) : (s.count x).media = s.media := State.addCount_media s x 1
@[simp] theorem State.count_draws (s : State) (x : Fld) : (s.count x).draws = s.draws := State.addCount_draws s x 1

@[simp] theorem State.addSat_pending (s : State) (x : Fld) (n : Nat) : (s.addSat x n).pending = s.pending := id rfl
@[simp] theorem State.addSat_clk (s : State) (x : Fld) (n : Nat) : (s.addSat x n).clk = s.clk := id rfl
@[simp] theorem State.addSat_log (s : State) (x : Fld) (n : Nat) : (s.addSat x n).log = s.log := id rfl
@[simp] theorem State.addSat_staff (s : State) (x : Fld) (n : Nat) : (s.addSat x n).staff = s.staff := id rfl
@[simp] theorem State.addSat_resetting (s : State) (x : Fld) (n : Nat) : (s.addSat x n).resetting = s.resetting := id
    rfl
@[simp] theorem State.addSat_masked (s : State) (x : Fld) (n : Nat) : (s.addSat x n).masked = s.masked := id rfl
@[simp] theorem State.addSat_ports (s : State) (x : Fld) (n : Nat) : (s.addSat x n).ports = s.ports := id rfl
@[simp] theorem State.addSat_win (s : State) (x : Fld) (n : Nat) : (s.addSat x n).win = s.win := id rfl
@[simp] theorem State.addSat_tl (s : State) (x : Fld) (n : Nat) : (s.addSat x n).tl = s.tl := id rfl
@[simp] theorem State.addSat_mem (s : State) (x : Fld) (n : Nat) : (s.addSat x n).mem = s.mem := id rfl
@[simp] theorem State.addSat_memX (s : State) (x : Fld) (n : Nat) : (s.addSat x n).memX = s.memX := id rfl
@[simp] theorem State.addSat_memu (s : State) (x : Fld) (n : Nat) : (s.addSat x n).memu = s.memu := id rfl
@[simp] theorem State.addSat_lanes (s : State) (x : Fld) (n : Nat) : (s.addSat x n).lanes = s.lanes := id rfl
@[simp] theorem State.addSat_pcb (s : State) (x : Fld) (n : Nat) : (s.addSat x n).pcb = s.pcb := id rfl
@[simp] theorem State.addSat_mcb (s : State) (x : Fld) (n : Nat) : (s.addSat x n).mcb = s.mcb := id rfl
@[simp] theorem State.addSat_pf (s : State) (x : Fld) (n : Nat) : (s.addSat x n).pf = s.pf := id rfl
@[simp] theorem State.addSat_cantons (s : State) (x : Fld) (n : Nat) : (s.addSat x n).cantons = s.cantons := id rfl
@[simp] theorem State.addSat_str (s : State) (x : Fld) (n : Nat) : (s.addSat x n).str = s.str := id rfl
@[simp] theorem State.addSat_servo (s : State) (x : Fld) (n : Nat) : (s.addSat x n).servo = s.servo := id rfl
@[simp] theorem State.addSat_seq (s : State) (x : Fld) (n : Nat) : (s.addSat x n).seq = s.seq := id rfl
@[simp] theorem State.addSat_clr (s : State) (x : Fld) (n : Nat) : (s.addSat x n).clr = s.clr := id rfl
@[simp] theorem State.addSat_biasA (s : State) (x : Fld) (n : Nat) : (s.addSat x n).biasA = s.biasA := id rfl
@[simp] theorem State.addSat_spin (s : State) (x : Fld) (n : Nat) : (s.addSat x n).spin = s.spin := id rfl
@[simp] theorem State.addSat_cache (s : State) (x : Fld) (n : Nat) : (s.addSat x n).cache = s.cache := id rfl
@[simp] theorem State.addSat_staged (s : State) (x : Fld) (n : Nat) : (s.addSat x n).staged = s.staged := id rfl
@[simp] theorem State.addSat_bufRecs (s : State) (x : Fld) (n : Nat) : (s.addSat x n).bufRecs = s.bufRecs := id rfl
@[simp] theorem State.addSat_streamers (s : State) (x : Fld) (n : Nat) : (s.addSat x n).streamers = s.streamers := id
    rfl
@[simp] theorem State.addSat_link (s : State) (x : Fld) (n : Nat) : (s.addSat x n).link = s.link := id rfl
@[simp] theorem State.addSat_cross (s : State) (x : Fld) (n : Nat) : (s.addSat x n).cross = s.cross := id rfl
@[simp] theorem State.addSat_start (s : State) (x : Fld) (n : Nat) : (s.addSat x n).start = s.start := id rfl
@[simp] theorem State.addSat_cal (s : State) (x : Fld) (n : Nat) : (s.addSat x n).cal = s.cal := id rfl
@[simp] theorem State.addSat_media (s : State) (x : Fld) (n : Nat) : (s.addSat x n).media = s.media := id rfl
@[simp] theorem State.addSat_draws (s : State) (x : Fld) (n : Nat) : (s.addSat x n).draws = s.draws := id rfl

@[simp] theorem State.countSat_pending (s : State) (x : Fld) : (s.countSat x).pending = s.pending := id rfl
@[simp] theorem State.countSat_clk (s : State) (x : Fld) : (s.countSat x).clk = s.clk := id rfl
@[simp] theorem State.countSat_log (s : State) (x : Fld) : (s.countSat x).log = s.log := id rfl
@[simp] theorem State.countSat_staff (s : State) (x : Fld) : (s.countSat x).staff = s.staff := id rfl
@[simp] theorem State.countSat_resetting (s : State) (x : Fld) : (s.countSat x).resetting = s.resetting := id rfl
@[simp] theorem State.countSat_masked (s : State) (x : Fld) : (s.countSat x).masked = s.masked := id rfl
@[simp] theorem State.countSat_ports (s : State) (x : Fld) : (s.countSat x).ports = s.ports := id rfl
@[simp] theorem State.countSat_win (s : State) (x : Fld) : (s.countSat x).win = s.win := id rfl
@[simp] theorem State.countSat_tl (s : State) (x : Fld) : (s.countSat x).tl = s.tl := id rfl
@[simp] theorem State.countSat_mem (s : State) (x : Fld) : (s.countSat x).mem = s.mem := id rfl
@[simp] theorem State.countSat_memX (s : State) (x : Fld) : (s.countSat x).memX = s.memX := id rfl
@[simp] theorem State.countSat_memu (s : State) (x : Fld) : (s.countSat x).memu = s.memu := id rfl
@[simp] theorem State.countSat_lanes (s : State) (x : Fld) : (s.countSat x).lanes = s.lanes := id rfl
@[simp] theorem State.countSat_pcb (s : State) (x : Fld) : (s.countSat x).pcb = s.pcb := id rfl
@[simp] theorem State.countSat_mcb (s : State) (x : Fld) : (s.countSat x).mcb = s.mcb := id rfl
@[simp] theorem State.countSat_pf (s : State) (x : Fld) : (s.countSat x).pf = s.pf := id rfl
@[simp] theorem State.countSat_cantons (s : State) (x : Fld) : (s.countSat x).cantons = s.cantons := id rfl
@[simp] theorem State.countSat_str (s : State) (x : Fld) : (s.countSat x).str = s.str := id rfl
@[simp] theorem State.countSat_servo (s : State) (x : Fld) : (s.countSat x).servo = s.servo := id rfl
@[simp] theorem State.countSat_seq (s : State) (x : Fld) : (s.countSat x).seq = s.seq := id rfl
@[simp] theorem State.countSat_clr (s : State) (x : Fld) : (s.countSat x).clr = s.clr := id rfl
@[simp] theorem State.countSat_biasA (s : State) (x : Fld) : (s.countSat x).biasA = s.biasA := id rfl
@[simp] theorem State.countSat_spin (s : State) (x : Fld) : (s.countSat x).spin = s.spin := id rfl
@[simp] theorem State.countSat_cache (s : State) (x : Fld) : (s.countSat x).cache = s.cache := id rfl
@[simp] theorem State.countSat_staged (s : State) (x : Fld) : (s.countSat x).staged = s.staged := id rfl
@[simp] theorem State.countSat_bufRecs (s : State) (x : Fld) : (s.countSat x).bufRecs = s.bufRecs := id rfl
@[simp] theorem State.countSat_streamers (s : State) (x : Fld) : (s.countSat x).streamers = s.streamers := id rfl
@[simp] theorem State.countSat_link (s : State) (x : Fld) : (s.countSat x).link = s.link := id rfl
@[simp] theorem State.countSat_cross (s : State) (x : Fld) : (s.countSat x).cross = s.cross := id rfl
@[simp] theorem State.countSat_start (s : State) (x : Fld) : (s.countSat x).start = s.start := id rfl
@[simp] theorem State.countSat_cal (s : State) (x : Fld) : (s.countSat x).cal = s.cal := id rfl
@[simp] theorem State.countSat_media (s : State) (x : Fld) : (s.countSat x).media = s.media := id rfl
@[simp] theorem State.countSat_draws (s : State) (x : Fld) : (s.countSat x).draws = s.draws := id rfl

/-! ### Events -/

theorem State.arrive_rd (s : State) (a : Arrival) (b : Nat) (h1 : b ≠ LOG_FRZLOST) (h2 : b ≠ LOG_INLOST) :
    (s.arrive a).rd b = s.rd b := by
  unfold State.arrive
  split
  · exact State.count_rd _ _ _ h1
  · split
    · exact State.count_rd _ _ _ h2
    · rfl

theorem State.event_rd (s : State) (origin code : Nat) (p : List Nat) (b : Nat) (h1 : b ≠ LOG_FRZLOST)
    (h2 : b ≠ LOG_INLOST) : (s.event origin code p).rd b = s.rd b := State.arrive_rd s _ b h1 h2

theorem State.event_get (s : State) (origin code : Nat) (p : List Nat) (x : Fld) (h1 : x.addr ≠ LOG_FRZLOST)
    (h2 : x.addr ≠ LOG_INLOST) : (s.event origin code p).get x = s.get x := by
  unfold State.get
  rw [State.event_rd s origin code p x.addr h1 h2]

theorem State.logPriv_get (s : State) (o : Origin) (a v r : Nat) (x : Fld) (h1 : x.addr ≠ LOG_FRZLOST)
    (h2 : x.addr ≠ LOG_INLOST) : (s.logPriv o a v r).get x = s.get x := State.event_get s _ _ _ x h1 h2

theorem State.logPriv_rd (s : State) (o : Origin) (a v r b : Nat) (h1 : b ≠ LOG_FRZLOST)
    (h2 : b ≠ LOG_INLOST) : (s.logPriv o a v r).rd b = s.rd b := State.event_rd s _ _ _ b h1 h2

/-- Outside a freeze and with room in the intake queue, an event joins the queue's end (R459, R466). -/
theorem State.event_log (s : State) (origin code : Nat) (p : List Nat) (h1 : s.is LOG_STAT_FROZEN = false)
    (h2 : s.log.intake.length < 256) :
    s.event origin code p = { s with log := { s.log with intake := s.log.intake ++ [⟨s.now, origin, code, p⟩] } } := by
  unfold State.event State.arrive
  rw [h1, if_neg (by decide), if_neg (by omega)]

@[simp] theorem State.arrive_pending (s : State) (a : Arrival) : (s.arrive a).pending = s.pending := by
  unfold State.arrive
  split
  · exact State.count_pending _ _
  · split
    · exact State.count_pending _ _
    · rfl
@[simp] theorem State.arrive_clk (s : State) (a : Arrival) : (s.arrive a).clk = s.clk := by
  unfold State.arrive
  split
  · exact State.count_clk _ _
  · split
    · exact State.count_clk _ _
    · rfl
@[simp] theorem State.arrive_staff (s : State) (a : Arrival) : (s.arrive a).staff = s.staff := by
  unfold State.arrive
  split
  · exact State.count_staff _ _
  · split
    · exact State.count_staff _ _
    · rfl
@[simp] theorem State.arrive_resetting (s : State) (a : Arrival) : (s.arrive a).resetting = s.resetting := by
  unfold State.arrive
  split
  · exact State.count_resetting _ _
  · split
    · exact State.count_resetting _ _
    · rfl
@[simp] theorem State.arrive_masked (s : State) (a : Arrival) : (s.arrive a).masked = s.masked := by
  unfold State.arrive
  split
  · exact State.count_masked _ _
  · split
    · exact State.count_masked _ _
    · rfl
@[simp] theorem State.arrive_ports (s : State) (a : Arrival) : (s.arrive a).ports = s.ports := by
  unfold State.arrive
  split
  · exact State.count_ports _ _
  · split
    · exact State.count_ports _ _
    · rfl
@[simp] theorem State.arrive_win (s : State) (a : Arrival) : (s.arrive a).win = s.win := by
  unfold State.arrive
  split
  · exact State.count_win _ _
  · split
    · exact State.count_win _ _
    · rfl
@[simp] theorem State.arrive_tl (s : State) (a : Arrival) : (s.arrive a).tl = s.tl := by
  unfold State.arrive
  split
  · exact State.count_tl _ _
  · split
    · exact State.count_tl _ _
    · rfl
@[simp] theorem State.arrive_mem (s : State) (a : Arrival) : (s.arrive a).mem = s.mem := by
  unfold State.arrive
  split
  · exact State.count_mem _ _
  · split
    · exact State.count_mem _ _
    · rfl
@[simp] theorem State.arrive_memX (s : State) (a : Arrival) : (s.arrive a).memX = s.memX := by
  unfold State.arrive
  split
  · exact State.count_memX _ _
  · split
    · exact State.count_memX _ _
    · rfl
@[simp] theorem State.arrive_memu (s : State) (a : Arrival) : (s.arrive a).memu = s.memu := by
  unfold State.arrive
  split
  · exact State.count_memu _ _
  · split
    · exact State.count_memu _ _
    · rfl
@[simp] theorem State.arrive_lanes (s : State) (a : Arrival) : (s.arrive a).lanes = s.lanes := by
  unfold State.arrive
  split
  · exact State.count_lanes _ _
  · split
    · exact State.count_lanes _ _
    · rfl
@[simp] theorem State.arrive_pcb (s : State) (a : Arrival) : (s.arrive a).pcb = s.pcb := by
  unfold State.arrive
  split
  · exact State.count_pcb _ _
  · split
    · exact State.count_pcb _ _
    · rfl
@[simp] theorem State.arrive_mcb (s : State) (a : Arrival) : (s.arrive a).mcb = s.mcb := by
  unfold State.arrive
  split
  · exact State.count_mcb _ _
  · split
    · exact State.count_mcb _ _
    · rfl
@[simp] theorem State.arrive_pf (s : State) (a : Arrival) : (s.arrive a).pf = s.pf := by
  unfold State.arrive
  split
  · exact State.count_pf _ _
  · split
    · exact State.count_pf _ _
    · rfl
@[simp] theorem State.arrive_cantons (s : State) (a : Arrival) : (s.arrive a).cantons = s.cantons := by
  unfold State.arrive
  split
  · exact State.count_cantons _ _
  · split
    · exact State.count_cantons _ _
    · rfl
@[simp] theorem State.arrive_str (s : State) (a : Arrival) : (s.arrive a).str = s.str := by
  unfold State.arrive
  split
  · exact State.count_str _ _
  · split
    · exact State.count_str _ _
    · rfl
@[simp] theorem State.arrive_servo (s : State) (a : Arrival) : (s.arrive a).servo = s.servo := by
  unfold State.arrive
  split
  · exact State.count_servo _ _
  · split
    · exact State.count_servo _ _
    · rfl
@[simp] theorem State.arrive_seq (s : State) (a : Arrival) : (s.arrive a).seq = s.seq := by
  unfold State.arrive
  split
  · exact State.count_seq _ _
  · split
    · exact State.count_seq _ _
    · rfl
@[simp] theorem State.arrive_clr (s : State) (a : Arrival) : (s.arrive a).clr = s.clr := by
  unfold State.arrive
  split
  · exact State.count_clr _ _
  · split
    · exact State.count_clr _ _
    · rfl
@[simp] theorem State.arrive_biasA (s : State) (a : Arrival) : (s.arrive a).biasA = s.biasA := by
  unfold State.arrive
  split
  · exact State.count_biasA _ _
  · split
    · exact State.count_biasA _ _
    · rfl
@[simp] theorem State.arrive_spin (s : State) (a : Arrival) : (s.arrive a).spin = s.spin := by
  unfold State.arrive
  split
  · exact State.count_spin _ _
  · split
    · exact State.count_spin _ _
    · rfl
@[simp] theorem State.arrive_cache (s : State) (a : Arrival) : (s.arrive a).cache = s.cache := by
  unfold State.arrive
  split
  · exact State.count_cache _ _
  · split
    · exact State.count_cache _ _
    · rfl
@[simp] theorem State.arrive_staged (s : State) (a : Arrival) : (s.arrive a).staged = s.staged := by
  unfold State.arrive
  split
  · exact State.count_staged _ _
  · split
    · exact State.count_staged _ _
    · rfl
@[simp] theorem State.arrive_bufRecs (s : State) (a : Arrival) : (s.arrive a).bufRecs = s.bufRecs := by
  unfold State.arrive
  split
  · exact State.count_bufRecs _ _
  · split
    · exact State.count_bufRecs _ _
    · rfl
@[simp] theorem State.arrive_streamers (s : State) (a : Arrival) : (s.arrive a).streamers = s.streamers := by
  unfold State.arrive
  split
  · exact State.count_streamers _ _
  · split
    · exact State.count_streamers _ _
    · rfl
@[simp] theorem State.arrive_link (s : State) (a : Arrival) : (s.arrive a).link = s.link := by
  unfold State.arrive
  split
  · exact State.count_link _ _
  · split
    · exact State.count_link _ _
    · rfl
@[simp] theorem State.arrive_cross (s : State) (a : Arrival) : (s.arrive a).cross = s.cross := by
  unfold State.arrive
  split
  · exact State.count_cross _ _
  · split
    · exact State.count_cross _ _
    · rfl
@[simp] theorem State.arrive_start (s : State) (a : Arrival) : (s.arrive a).start = s.start := by
  unfold State.arrive
  split
  · exact State.count_start _ _
  · split
    · exact State.count_start _ _
    · rfl
@[simp] theorem State.arrive_cal (s : State) (a : Arrival) : (s.arrive a).cal = s.cal := by
  unfold State.arrive
  split
  · exact State.count_cal _ _
  · split
    · exact State.count_cal _ _
    · rfl
@[simp] theorem State.arrive_media (s : State) (a : Arrival) : (s.arrive a).media = s.media := by
  unfold State.arrive
  split
  · exact State.count_media _ _
  · split
    · exact State.count_media _ _
    · rfl
@[simp] theorem State.arrive_draws (s : State) (a : Arrival) : (s.arrive a).draws = s.draws := by
  unfold State.arrive
  split
  · exact State.count_draws _ _
  · split
    · exact State.count_draws _ _
    · rfl

@[simp] theorem State.event_pending (s : State) (o c : Nat) (p : List Nat) : (s.event o c p).pending = s.pending :=
    State.arrive_pending s _
@[simp] theorem State.event_clk (s : State) (o c : Nat) (p : List Nat) : (s.event o c p).clk = s.clk :=
    State.arrive_clk s _
@[simp] theorem State.event_staff (s : State) (o c : Nat) (p : List Nat) : (s.event o c p).staff = s.staff :=
    State.arrive_staff s _
@[simp] theorem State.event_resetting (s : State) (o c : Nat) (p : List Nat) : (s.event o c p).resetting = s.resetting
    := State.arrive_resetting s _
@[simp] theorem State.event_masked (s : State) (o c : Nat) (p : List Nat) : (s.event o c p).masked = s.masked :=
    State.arrive_masked s _
@[simp] theorem State.event_ports (s : State) (o c : Nat) (p : List Nat) : (s.event o c p).ports = s.ports :=
    State.arrive_ports s _
@[simp] theorem State.event_win (s : State) (o c : Nat) (p : List Nat) : (s.event o c p).win = s.win :=
    State.arrive_win s _
@[simp] theorem State.event_tl (s : State) (o c : Nat) (p : List Nat) : (s.event o c p).tl = s.tl := State.arrive_tl s _
@[simp] theorem State.event_mem (s : State) (o c : Nat) (p : List Nat) : (s.event o c p).mem = s.mem :=
    State.arrive_mem s _
@[simp] theorem State.event_memX (s : State) (o c : Nat) (p : List Nat) : (s.event o c p).memX = s.memX :=
    State.arrive_memX s _
@[simp] theorem State.event_memu (s : State) (o c : Nat) (p : List Nat) : (s.event o c p).memu = s.memu :=
    State.arrive_memu s _
@[simp] theorem State.event_lanes (s : State) (o c : Nat) (p : List Nat) : (s.event o c p).lanes = s.lanes :=
    State.arrive_lanes s _
@[simp] theorem State.event_pcb (s : State) (o c : Nat) (p : List Nat) : (s.event o c p).pcb = s.pcb :=
    State.arrive_pcb s _
@[simp] theorem State.event_mcb (s : State) (o c : Nat) (p : List Nat) : (s.event o c p).mcb = s.mcb :=
    State.arrive_mcb s _
@[simp] theorem State.event_pf (s : State) (o c : Nat) (p : List Nat) : (s.event o c p).pf = s.pf := State.arrive_pf s _
@[simp] theorem State.event_cantons (s : State) (o c : Nat) (p : List Nat) : (s.event o c p).cantons = s.cantons :=
    State.arrive_cantons s _
@[simp] theorem State.event_str (s : State) (o c : Nat) (p : List Nat) : (s.event o c p).str = s.str :=
    State.arrive_str s _
@[simp] theorem State.event_servo (s : State) (o c : Nat) (p : List Nat) : (s.event o c p).servo = s.servo :=
    State.arrive_servo s _
@[simp] theorem State.event_seq (s : State) (o c : Nat) (p : List Nat) : (s.event o c p).seq = s.seq :=
    State.arrive_seq s _
@[simp] theorem State.event_clr (s : State) (o c : Nat) (p : List Nat) : (s.event o c p).clr = s.clr :=
    State.arrive_clr s _
@[simp] theorem State.event_biasA (s : State) (o c : Nat) (p : List Nat) : (s.event o c p).biasA = s.biasA :=
    State.arrive_biasA s _
@[simp] theorem State.event_spin (s : State) (o c : Nat) (p : List Nat) : (s.event o c p).spin = s.spin :=
    State.arrive_spin s _
@[simp] theorem State.event_cache (s : State) (o c : Nat) (p : List Nat) : (s.event o c p).cache = s.cache :=
    State.arrive_cache s _
@[simp] theorem State.event_staged (s : State) (o c : Nat) (p : List Nat) : (s.event o c p).staged = s.staged :=
    State.arrive_staged s _
@[simp] theorem State.event_bufRecs (s : State) (o c : Nat) (p : List Nat) : (s.event o c p).bufRecs = s.bufRecs :=
    State.arrive_bufRecs s _
@[simp] theorem State.event_streamers (s : State) (o c : Nat) (p : List Nat) : (s.event o c p).streamers = s.streamers
    := State.arrive_streamers s _
@[simp] theorem State.event_link (s : State) (o c : Nat) (p : List Nat) : (s.event o c p).link = s.link :=
    State.arrive_link s _
@[simp] theorem State.event_cross (s : State) (o c : Nat) (p : List Nat) : (s.event o c p).cross = s.cross :=
    State.arrive_cross s _
@[simp] theorem State.event_start (s : State) (o c : Nat) (p : List Nat) : (s.event o c p).start = s.start :=
    State.arrive_start s _
@[simp] theorem State.event_cal (s : State) (o c : Nat) (p : List Nat) : (s.event o c p).cal = s.cal :=
    State.arrive_cal s _
@[simp] theorem State.event_media (s : State) (o c : Nat) (p : List Nat) : (s.event o c p).media = s.media :=
    State.arrive_media s _
@[simp] theorem State.event_draws (s : State) (o c : Nat) (p : List Nat) : (s.event o c p).draws = s.draws :=
    State.arrive_draws s _

@[simp] theorem State.logPriv_pending (s : State) (o : Origin) (a v r : Nat) : (s.logPriv o a v r).pending = s.pending
    := State.event_pending s _ _ _
@[simp] theorem State.logPriv_clk (s : State) (o : Origin) (a v r : Nat) : (s.logPriv o a v r).clk = s.clk :=
    State.event_clk s _ _ _
@[simp] theorem State.logPriv_staff (s : State) (o : Origin) (a v r : Nat) : (s.logPriv o a v r).staff = s.staff :=
    State.event_staff s _ _ _
@[simp] theorem State.logPriv_resetting (s : State) (o : Origin) (a v r : Nat) : (s.logPriv o a v r).resetting =
    s.resetting := State.event_resetting s _ _ _
@[simp] theorem State.logPriv_masked (s : State) (o : Origin) (a v r : Nat) : (s.logPriv o a v r).masked = s.masked :=
    State.event_masked s _ _ _
@[simp] theorem State.logPriv_ports (s : State) (o : Origin) (a v r : Nat) : (s.logPriv o a v r).ports = s.ports :=
    State.event_ports s _ _ _
@[simp] theorem State.logPriv_win (s : State) (o : Origin) (a v r : Nat) : (s.logPriv o a v r).win = s.win :=
    State.event_win s _ _ _
@[simp] theorem State.logPriv_tl (s : State) (o : Origin) (a v r : Nat) : (s.logPriv o a v r).tl = s.tl :=
    State.event_tl s _ _ _
@[simp] theorem State.logPriv_mem (s : State) (o : Origin) (a v r : Nat) : (s.logPriv o a v r).mem = s.mem :=
    State.event_mem s _ _ _
@[simp] theorem State.logPriv_memX (s : State) (o : Origin) (a v r : Nat) : (s.logPriv o a v r).memX = s.memX :=
    State.event_memX s _ _ _
@[simp] theorem State.logPriv_memu (s : State) (o : Origin) (a v r : Nat) : (s.logPriv o a v r).memu = s.memu :=
    State.event_memu s _ _ _
@[simp] theorem State.logPriv_lanes (s : State) (o : Origin) (a v r : Nat) : (s.logPriv o a v r).lanes = s.lanes :=
    State.event_lanes s _ _ _
@[simp] theorem State.logPriv_pcb (s : State) (o : Origin) (a v r : Nat) : (s.logPriv o a v r).pcb = s.pcb :=
    State.event_pcb s _ _ _
@[simp] theorem State.logPriv_mcb (s : State) (o : Origin) (a v r : Nat) : (s.logPriv o a v r).mcb = s.mcb :=
    State.event_mcb s _ _ _
@[simp] theorem State.logPriv_pf (s : State) (o : Origin) (a v r : Nat) : (s.logPriv o a v r).pf = s.pf :=
    State.event_pf s _ _ _
@[simp] theorem State.logPriv_cantons (s : State) (o : Origin) (a v r : Nat) : (s.logPriv o a v r).cantons = s.cantons
    := State.event_cantons s _ _ _
@[simp] theorem State.logPriv_str (s : State) (o : Origin) (a v r : Nat) : (s.logPriv o a v r).str = s.str :=
    State.event_str s _ _ _
@[simp] theorem State.logPriv_servo (s : State) (o : Origin) (a v r : Nat) : (s.logPriv o a v r).servo = s.servo :=
    State.event_servo s _ _ _
@[simp] theorem State.logPriv_seq (s : State) (o : Origin) (a v r : Nat) : (s.logPriv o a v r).seq = s.seq :=
    State.event_seq s _ _ _
@[simp] theorem State.logPriv_clr (s : State) (o : Origin) (a v r : Nat) : (s.logPriv o a v r).clr = s.clr :=
    State.event_clr s _ _ _
@[simp] theorem State.logPriv_biasA (s : State) (o : Origin) (a v r : Nat) : (s.logPriv o a v r).biasA = s.biasA :=
    State.event_biasA s _ _ _
@[simp] theorem State.logPriv_spin (s : State) (o : Origin) (a v r : Nat) : (s.logPriv o a v r).spin = s.spin :=
    State.event_spin s _ _ _
@[simp] theorem State.logPriv_cache (s : State) (o : Origin) (a v r : Nat) : (s.logPriv o a v r).cache = s.cache :=
    State.event_cache s _ _ _
@[simp] theorem State.logPriv_staged (s : State) (o : Origin) (a v r : Nat) : (s.logPriv o a v r).staged = s.staged :=
    State.event_staged s _ _ _
@[simp] theorem State.logPriv_bufRecs (s : State) (o : Origin) (a v r : Nat) : (s.logPriv o a v r).bufRecs = s.bufRecs
    := State.event_bufRecs s _ _ _
@[simp] theorem State.logPriv_streamers (s : State) (o : Origin) (a v r : Nat) : (s.logPriv o a v r).streamers =
    s.streamers := State.event_streamers s _ _ _
@[simp] theorem State.logPriv_link (s : State) (o : Origin) (a v r : Nat) : (s.logPriv o a v r).link = s.link :=
    State.event_link s _ _ _
@[simp] theorem State.logPriv_cross (s : State) (o : Origin) (a v r : Nat) : (s.logPriv o a v r).cross = s.cross :=
    State.event_cross s _ _ _
@[simp] theorem State.logPriv_start (s : State) (o : Origin) (a v r : Nat) : (s.logPriv o a v r).start = s.start :=
    State.event_start s _ _ _
@[simp] theorem State.logPriv_cal (s : State) (o : Origin) (a v r : Nat) : (s.logPriv o a v r).cal = s.cal :=
    State.event_cal s _ _ _
@[simp] theorem State.logPriv_media (s : State) (o : Origin) (a v r : Nat) : (s.logPriv o a v r).media = s.media :=
    State.event_media s _ _ _
@[simp] theorem State.logPriv_draws (s : State) (o : Origin) (a v r : Nat) : (s.logPriv o a v r).draws = s.draws :=
    State.event_draws s _ _ _

end Sys2Proof.Machine
end

