-- ==== Sys2Proof/WellFormed.lean ====
section
/-! DEFINITION. WellFormed.lean: the commands whose operands have the sizes the specification gives them. The types of
the operands bound every field of fixed width; the checks here bound the lists. -/

namespace Sys2Proof

/-- How many 32-bit data words a command carries: a WWR packet (R426), a refetched block (R372). -/
def Instr.dataWords : Instr → Nat
  | .linkWwr _ _ _ _ _ data => data.length
  | .scrubRefetch _ data _ => data.length
  | _ => 0

/-- The sizes of a command's lists are those of the specification. -/
def Instr.wellFormed : Instr → Bool
  -- R426, R428: LENW + 1 words, 1 to 1,024
  | .linkWwr _ _ _ _ _ data => decide (1 ≤ data.length ∧ data.length ≤ 1024)
  -- R372: a block of 4,096 bytes
  | .scrubRefetch _ data _ => decide (data.length = 1024)
  -- R375: a burst of 32 words
  | .lineSweepBurst _ _ flips => decide (flips.length ≤ 32)
  -- R162: one residual skew for each sub-ADC of a surface at most
  | .wedgeBoundary _ b => decide (b.skew.map (fun p => (p.1, p.2.1))).Nodup
  | _ => true

end Sys2Proof
end

