-- ==== Sys2Proof/Laws/PerInstr.lean ====
section
/-! SUPPORT. Laws/PerInstr.lean: statements made of every command, one lemma for each. -/

/-- A well-formed command carries at most one block of data words (R372, R426). -/
def Sys2Proof.Laws.Carries.Statement (i : Sys2Proof.Instr) : Prop := i.wellFormed = true → i.dataWords ≤ 1024

open Sys2Proof.Machine

namespace Sys2Proof.Laws.Carries

theorem powerOnDetect : Statement .powerOnDetect := fun _ => Nat.zero_le _
theorem resetNAssert : Statement .resetNAssert := fun _ => Nat.zero_le _
theorem resetNRelease : Statement .resetNRelease := fun _ => Nat.zero_le _
theorem chipReset : Statement .chipReset := fun _ => Nat.zero_le _
theorem startStepDone (f : Found) : Statement (.startStepDone f) := fun _ => Nat.zero_le _
theorem startPfailHoldEnd : Statement .startPfailHoldEnd := fun _ => Nat.zero_le _
theorem refclkGapTimeout : Statement .refclkGapTimeout := fun _ => Nat.zero_le _
theorem refclkWindowEnd (inRange : Bool) : Statement (.refclkWindowEnd inRange) := fun _ => Nat.zero_le _
theorem rootStop : Statement .rootStop := fun _ => Nat.zero_le _
theorem timeReplicaCompare (d : Die) (rep : BitVec 64) : Statement (.timeReplicaCompare d rep) := fun _ =>
    Nat.zero_le _
theorem cdcClockTimeout (n : Crossing) : Statement (.cdcClockTimeout n) := fun _ => Nat.zero_le _
theorem cdcPulse (n : Crossing) (busy : Bool) : Statement (.cdcPulse n busy) := fun _ => Nat.zero_le _
theorem cdcReopen (n : Crossing) : Statement (.cdcReopen n) := fun _ => Nat.zero_le _
theorem blockResetEnd (b : BlockId) : Statement (.blockResetEnd b) := fun _ => Nat.zero_le _
theorem faultMaskEnd (b : BlockId) : Statement (.faultMaskEnd b) := fun _ => Nat.zero_le _
theorem fltFirstClear (o : Origin) : Statement (.fltFirstClear o) := fun _ => Nat.zero_le _
theorem fltPendClear (o : Origin) (k : Fin 10) (v : BitVec 32) : Statement (.fltPendClear o k v) := fun _ =>
    Nat.zero_le _
theorem registerWrite (o : Origin) (a : BitVec 48) (v : Word) : Statement (.registerWrite o a v) := fun _ =>
    Nat.zero_le _
theorem rcFieldRead (o : Origin) (a : BitVec 48) : Statement (.rcFieldRead o a) := fun _ => Nat.zero_le _
theorem hoistRead (o : Origin) (n : TaskPort) : Statement (.hoistRead o n) := fun _ => Nat.zero_le _
theorem hoistWrite (o : Origin) (n : TaskPort) : Statement (.hoistWrite o n) := fun _ => Nat.zero_le _
theorem hoistAbort (o : Origin) (n : TaskPort) : Statement (.hoistAbort o n) := fun _ => Nat.zero_le _
theorem hoistBadOpcode (o : Origin) (n : TaskPort) : Statement (.hoistBadOpcode o n) := fun _ => Nat.zero_le _
theorem heldHoistLatch (n : TaskPort) : Statement (.heldHoistLatch n) := fun _ => Nat.zero_le _
theorem admissionUnitTake (d : Die) (h : Fin 16384) (unit : Fin 4) (met : BitVec 8) (edge : BitVec 8) : Statement
    (.admissionUnitTake d h unit met edge) := fun _ => Nat.zero_le _
theorem bufferedTerminal (n : TaskPort) (tag : BitVec 16) : Statement (.bufferedTerminal n tag) := fun _ =>
    Nat.zero_le _
theorem cqPop (n : TaskPort) : Statement (.cqPop n) := fun _ => Nat.zero_le _
theorem slotopFree (o : Origin) (n : TaskPort) (num : Fin 4194304) : Statement (.slotopFree o n num) := fun _ =>
    Nat.zero_le _
theorem slotopClaim (o : Origin) (n : TaskPort) (num : Fin 4194304) : Statement (.slotopClaim o n num) := fun _ =>
    Nat.zero_le _
theorem slotopComplete (n : TaskPort) : Statement (.slotopComplete n) := fun _ => Nat.zero_le _
theorem portCfgWrite (o : Origin) (n : TaskPort) (v : Word) : Statement (.portCfgWrite o n v) := fun _ =>
    Nat.zero_le _
theorem rightsRead (o : Origin) : Statement (.rightsRead o) := fun _ => Nat.zero_le _
theorem rightsSet (o : Origin) : Statement (.rightsSet o) := fun _ => Nat.zero_le _
theorem rightsClear (o : Origin) : Statement (.rightsClear o) := fun _ => Nat.zero_le _
theorem rightsCmdComplete : Statement .rightsCmdComplete := fun _ => Nat.zero_le _
theorem grantRead (o : Origin) : Statement (.grantRead o) := fun _ => Nat.zero_le _
theorem grantSet (o : Origin) : Statement (.grantSet o) := fun _ => Nat.zero_le _
theorem grantRevoke (o : Origin) : Statement (.grantRevoke o) := fun _ => Nat.zero_le _
theorem grantCmdComplete : Statement .grantCmdComplete := fun _ => Nat.zero_le _
theorem holdSweep : Statement .holdSweep := fun _ => Nat.zero_le _
theorem winHoldWrite (o : Origin) (v : Word) : Statement (.winHoldWrite o v) := fun _ => Nat.zero_le _
theorem wedgeBoundary (c : Cluster) (b : Boundary) : Statement (.wedgeBoundary c b) := fun _ => Nat.zero_le _
theorem bcmdRead (o : Origin) : Statement (.bcmdRead o) := fun _ => Nat.zero_le _
theorem bcmdWrite (o : Origin) : Statement (.bcmdWrite o) := fun _ => Nat.zero_le _
theorem bcmdComplete : Statement .bcmdComplete := fun _ => Nat.zero_le _
theorem laneArmRead (c : Cluster) (mask : BitVec 32) (slot : BitVec 32) : Statement (.laneArmRead c mask slot) :=
    fun _ => Nat.zero_le _
theorem laneArmWrite (c : Cluster) (mask : BitVec 32) (slot : BitVec 32) : Statement (.laneArmWrite c mask slot) :=
    fun _ => Nat.zero_le _
theorem laneDisarm (c : Cluster) (mask : BitVec 32) : Statement (.laneDisarm c mask) := fun _ => Nat.zero_le _
theorem adcStuck (c : Cluster) (f : Surface) : Statement (.adcStuck c f) := fun _ => Nat.zero_le _
theorem laneRetire (o : Origin) (c : Cluster) (f : Surface) : Statement (.laneRetire o c f) := fun _ => Nat.zero_le
    _
theorem hostWinhWrite (o : Origin) (c : Cluster) (f : Surface) (b : Bool) : Statement (.hostWinhWrite o c f b) :=
    fun _ => Nat.zero_le _
theorem pcbFrameSend (c : Cluster) (fits : Bool) : Statement (.pcbFrameSend c fits) := fun _ => Nat.zero_le _
theorem pcbAck (c : Cluster) (seq : Fin 16) : Statement (.pcbAck c seq) := fun _ => Nat.zero_le _
theorem pcbNak (c : Cluster) (ma : Bool) (passed : BitVec 12) : Statement (.pcbNak c ma passed) := fun _ =>
    Nat.zero_le _
theorem pcbSense (c : Cluster) (r : Vector (BitVec 16) 32) : Statement (.pcbSense c r) := fun _ => Nat.zero_le _
theorem pcbRdata (c : Cluster) (addr : BitVec 16) (data : BitVec 16) : Statement (.pcbRdata c addr data) := fun _ =>
    Nat.zero_le _
theorem pcbFaultFrame (c : Cluster) (surfaces : BitVec 32) (cause : BitVec 8) : Statement (.pcbFaultFrame c surfaces
    cause) := fun _ => Nat.zero_le _
theorem pcbBadFrame (c : Cluster) (passed : BitVec 12) : Statement (.pcbBadFrame c passed) := fun _ => Nat.zero_le _
theorem pcbExchangeTimeout (c : Cluster) (passed : BitVec 12) : Statement (.pcbExchangeTimeout c passed) := fun _ =>
    Nat.zero_le _
theorem pcbRegRead (o : Origin) (c : Cluster) : Statement (.pcbRegRead o c) := fun _ => Nat.zero_le _
theorem pcbRegWrite (o : Origin) (c : Cluster) : Statement (.pcbRegWrite o c) := fun _ => Nat.zero_le _
theorem pfltFall (c : Cluster) : Statement (.pfltFall c) := fun _ => Nat.zero_le _
theorem pfltNoFaultFrame (c : Cluster) : Statement (.pfltNoFaultFrame c) := fun _ => Nat.zero_le _
theorem mcbCycle (drive : BitVec 12) (angle : BitVec 12) : Statement (.mcbCycle drive angle) := fun _ => Nat.zero_le
    _
theorem mcbAck (seq : Fin 16) (echo : BitVec 24) : Statement (.mcbAck seq echo) := fun _ => Nat.zero_le _
theorem mcbNak (seq : Fin 16) : Statement (.mcbNak seq) := fun _ => Nat.zero_le _
theorem vcmMeas (c : Cluster) (seq : Fin 16) (cur : BitVec 12) (emf : BitVec 12) : Statement (.vcmMeas c seq cur
    emf) := fun _ => Nat.zero_le _
theorem spinMeas (seq : Fin 16) (emf : BitVec 12) (phase : Fin 3) (vbus : BitVec 10) (zero : Option (Bool × Fin 16))
    : Statement (.spinMeas seq emf phase vbus zero) := fun _ => Nat.zero_le _
theorem mcbRdata (seq : Fin 16) (addr : BitVec 8) (data : BitVec 16) : Statement (.mcbRdata seq addr data) := fun _
    => Nat.zero_le _
theorem mcbFault (seq : Fin 16) (payload : BitVec 24) : Statement (.mcbFault seq payload) := fun _ => Nat.zero_le _
theorem mcbRegRead (o : Origin) (addr : BitVec 8) : Statement (.mcbRegRead o addr) := fun _ => Nat.zero_le _
theorem mcbRegWrite (o : Origin) (addr : BitVec 8) (data : BitVec 16) : Statement (.mcbRegWrite o addr data) := fun
    _ => Nat.zero_le _
theorem masterTakeover : Statement .masterTakeover := fun _ => Nat.zero_le _
theorem pfailNFall : Statement .pfailNFall := fun _ => Nat.zero_le _
theorem pfailGlitch : Statement .pfailGlitch := fun _ => Nat.zero_le _
theorem pfailAccept : Statement .pfailAccept := fun _ => Nat.zero_le _
theorem pfPhaseB (wrote : List (Cluster × Nat × Nat)) : Statement (.pfPhaseB wrote) := fun _ => Nat.zero_le _
theorem pfBrake : Statement .pfBrake := fun _ => Nat.zero_le _
theorem pfailRecover : Statement .pfailRecover := fun _ => Nat.zero_le _
theorem fragmentReadStart (c : Cluster) (f : Surface) (raw : List (BitVec 7)) : Statement (.fragmentReadStart c f
    raw) := fun _ => Nat.zero_le _
theorem syncWindowClose (c : Cluster) (f : Surface) (raw : List (BitVec 7)) : Statement (.syncWindowClose c f raw)
    := fun _ => Nat.zero_le _
theorem resyncSearch (c : Cluster) (f : Surface) (before : List (BitVec 7)) (after : List (BitVec 7)) : Statement
    (.resyncSearch c f before after) := fun _ => Nat.zero_le _
theorem fragmentEnd (c : Cluster) (f : Surface) (raw : List (BitVec 7)) : Statement (.fragmentEnd c f raw) := fun _
    => Nat.zero_le _
theorem landingHead (c : Cluster) (f : Surface) : Statement (.landingHead c f) := fun _ => Nat.zero_le _
theorem decodeDispatch (k : CantonNo) (d : Fin 20) : Statement (.decodeDispatch k d) := fun _ => Nat.zero_le _
theorem decodeEnd (k : CantonNo) (d : Fin 20) (checker : Bool) : Statement (.decodeEnd k d checker) := fun _ =>
    Nat.zero_le _
theorem decodeDeadline (c : Cluster) (f : Surface) : Statement (.decodeDeadline c f) := fun _ => Nat.zero_le _
theorem decoderTimeout (k : CantonNo) (d : Fin 20) : Statement (.decoderTimeout k d) := fun _ => Nat.zero_le _
theorem stripeSettle (c : Cluster) (slot : BitVec 32) : Statement (.stripeSettle c slot) := fun _ => Nat.zero_le _
theorem parityEncodeDone (c : Cluster) : Statement (.parityEncodeDone c) := fun _ => Nat.zero_le _
theorem commitTestDone (c : Cluster) (log : Bool) : Statement (.commitTestDone c log) := fun _ => Nat.zero_le _
theorem calSkewUpdate (c : Cluster) (r : Fin 2048) (hoff : Option (Surface × Bool)) (h : Fin 16384) : Statement
    (.calSkewUpdate c r hoff h) := fun _ => Nat.zero_le _
theorem relocTrackCopy (c : Cluster) (r : Fin 2048) (f : Surface) (h : Fin 16384) : Statement (.relocTrackCopy c r f
    h) := fun _ => Nat.zero_le _
theorem repairWrite (c : Cluster) (slot : BitVec 32) (cut : BitVec 32) (h : Fin 16384) : Statement (.repairWrite c
    slot cut h) := fun _ => Nat.zero_le _
theorem patrolRead (c : Cluster) (erased : BitVec 32) (spare : BitVec 32) (cut : BitVec 32) (h : Fin 16384) :
    Statement (.patrolRead c erased spare cut h) := fun _ => Nat.zero_le _
theorem servoWd (c : Cluster) (xs : Vector (Option Sample) 32) (lane : Surface) : Statement (.servoWd c xs lane) :=
    fun _ => Nat.zero_le _
theorem servoMidw (c : Cluster) : Statement (.servoMidw c) := fun _ => Nat.zero_le _
theorem reacquireTimeout (c : Cluster) : Statement (.reacquireTimeout c) := fun _ => Nat.zero_le _
theorem seqGo (c : Cluster) (flips : BitVec 136) : Statement (.seqGo c flips) := fun _ => Nat.zero_le _
theorem seqBranch (c : Cluster) (flips : BitVec 136) : Statement (.seqBranch c flips) := fun _ => Nat.zero_le _
theorem seqWait (c : Cluster) (flips : BitVec 136) (held : BitVec 16) : Statement (.seqWait c flips held) := fun _
    => Nat.zero_le _
theorem seqWaitTimeout (c : Cluster) : Statement (.seqWaitTimeout c) := fun _ => Nat.zero_le _
theorem seqCall (c : Cluster) (flips : BitVec 136) : Statement (.seqCall c flips) := fun _ => Nat.zero_le _
theorem seqReturn (c : Cluster) (flips : BitVec 136) : Statement (.seqReturn c flips) := fun _ => Nat.zero_le _
theorem seqIret (c : Cluster) (flips : BitVec 136) : Statement (.seqIret c flips) := fun _ => Nat.zero_le _
theorem seqJumpclr (c : Cluster) (flips : BitVec 136) : Statement (.seqJumpclr c flips) := fun _ => Nat.zero_le _
theorem seqIllegalWord (c : Cluster) (flips : BitVec 136) : Statement (.seqIllegalWord c flips) := fun _ =>
    Nat.zero_le _
theorem aluMov (c : Cluster) (dst : Fin 16) (b : AluB) : Statement (.aluMov c dst b) := fun _ => Nat.zero_le _
theorem aluAdd (c : Cluster) (dst : Fin 16) (a : Fin 16) (b : AluB) : Statement (.aluAdd c dst a b) := fun _ =>
    Nat.zero_le _
theorem aluSub (c : Cluster) (dst : Fin 16) (a : Fin 16) (b : AluB) : Statement (.aluSub c dst a b) := fun _ =>
    Nat.zero_le _
theorem aluAnd (c : Cluster) (dst : Fin 16) (a : Fin 16) (b : AluB) : Statement (.aluAnd c dst a b) := fun _ =>
    Nat.zero_le _
theorem aluOr (c : Cluster) (dst : Fin 16) (a : Fin 16) (b : AluB) : Statement (.aluOr c dst a b) := fun _ =>
    Nat.zero_le _
theorem aluXor (c : Cluster) (dst : Fin 16) (a : Fin 16) (b : AluB) : Statement (.aluXor c dst a b) := fun _ =>
    Nat.zero_le _
theorem aluShl (c : Cluster) (dst : Fin 16) (a : Fin 16) (b : AluB) : Statement (.aluShl c dst a b) := fun _ =>
    Nat.zero_le _
theorem aluShr (c : Cluster) (dst : Fin 16) (a : Fin 16) (b : AluB) : Statement (.aluShr c dst a b) := fun _ =>
    Nat.zero_le _
theorem aluPopcnt (c : Cluster) (dst : Fin 16) (b : AluB) : Statement (.aluPopcnt c dst b) := fun _ => Nat.zero_le _
theorem aluFfs (c : Cluster) (dst : Fin 16) (b : AluB) : Statement (.aluFfs c dst b) := fun _ => Nat.zero_le _
theorem aluMin (c : Cluster) (dst : Fin 16) (a : Fin 16) (b : AluB) : Statement (.aluMin c dst a b) := fun _ =>
    Nat.zero_le _
theorem timelineRead (c : Cluster) (wedge : BitVec 32) : Statement (.timelineRead c wedge) := fun _ => Nat.zero_le _
theorem timelineReadDone (c : Cluster) : Statement (.timelineReadDone c) := fun _ => Nat.zero_le _
theorem servoMove (c : Cluster) (track : BitVec 26) : Statement (.servoMove c track) := fun _ => Nat.zero_le _
theorem servoHold (c : Cluster) : Statement (.servoHold c) := fun _ => Nat.zero_le _
theorem pcbMode (c : Cluster) (mask : BitVec 32) (mode : Fin 4) (act : BitVec 12) : Statement (.pcbMode c mask mode
    act) := fun _ => Nat.zero_le _
theorem strOpen (c : Cluster) (slot : BitVec 32) : Statement (.strOpen c slot) := fun _ => Nat.zero_le _
theorem strWriteset (c : Cluster) (mask : BitVec 32) : Statement (.strWriteset c mask) := fun _ => Nat.zero_le _
theorem strCommitTest (c : Cluster) : Statement (.strCommitTest c) := fun _ => Nat.zero_le _
theorem strClose (c : Cluster) : Statement (.strClose c) := fun _ => Nat.zero_le _
theorem stmKick (c : Cluster) (addr : BitVec 32) : Statement (.stmKick c addr) := fun _ => Nat.zero_le _
theorem budgetCheck (c : Cluster) (cells : BitVec 32) (owner : BitVec 32) : Statement (.budgetCheck c cells owner)
    := fun _ => Nat.zero_le _
theorem portTerminal (owner : BitVec 32) (status : BitVec 8) : Statement (.portTerminal owner status) := fun _ =>
    Nat.zero_le _
theorem portDetail (owner : BitVec 32) : Statement (.portDetail owner) := fun _ => Nat.zero_le _
theorem eventLog (c : Cluster) (code : BitVec 16) (payload : BitVec 32) : Statement (.eventLog c code payload) :=
    fun _ => Nat.zero_le _
theorem posSet (c : Cluster) (v : BitVec 32) : Statement (.posSet c v) := fun _ => Nat.zero_le _
theorem seqInterrupt (c : Cluster) : Statement (.seqInterrupt c) := fun _ => Nat.zero_le _
theorem seqSafeLate (c : Cluster) : Statement (.seqSafeLate c) := fun _ => Nat.zero_le _
theorem seqRestart (o : Origin) (c : Cluster) : Statement (.seqRestart o c) := fun _ => Nat.zero_le _
theorem seqTest (o : Origin) (c : Cluster) : Statement (.seqTest o c) := fun _ => Nat.zero_le _
theorem seqHalt (o : Origin) (c : Cluster) : Statement (.seqHalt o c) := fun _ => Nat.zero_le _
theorem seqStep (o : Origin) (c : Cluster) (flips : BitVec 136) : Statement (.seqStep o c flips) := fun _ =>
    Nat.zero_le _
theorem csRead (o : Origin) (c : Cluster) (flips : BitVec 136) : Statement (.csRead o c flips) := fun _ =>
    Nat.zero_le _
theorem csWrite (o : Origin) (c : Cluster) : Statement (.csWrite o c) := fun _ => Nat.zero_le _
theorem csVerify (o : Origin) (c : Cluster) : Statement (.csVerify o c) := fun _ => Nat.zero_le _
theorem csVerifyDone (c : Cluster) (flips : List (BitVec 14 × BitVec 136)) : Statement (.csVerifyDone c flips) :=
    fun _ => Nat.zero_le _
theorem gflagWrite (o : Origin) (c : Cluster) (v : Fin 16) : Statement (.gflagWrite o c v) := fun _ => Nat.zero_le _
theorem clrRetry (c : Cluster) (f : Surface) : Statement (.clrRetry c f) := fun _ => Nat.zero_le _
theorem spinWatchEnd : Statement .spinWatchEnd := fun _ => Nat.zero_le _
theorem spinAlignEnd : Statement .spinAlignEnd := fun _ => Nat.zero_le _
theorem sprefEdge (frac : Fin 16) : Statement (.sprefEdge frac) := fun _ => Nat.zero_le _
theorem sprefLost : Statement .sprefLost := fun _ => Nat.zero_le _
theorem spinNoZeroCrossing : Statement .spinNoZeroCrossing := fun _ => Nat.zero_le _
theorem spinupTimeout : Statement .spinupTimeout := fun _ => Nat.zero_le _
theorem memoryRead (m : MemAt) : Statement (.memoryRead m) := fun _ => Nat.zero_le _
theorem memoryWrite (o : Origin) (m : MemAt) (v : Word) : Statement (.memoryWrite o m v) := fun _ => Nat.zero_le _
theorem memoryPartialWrite (o : Origin) (m : MemAt) (mask : BitVec 4) (v : Word) : Statement (.memoryPartialWrite o
    m mask v) := fun _ => Nat.zero_le _
theorem scrubRead (m : MemAt) (row : BitVec 32) (last : Bool) : Statement (.scrubRead m row last) := fun _ =>
    Nat.zero_le _
theorem lineSweepBurst (ch : Channel) (addr : BitVec 35) (flips : List (BitVec 40)) : Statement (.lineSweepBurst ch
    addr flips) := fun _ => Nat.zero_le _
theorem scrubRefetch (lba : BitVec 48) (data : List (BitVec 32)) (h : Fin 16384) : Statement (.scrubRefetch lba data
    h) := fun h => Nat.le_of_eq (of_decide_eq_true h)
theorem injectArm (o : Origin) : Statement (.injectArm o) := fun _ => Nat.zero_le _
theorem injectDisarm (o : Origin) : Statement (.injectDisarm o) := fun _ => Nat.zero_le _
theorem cacheInvalidate (o : Origin) (d : Die) : Statement (.cacheInvalidate o d) := fun _ => Nat.zero_le _
theorem cacheEnable (o : Origin) (d : Die) (pfEn : Bool) : Statement (.cacheEnable o d pfEn) := fun _ => Nat.zero_le
    _
theorem cacheDisable (o : Origin) (d : Die) (pfEn : Bool) : Statement (.cacheDisable o d pfEn) := fun _ =>
    Nat.zero_le _
theorem cacheDrainEnd (d : Die) : Statement (.cacheDrainEnd d) := fun _ => Nat.zero_le _
theorem evictionWriteDone (d : Die) : Statement (.evictionWriteDone d) := fun _ => Nat.zero_le _
theorem prefetchIssue (d : Die) (i : Fin 64) (k : Fin 16) (h : Fin 16384) : Statement (.prefetchIssue d i k h) :=
    fun _ => Nat.zero_le _
theorem stmGo (o : Origin) (n : StreamerNo) (hi : Fin 8) : Statement (.stmGo o n hi) := fun _ => Nat.zero_le _
theorem stmPause (o : Origin) (n : StreamerNo) : Statement (.stmPause o n) := fun _ => Nat.zero_le _
theorem stmResume (o : Origin) (n : StreamerNo) : Statement (.stmResume o n) := fun _ => Nat.zero_le _
theorem stmStop (o : Origin) (n : StreamerNo) (pause : Bool) : Statement (.stmStop o n pause) := fun _ =>
    Nat.zero_le _
theorem stmBurstIssue (n : StreamerNo) : Statement (.stmBurstIssue n) := fun _ => Nat.zero_le _
theorem stmBurstAck (n : StreamerNo) : Statement (.stmBurstAck n) := fun _ => Nat.zero_le _
theorem stmBurstTimeout (n : StreamerNo) : Statement (.stmBurstTimeout n) := fun _ => Nat.zero_le _
theorem stmDescEnd (n : StreamerNo) : Statement (.stmDescEnd n) := fun _ => Nat.zero_le _
theorem stmLinkReread (n : StreamerNo) : Statement (.stmLinkReread n) := fun _ => Nat.zero_le _
theorem stmStatusRead (n : StreamerNo) : Statement (.stmStatusRead n) := fun _ => Nat.zero_le _
theorem linkCodeword (n : HLane) (info : BitVec 5140) (errs : Fin 545) (skew : BitVec 8) : Statement (.linkCodeword
    n info errs skew) := fun _ => Nat.zero_le _
theorem linkDataFlit (p : LinkPort) : Statement (.linkDataFlit p) := fun _ => Nat.zero_le _
theorem linkIdleFlit (p : LinkPort) : Statement (.linkIdleFlit p) := fun _ => Nat.zero_le _
theorem linkCtrlFlit (p : LinkPort) : Statement (.linkCtrlFlit p) := fun _ => Nat.zero_le _
theorem linkReplayTimer (p : LinkPort) : Statement (.linkReplayTimer p) := fun _ => Nat.zero_le _
theorem linkRreg (p : LinkPort) (view : Bool) (func : Fin 256) (burgee : Fin 4096) (tag : BitVec 12) (a : BitVec 48)
    : Statement (.linkRreg p view func burgee tag a) := fun _ => Nat.zero_le _
theorem linkWreg (p : LinkPort) (view : Bool) (func : Fin 256) (burgee : Fin 4096) (a : BitVec 32) (v : Word) :
    Statement (.linkWreg p view func burgee a v) := fun _ => Nat.zero_le _
theorem linkWrd (p : LinkPort) (view : Bool) (func : Fin 256) (burgee : Fin 4096) (tag : BitVec 12) (lenw : Fin
    1024) (a : BitVec 48) : Statement (.linkWrd p view func burgee tag lenw a) := fun _ => Nat.zero_le _
theorem linkWwr (p : LinkPort) (view : Bool) (func : Fin 256) (burgee : Fin 4096) (a : BitVec 48) (data : List Word)
    : Statement (.linkWwr p view func burgee a data) := fun h => (of_decide_eq_true h).2
theorem linkDblSend (n : TaskPort) : Statement (.linkDblSend n) := fun _ => Nat.zero_le _
theorem linkEvtSend (d : Die) : Statement (.linkEvtSend d) := fun _ => Nat.zero_le _
theorem linkMapApply (p : LinkPort) (rx : Bool) : Statement (.linkMapApply p rx) := fun _ => Nat.zero_le _
theorem linkLaneRetrain (n : HLane) (passed : Bool) : Statement (.linkLaneRetrain n passed) := fun _ => Nat.zero_le
    _
theorem linkEqualizeDone (p : LinkPort) (ok : BitVec 20) (inv : BitVec 20) : Statement (.linkEqualizeDone p ok inv)
    := fun _ => Nat.zero_le _
theorem linkAlignDone (p : LinkPort) : Statement (.linkAlignDone p) := fun _ => Nat.zero_le _
theorem linkConfigDone (p : LinkPort) (pcred : BitVec 16) : Statement (.linkConfigDone p pcred) := fun _ =>
    Nat.zero_le _
theorem linkTrainTimeout (p : LinkPort) : Statement (.linkTrainTimeout p) := fun _ => Nat.zero_le _
theorem linkRetrainDone (p : LinkPort) : Statement (.linkRetrainDone p) := fun _ => Nat.zero_le _
theorem linkPortDown (p : LinkPort) : Statement (.linkPortDown p) := fun _ => Nat.zero_le _
theorem staffHeartbeatTimeout (i : Fin 4) : Statement (.staffHeartbeatTimeout i) := fun _ => Nat.zero_le _
theorem staffBootDone (i : Fin 4) : Statement (.staffBootDone i) := fun _ => Nat.zero_le _
theorem dieHeartbeatTimeout (d : Die) : Statement (.dieHeartbeatTimeout d) := fun _ => Nat.zero_le _
theorem eventStore : Statement .eventStore := fun _ => Nat.zero_le _
theorem opsecIncrement : Statement .opsecIncrement := fun _ => Nat.zero_le _
theorem lifeRecordPeriodic : Statement .lifeRecordPeriodic := fun _ => Nat.zero_le _
theorem firstAreaProgram : Statement .firstAreaProgram := fun _ => Nat.zero_le _
theorem calendarSet (o : Origin) : Statement (.calendarSet o) := fun _ => Nat.zero_le _
theorem calendarClear (o : Origin) : Statement (.calendarClear o) := fun _ => Nat.zero_le _
theorem logFreeze (o : Origin) : Statement (.logFreeze o) := fun _ => Nat.zero_le _
theorem logThaw (o : Origin) : Statement (.logThaw o) := fun _ => Nat.zero_le _
theorem logFreezeTimeout : Statement .logFreezeTimeout := fun _ => Nat.zero_le _
theorem logReadSelect (o : Origin) (v : Word) : Statement (.logReadSelect o v) := fun _ => Nat.zero_le _
theorem logReadDone : Statement .logReadDone := fun _ => Nat.zero_le _
theorem calTimebase (o : Origin) (c : Cluster) (apply : Bool) : Statement (.calTimebase o c apply) := fun _ =>
    Nat.zero_le _
theorem calRefdac (o : Origin) (c : Cluster) (apply : Bool) : Statement (.calRefdac o c apply) := fun _ =>
    Nat.zero_le _
theorem calAnalog (o : Origin) (c : Cluster) (apply : Bool) : Statement (.calAnalog o c apply) := fun _ =>
    Nat.zero_le _
theorem calMedia (o : Origin) (c : Cluster) (apply : Bool) : Statement (.calMedia o c apply) := fun _ => Nat.zero_le
    _
theorem calClusterClosed : Statement .calClusterClosed := fun _ => Nat.zero_le _
theorem calSessionEnd (m : Measured) : Statement (.calSessionEnd m) := fun _ => Nat.zero_le _
theorem calStore (o : Origin) : Statement (.calStore o) := fun _ => Nat.zero_le _
theorem calStoreDone (same : Bool) (left : Option CalCopy) : Statement (.calStoreDone same left) := fun _ =>
    Nat.zero_le _
theorem monitorSample (mv : Vector (BitVec 12) 5) (tj : Vector (BitVec 16) 9) : Statement (.monitorSample mv tj) :=
    fun _ => Nat.zero_le _
theorem foreignClockReturn (n : Crossing) : Statement (.foreignClockReturn n) := fun _ => Nat.zero_le _
theorem calrefPresentChange (present : Bool) : Statement (.calrefPresentChange present) := fun _ => Nat.zero_le _
theorem pfltRise (c : Cluster) : Statement (.pfltRise c) := fun _ => Nat.zero_le _
theorem mcbBadReply : Statement .mcbBadReply := fun _ => Nat.zero_le _
theorem storeReloadDone (c : Cluster) : Statement (.storeReloadDone c) := fun _ => Nat.zero_le _
theorem invalidateDone (d : Die) : Statement (.invalidateDone d) := fun _ => Nat.zero_le _
theorem steeringHoldEnd (ch : Channel) : Statement (.steeringHoldEnd ch) := fun _ => Nat.zero_le _
theorem fragmentWriteStart (c : Cluster) (f : Surface) (early : Bool) : Statement (.fragmentWriteStart c f early) :=
    fun _ => Nat.zero_le _
theorem posHit (c : Cluster) : Statement (.posHit c) := fun _ => Nat.zero_le _

end Sys2Proof.Laws.Carries
end

