-- ==== Sys2Proof/Tests/Slice0.lean ====
section
/-! SUPPORT. Tests/Slice0.lean: ill-formed commands that the checks refuse, and for each statement with premises a state
and operands that meet them. -/

open Sys2Proof Sys2Proof.Machine

namespace Sys2Proof.Tests

/-! Each check of WellFormed.lean refuses an ill-formed command. -/
theorem test_wwr_without_data : (Instr.linkWwr 0 false 0 1 0 []).wellFormed = false := by decide

theorem test_wwr_one_word : (Instr.linkWwr 0 false 0 1 0 [7]).wellFormed = true := by decide

theorem test_short_block : (Instr.scrubRefetch 0 [5] 0).wellFormed = false := by decide

theorem test_long_burst : (Instr.lineSweepBurst 0 0 (List.replicate 33 0)).wellFormed = false := by decide

theorem test_two_skews : (Instr.wedgeBoundary 0 ⟨[(3, 1, 5), (3, 1, 6)], false⟩).wellFormed = false := by decide

/-! Premises of StepLeavesQueueRest. -/
theorem test_step_leaves_queue_rest_premises : ∃ (s t : State) (c : Instr) (rest : List Instr),
    s.pending = c :: rest ∧ step s = .next t :=
  ⟨{ State.reset with pending := [.rootStop, .rootStop] }, _, .rootStop, [.rootStop], rfl, rfl⟩

/-! Premises of OnlyPowerOnClearsTime. -/
theorem test_only_power_on_clears_time_premises : ∃ (i : Instr) (s t : State), i ≠ .powerOnDetect ∧ exec i s = .next t :=
  ⟨.rootStop, State.reset, _, by decide, rfl⟩

theorem test_power_on_answers : ∃ s t : State, exec .powerOnDetect s = .next t := ⟨State.reset, _, rfl⟩

/-! Premises of TickCountsTime. -/
theorem test_tick_premises : ∃ s t : State,
    (s.pending = [] ∧ s.clk.counting = true ∧ s.clk.rootStopped = false ∧ s.ports.slotOps = []) ∧
    (t.pending = [] ∧ t.clk.counting = false) :=
  ⟨{ State.reset with clk := { State.reset.clk with counting := true } }, State.reset, by decide⟩

/-! Premises of PackageResetsComplete. -/
theorem test_package_resets_premises : (∃ s : State, s.clk.resetLow = false) ∧
    (∃ s : State, s.live = true ∧ s.clk.chipResetReq = true ∧ s.log.intake = []) :=
  ⟨⟨State.reset, rfl⟩, ⟨{ State.reset with clk := { State.reset.clk with chipResetReq := true } }, by decide⟩⟩

/-! Premises of ClocksAndCrossingsComplete. -/
theorem test_clocks_and_crossings_premises : State.reset.live = true ∧ State.reset.clk.refLost = false ∧
    (∃ s : State, s.live = true ∧ s.clk.refLost = true) ∧
    (State.reset.is (TOP_CDC_STAT_CLOSED 50) = false ∧ (State.reset.crossOf 50).reset = false ∧
      (State.reset.crossOf 50).reopening = false) ∧
    (State.reset.is (TOP_CDC_STAT_CLOSED 51) = false ∧ (State.reset.crossOf 51).reopening = false) ∧
    (∃ s : State, s.live = true ∧ (s.crossOf 7).reopening = true ∧ (s.crossOf 7).reset = false ∧
      (s.crossOf 7).stopped = false) :=
  ⟨by decide, by decide, ⟨{ State.reset with clk := { State.reset.clk with refLost := true } }, by decide⟩, by decide,
    by decide, ⟨State.reset.setCross 7 { Cross.init with reopening := true }, by decide⟩⟩

/-! Premises of BlocksAndFaultRegistersComplete. -/
theorem test_blocks_premises : (∃ s : State, s.live = true ∧ s.resetting.contains (.demod 7) = true ∧
      s.pcsHeld (.demod 7) = false ∧ s.windowAt (.demod 7) + windowTicks (.demod 7) ≤ s.clk.time) ∧
    (∃ s : State, s.live = true ∧ s.resetting.contains (.demod 7) = false ∧ s.pcsHeld (.demod 7) = false ∧
      s.windowAt (.demod 7) + 4 ≤ s.clk.time) :=
  ⟨⟨{ State.reset with resetting := [.demod 7], clk := { State.reset.clk with time := 64 } }, by decide⟩,
    ⟨{ State.reset with clk := { State.reset.clk with time := 4 } }, by decide⟩⟩

/-! Premises of TaskPortsComplete. -/

/-- An enabled port 3 of depth 4 whose page holds a READ. -/
def portReady : State :=
  (((State.reset.set (TPT_PORT_CFG_ENABLE 3) 1).set (TPT_PORT_CFG_DEPTH 3) 4).set (TP_CMD_OPCODE 3) 1)

/-- A command of the tests: a READ of one block. -/
def someCmd : Cmd := { State.reset.latched 3 with id := 9, phase := .promised, flags := 6, op := .write }

theorem test_task_ports_premises :
    (portReady.live = true ∧ bitAt (portReady.get FLT_STAT_DIE_LOST) (portDie 3) = false ∧
      portReady.is (TPT_PORT_CFG_ENABLE 3) = true ∧ portReady.is (TP_HOIST_HOIST 3) = false ∧
      portReady.liveCount 3 < portReady.depthOf 3) ∧
    (State.reset.is (TPT_PORT_CFG_ENABLE 511) = false) ∧
    (∃ s : State, s.live = true ∧ s.ports.held.find? (fun p => p.1 == 3) = some (3, none) ∧
      s.liveCount 3 < s.depthOf 3) :=
  ⟨by decide, by decide, ⟨{ portReady with ports := { portReady.ports with held := [(3, none)] } }, by decide⟩⟩

theorem test_admission_premises : ∃ (s u : State) (c : Cmd), s.live = true ∧ u = (s.refillAhead 0).meeting 0 ∧
    u.adq 0 = [9] ∧ u.cmd? 9 = some c ∧ c.th + 8 ≤ u.clk.time ∧ (u.predsOf c).any (fun p => p.phase = .queued) = false :=
  ⟨{ portReady with clk := { portReady.clk with time := 8 },
                    ports := { portReady.ports with adq0 := [9], cmds := [someCmd] } }, _, someCmd, by decide +kernel, rfl,
    by decide +kernel⟩

theorem test_buffered_terminal_premises : ∃ (s : State) (c : Cmd), s.live = true ∧
    (s.liveOf 3).find? (fun c => c.tag == 0 && c.writes && c.buffered && c.phase = .promised) = some c ∧
      c.tp ≤ s.clk.time :=
  ⟨{ portReady with ports := { portReady.ports with cmds := [someCmd] } }, someCmd, by decide +kernel⟩

/-- A prefetching die 1 whose stream entry 0 has CONF 2. -/
def prefetchReady : State :=
  let s := ((State.reset.set (CCH_CTL_PF_EN 1) 1).set (CCH_STAT_ENABLED 1) 1).set (CCH_PFCFG_DEPTH 1) 1
  let s := (s.set TPT_CAPACITY_HI_CAP_HI 1).set PRM_STATUS_OPEN 255
  let s := s.setCache 1 { CacheDie.init with streams := [⟨0, 0, 1, 1, 2, 0, none⟩] }
  { s with ports := { s.ports with rights := [(0, ⟨true, 0, 100, 0, true, false⟩)] } }

theorem test_prefetch_premises : ∃ e : Stream, prefetchReady.live = true ∧
    (prefetchReady.cacheOf 1).streams[0]? = some e ∧ prefetchReady.mayPrefetch 1 1 e = true ∧
    prefetchReady.prefetchOk (prefetchReady.prefetchCmd 1 1 e) = true ∧
    (List.range (prefetchReady.prefetchCmd 1 1 e).count).all
      (fun j => prefetchReady.present ((prefetchReady.prefetchCmd 1 1 e).lba + j)) = false ∧
    prefetchReady.freeHandle 5 = some 5 :=
  ⟨⟨0, 0, 1, 1, 2, 0, none⟩, by decide +kernel⟩

/-! Premises of WindowAndRightsComplete. -/

/-- Port 200 of die 0, burgee 5, granted slots 16 to 31. -/
def slotsReady : State :=
  let s := (State.reset.set (TPT_PORT_CFG_BURGEE 200) 5).set (TP_SLOTCMD_FIRST 200) 16
  { s with win := { s.win with grants := [(0, ⟨true, 16, 16, 5⟩)] } }

theorem test_slotop_premises : slotsReady.live = true ∧ bitAt (slotsReady.get FLT_STAT_DIE_LOST) (portDie 200) = false ∧
    slotsReady.is (TP_SLOTRES_BUSY 200) = false ∧ slotsReady.get (TP_SLOTCMD_FIRST 200) + 16 ≤ 2097152 ∧
    (∀ m < 32, slotsReady.get (TP_SLOTCMD_FIRST 200) ≤ m → slotsReady.granted 5 m = true) := by decide +kernel

theorem test_slotop_complete_premises : ∃ (s : State) (op : SlotOp), s.live = true ∧
    tget none s.ports.slotOps 511 = some op ∧ op.bad = false ∧ op.left ≤ 256 :=
  ⟨{ State.reset with ports := { State.reset.ports with slotOps := [(511, some ⟨true, 0, 1, 0, false, 0⟩)] } },
    ⟨true, 0, 1, 0, false, 0⟩, by decide⟩

theorem test_slotop_refused_premises : ∃ (s : State) (op : SlotOp), s.live = true ∧
    tget none s.ports.slotOps 0 = some op ∧ op.bad = true :=
  ⟨{ State.reset with ports := { State.reset.ports with slotOps := [(0, some ⟨false, 0, 1, 0, true, 0⟩)] } },
    ⟨false, 0, 1, 0, true, 0⟩, by decide⟩

theorem test_port_cfg_premises : State.reset.is (TPT_PORT_CFG_ENABLE 0) = false ∧ State.reset.liveCount 0 = 0 ∧
    bitAt (0x80100FFF : Word).toNat 31 = true ∧ bitsOf (0x80100FFF : Word).toNat 0 12 ≠ 0 ∧
    bitsOf (0x80100FFF : Word).toNat 12 9 = 256 ∧ State.reset.get (TPT_CREDIT_CREDITED 0) + 2 * 256 ≤ 98304 := by decide

theorem test_rights_grant_premises : State.reset.is TPT_RSTAT_BUSY = false ∧ State.reset.is WIN_GSTAT_BUSY = false ∧
    (∃ s : State, s.live = true ∧ s.ports.rcmd = some ⟨1, 0, 0⟩) ∧
    (∃ s : State, s.live = true ∧ s.ports.rcmd = some ⟨2, 0, 0⟩ ∧ 0 < s.stagedRights.cnt ∧
      s.stagedRights.base + s.stagedRights.cnt - 1 ≤ s.capacity ∧ 0 < s.stagedRights.burgee) ∧
    (∃ s : State, s.live = true ∧ s.win.gcmd = some ⟨3, 0, 0⟩) ∧
    (∃ s : State, s.live = true ∧ s.get WIN_HOLD_LIMIT_MS ≠ 0 ∧ s.win.sweptAt + s.sweepPeriod ≤ s.clk.time) :=
  ⟨by decide, by decide,
    ⟨{ State.reset with ports := { State.reset.ports with rcmd := some ⟨1, 0, 0⟩ } }, by decide⟩,
    ⟨{ (State.reset.set TPT_RCNT_LO_CNT_LO 1).set TPT_ROWN_BURGEE 1 with
        ports := { State.reset.ports with rcmd := some ⟨2, 0, 0⟩ } }, by decide +kernel⟩,
    ⟨{ State.reset with win := { State.reset.win with gcmd := some ⟨3, 0, 0⟩ } }, by decide⟩,
    ⟨{ State.reset.set WIN_HOLD_LIMIT_MS 1 with clk := { State.reset.clk with time := 500000 } }, by decide +kernel⟩⟩

/-! Premises of AccessesComplete. -/

/-- Slot 3 granted to burgee 5, HOST; the privileged function 40 of port 0 enabled. -/
def accessReady : State :=
  let s := (State.reset.set (LNK_PORT_PRIV_FN 0 1) 256).set (TPT_PORT_CFG_BURGEE 7) 5
  { s.set (TPT_PORT_CFG_ENABLE 7) 1 with win := { s.win with grants := [(0, ⟨true, 3, 1, 5⟩)], flags := [(3, 1)] } }

theorem test_access_premises :
    accessReady.outside (.link 0 true 40 0) 0x600008 false = none ∧
    accessReady.outside (.link 0 false 40 5) 0x600008 false = some (5, 1) ∧
    accessReady.outside (.link 0 false 40 5) 0x2007028 false = none ∧ accessReady.regLost 0x2007028 [7] = false ∧
    accessReady.outside (.link 0 true 40 0) 0x1000004000 true = none ∧
    accessReady.outside (.link 0 false 40 5) 0x1000003FFC true = none ∧
    slotRange 0x1000003FFC 1 = some (3, 0xFFC) ∧ slotRange 0x1000004000 1024 = some (4, 0) ∧
    accessReady.grantOf? 4 = none ∧ accessReady.grantOf? 3 = some ⟨true, 3, 1, 5⟩ ∧ accessReady.flag 3 = slotHOST := by
  decide +kernel

theorem test_access_register : (findReg 0x2007028).map (fun p => (p.1.id, p.2)) = some (.TP_DROPS, [7]) := by decide +kernel

/-! Premises of RcFieldClearsOnRead. -/
theorem test_rc_premises : accessReady.live = true ∧ accessReady.outside (.link 0 false 40 5) 0x2007028 false = none ∧
    (findReg 0x2007028).map (fun p => p.1.fields) = some [⟨0, 32, .rc, 0⟩] ∧
    accessReady.outside (.link 0 true 40 0) 0x600208 false = none ∧
    (findReg 0x600208).map (fun p => (p.1.fields, p.2)) = some ([⟨0, 32, .rc, 0⟩], [0]) := by decide +kernel

/-! Premises of RefusedReadClearsNothing. -/
theorem test_refused_premises : findReg 0x600004 = none ∧
    (accessReady.outside (.link 0 false 40 5) 0x600208 false).isSome = true ∧
    (findReg 0x600208).map (fun p => (p.1.fields, p.2)) = some ([⟨0, 32, .rc, 0⟩], [0]) := by decide +kernel

/-! Premises of LaneCommandsComplete. -/

/-- Cluster 0 with lane 31 armed for a write in stripe slot 7, its MODE confirmed as WRITE. -/
def laneReady : State :=
  (State.reset.set (LAN_STAT_MODE 0 31) 3).setLane 0 31 { Lane.init with arm := some ⟨true, 7, 0⟩ }

/-- A read of stripe slot `k` whose gate has opened and that has taken no sample. -/
def quietRead (k : Nat) : ReadFrag := ⟨k, 0, .gate, 0, none, false, (State.reset.loadZone 7 0 0).2⟩

theorem test_lane_premises :
    (laneReady.live = true ∧ (laneReady.lane 0 31).arm = some ⟨true, 7, 0⟩ ∧ laneReady.get LOOP_PF_STAT_PHASE < 2 ∧
      laneReady.get (LAN_STAT_MODE 0 31) = 3 ∧ laneReady.is (LAN_STAT_WINH 0 31) = false ∧
      laneReady.laneIsLost 0 31 = false) ∧
    (State.reset.laneIsLost 7 0 = false ∧ State.reset.resetting.contains (.lane 7 0) = false ∧
      State.reset.cmdByHandle? ((State.reset.tlOf 7).cellAt (State.reset.tlOf 7).now 0).owner = none ∧
      State.reset.is LOOP_PF_STAT_PHASE = false) ∧
    (laneReady.set (LAN_STAT_WINH 0 31) 1).is (LAN_STAT_WINH 0 31) = true ∧
    (∃ s : State, s.live = true ∧ (s.lane 7 0).read.isSome = true) :=
  ⟨by decide, by decide, by decide,
    ⟨State.reset.setLane 7 0 { Lane.init with read := some (quietRead 1) }, by decide⟩⟩

/-! Premises of PreampBusCompletes. -/

/-- The preamp bus of cluster 7, up, with one frame of a kind outstanding. -/
def busWith (k : PcbKind) (p : Pcb) : State :=
  (State.reset.set (SRV_PCB_STAT_UP 7) 1).setPcb 7 { p with wait := [⟨k, [], 15, 2 ^ 31, 3, 64, false⟩] }

theorem test_preamp_premises :
    ((busWith .mode { State.reset.pcbOf 7 with maDue := true }).is (SRV_PCB_STAT_UP 7) = true ∧
      ((busWith .mode { State.reset.pcbOf 7 with maDue := true }).pcbOf 7).maDue = true ∧
      ((busWith .mode { State.reset.pcbOf 7 with heatDue := true }).pcbOf 7).heatDue = true ∧
      ((busWith .mode { State.reset.pcbOf 7 with heatDue := true }).pcbOf 7).maDue = false ∧
      ((busWith .mode { State.reset.pcbOf 7 with maDue := true }).pcbOf 7).queue.any PcbFrame.reheat = false) ∧
    firstFrame ((busWith .mode { State.reset.pcbOf 7 with queue := [⟨.ping, [], 0, 0, 0, 0, false⟩, ⟨.mode, [], 0, 1, 3, 64, false⟩]
      }).pcbOf 7).queue = some ⟨.mode, [], 0, 1, 3, 64, false⟩ ∧ State.reset.is (TOP_CDC_STAT_CLOSED (40 + 7)) = false ∧
    (∀ k : PcbKind, ((busWith k (State.reset.pcbOf 7)).pcbOf 7).wait = [⟨k, [], 15, 2 ^ 31, 3, 64, false⟩]) ∧
    bitAt (State.reset.get FLT_STAT_DIE_LOST) (dieOf 7) = false ∧ State.reset.is (SRV_PCB_REGSTAT_BUSY 7) = false ∧
    ((State.reset.setPcb 7 { State.reset.pcbOf 7 with pflt := some 4 }).pcbOf 7).pflt = some 4 :=
  ⟨by decide, by decide, by decide, by intro k; cases k <;> decide, by decide, by decide, by decide⟩

/-! Premises of MotorBusCompletes. -/

/-- A part whose motor bus awaits the reply to a frame of a kind. -/
def motorWith (k : McbKind) (n : Nat) : State :=
  { State.reset with mcb := { State.reset.mcb with
      flight := [⟨k, 7, 0, 15, 0, false⟩], fails := n, vcm := [⟨k, 7, 0, 0, 0, false⟩] } }

theorem test_motor_premises :
    (∃ s : State, s.live = true ∧ s.is LOOP_MCB_STAT_UP = true ∧ s.clk.time % 50 = 0 ∧
      s.dieIsLost (s.get LOOP_MCB_STAT_MASTER) = false ∧ s.mcb.spmode = none ∧
      s.clk.time / 50 % 16 ≠ 0 ∧ s.mcb.vcm = [⟨.vcm, 7, 0, 0, 0, false⟩]) ∧
    (∀ k : McbKind, (motorWith k 62).live = true ∧ (motorWith k 62).mcb.flight = [⟨k, 7, 0, 15, 0, false⟩] ∧
      (motorWith k 62).is (TOP_CDC_STAT_CLOSED (48 + (motorWith k 62).get LOOP_MCB_STAT_MASTER)) = false ∧
      (motorWith k 62).mcb.fails + 1 < 64 ∧ (motorWith k 63).mcb.fails + 1 = 64) ∧
    State.reset.is LOOP_MCB_REG_BUSY = false ∧
    (∃ s : State, s.live = true ∧ s.dieIsLost 0 = true ∧ s.is LOOP_MCB_STAT_MASTER = false ∧
      s.is (TOP_CDC_STAT_CLOSED 49) = true) :=
  ⟨⟨{ (motorWith .vcm 0).set LOOP_MCB_STAT_UP 1 with clk := { State.reset.clk with time := 50 } }, by decide⟩,
    by intro k; cases k <;> decide, by decide,
    ⟨(State.reset.set FLT_STAT_DIE_LOST 1).set (TOP_CDC_STAT_CLOSED 49) 1, by decide⟩⟩

/-! Premises of PowerFailCompletes. -/

/-- An armed part on which PFAIL_N has been low for four ticks, in a phase. -/
def failing (phase : Nat) : State :=
  let s := State.reset.set LOOP_PF_STAT_PHASE phase
  { s with pf := { s.pf with low := true, lowAt := 0 }, start := { s.start with armed := true }
           clk := { s.clk with time := 4 } }

theorem test_power_fail_premises :
    ((failing 0).live = true ∧ (failing 0).pf.low = true ∧ (failing 0).get LOOP_PF_STAT_PHASE = 0 ∧
      (failing 0).clk.time ≤ (failing 0).pf.lowAt + 4 ∧ (failing 0).start.armed = true ∧
      (failing 0).pf.lowAt + 4 ≤ (failing 0).clk.time) ∧
    (failing 3).get LOOP_PF_STAT_PHASE = 3 ∧ (failing 4).get LOOP_PF_STAT_PHASE = 4 ∧
    (∃ s : State, s.live = true ∧ s.get LOOP_PF_STAT_PHASE = 1 ∧
      s.pf.acceptedAt + s.get LOOP_PF_CFG_WRITE_MS * 100000 ≤ s.clk.time) :=
  ⟨by decide, by decide, by decide,
    ⟨{ failing 1 with clk := { State.reset.clk with time := 65535 * 100000 } }, by decide +kernel⟩⟩

/-! Premises of ReadChannelCompletes. -/

/-- A channel whose sync candidates are as given. -/
def chanWith (l : List (Int × Nat)) : Chan := ⟨0, [], 0, 100, [], [], [], 0, 0, 0, [], [], l, false⟩

/-- A read fragment of stripe slot 5 in a phase, on lane (7, 31), with RCHs.STAT.PHASE at a value. -/
def readingLane (p : ReadPhase) (phase : Nat) (sent : Bool) (l : List (Int × Nat)) : State :=
  (State.reset.set (RCH_STAT_PHASE 7 31) phase).setLane 7 31
    { Lane.init with read := some ⟨5, 9, p, 0, some 1, sent, chanWith l⟩ }

/-- A packet of lane (7, 31). -/
def somePacket : Packet :=
  { cluster := 7, surface := 31, slot := 5, owner := 9, role := 3, due := 1, all := false, seed := 0, delta := 0
    h1First := false, wire := [], last := some (0, 0), h0 := .waiting, h1 := .absent, returned := false }

/-- Canton 3 with that packet, waiting or on decoder 19. -/
def decodingCanton (r : Framing) : State :=
  (State.reset.set (DEC_K_ACTIVE_MASK 3) (2 ^ 19)).setCanton 3
    { State.reset.cantonOf 3 with slots := [{ somePacket with h0 := r }] }

theorem test_read_premises :
    (∃ s : State, s.live = true ∧ (s.lane 7 31).arm = some ⟨false, 5, 9⟩ ∧ (s.lane 7 31).read = none ∧
      s.laneIsLost 7 31 = false ∧ (s.lane 7 31).held = false) ∧
    (∀ l, ((readingLane .gate 1 false l).lane 7 31).read = some ⟨5, 9, .gate, 0, some 1, false, chanWith l⟩ ∧
      (readingLane .gate 1 false l).get (RCH_STAT_PHASE 7 31) ≠ 3 ∧
      (((readingLane .gate 1 false l).chanCfg 7 31).feed (chanWith l) []).cands = l) ∧
    (ranked [] = [] ∧ ranked [(3, 0)] = [(3, 0)] ∧ ranked [(3, 1), (-3, 1), (4, 0)] = [(4, 0), (-3, 1), (3, 1)]) ∧
    (readingLane .noSlot 3 true []).get (RCH_STAT_PHASE 7 31) = 3 ∧
    (chanWith []).resyncCands 100 = [] ∧
    ranked ({ chanWith [] with bit := 172, bits := (bitsMsb 16 0xE4B1).reverse }.resyncCands 100) = [(0, 0)] ∧
    ((readingLane .synced 2 true []).lane 7 31).read = some ⟨5, 9, .synced, 0, some 1, true, chanWith []⟩ ∧
    (∃ s : State, s.live = true ∧ (s.lane 7 31).read = none ∧ (s.lane 7 31).writing = true) ∧
    ((readingLane .synced 2 false []).cantonOf 3).slots.length < 160 ∧
    (∃ s : State, s.live = true ∧ (s.lane 7 31).read = some ⟨5, 9, .synced, 0, some 1, false, chanWith []⟩ ∧
      160 ≤ (s.cantonOf 3).slots.length) :=
  ⟨⟨State.reset.setLane 7 31 { Lane.init with arm := some ⟨false, 5, 9⟩ }, by decide⟩,
    fun l => ⟨by rfl, by show (State.reset.set (RCH_STAT_PHASE 7 31) 1).get (RCH_STAT_PHASE 7 31) ≠ 3; decide, by rfl⟩, by decide, by decide,
    by decide, by decide, by decide, ⟨State.reset.setLane 7 31 { Lane.init with writing := true }, by decide⟩, by decide,
    ⟨(readingLane .synced 2 false []).setCanton 3 { State.reset.cantonOf 3 with slots := List.replicate 160 somePacket },
      by decide +kernel⟩⟩

theorem test_decoder_premises :
    (bitAt ((decodingCanton .waiting).get (DEC_K_ACTIVE_MASK 3)) 19 = true ∧
      ((decodingCanton .waiting).cantonOf 3).slots.any (fun p => p.on 19) = false ∧
      ∃ s : State, s = ((decodingCanton .waiting).set PRM_WEDGE_TICKS_WEDGE_TICKS (4000 * 65536)).dropAllPq 3 ∧
        s.nextFraming (s.cantonOf 3) = some (somePacket, false)) ∧
    (((decodingCanton (.running 19 0 false)).cantonOf 3).slots.find? (fun p => p.on 19) =
      some { somePacket with h0 := .running 19 0 false }) ∧
    (∃ e : PassEnd, e = somePacket.pass (16 * (decodingCanton .waiting).deadlineOf somePacket) 0 false false ∧
      e.fin ≤ 16 * (decodingCanton .waiting).clk.time) ∧
    (decodingCanton .waiting).deadlineOf somePacket ≤ (decodingCanton .waiting).clk.time ∧
    (∃ s : State, s.clk.time < s.deadlineOf somePacket ∧ s.live = true) :=
  ⟨⟨by decide, by decide, _, rfl, by decide +kernel⟩, by decide, ⟨_, rfl, by decide⟩, by decide,
    ⟨State.reset.set PRM_WEDGE_TICKS_WEDGE_TICKS (4000 * 65536), by decide +kernel⟩⟩

/-! Premises of StripeCommandsComplete. -/

/-- An open stripe of slot 5 whose fragments all have a result. -/
def openStripe (write : Bool) : OpenStripe :=
  { slot := 5, owner := 0, write := write, wset := 1, cut := 0, data := [], metas := [], wseq := 0, pq := false
    present := true, settled := false, gone := 0, testing := true, frags := (List.range 32).map (fun f => (f, .good)) }

/-- Cluster 7 with that stripe in the STR unit. -/
def stripeReady (write : Bool) : State :=
  State.reset.setStr 7 { State.reset.strOf 7 with opened := [openStripe write], cur := some 5 }

theorem test_stripe_premises :
    ((stripeReady false).strOf 7).opened.find? (fun o => o.slot == 5) = some (openStripe false) ∧
    (openStripe false).complete = true ∧ ((stripeReady true).strOf 7).cur? = some (openStripe true) ∧
    (stripeReady true).resetting.contains (.parity 7) = false ∧ (stripeReady true).writer 7 (openStripe true) = none ∧
    (stripeReady true).blocksPresent 7 (openStripe true) = true ∧
    tget 0 (State.reset.strOf 7).calAt 2047 = 0 := by decide +kernel

/-- Cluster 7 in wedge 2 with work of an activity whose one stripe passed in wedge 1; of a copy of lane (2047, 31) or not. -/
def workOver (a : Activity) (copy : Bool) : State :=
  let y : CmdStripe := ⟨7, 5, 0, 0, 0, 0, 0, .unbegun, 0, 0, 1, 0, 0, 0, 0, if copy then some 0 else none⟩
  let x := { State.reset.newWork a 7 (if copy then 32 * 2047 + 31 else 2047) [y] with handle := 9 }
  State.setTl { State.reset with ports := { State.reset.ports with cmds := [x] } } 7 { State.reset.tlOf 7 with now := 2 }

theorem test_work_premises :
    (∀ a : Activity, State.reset.workOf a 7 false = none ∧ State.reset.workOf a 7 true = none) ∧
    (∀ a : Activity, ∃ x : Cmd, (workOver a false).workOf a 7 false = some x ∧ x.lba = 2047 ∧
      x.stripes.all (workOver a false).passed = true) ∧
    (∃ x : Cmd, (workOver .reloc true).workOf .reloc 7 true = some x ∧ x.lba = 32 * 2047 + 31 ∧
      x.stripes.all (workOver .reloc true).passed = true) :=
  ⟨by intro a; cases a <;> decide, by intro a; cases a <;> exact ⟨_, rfl, by decide, by decide⟩,
    ⟨_, by rfl, by decide, by decide⟩⟩

theorem test_stripe_owner_premises : ∃ (s : State) (x : Cmd) (y : CmdStripe), s.live = true ∧
    s.cmdByHandle? 9 = some x ∧ s.stripeIn 7 5 x = some y ∧ x.writes = false ∧ x.isActivity = false :=
  ⟨{ State.reset with ports := { State.reset.ports with cmds := [{ State.reset.newWork .cal 7 0
      [⟨7, 5, 0, 0, 0, 0, 0, .begun, 0, 0, 0, 0, 0, 0, 0, none⟩] with handle := 9, op := .read }] } },
    _, _, by decide, rfl, rfl, by decide⟩

theorem test_reloc_premises : ∃ (s u : State) (x : Skew), s.live = true ∧ x = s.skewOf 7 2047 31 ∧ x.out = true ∧
    x.moving = false ∧ s.workOf .reloc 7 true = none ∧ (s.relocTarget 7 2047 31).1 ≠ x.place ∧
    u = s.setSkew 7 2047 31 { x with target := (s.relocTarget 7 2047 31).1, moving := true
                                     clamped := (s.relocTarget 7 2047 31).2
                                     boundary := if x.place < (s.relocTarget 7 2047 31).1 then 991 else 0 } ∧
    u.noRepair 7 = true ∧ (u.skewOf 7 2047 31).place < (u.skewOf 7 2047 31).target :=
  ⟨State.reset.setSkew 7 2047 31 ⟨16, 0, 0, true, false, false, 0, false⟩, _, _, by decide, rfl, by decide, by decide,
    by decide, by decide, rfl, by decide, by decide⟩

theorem test_repair_premises :
    (∃ s : State, s.live = true ∧ (s.strOf 7).rbuf.contains 5 = true) ∧
    (∃ s : State, s.live = true ∧ (s.strOf 7).rbuf.contains 5 = false ∧ (s.nextWseq 7 1).repairable 7 5 = true) ∧
    (∃ s : State, (s.strOf 7).moveTo = some (5, 6)) ∧ (State.reset.strOf 7).moveTo = none ∧
    ((List.range 32).filter (fun f => decide (3 ≤ tget 0 (State.reset.strOf 7).weak f))).length < 2 :=
  ⟨⟨State.reset.setStr 7 { State.reset.strOf 7 with rbuf := [5] }, by decide⟩,
    ⟨State.reset.setStr 7 { State.reset.strOf 7 with rlist := [(5, ⟨3, 0, false⟩)] }, by decide +kernel⟩,
    ⟨State.reset.setStr 7 { State.reset.strOf 7 with moveTo := some (5, 6) }, by decide⟩, by decide, by decide +kernel⟩

/-! Premises of AluResultsAndFlags. -/

/-- A running sequencer 7 in TEST. -/
def sequencing : State := State.reset.set (SEQ_STAT_MODE 7) 3

theorem test_alu_premises : sequencing.live = true ∧ sequencing.seqRuns 7 = true := by decide

theorem test_alu_illegal : 12 ≤ (ctlOf (12 * 2 ^ 57)).aluop := by decide

/-- The borrow: 0 - 1 sets CARRY and NEG, and leaves ZERO clear. -/
theorem test_alu_borrow : ((sequencing.setG 7 1 0).alu 7 3 2 1 (.imm 1)).get (SEQ_GREG_G 7 2) = 2 ^ 32 - 1 ∧
    (((sequencing.setG 7 1 0).alu 7 3 2 1 (.imm 1)).seqOf 7).carry = true ∧
    (((sequencing.setG 7 1 0).alu 7 3 2 1 (.imm 1)).seqOf 7).neg = true := by decide

/-- The count of set bits and the lowest set bit, at the ends of the range. -/
theorem test_alu_ends : aluResult 9 0 0xFFFFFFFF = 32 ∧ aluResult 10 0 0 = 32 ∧ aluResult 10 0 0x80000000 = 31 ∧
    aluResult 7 1 33 = 2 := by decide

/-! Premises of SequencerWordsComplete. -/

/-- Sequencer 7 in RUN at word 0x100, whose word is `w`. -/
def atWord (w : Nat) (stack : List Ret) : State :=
  let s := (State.reset.set (SEQ_STAT_MODE 7) 2).set (SEQ_STAT_PC 7) 0x100
  s.setSeq 7 { s.seqOf 7 with store := [(0x100, some (withParity w))], stack := stack }

theorem test_words_premises :
    (∀ flow < 7, (atWord (flow * 2 ^ 35) []).seqRuns 7 = true ∧ (atWord (flow * 2 ^ 35) []).seqInterrupted 7 = false ∧
      (ctlOf ((atWord (flow * 2 ^ 35) []).csWord 7 0x100)).legal = true ∧
      (ctlOf ((atWord (flow * 2 ^ 35) []).csWord 7 0x100)).flow = flow) ∧
    (ctlOf ((atWord (7 * 2 ^ 35) []).csWord 7 0x100)).legal = false ∧
    parityOk ((atWord 7 []).csWord 7 0x100) = true ∧
    ((atWord 0 [⟨5, none, none⟩]).seqOf 7).stack = [⟨5, none, none⟩] := by decide +kernel

theorem test_waiting_premises : ∃ s : State, s.live = true ∧ s.seqRuns 7 = true ∧ s.is (SEQ_STAT_WAITING 7) = true ∧
    (s.seqOf 7).timed = true ∧ (s.seqOf 7).tmoWedges = false :=
  ⟨(sequencing.set (SEQ_STAT_WAITING 7) 1).setSeq 7 { Seq.init with timed := true }, by decide⟩

theorem test_interrupt_premises : ∃ s : State, s.live = true ∧ s.seqRuns 7 = true ∧ s.seqInterrupted 7 = true ∧
    (s.seqOf 7).stack.length = 3 :=
  ⟨(sequencing.set (SEQ_INTPEND_PEND 7) 1).setSeq 7
    { Seq.init with safe := true, stack := [⟨0, none, none⟩, ⟨0, none, none⟩, ⟨0, none, none⟩] }, by decide⟩

theorem test_stretch_premises : ∃ s : State, s.live = true ∧ s.seqRuns 7 = true ∧ (s.seqOf 7).late = false ∧
    256 < (s.seqOf 7).words ∧ (s.seqOf 7).posCmp = some 0 :=
  ⟨sequencing.setSeq 7 { Seq.init with words := 257, posCmp := some 0 }, by decide⟩

/-! Premises of ServoCommandsComplete. -/

/-- Cluster 7 with its servo in a state. -/
def servoIn (st : Nat) : State := State.reset.set (SRV_STAT_STATE 7) st

theorem test_servo_premises : ((servoIn 1).coastLanes 7).servoRuns 7 = true ∧ (servoIn 1).servoRuns 7 = true ∧
    (State.reset.coastLanes 7).servoRuns 7 = false ∧
    (servoIn 2).get (SRV_STAT_STATE 7) = 2 ∧ (servoIn 3).get (SRV_STAT_STATE 7) = 3 ∧ (servoIn 4).get (SRV_STAT_STATE 7) = 4 ∧
    (servoIn 4).live = true ∧
    (servoIn 4).get (SRV_THR3_REACQ_REVS 7) * (servoIn 4).wpr ≤ ((servoIn 4).servoOf 7).lostWedges := by decide +kernel

/-! Premises of UnitCommandsComplete. -/
theorem test_unit_premises :
    (∃ (s : State) (w : WSlot), s.live = true ∧ (s.seqOf 7).tlReq = some 5 ∧
      w = (s.tlOf 7).slotAt (nearWedge (s.tlOf 7).now 5) ∧
      ∀ p ∈ w.cells, p.2.kind = .free ∨ ∀ q ∈ w.cells, q.2.kind = .free ∨ q.2.owner = p.2.owner) ∧
    (∃ (s : State) (x : Cmd), s.live = true ∧ s.cmdByHandle? 9 = some x ∧ x.phase = .promised ∧ x.hoisted = true ∧
      x.detail = none) ∧
    (∃ s : State, s.live = true ∧ (s.strOf 7).cur?.isSome = true) :=
  ⟨⟨State.reset.setSeq 7 { Seq.init with tlReq := some 5 }, _, by decide, by decide, rfl, by decide⟩,
    ⟨{ State.reset with ports := { State.reset.ports with cmds := [{ State.reset.latched 3 with
        handle := 9, op := .read, phase := .promised }] } }, _, by decide, rfl, by decide⟩, stripeReady true, by decide⟩

/-! Premises of SequencerControlCompletes. -/
theorem test_control_premises :
    bitAt (State.reset.get FLT_STAT_DIE_LOST) (dieOf 7) = false ∧ State.reset.get (SEQ_STAT_MODE 7) = 0 ∧
    State.reset.get (SRV_STAT_STATE 7) ∉ [5, 6] ∧ State.reset.resetting.contains (.seq 7) = false ∧
    State.reset.isOpen 7 = false ∧ sequencing.get (SEQ_STAT_MODE 7) = 3 ∧ sequencing.seqInterrupted 7 = false ∧
    State.reset.is (SEQ_CSSTAT_BUSY 7) = false ∧ (State.reset.set (SEQ_STAT_DIRTY 7) 1).is (SEQ_STAT_DIRTY 7) = true ∧
    (∃ s : State, s.live = true ∧ (s.seqOf 7).reloading = true ∧ s.get (SEQ_STAT_MODE 7) = 0) ∧
    (∃ s : State, s.live = true ∧ (s.seqOf 7).verifying = true ∧ firstDiff (s.seqOf 7).store (s.seqOf 7).copy = none) :=
  ⟨by decide, by decide, by decide, by decide, by decide, by decide, by decide, by decide, by decide,
    ⟨State.reset.setSeq 7 { Seq.init with reloading := true }, by decide⟩,
    ⟨State.reset.setSeq 7 { Seq.init with verifying := true }, by decide⟩⟩

theorem test_store_differs : firstDiff [(16383, some 1)] [(16383, some 2)] = some 16383 := by decide

/-! Premises of LoopCommandsComplete. -/
theorem test_loop_premises :
    (∃ s : State, s.live = true ∧ s.get (LAN_CLSTAT_STATE 7 31) = 4 ∧ s.get (LAN_CLSTAT_RETRIES 7 31) < 3 ∧
      s.get LOOP_SUPCFG0_RETRY_REVS ≤ (s.clrOf 7 31).revs) ∧
    (∃ s : State, s.live = true ∧ s.get LOOP_STAT_SP_STATE = 0 ∧ s.spin0.watching = true ∧
      s.spin0.since + 1000000 ≤ s.clk.time) ∧
    (∃ s : State, s.live = true ∧ s.get LOOP_STAT_SP_STATE = 1 ∧
      s.spin0.since + s.get LOOP_SPCFG_ALIGN_MS * 100000 ≤ s.clk.time) ∧
    (∃ s : State, s.live = true ∧ s.get LOOP_STAT_SP_STATE = 4 ∧ 4 * s.periodTarget ≤ (s.halvesPerRev : Rat) *
        ((16 * s.clk.time : Nat) - (max (16 * s.spin0.since) (s.spin0.cross.getD 0) : Nat) : Int)) ∧
    (∃ s : State, s.live = true ∧ s.spin0.enabled = true ∧ s.spin0.everLocked = false ∧
      s.get LOOP_STAT_SP_STATE ∈ [1, 2, 3] ∧ s.spin0.left + s.get LOOP_SPCFG_SPINUP_MAX_S * 100000000 ≤ s.clk.time) ∧
    (State.reset.set LOOP_SPCFG_SPREF_EN 1).spin0.lastEdge = none ∧
    (∃ s : State, s.live = true ∧ s.is LOOP_SPCFG_SPREF_EN = true ∧ s.spin0.lastEdge = some 0 ∧
      0 * 2 ^ 16 + 3 * s.nominal ≤ 16 * s.clk.time * 2 ^ 16) :=
  ⟨⟨(State.reset.set (LAN_CLSTAT_STATE 7 31) 4).setClr 7 31 { Clr.init with revs := 65535 }, by decide +kernel⟩,
    ⟨{ State.reset.spinBoth (fun x => { x with watching := true }) with clk := { State.reset.clk with time := 1000000 } },
      by decide⟩,
    ⟨{ State.reset.set LOOP_STAT_SP_STATE 1 with clk := { State.reset.clk with time := 10 ^ 12 } }, by decide +kernel⟩,
    ⟨State.reset.set LOOP_STAT_SP_STATE 4, by decide +kernel⟩,
    ⟨{ (State.reset.spinBoth (fun x => { x with enabled := true })).set LOOP_STAT_SP_STATE 1 with
        clk := { State.reset.clk with time := 10 ^ 12 } }, by decide +kernel⟩, by decide,
    ⟨{ (State.reset.spinBoth (fun x => { x with lastEdge := some 0 })).set LOOP_SPCFG_SPREF_EN 1 with
        clk := { State.reset.clk with time := 10 ^ 9 } }, by decide +kernel⟩⟩

/-! Premises of MemoryCommandsComplete. -/
theorem test_dies_in_service (d : Nat) : State.reset.dieIsLost d = false := by
  show bitAt (State.reset.get FLT_STAT_DIE_LOST) d = false
  have : State.reset.get FLT_STAT_DIE_LOST = 0 := by decide
  rw [this]; simp [bitAt]

theorem test_held_premises : ∃ s : State, s.live = true ∧ s.memu.held.contains 15 = true ∧
    tget 0 s.memu.lineAt 15 + 32 ≤ s.clk.time ∧ tget 0 s.memu.lineAt 15 + 4 ≤ s.clk.time :=
  ⟨{ State.reset with memu := { State.reset.memu with held := [15] }, clk := { State.reset.clk with time := 32 } },
    by decide⟩

theorem test_memory_premises :
    (∃ m : MemAt, m.exists? = true ∧ ((State.reset.stored m.key).flip m.flips.toNat).classOf = .clean ∧ m.space = 0) ∧
    (∃ m : MemAt, m.exists? = true ∧ m.space = 1 ∧
      ((State.reset.stored m.key).flip m.flips.toNat).classOf = .corrected (freshWord 0 false)) ∧
    (∃ m : MemAt, m.exists? = true ∧ m.space = 3 ∧
      ((State.reset.stored m.key).flip m.flips.toNat).classOf = .uncorrectable) ∧
    (∀ m : MemAt, State.reset.chanHeld m = false ∧ State.reset.wordLost m.key = false) ∧
    (State.reset.set MEM_SCRUB_CFG_EN 1).is MEM_SCRUB_CFG_EN = true ∧
    tget 0 State.reset.memu.scrubbed 15 < 2 ^ 29 ∧ State.reset.dieIsLost 1 = false ∧ channelOf (0xFFF / 128 * 128) = 15 ∧
    (State.reset.set (MEM_CH_STAT_SWEEPING 15) 1).memu.held.contains 15 = false ∧
    State.reset.is MEM_INJ_CTL_ARM = false :=
  ⟨⟨⟨0, 0x7FFFFFFFF, .plain, 0⟩, by decide +kernel⟩, ⟨⟨1, 0x3FFFFFF, .plain, 1⟩, by decide +kernel⟩,
    ⟨⟨3, 0, .plain, 3⟩, by decide +kernel⟩,
    fun m => ⟨by simp [State.chanHeld, State.reset, MemUnit.init], by simp [State.wordLost]; intro _; exact test_dies_in_service _⟩,
    by decide, by decide, by decide, by decide, by decide, by decide⟩

theorem test_refetch_premises : ∃ s : State, s.live = true ∧ s.markedLine 5 = some (16 * homeSet 5 + 15) :=
  ⟨State.reset.setCache 0 (CacheDie.init.setLine (16 * homeSet 5 + 15) { Line.init with st := .clean, lba := 5, marked := true }),
    by decide +kernel⟩

/-! Premises of CacheCommandsComplete. -/
theorem test_cache_premises :
    State.reset.is (CCH_STAT_ENABLED 1) = false ∧ State.reset.is (CCH_STAT_DRAINING 1) = false ∧
    (State.reset.cacheOf 1).evb = [] ∧ bitAt (State.reset.get FLT_STAT_DIE_LOST) 1 = false ∧
    State.reset.is (CCH_STAT_INV_DONE 1) = false ∧
    (State.reset.set (CCH_STAT_INV_DONE 1) 1).is (CCH_STAT_INV_DONE 1) = true ∧
    (State.reset.set (CCH_STAT_ENABLED 1) 1).is (CCH_STAT_ENABLED 1) = true ∧
    (State.reset.set (CCH_STAT_DRAINING 1) 1).is (CCH_STAT_DRAINING 1) = true ∧
    ((State.reset.setCache 1 { CacheDie.init with invalidating := true }).cacheOf 1).invalidating = true := by decide

/-! Premises of StreamerCommandsComplete. -/

/-- Streamer 31, a GENERAL one, in a state with a chain's job. -/
def streaming (st : Nat) (x : Streamer) : State := (State.reset.set (STM_STAT_STATE 31) st).setStm 31 x

/-- A descriptor of the tests. -/
def someDesc : Desc := State.reset.jobDesc (.chain 0)

theorem test_streamer_premises :
    streamerClass 31 = 3 ∧ streamerClass 16 ≠ 3 ∧ bitAt (State.reset.get FLT_STAT_DIE_LOST) (31 / 16) = false ∧
    (∀ st < 7, (streaming st Streamer.init).stmState 31 = st) ∧ (streaming 1 Streamer.init).live = true ∧
    ((streaming 1 { Streamer.init with job := some (.chain 0), desc := some someDesc, issued := true, out := [] }).stmOf
      31).withdrawn = false ∧
    ((streaming 4 { Streamer.init with job := some (.chain 0), out := [(256, 0)] }).stmOf 31).out =
      [(256, 0)] ∧ (streaming 1 Streamer.init).resetting.contains (.stm 31) = false ∧
    (streaming 1 Streamer.init).burstAt 31 < 16 * (streaming 1 Streamer.init).clk.time + 16 ∧
    ((streaming 4 { Streamer.init with job := some (.chain 0), out := [(256, 0)] }).stmOf 31).trail = [] ∧
    ((streaming 2 Streamer.init).stored (descKey 0 56)).view = some 0 ∧
    ((streaming 2 Streamer.init).stored (descKey 0 60)).view = some 0 ∧
    (∃ s : State, s.live = true ∧ s.stmState 31 = 2 ∧ 0 + 256 ≤ s.clk.time ∧ (s.stmOf 31).linkAt + 4 ≤ s.clk.time) :=
  ⟨by decide, by decide, by decide, by decide, by decide, by decide, by decide, by decide, by decide +kernel, by decide,
    by decide +kernel, by decide +kernel,
    ⟨{ streaming 2 Streamer.init with clk := { State.reset.clk with time := 256 } }, by decide⟩⟩

/-! Premises of LinkCommandsComplete. -/

/-- Port 3 of the four-port split, in a state. -/
def portIn (st : Nat) : State := (State.reset.set LNK_CFG_SPLIT 2).set (LNK_PORT_STAT_STATE 3) st

theorem test_link_premises :
    (∀ st < 6, (portIn st).portState 3 = st ∧ (portIn st).live = true) ∧ (portIn 1).portLanes 3 = [15, 16, 17, 18, 19] ∧
    (State.reset.hlaneOf 19).held = false ∧ State.reset.is (TOP_CDC_STAT_CLOSED 19) = false ∧
    State.reset.get (LNK_LANE_STAT_STATE 19) ≠ 2 ∧ (State.reset.linkOf 3).item ≠ some (1, 0, 0) ∧
    (State.reset.crossOf 19).reopening = false ∧ cwMark (cwInfo 19 7 []) = 10 ∧ cwLane (cwInfo 19 7 []) = 19 ∧
    (∀ st < 6, (portIn st).trainLate 3 = false) ∧
    (∀ st ∈ [1, 2, 3, 5], State.trainLate { portIn st with clk := { State.reset.clk with time := 10 ^ 12 } } 3 = true) := by
  decide +kernel

/-- A segment of 16 words, little-endian. -/
def packWords : List Nat → Nat
  | [] => 0
  | x :: l => x + 2 ^ 32 * packWords l

theorem test_pack : ∀ (l : List Nat) (i : Nat), (∀ x ∈ l, x < 2 ^ 32) → bitsOf (packWords l) (32 * i) 32 = l.getD i 0
  | [], i, _ => by simp [packWords, bitsOf]
  | x :: l, 0, h => by
    have := h x (by simp)
    simp [packWords, bitsOf]; omega
  | x :: l, i + 1, h => by
    have hx := h x (by simp)
    have ih := test_pack l i (fun y hy => h y (by simp [hy]))
    rw [List.getD_cons_succ, ← ih]
    show (x + 2 ^ 32 * packWords l) / 2 ^ (32 * (i + 1)) % 2 ^ 32 = packWords l / 2 ^ (32 * i) % 2 ^ 32
    rw [Nat.mul_add, Nat.mul_one, Nat.add_comm (32 * i), Nat.pow_add, ← Nat.div_div_eq_div_mul,
      show (x + 2 ^ 32 * packWords l) / 2 ^ 32 = packWords l by omega]

theorem test_segment (l : List Nat) (h : ∀ x ∈ l, x < 2 ^ 32) (hl : l.length = 16) : segWords (packWords l) = l := by
  refine List.ext_getElem (by simp [segWords, hl]) (fun i h1 h2 => ?_)
  simp only [segWords, List.getElem_map, List.getElem_range]
  rw [test_pack l i h, List.getD_eq_getElem _ _ h2]

theorem test_crc_word (ws : List Nat) : crc32c ws < 2 ^ 32 := by
  have step : ∀ r b, r < 2 ^ 32 → crc32cStep r b < 2 ^ 32 := by
    intro r b h
    unfold crc32cStep
    split
    · exact Nat.xor_lt_two_pow (by omega) (by decide)
    · omega
  have bits : ∀ (l : List Bool) r, r < 2 ^ 32 → l.foldl crc32cStep r < 2 ^ 32 := by
    intro l
    induction l with
    | nil => exact fun r h => h
    | cons b l ih => exact fun r h => ih _ (step r b h)
  have words : ∀ (l : List Nat) r, r < 2 ^ 32 → l.foldl (fun r w => (bitsLsb 32 w).foldl crc32cStep r) r < 2 ^ 32 := by
    intro l
    induction l with
    | nil => exact fun r h => h
    | cons b l ih => intro r h; rw [List.foldl_cons]; exact ih _ (bits _ r h)
  unfold crc32c
  exact Nat.xor_lt_two_pow (words ws 0xFFFFFFFF (by norm_num)) (by norm_num)

/-- Port 3 in UP with a flit at the head of its stream. -/
def flitWaiting (ws : List Nat) : State :=
  (portIn 4).setLink 3 { LinkPortSt.init with
    stream := (List.range 4).map (fun i => some (packWords ((ws.drop (16 * i)).take 16))) }

theorem test_flit_head (ws : List Nat) (h : ∀ x ∈ ws, x < 2 ^ 32) (hl : ws.length = 64) :
    ((flitWaiting ws).linkOf 3).head = some ws := by
  have e : (flitWaiting ws).linkOf 3 = { LinkPortSt.init with
      stream := (List.range 4).map (fun i => some (packWords ((ws.drop (16 * i)).take 16))) } := by
    simp [flitWaiting, State.linkOf, State.setLink, tget_tset_same]
  have s : ∀ i < 4, segWords (packWords ((ws.drop (16 * i)).take 16)) = (ws.drop (16 * i)).take 16 := fun i hi =>
    test_segment _ (fun x hx => h x (List.mem_of_mem_drop (List.mem_of_mem_take hx))) (by simp; omega)
  rw [e]
  simp only [LinkPortSt.head, List.range_succ, List.range_zero, List.map_cons, List.map_nil, List.nil_append,
    List.cons_append, List.flatMap_cons, List.flatMap_nil, s 0 (by decide), s 1 (by decide), s 2 (by decide), s 3 (by decide)]
  apply congrArg some
  refine List.ext_getElem (by simp; omega) (fun i h1 h2 => ?_)
  simp [List.getElem_append]
  split
  · rfl
  · split
    · congr 1; omega
    · split <;> congr 1 <;> omega

theorem test_flit_trailer (c : List Nat) (x h : Nat) (hl : c.length = 62) :
    (c ++ [x, h]).getD 63 0 = h ∧ (c ++ [x, h]).getD 62 0 = x ∧ (c ++ [x, h]).take 62 = c := by
  refine ⟨?_, ?_, ?_⟩
  · rw [List.getD_append_right _ _ _ _ (by omega), hl]; rfl
  · rw [List.getD_append_right _ _ _ _ (by omega), hl]; rfl
  · rw [List.take_append_of_le_length (by omega), List.take_of_length_le (by omega)]

theorem test_flit_premises (kind : Fin 3) (content : List Nat) : ∃ ws : List Nat, ws ≠ [] ∧
    ((flitWaiting ws).linkOf 3).head = some ws ∧ flitGood ws = true ∧ flitKind ws = kind.val ∧ flitSeq ws = 0 ∧
    flitAck ws = 4095 ∧ ws.getD 1 0 = content.getD 1 0 % 2 ^ 32 := by
  obtain ⟨c, hc⟩ : ∃ c, c = (List.range 62).map (fun i => content.getD i 0 % 2 ^ 32) := ⟨_, rfl⟩
  have hl : c.length = 62 := by simp [hc]
  have hw : ∀ x ∈ c, x < 2 ^ 32 := by
    intro x hx
    simp only [hc, List.mem_map] at hx
    obtain ⟨i, -, rfl⟩ := hx
    exact Nat.mod_lt _ (by norm_num)
  have hk := kind.isLt
  obtain ⟨a, ha⟩ : ∃ a, a = 4095 * 2 ^ 12 + kind.val * 2 ^ 24 := ⟨_, rfl⟩
  have hp := test_crc_word (c ++ [a])
  have tr := test_flit_trailer c (crc32c (c ++ [a])) a hl
  refine ⟨c ++ [crc32c (c ++ [a]), a], by simp, test_flit_head _ ?_ (by simp [hl]), ?_, ?_, ?_, ?_, ?_⟩
  · intro x hx
    simp only [List.mem_append, List.mem_cons, List.not_mem_nil, or_false] at hx
    rcases hx with h | rfl | rfl
    · exact hw x h
    · exact hp
    · omega
  · rw [flitGood, flitHigh, tr.1, tr.2.1, tr.2.2]; exact beq_self_eq_true _
  · rw [flitKind, flitHigh, tr.1, bitsOf]; omega
  · rw [flitSeq, flitHigh, tr.1, bitsOf]; omega
  · rw [flitAck, flitHigh, tr.1, bitsOf]; omega
  · rw [List.getD_append _ _ _ _ (by omega), hc]; simp

theorem test_bad_flit_premises : ∃ ws : List Nat, ws ≠ [] ∧
    ((flitWaiting ws).linkOf 3).head = some ws ∧ flitGood ws = false := by
  obtain ⟨x, hx, hn⟩ : ∃ x, x < 2 ^ 32 ∧ x ≠ crc32c (List.replicate 63 0) := by
    by_cases h : (0 : Nat) = crc32c (List.replicate 63 0)
    · exact ⟨1, by norm_num, by omega⟩
    · exact ⟨0, by norm_num, h⟩
  have tr := test_flit_trailer (List.replicate 62 0) x 0 (by simp)
  refine ⟨List.replicate 62 0 ++ [x, 0], by simp, test_flit_head _ ?_ (by simp), ?_⟩
  · intro y hy
    simp only [List.mem_append, List.mem_replicate, List.mem_cons, List.not_mem_nil, or_false] at hy
    rcases hy with ⟨-, rfl⟩ | rfl | rfl
    · norm_num
    · exact hx
    · norm_num
  · rw [flitGood, flitHigh, tr.1, tr.2.1, tr.2.2]
    exact beq_eq_false_iff_ne.mpr hn

theorem test_link_sending_premises : ∃ s : State, s.live = true ∧ s.portState 3 = 4 ∧ (s.linkOf 3).room ≠ 0 ∧
    s.link.doorbells.contains 511 = true ∧ (s.linkOf 3).sent ≠ [] ∧ s.get LNK_EVTDST_PORT = 3 ∧
    s.link.evt0 = [(1, 2)] ∧ s.link.evt1 = [(3, 4)] ∧ (s.linkOf 3).rxPend = some (2 ^ 19, 7) ∧
    (s.linkOf 3).txPend = some 1 ∧ (s.linkOf 3).item = some (1, 0, 0) ∧ (s.linkOf 3).acted = false ∧
    tget (none : Option (Nat × Nat)) (s.link.dblTo.map (fun q => (q.1, some q.2))) 511 = some (3, 9) ∧
    (s.linkOf 3).ackAt + 400 ≤ s.clk.time ∧ (s.linkOf 3).itemAt + 38 ≤ s.clk.time ∧
    ((s.linkOf 3).round + 2048 - 7) % 2048 < 1024 ∧ (s.linkOf 3).reAligned = true :=
  ⟨let s := ((portIn 4).set LNK_EVTDST_PORT 3).setLink 3 { LinkPortSt.init with
      pcred := 65535, reAligned := true, round := 7, sent := [(0, none)], rxPend := some (2 ^ 19, 7), txPend := some 1, item := some (1, 0, 0) };
    { s with clk := { s.clk with time := 400 }, link := { s.link with doorbells := [511], evt0 := [(1, 2)], evt1 := [(3, 4)], dblTo := [(511, (3, 9))] } },
    by decide +kernel⟩

theorem test_lane_retrain_premises : ∃ s : State, s.live = true ∧ s.is LNK_CFG_AUTO_READD = true ∧
    s.get (LNK_LANE_STAT_STATE 19) = 0 ∧ s.portState (s.lanePort 19) = 4 ∧ s.get (LNK_LANE_READDS_TRIES 19) < 15 ∧
    (s.hlaneOf 19).held = true ∧ (s.hlaneOf 19).triedAt + 10 ^ 7 ≤ s.clk.time :=
  ⟨{ ((portIn 4).set LNK_CFG_AUTO_READD 1).setHlane 19 { HLaneSt.init with held := true } with
      clk := { State.reset.clk with time := 10 ^ 7 } }, by decide +kernel⟩

/-! Premises of StartStepsComplete. -/
theorem witness_startStepsComplete : ∃ s : State, s.live = true ∧ s.is IMG_STAT_DONE = false ∧
    s.get IMG_STAT_STEP = 1 ∧ s.start.pfHold = false ∧ s.get IMG_OUT_CLUSTERS ≠ 0xFF :=
  ⟨State.reset.set IMG_STAT_STEP 1, by decide⟩

theorem witness_startStepsComplete_root : ∃ s : State, s.live = true ∧ s.is IMG_STAT_DONE = false ∧
    s.get IMG_STAT_STEP = 2 ∧ s.start.pfHold = false ∧ s.get IMG_OUT_CLUSTERS ≠ 0xFF :=
  ⟨State.reset.set IMG_STAT_STEP 2, by decide⟩

theorem witness_startStepsComplete_spinup : ∃ s : State, s.live = true ∧ s.is IMG_STAT_DONE = false ∧
    s.get IMG_STAT_STEP = 8 ∧ s.start.pfHold = false ∧ s.get IMG_OUT_CLUSTERS ≠ 0xFF ∧ s.is LOOP_STAT_SPEED_LOCK = true :=
  ⟨(State.reset.set IMG_STAT_STEP 8).set LOOP_STAT_SPEED_LOCK 1, by decide⟩

theorem witness_startStepsComplete_hold : ∃ s : State, s.live = true ∧ s.start.pfHold = true ∧
    s.pf.lowAt + 1000000 ≤ s.clk.time :=
  ⟨{ State.reset with start := { State.reset.start with pfHold := true }
                      clk := { State.reset.clk with time := 1000000 } }, by decide⟩

/-! Premises of BoundaryAndBudgetComplete. -/
theorem witness_boundaryAndBudgetComplete : ∃ (s : State) (c : Cluster), s.live = true ∧
    ((s.pcbWedge c).servoOf c).anchored = false := ⟨State.reset, 0, by decide⟩

theorem witness_boundaryAndBudgetComplete_anchored : ∃ (s t u : State) (c : Cluster), s.live = true ∧
    ((s.pcbWedge c).servoOf c).anchored = true ∧ t = ((s.pcbWedge c).retire c).deferWrites c ∧
    u = (t.beginStripes c (t.tlOf c).now).clrLate c :=
  ⟨State.reset.setServo 0 { State.reset.servoOf 0 with anchored := true }, _, _, 0, by decide, by decide, rfl, rfl⟩

theorem witness_boundaryAndBudgetComplete_read : ∃ (s : State) (q : Running) (k : Nat) (r : Row), s.live = true ∧
    s.ports.bcmd = some q ∧ q.op = 1 ∧ s.selRow = some k ∧ r = tget Row.init (s.tlOf (s.get PRM_BSEL_CLUSTER)).rows k ∧
    r.share < 2 ^ 16 ∧ r.ceiling < 2 ^ 16 ∧ r.depth < 2 ^ 7 ∧ r.borrowed < 2 ^ 16 :=
  ⟨{ State.reset with ports := { State.reset.ports with bcmd := some ⟨1, 0, 0⟩ } }, ⟨1, 0, 0⟩, 4096, _, by decide,
    by decide, by decide, by decide, rfl, by decide, by decide, by decide, by decide⟩

/-! Premises of HeartbeatCommandsComplete. -/
theorem witness_heartbeatCommandsComplete : ∃ s : State, s.live = true ∧ (s.core 0).lost = false ∧
    s.dieIsLost 0 = false ∧ ((s.setCore 0 { s.core 0 with mode := .booting }).core 0).mode = .booting :=
  ⟨State.reset, by decide⟩

/-! Premises of RecorderCommandsComplete. -/
theorem witness_recorderCommandsComplete_store : ∃ (s : State) (a : Arrival) (as : List Arrival), s.live = true ∧
    s.is LOG_STAT_FROZEN = false ∧ s.log.intake = a :: as :=
  ⟨{ State.reset with log := { State.reset.log with intake := [⟨5, 0, 0x20, []⟩] } }, ⟨5, 0, 0x20, []⟩, [], by decide⟩

theorem witness_recorderCommandsComplete_life : ∃ s : State, s.live = true ∧ 2 ^ 20 ≤ s.log.sinceLife :=
  ⟨{ State.reset with log := { State.reset.log with sinceLife := 2 ^ 20 } }, by decide⟩

theorem witness_recorderCommandsComplete_opsec : ∃ s : State, s.live = true ∧
    s.log.opsecAt + 100000000 ≤ s.now ∧ s.get LOG_OPSEC_OPSEC + 1 < 2 ^ 32 :=
  ⟨{ State.reset with clk := { State.reset.clk with time := 100000000 } }, by decide⟩

theorem witness_recorderCommandsComplete_freeze : ∃ s : State, s.live = true ∧ s.is LOG_STAT_FROZEN = true ∧
    s.log.frozenAt + 1000000000 ≤ s.clk.time :=
  ⟨{ State.reset.set LOG_STAT_FROZEN 1 with clk := { State.reset.clk with time := 1000000000 } }, by decide⟩

theorem witness_recorderCommandsComplete_read : ∃ s : State, s.live = true ∧ s.log.readSel = some (3, 0) ∧
    (∀ x ∈ s.log.ring, x.evseq ≠ 3) ∧ (∀ x ∈ s.log.firstArea, x.evseq ≠ 3) :=
  ⟨{ State.reset with log := { State.reset.log with readSel := some (3, 0) } }, by decide⟩

theorem witness_recorderCommandsComplete_found : ∃ (s : State) (x : Event), s.live = true ∧
    s.log.readSel = some (1, 0) ∧ s.log.ring.find? (fun x => x.evseq == 1) = some x ∧
    ∀ w : Fin 16, x.words.getD w 0 < 2 ^ 32 :=
  ⟨{ State.reset with log := { State.reset.log with readSel := some (1, 0), ring := [⟨1, 0, 1, false, 0, 0, 0, 1, []⟩] } },
    ⟨1, 0, 1, false, 0, 0, 0, 1, []⟩, by decide⟩

theorem witness_recorderCommandsComplete_first : ∃ (s : State) (e : Event), s.live = true ∧ s.log.firstWait = [e] ∧
    s.log.firstArea.any (fun x => x.evseq == e.evseq) = false :=
  ⟨{ State.reset with log := { State.reset.log with firstWait := [⟨0, 0, 1, false, 0, 0, 0, 1, []⟩] } },
    ⟨0, 0, 1, false, 0, 0, 0, 1, []⟩, by decide⟩

/-! Premises of CalibrationCommandsComplete. -/
theorem witness_calibrationCommandsComplete_busy : ∃ s : State, s.live = true ∧ s.is CAL_STAT_BUSY = true :=
  ⟨State.reset.set CAL_STAT_BUSY 1, by decide⟩

theorem witness_calibrationCommandsComplete_timebase : ∃ s : State, s.live = true ∧ s.is CAL_STAT_BUSY = false ∧
    s.is IMG_STAT_DONE = true ∧ s.is TOP_CLKSTAT_CALREF_PRESENT = true :=
  ⟨(State.reset.set IMG_STAT_DONE 1).set TOP_CLKSTAT_CALREF_PRESENT 1, by decide⟩

theorem witness_calibrationCommandsComplete_analog : ∃ s : State, s.live = true ∧ s.is CAL_STAT_BUSY = false ∧
    s.is CAL_STAT_REFDAC_DONE = true := ⟨State.reset.set CAL_STAT_REFDAC_DONE 1, by decide⟩

theorem witness_calibrationCommandsComplete_media : ∃ (s : State) (c : Cluster), s.live = true ∧
    s.is CAL_STAT_BUSY = false ∧ s.isOpen c = true ∧ s.writesOk c = true :=
  ⟨State.reset.set PRM_STATUS_OPEN 1, 0, by decide⟩

theorem witness_calibrationCommandsComplete_closed : ∃ (s : State) (x : Session), s.live = true ∧
    s.cal.session = some x ∧ x.closing = true ∧ s.cellsOn x.cluster = false :=
  ⟨{ State.reset with cal := { State.reset.cal with session := some ⟨3, 0, false, true, 0⟩ } }, ⟨3, 0, false, true, 0⟩,
    by decide⟩

theorem witness_calibrationCommandsComplete_end : ∃ (s : State) (x : Session), s.live = true ∧
    s.cal.session = some x ∧ x.kind = 2 ∧ x.closing = false :=
  ⟨{ State.reset with cal := { State.reset.cal with session := some ⟨2, 0, false, false, 0⟩ } }, ⟨2, 0, false, false, 0⟩,
    by decide⟩

theorem witness_calibrationCommandsComplete_timebaseEnd : ∃ (s : State) (x : Session), s.live = true ∧
    s.cal.session = some x ∧ x.closing = false ∧ x.kind = 1 ∧ x.since + 10 ^ 9 ≤ s.clk.time :=
  ⟨{ State.reset with cal := { State.reset.cal with session := some ⟨1, 0, false, false, 0⟩ }
                      clk := { State.reset.clk with time := 10 ^ 9 } }, ⟨1, 0, false, false, 0⟩, by decide⟩

theorem witness_calibrationCommandsComplete_store : ∃ s : State, s.live = true ∧ s.cal.storing = some 0 :=
  ⟨{ State.reset with cal := { State.reset.cal with storing := some 0 } }, by decide⟩

theorem witness_calibrationCommandsComplete_present : ∃ (s : State) (x : Session), s.live = true ∧
    s.cal.session = some x ∧ x.kind = 1 :=
  ⟨{ State.reset with cal := { State.reset.cal with session := some ⟨1, 0, false, false, 0⟩ } }, ⟨1, 0, false, false, 0⟩,
    by decide⟩


theorem witness_calibrationCommandsComplete_notReady : ∃ (s : State) (c : Cluster), s.live = true ∧
    s.is CAL_STAT_BUSY = false ∧ s.is IMG_STAT_DONE = false ∧ s.is CAL_STAT_REFDAC_DONE = false ∧ s.isOpen c = false :=
  ⟨State.reset, 0, by decide⟩

theorem witness_calibrationCommandsComplete_tables : ∃ (s t : State) (x y : Session), s.live = true ∧
    s.cal.session = some x ∧ x.closing = false ∧ x.kind = 3 ∧ t.live = true ∧ t.cal.session = some y ∧
    y.closing = false ∧ y.kind = 4 :=
  ⟨{ State.reset with cal := { State.reset.cal with session := some ⟨3, 0, false, false, 0⟩ } },
    { State.reset with cal := { State.reset.cal with session := some ⟨4, 0, false, false, 0⟩ } },
    ⟨3, 0, false, false, 0⟩, ⟨4, 0, false, false, 0⟩, by decide⟩

/-! Premises of ClockAndStartFrames. -/
theorem witness_clockAndStartFrames : ∃ t, exec .rootStop State.reset = .next t := ⟨_, rfl⟩

/-! Premises of PortAndWindowFrames. -/
theorem witness_portAndWindowFrames : ∃ t, exec .holdSweep State.reset = .next t := ⟨_, rfl⟩

/-! Premises of BoundaryAndBudgetFrames. -/
theorem witness_boundaryAndBudgetFrames : ∃ t, exec .bcmdComplete State.reset = .next t := ⟨_, rfl⟩

/-! Premises of LaneAndPreampFrames. -/
theorem witness_laneAndPreampFrames : ∃ t, exec (.pcbAck 0 0) State.reset = .next t := ⟨_, rfl⟩

/-! Premises of MotorAndPowerFrames. -/
theorem witness_motorAndPowerFrames : ∃ t, exec (.mcbAck 0 0) State.reset = .next t := ⟨_, rfl⟩

/-! Premises of ReadChannelAndStripeFrames. -/
theorem witness_readChannelAndStripeFrames : ∃ t, exec (.fragmentReadStart 0 0 []) State.reset = .next t := ⟨_, rfl⟩

/-! Premises of ServoAndUnitFrames. -/
theorem witness_servoAndUnitFrames : ∃ t, exec (.servoHold 0) State.reset = .next t := ⟨_, rfl⟩

/-! Premises of SequencerFrames. -/
theorem witness_sequencerFrames : ∃ t, exec (.seqInterrupt 0) State.reset = .next t := ⟨_, rfl⟩

/-! Premises of MemoryAndCacheFrames. -/
theorem witness_memoryAndCacheFrames : ∃ t, exec (.cacheDrainEnd 0) State.reset = .next t := ⟨_, rfl⟩

/-! Premises of StreamerAndLinkFrames. -/
theorem witness_streamerAndLinkFrames : ∃ t, exec (.linkEvtSend 0) State.reset = .next t := ⟨_, rfl⟩

/-! Premises of RecorderAndCalibrationFrames. -/
theorem witness_recorderAndCalibrationFrames : ∃ t, exec .eventStore State.reset = .next t := ⟨_, rfl⟩

/-! Premises of StepKeepsMemoryCanonical. -/
theorem witness_stepKeepsMemoryCanonical : ∃ s t : State, s.canonical ∧ step s = .next t := ⟨State.reset, _, State.reset_canonical, rfl⟩

/-! Premises of HeldPartIgnoresCommands. -/
theorem witness_heldPartIgnoresCommands : ∃ (c : Instr) (s t : State), s.live = false ∧ c ≠ .powerOnDetect ∧
    c ≠ .resetNAssert ∧ c ≠ .resetNRelease ∧ c ≠ .rootStop ∧ c ≠ .refclkGapTimeout ∧ (∀ b, c ≠ .refclkWindowEnd b) ∧
    exec c s = .next t :=
  ⟨.eventStore, { State.reset with clk := { State.reset.clk with resetLow := true } }, _, by decide, by decide, by decide,
    by decide, by decide, by decide, by decide, rfl⟩

/-! Premises of MemoryWriteStores. -/
theorem witness_memoryWriteStores : ∃ (m : MemAt) (s : State), s.live = true ∧ m.exists? = true ∧
    s.chanHeld m = false ∧ s.wordLost m.key = false ∧ s.is MEM_INJ_CTL_ARM = false := ⟨⟨1, 8, .plain, 0⟩, State.reset, by decide⟩

theorem witness_memoryWriteStores_injection : ∃ (m : MemAt) (s : State), s.live = true ∧ m.exists? = true ∧
    s.chanHeld m = false ∧ s.wordLost m.key = false ∧ s.is MEM_INJ_CTL_ARM = true ∧ s.injKey = m.key := ⟨⟨0, 0, .plain, 0⟩, State.reset.set MEM_INJ_CTL_ARM 1, by decide⟩

/-! Premises of OutsideMemoriesFault. -/
theorem witness_outsideMemoriesFault : ∃ m : MemAt, m.exists? = false := ⟨⟨1, 0x4000000, .plain, 0⟩, by decide⟩

/-! Premises of SyndromeClasses. -/
theorem witness_syndromeClasses : (⟨5, false, eccOf 5 false⟩ : Stored).syndrome = 0 ∧
    (⟨4, false, eccOf 5 false⟩ : Stored).syndrome = eccColumns.getD 0 0 ∧
    (⟨5, true, eccOf 5 false⟩ : Stored).syndrome = eccColumns.getD 32 0 ∧
    (⟨5, false, eccOf 5 false ^^^ 4⟩ : Stored).syndrome = 2 ^ 2 ∧
    (⟨6, false, eccOf 5 false⟩ : Stored).classOf = .uncorrectable := by decide +kernel

/-! Premises of SingleErrorsCorrected. -/
theorem witness_singleErrorsCorrected : ((freshWord 0xDEADBEEF false).flip (2 ^ 17)).view = some 0xDEADBEEF ∧
    ((freshWord 0xDEADBEEF false).flip (2 ^ 17 + 2 ^ 39)).classOf = .uncorrectable := by decide +kernel

/-! Premises of BoundaryReopensSlot. -/
theorem witness_boundaryReopensSlot : ∃ s : State, 0 < s.wpr ∧ (s.tlOf 0).now = 0 ∧ (s.tlOf 0).slots ≠ [] ∧
    (∀ p ∈ (s.tlOf 0).slots, 0 ≤ p.1 ∧ p.1 < 0 + 64 * s.wpr) ∧ Tab.wf (fun _ => WSlot.init) (s.tlOf 0).slots = true :=
  ⟨(State.reset.set PRM_GEOM_WPR 600).setTl 0 { Timeline.init with slots := [(3, ⟨.move, 7, [], []⟩)] }, by decide⟩

/-! Premises of CacheEnableRule. -/
theorem witness_cacheEnableRule : ∃ s : State, s.live = true ∧ s.dieIsLost 0 = false ∧
    s.is (CCH_STAT_ENABLED 0) = false ∧ s.is (CCH_STAT_INV_DONE 0) = true ∧ s.is (CCH_STAT_DRAINING 0) = false :=
  ⟨State.reset.set (CCH_STAT_INV_DONE 0) 1, by decide⟩

theorem witness_cacheEnableRule_rejected : State.reset.live = true ∧ State.reset.dieIsLost 1 = false ∧
    State.reset.is (CCH_STAT_ENABLED 1) = false ∧ State.reset.is (CCH_STAT_INV_DONE 1) = false := by decide

theorem witness_cacheEnableRule_enabled : ∃ s : State, s.live = true ∧ s.dieIsLost 0 = false ∧
    s.is (CCH_STAT_ENABLED 0) = true := ⟨State.reset.set (CCH_STAT_ENABLED 0) 1, by decide⟩

/-! Premises of FirstErrorLatchSurvives. -/
theorem witness_firstErrorLatchSurvives : ∃ s : State, s.live = true ∧ s.clk.chipResetReq = true ∧ s.log.intake = [] :=
  ⟨{ State.reset with clk := { State.reset.clk with chipResetReq := true } }, by decide⟩

/-! Premises of BusyBudgetWritesDropped. -/
theorem witness_busyBudgetWritesDropped : ∃ (s : State) (a : BitVec 48), s.live = true ∧
    s.outside (.internal 0 0 0) a.toNat false = none ∧ tenantOf (.internal 0 0 0) = none ∧
    s.is PRM_BSTAT_BUSY = true ∧ a.toNat ∈ [PRM_BSEL, PRM_BVAL, PRM_BDEPTH, PRM_BCMD] :=
  ⟨State.reset.set PRM_BSTAT_BUSY 1, BitVec.ofNat 48 PRM_BVAL, by decide⟩

/-! Premises of RecorderSurvivesPackageReset. -/
theorem witness_recorderSurvivesPackageReset : ∃ s : State, s.live = true ∧ s.clk.chipResetReq = true ∧
    s.log.intake = [] ∧ s.log.ring ≠ [] :=
  ⟨{ State.reset with clk := { State.reset.clk with chipResetReq := true }
                      log := { State.reset.log with ring := [⟨0, 0, 1, false, 0, 0, 0, 1, []⟩] } }, by decide⟩

/-! Premises of RecorderRegisterFrames. -/
theorem witness_recorderRegisterFrames : ∃ t, exec .eventStore State.reset = .next t := ⟨_, rfl⟩

/-! Premises of CommandRegisterFrames. -/
theorem witness_commandRegisterFrames : ∃ t, exec (.bcmdRead (.internal 0 0 0)) State.reset = .next t := ⟨_, rfl⟩

end Sys2Proof.Tests
end

/-! The view, the register space and the window as one access meets them (R7, R12, R13, R145, R428, R469). -/

namespace Sys2Proof.Machine

/-! ### The register map -/

/-- Two fields of one register share no bit. -/
abbrev FieldDef.apart (f g : FieldDef) : Prop := f.lo + f.w ≤ g.lo ∨ g.lo + g.w ≤ f.lo

/-- The fields of a register lie within its 32 bits and share none. -/
def RegDef.disjoint (r : RegDef) : Prop := (∀ f ∈ r.fields, f.lo + f.w ≤ 32) ∧ r.fields.Pairwise FieldDef.apart

/-- An RC field can hold its reset value, which is 0 but for the two extremes of the monitors (R12, R502), and it
does not stand in a register whose read only latches. -/
def RegDef.rcResets (r : RegDef) : Prop := ∀ f ∈ r.fields, f.acc = .rc →
  f.rst < 2 ^ f.w ∧ (r.id ∉ [.TOP_VMON, .TOP_TJ] → f.rst = 0) ∧ r.id ≠ .SRV_POS_LO ∧ r.id ≠ .LAN_MAPOS_LO

theorem regTable_disjoint : ∀ r ∈ regTable, r.disjoint := by
  unfold RegDef.disjoint
  decide +kernel

theorem regTable_rcResets : ∀ r ∈ regTable, r.rcResets := by
  unfold RegDef.rcResets
  decide +kernel

theorem mem_of_findIn (l : List RegDef) (a : Nat) (r : RegDef) (ix : List Nat) (h : findIn l a = some (r, ix)) :
    r ∈ l := by
  induction l with
  | nil => cases h
  | cons x l ih =>
    unfold findIn at h
    split at h
    · cases h
      exact List.mem_cons_self
    · exact List.mem_cons_of_mem x (ih h)

theorem mem_of_findReg {a : Nat} {r : RegDef} {ix : List Nat} (h : findReg a = some (r, ix)) : r ∈ regTable :=
  mem_of_findIn regTable a r ix h

/-! ### Clearing RC fields (R12) -/

theorem bitsOf_putBits_apart {f g : FieldDef} (h : g.apart f) (v n : Nat) :
    bitsOf (putBits v g.lo g.w n) f.lo f.w = bitsOf v f.lo f.w := by
  rcases h with h | h
  · exact bitsOf_putBits_high v g.lo g.w n f.lo f.w h
  · exact bitsOf_putBits_low v g.lo g.w n f.lo f.w h

theorem clearRc_lt (fs : List FieldDef) (h : ∀ f ∈ fs, f.lo + f.w ≤ 32) (v : Nat) (hv : v < 2 ^ 32) :
    clearRc v fs < 2 ^ 32 := by
  induction fs generalizing v with
  | nil => exact hv
  | cons f fs ih =>
    refine ih (fun g hg => h g (List.mem_cons_of_mem f hg)) _ ?_
    split
    · exact putBits_lt v f.lo f.w f.rst hv (h f List.mem_cons_self)
    · exact hv

/-- A field apart from the fields that clear is as before. -/
theorem bitsOf_clearRc_apart (fs : List FieldDef) (f : FieldDef) (h : ∀ g ∈ fs, g.apart f) (v : Nat) :
    bitsOf (clearRc v fs) f.lo f.w = bitsOf v f.lo f.w := by
  induction fs generalizing v with
  | nil => rfl
  | cons g fs ih =>
    unfold clearRc
    rw [ih fun x hx => h x (List.mem_cons_of_mem g hx)]
    split
    · exact bitsOf_putBits_apart (h g List.mem_cons_self) v g.rst
    · rfl

theorem bitsOf_clearRc_rc (fs : List FieldDef) (hp : fs.Pairwise FieldDef.apart) (f : FieldDef) (hf : f ∈ fs)
    (hrc : f.acc = .rc) (v : Nat) : bitsOf (clearRc v fs) f.lo f.w = f.rst % 2 ^ f.w := by
  induction hp generalizing v with
  | nil => cases hf
  | @cons g fs hg _ ih =>
    rcases List.mem_cons.mp hf with rfl | hf
    · unfold clearRc
      rw [if_pos hrc, bitsOf_clearRc_apart fs f fun x hx => (hg x hx).symm]
      exact bitsOf_putBits_same v f.lo f.w f.rst
    · exact ih hf _

/-- After a read of a register without an action of its own, its RC fields hold their reset values. -/
theorem State.afterRead_rc (s : State) (r : RegDef) (ix : List Nat) (a : Nat) (f : FieldDef) (hr : r ∈ regTable)
    (hf : f ∈ r.fields) (hrc : f.acc = .rc) (hpop : r.id ≠ .TP_CQ_POP) (hviol : r.id ≠ .TP_WVIOL) :
    bitsOf ((s.afterRead r ix a).rd a).toNat f.lo f.w = f.rst := by
  obtain ⟨hfit, -, hpos, hma⟩ := regTable_rcResets r hr f hf hrc
  obtain ⟨hword, hapart⟩ := regTable_disjoint r hr
  have e : s.afterRead r ix a = s.wr a (BitVec.ofNat 32 (clearRc (s.rd a).toNat r.fields)) := by
    unfold State.afterRead
    split
    case h_1 h => exact absurd h hpop
    case h_2 h => exact absurd h hviol
    case h_3 h => exact absurd h hpos
    case h_4 h => exact absurd h hma
    case h_5 => rfl
  rw [e, State.rd_wr_same, BitVec.toNat_ofNat, Nat.mod_eq_of_lt (clearRc_lt _ hword _ (s.rd a).isLt),
    bitsOf_clearRc_rc _ hapart f hf hrc, Nat.mod_eq_of_lt hfit]

theorem State.afterRead_pop (s : State) (r : RegDef) (ix : List Nat) (a : Nat) (h : r.id = .TP_CQ_POP) :
    s.afterRead r ix a = s.pop (ix.headD 0) := by
  unfold State.afterRead
  rw [h]

theorem State.afterRead_wviol (s : State) (r : RegDef) (ix : List Nat) (a : Nat) (h : r.id = .TP_WVIOL) :
    tget 0 (s.afterRead r ix a).ports.wviol (s.get (TPT_PORT_CFG_BURGEE (ix.headD 0))) = 0 := by
  unfold State.afterRead
  rw [h]
  exact tget_tset_same 0 s.ports.wviol _ 0

/-! ### Register accesses (R7, R12, R469) -/

theorem State.readAt_mapped (s : State) (o : Origin) {a : Nat} {r : RegDef} {ix : List Nat}
    (hr : findReg a = some (r, ix)) (hl : s.regLost a ix = false) :
    s.readAt o a = (s.afterRead r ix a, readable (s.shown r.id ix a) r.fields, false) := by
  unfold State.readAt
  simp only [hr, hl, Bool.false_eq_true, if_false]

theorem State.readAt_unmapped (s : State) (o : Origin) {a : Nat} (h : findReg a = none) :
    s.readAt o a = (s.unmapped o a false, 0, true) := by
  unfold State.readAt
  simp only [h]

theorem State.readReg_inside (s : State) {o : Origin} {a : Nat} (h : s.outside o a false = none) :
    s.readReg o a = s.readAt o a := by
  unfold State.readReg
  rw [h]

theorem State.readReg_outside (s : State) {o : Origin} {a b why : Nat} (h : s.outside o a false = some (b, why)) :
    s.readReg o a = (s.viewViolation b (orgOf o) a false why, 0, true) := by
  unfold State.readReg
  rw [h]

theorem State.writeReg_inside (s : State) {o : Origin} {a : Nat} (v : Nat) (h : s.outside o a false = none) :
    s.writeReg o a v = s.writeAt o a v := by
  unfold State.writeReg
  rw [h]

theorem State.writeReg_outside (s : State) {o : Origin} {a b why : Nat} (v : Nat)
    (h : s.outside o a false = some (b, why)) : s.writeReg o a v = s.viewViolation b (orgOf o) a true why := by
  unfold State.writeReg
  rw [h]

/-- A read within its view of a register in service has the read's effect and returns its word (R12). -/
theorem State.readReg_mapped (s : State) {o : Origin} {a : Nat} {r : RegDef} {ix : List Nat}
    (h : s.outside o a false = none) (hr : findReg a = some (r, ix)) (hl : s.regLost a ix = false) :
    s.readReg o a = (s.afterRead r ix a, readable (s.shown r.id ix a) r.fields, false) :=
  (s.readReg_inside h).trans (s.readAt_mapped o hr hl)

theorem rspStatus_word (w : Nat) : rspStatus false [w] = if w = poisonPattern then 1 else 0 := by
  simp [rspStatus]

theorem rspStatus_rejected (ws : List Nat) : rspStatus true ws = 2 := rfl

/-! ### Window accesses (R145, R428) -/

theorem State.readSlot_priv (s : State) (p : LinkPort) (func : Fin 256) (b : Fin 4096) {a n m off : Nat}
    (h : s.outside (.link p true func b) a true = none) (hr : slotRange a n = some (m, off)) :
    s.readSlot (.link p true func b) a n = (s, s.slotWords m off n, false) := by
  unfold State.readSlot
  simp only [h, hr, tenantOf]

theorem State.readSlot_tenant (s : State) (p : LinkPort) (func : Fin 256) (b : Fin 4096) {a n m off : Nat}
    (h : s.outside (.link p false func b) a true = none) (hr : slotRange a n = some (m, off))
    (hf : s.flag m = slotHOST) : s.readSlot (.link p false func b) a n = (s, s.slotWords m off n, false) := by
  unfold State.readSlot
  simp only [h, hr, tenantOf, hf, if_true]

theorem State.writeSlot_ungranted (s : State) {o : Origin} {a m off : Nat} (ws : List Nat)
    (h : s.outside o a true = none) (hr : slotRange a ws.length = some (m, off)) (hg : s.grantOf? m = none) :
    s.writeSlot o a ws = s.putSlot (orgOf o) m off ws := by
  unfold State.writeSlot
  simp only [h, hr, hg]

theorem State.writeSlot_host (s : State) {o : Origin} {a m off : Nat} {g : Grant} (ws : List Nat)
    (h : s.outside o a true = none) (hr : slotRange a ws.length = some (m, off)) (hg : s.grantOf? m = some g)
    (hf : s.flag m = slotHOST) : s.writeSlot o a ws = s.putSlot (orgOf o) m off ws := by
  unfold State.writeSlot State.writeOwned
  simp only [h, hr, hg, hf, if_true]

/-! ### What a refused read counts (R13, R459, R466, R470) -/

/-- The counters that a refused access may raise. -/
def refusalCounters : List Nat := [LOG_VVCOUNT, LOG_VVSUPP, LOG_INLOST, LOG_FRZLOST]

/-- From `s` to `t` the ports stay, and of the registers only the counters of refused accesses change, each upwards.
LOG.FRZLOST, which no read clears, is left open, and LOG.INLOST where it stands at its end (log 10). -/
structure CountsRefusal (s t : State) : Prop where
  ports : t.ports = s.ports
  regs : RegsBut refusalCounters s t
  vvcount : s.get LOG_VVCOUNT_COUNT ≤ t.get LOG_VVCOUNT_COUNT
  vvsupp : s.get LOG_VVSUPP_COUNT ≤ t.get LOG_VVSUPP_COUNT
  inlost : s.get LOG_INLOST_COUNT + 1 < 2 ^ 32 → s.get LOG_INLOST_COUNT ≤ t.get LOG_INLOST_COUNT

theorem State.get_le_countSat (s : State) (x : Fld) (h : x.inWord) : s.get x ≤ (s.countSat x).get x := by
  rw [State.countSat_get s x h]
  have hx := s.get_lt x
  omega

/-- A step that leaves ports and registers alone. -/
theorem CountsRefusal.of_same {s t : State} (hp : t.ports = s.ports) (hr : t.regs = s.regs) : CountsRefusal s t where
  ports := hp
  regs := fun a _ => State.rd_congr hr a
  vvcount := (State.get_congr hr _).ge
  vvsupp := (State.get_congr hr _).ge
  inlost := fun _ => (State.get_congr hr _).ge

/-- A step from a state that agrees on ports and registers. -/
theorem CountsRefusal.of_agree {s u t : State} (h : CountsRefusal u t) (hp : u.ports = s.ports) (hr : u.regs = s.regs) :
    CountsRefusal s t where
  ports := h.ports.trans hp
  regs := fun a ha => (h.regs a ha).trans (State.rd_congr hr a)
  vvcount := (State.get_congr hr _).ge.trans h.vvcount
  vvsupp := (State.get_congr hr _).ge.trans h.vvsupp
  inlost := fun hlt => (State.get_congr hr _).ge.trans (h.inlost (by rwa [State.get_congr hr]))

/-- A step before others that leave ports and registers alone. -/
theorem CountsRefusal.then_same {s u t : State} (h : CountsRefusal s u) (hp : t.ports = u.ports)
    (hr : t.regs = u.regs) : CountsRefusal s t where
  ports := hp.trans h.ports
  regs := fun a ha => (State.rd_congr hr a).trans (h.regs a ha)
  vvcount := h.vvcount.trans (State.get_congr hr _).ge
  vvsupp := h.vvsupp.trans (State.get_congr hr _).ge
  inlost := fun hlt => (h.inlost hlt).trans (State.get_congr hr _).ge

theorem State.get_of_rd {s t : State} {x : Fld} (h : t.rd x.addr = s.rd x.addr) : t.get x = s.get x := by
  unfold State.get
  rw [h]

theorem State.count_get_other (s : State) (x y : Fld) (h : y.addr ≠ x.addr) : (s.count x).get y = s.get y :=
  State.get_of_rd (State.count_rd s x y.addr h)

theorem State.countSat_get_other (s : State) (x y : Fld) (h : y.addr ≠ x.addr) : (s.countSat x).get y = s.get y :=
  State.get_of_rd (State.countSat_rd s x y.addr h)

theorem State.count_get (s : State) (x : Fld) (h : x.inWord) (hlt : s.get x + 1 < 2 ^ x.w) :
    (s.count x).get x = s.get x + 1 := by
  unfold State.count State.addCount
  rw [if_pos hlt, State.get_set_fits s x _ h hlt]

theorem State.count_frzlost_refusal (s : State) : CountsRefusal s (s.count LOG_FRZLOST_COUNT) where
  ports := State.count_ports s _
  regs := fun a ha => State.count_rd s _ a fun e => ha (e ▸ by decide)
  vvcount := (State.count_get_other s LOG_FRZLOST_COUNT LOG_VVCOUNT_COUNT (by decide)).ge
  vvsupp := (State.count_get_other s LOG_FRZLOST_COUNT LOG_VVSUPP_COUNT (by decide)).ge
  inlost := fun _ => (State.count_get_other s LOG_FRZLOST_COUNT LOG_INLOST_COUNT (by decide)).ge

theorem State.count_inlost_refusal (s : State) : CountsRefusal s (s.count LOG_INLOST_COUNT) where
  ports := State.count_ports s _
  regs := fun a ha => State.count_rd s _ a fun e => ha (e ▸ by decide)
  vvcount := (State.count_get_other s LOG_INLOST_COUNT LOG_VVCOUNT_COUNT (by decide)).ge
  vvsupp := (State.count_get_other s LOG_INLOST_COUNT LOG_VVSUPP_COUNT (by decide)).ge
  inlost := fun hlt => by
    rw [State.count_get s LOG_INLOST_COUNT (by decide) hlt]
    exact Nat.le_succ _

theorem State.countSat_vvsupp_refusal (s : State) : CountsRefusal s (s.countSat LOG_VVSUPP_COUNT) where
  ports := State.countSat_ports s _
  regs := fun a ha => State.countSat_rd s _ a fun e => ha (e ▸ by decide)
  vvcount := (State.countSat_get_other s LOG_VVSUPP_COUNT LOG_VVCOUNT_COUNT (by decide)).ge
  vvsupp := State.get_le_countSat s LOG_VVSUPP_COUNT (by decide)
  inlost := fun _ => (State.countSat_get_other s LOG_VVSUPP_COUNT LOG_INLOST_COUNT (by decide)).ge

/-- The count of a violation, before the rest of the refusal. -/
theorem CountsRefusal.after_vvcount {s t : State} (h : CountsRefusal (s.countSat LOG_VVCOUNT_COUNT) t) :
    CountsRefusal s t where
  ports := h.ports.trans (State.countSat_ports s _)
  regs := fun a ha => (h.regs a ha).trans (State.countSat_rd s _ a fun e => ha (e ▸ by decide))
  vvcount := (State.get_le_countSat s LOG_VVCOUNT_COUNT (by decide)).trans h.vvcount
  vvsupp := (State.countSat_get_other s LOG_VVCOUNT_COUNT LOG_VVSUPP_COUNT (by decide)).ge.trans h.vvsupp
  inlost := by
    have e := State.countSat_get_other s LOG_VVCOUNT_COUNT LOG_INLOST_COUNT (by decide)
    exact fun hlt => e.ge.trans (h.inlost (by rwa [e]))

theorem State.arrive_refusal (s : State) (x : Arrival) : CountsRefusal s (s.arrive x) := by
  unfold State.arrive
  split
  · exact s.count_frzlost_refusal
  · split
    · exact s.count_inlost_refusal
    · exact .of_same rfl rfl

theorem State.violation_refusal (s : State) (b origin code : Nat) (payload : List Nat) :
    CountsRefusal s (s.violation b origin code payload) := by
  unfold State.violation
  split
  · exact s.count_frzlost_refusal
  · dsimp only
    generalize (if s.log.vvEpoch = s.now / 2 ^ 20 then s.log.vvStored else []) = stored
    split
    · exact (State.arrive_refusal _ _).of_agree rfl rfl
    · exact (State.countSat_vvsupp_refusal _).of_agree rfl rfl

theorem State.viewViolation_refusal (s : State) (b origin addr : Nat) (write : Bool) (reason : Nat) :
    CountsRefusal s (s.viewViolation b origin addr write reason) :=
  (State.violation_refusal _ _ _ _ _).after_vvcount

theorem State.unmapped_refusal (s : State) (o : Origin) (a : Nat) (write : Bool) :
    CountsRefusal s (s.unmapped o a write) := s.arrive_refusal _

/-- A refused register read, outside its view or at a reserved address, only counts its refusal (R13). -/
theorem State.readReg_refusal (s : State) (o : Origin) (a : Nat)
    (h : findReg a = none ∨ (s.outside o a false).isSome = true) : CountsRefusal s (s.readReg o a).1 := by
  cases hv : s.outside o a false with
  | some q =>
    rw [s.readReg_outside hv]
    exact s.viewViolation_refusal _ _ _ _ _
  | none =>
    have hr : findReg a = none := h.resolve_right (by simp [hv])
    rw [s.readReg_inside hv, s.readAt_unmapped o hr]
    exact s.unmapped_refusal _ _ _

theorem State.answer_ports (s : State) (p : Nat) (k : Pkt) : (s.answer p k).ports = s.ports :=
  same_of_hide (State.answer_frame (fm := fun x => decide (x = .link)) rfl s p k) .ports rfl

theorem State.answer_regs (s : State) (p : Nat) (k : Pkt) : (s.answer p k).regs = s.regs :=
  same_of_hide (State.answer_frame (fm := fun x => decide (x = .link)) rfl s p k) .regs rfl

/-! The rows of the counters in the register map. -/

theorem findReg_vvcount : findReg LOG_VVCOUNT = some (⟨.LOG_VVCOUNT, LOG_VVCOUNT, [], [⟨0, 32, .rc, 0⟩]⟩, []) := by
  decide +kernel

theorem findReg_vvsupp : findReg LOG_VVSUPP = some (⟨.LOG_VVSUPP, LOG_VVSUPP, [], [⟨0, 32, .rc, 0⟩]⟩, []) := by
  decide +kernel

theorem findReg_inlost : findReg LOG_INLOST = some (⟨.LOG_INLOST, LOG_INLOST, [], [⟨0, 32, .rc, 0⟩]⟩, []) := by
  decide +kernel

theorem findReg_frzlost : findReg LOG_FRZLOST = some (⟨.LOG_FRZLOST, LOG_FRZLOST, [], [⟨0, 32, .ro, 0⟩]⟩, []) := by
  decide +kernel

/-- A register whose row has the one field `g` has no other field. -/
theorem eq_of_only_field {b : Nat} {id : RegId} {g f : FieldDef} {r : RegDef} {ix jx : List Nat}
    (hg : findReg b = some (⟨id, b, [], [g]⟩, jx)) (hr : findReg b = some (r, ix)) (hf : f ∈ r.fields) : f = g := by
  cases hg.symm.trans hr
  exact List.mem_singleton.mp hf

section
variable {s t : State} (h : CountsRefusal s t) {b : Nat} {r : RegDef} {ix : List Nat} {f : FieldDef}
  (hr : findReg b = some (r, ix)) (hf : f ∈ r.fields)
include h hr hf

theorem CountsRefusal.rc_kept (hrc : f.acc = .rc) (hb : b ∉ [LOG_VVCOUNT, LOG_VVSUPP, LOG_INLOST]) :
    bitsOf (t.rd b).toNat f.lo f.w = bitsOf (s.rd b).toNat f.lo f.w := by
  have hfrz : b ≠ LOG_FRZLOST := by
    rintro rfl
    cases eq_of_only_field findReg_frzlost hr hf
    cases hrc
  rw [h.regs b (by simp_all [refusalCounters])]

theorem CountsRefusal.violations_rise (hb : b ∈ [LOG_VVCOUNT, LOG_VVSUPP]) :
    bitsOf (s.rd b).toNat f.lo f.w ≤ bitsOf (t.rd b).toNat f.lo f.w := by
  rcases List.mem_pair.mp hb with rfl | rfl
  · cases eq_of_only_field findReg_vvcount hr hf
    exact h.vvcount
  · cases eq_of_only_field findReg_vvsupp hr hf
    exact h.vvsupp

theorem CountsRefusal.inlost_rises (hb : b = LOG_INLOST) (hlt : s.get LOG_INLOST_COUNT + 1 < 2 ^ 32) :
    bitsOf (s.rd b).toNat f.lo f.w ≤ bitsOf (t.rd b).toNat f.lo f.w := by
  subst hb
  cases eq_of_only_field findReg_inlost hr hf
  exact h.inlost hlt

end

end Sys2Proof.Machine

/-! The statements on a step, register and window accesses, and the frames of the task ports, window and budget. -/

namespace Sys2Proof.Proofs

open Sys2Proof.Machine

/-- Settles O1: a step takes the command off the queue and gives it to `exec`. -/
theorem stepRunsFrontCommand : Obligations.StepRunsFrontCommand := fun _ _ _ => rfl

/-! What each access does on a running part. -/

theorem registerWrite_eq (o : Origin) (a : BitVec 48) (v : Word) (s : State) :
    exec (.registerWrite o a v) s = s.run fun s => s.writeReg o a.toNat v.toNat := rfl

theorem rcFieldRead_eq (o : Origin) (a : BitVec 48) (s : State) :
    exec (.rcFieldRead o a) s = s.run fun s => (s.readReg o a.toNat).1 := rfl

theorem linkWreg_eq (p : LinkPort) (view : Bool) (func : Fin 256) (burgee : Fin 4096) (a : BitVec 32) (v : Word)
    (s : State) : exec (.linkWreg p view func burgee a v) s =
      s.run fun s => (s.writeReg (.link p view func burgee) a.toNat v.toNat).donePosted p 1 := rfl

theorem linkWwr_eq (p : LinkPort) (view : Bool) (func : Fin 256) (burgee : Fin 4096) (a : BitVec 48) (data : List Word)
    (s : State) : exec (.linkWwr p view func burgee a data) s =
      s.run fun s => (s.writeSlot (.link p view func burgee) a.toNat (data.map BitVec.toNat)).donePosted p
        ((16 + 4 * data.length + 63) / 64) := rfl

/-- An RREG answers with the word of the register read it makes. -/
theorem linkRreg_of_readReg (p : LinkPort) (view : Bool) (func : Fin 256) (burgee : Fin 4096) (tag : BitVec 12)
    (a : BitVec 48) {s t : State} {w : Nat} {rejected : Bool} (hs : s.live = true)
    (h : s.readReg (.link p view func burgee) a.toNat = (t, w, rejected)) :
    exec (.linkRreg p view func burgee tag a) s = .next (t.answer p
      ⟨8, view, func, burgee, tag.toNat, rspStatus rejected [w], a.toNat % 2 ^ 32, [w]⟩) := by
  show execLinkRreg p view func burgee tag a s = _
  rw [execLinkRreg, State.run_live s _ hs]
  simp only [h]

/-- A WRD answers with the words of the window read it makes. -/
theorem linkWrd_of_readSlot (p : LinkPort) (view : Bool) (func : Fin 256) (burgee : Fin 4096) (tag : BitVec 12)
    (lenw : Fin 1024) (a : BitVec 48) {s t : State} {ws : List Nat} {rejected : Bool} (hs : s.live = true)
    (h : s.readSlot (.link p view func burgee) a.toNat (lenw.val + 1) = (t, ws, rejected)) :
    exec (.linkWrd p view func burgee tag lenw a) s =
      .next (t.answer p ⟨8, view, func, burgee, tag.toNat, rspStatus rejected ws, a.toNat, ws⟩) := by
  show execLinkWrd p view func burgee tag lenw a s = _
  rw [execLinkWrd, State.run_live s _ hs]
  simp only [h]

/-- Settles O10: each access takes its one path through the view, the register map or the window. -/
theorem accessesComplete : Obligations.AccessesComplete := by
  unfold Obligations.AccessesComplete
  refine ⟨?_, ?_, ?_, ?_, ?_, ?_, ?_, ?_, ?_, ?_⟩
  · intro o a v s hs
    rw [registerWrite_eq, State.run_live s _ hs]
    exact ⟨fun ho => by rw [s.writeReg_inside _ ho], fun b why ho => by rw [s.writeReg_outside _ ho]⟩
  · intro o a s r ix hs ho hr hl
    rw [rcFieldRead_eq, State.run_live s _ hs, s.readReg_mapped ho hr hl]
  · intro o a s b why hs ho
    rw [rcFieldRead_eq, State.run_live s _ hs, s.readReg_outside ho]
  · intro p view func burgee tag a s r ix hs ho hr hl w hw
    rw [linkRreg_of_readReg p view func burgee tag a hs (s.readReg_mapped ho hr hl), rspStatus_word, ← hw]
  · intro p view func burgee tag a s b why hs ho
    rw [linkRreg_of_readReg p view func burgee tag a hs (s.readReg_outside ho), rspStatus_rejected]
  · intro p view func burgee a v s hs
    rw [linkWreg_eq, State.run_live s _ hs]
  · intro p func burgee tag lenw a s m off hs ho hr ws hw
    subst hw
    exact linkWrd_of_readSlot p true func burgee tag lenw a hs (s.readSlot_priv p func burgee ho hr)
  · intro p func burgee tag lenw a s m off hs ho hr hf ws hw
    subst hw
    exact linkWrd_of_readSlot p false func burgee tag lenw a hs (s.readSlot_tenant p func burgee ho hr hf)
  · intro p func burgee a data s m off hs ho hr hg
    rw [linkWwr_eq, State.run_live s _ hs, s.writeSlot_ungranted _ ho (by rwa [List.length_map]) hg]
  · intro p view func burgee a data s m off g hs ho hr hg hf
    rw [linkWwr_eq, State.run_live s _ hs, s.writeSlot_host _ ho (by rwa [List.length_map]) hg hf]

/-- Settles O11: the fields of a row are apart, so clearing one leaves the others' bits. -/
theorem rcFieldClearsOnRead : Obligations.RcFieldClearsOnRead := by
  unfold Obligations.RcFieldClearsOnRead
  intro o a s r ix f hs ho hr hl hf hrc
  have hmem := mem_of_findReg hr
  rw [rcFieldRead_eq]
  refine Answers.run hs ?_
  rw [s.readReg_mapped ho hr hl]
  refine ⟨s.afterRead_pop r ix a.toNat, s.afterRead_wviol r ix a.toNat, fun hpop hviol => ⟨?_, ?_⟩⟩
  · exact s.afterRead_rc r ix a.toNat f hmem hf hrc hpop hviol
  · obtain ⟨-, hzero, -, -⟩ := regTable_rcResets r hmem f hf hrc
    exact hzero

theorem refusedRead_counts (o : Origin) (a : BitVec 48) (s : State) (hs : s.live = true)
    (h : findReg a.toNat = none ∨ (s.outside o a.toNat false).isSome = true) :
    Answers (exec (.rcFieldRead o a) s) (CountsRefusal s) := by
  rw [rcFieldRead_eq]
  exact Answers.run hs (s.readReg_refusal o a.toNat h)

theorem refusedRreg_counts (p : LinkPort) (view : Bool) (func : Fin 256) (burgee : Fin 4096) (tag : BitVec 12)
    (a : BitVec 48) (s : State) (hs : s.live = true)
    (h : findReg a.toNat = none ∨ (s.outside (.link p view func burgee) a.toNat false).isSome = true) :
    Answers (exec (.linkRreg p view func burgee tag a) s) (CountsRefusal s) :=
  ⟨_, linkRreg_of_readReg p view func burgee tag a hs rfl,
    (s.readReg_refusal _ a.toNat h).then_same (State.answer_ports _ _ _) (State.answer_regs _ _ _)⟩

/-- Settles O12: a refused read changes no register but the counters of refusals, each upwards. -/
theorem refusedReadClearsNothing : Obligations.RefusedReadClearsNothing := by
  unfold Obligations.RefusedReadClearsNothing
  intro o a s hs href res hres x hx
  have hcounts : Answers x (CountsRefusal s) := by
    subst hres
    rcases List.mem_cons.mp hx with rfl | hx
    · exact refusedRead_counts o a s hs href
    · cases o with
      | link p view func burgee =>
        cases List.mem_singleton.mp hx
        exact refusedRreg_counts p view func burgee 0 a s hs href
      | internal => cases hx
      | pin => cases hx
  obtain ⟨t, ht, h⟩ := hcounts
  exact ⟨t, ht, h.ports, fun b r ix f hr hf hrc =>
    ⟨h.rc_kept hr hf hrc, h.violations_rise hr hf, h.inlost_rises hr hf⟩⟩

/-- Settles O35: the frame lemma of each command, with its list of parts for the hidden ones. -/
theorem portAndWindowFrames : Obligations.PortAndWindowFrames := by
  unfold Obligations.PortAndWindowFrames
  exact
    ⟨fun _ _ _ => Framed.leaves (by apply execRcFieldRead_frame <;> rfl),
     fun _ _ _ => Framed.leaves (by apply execHoistRead_frame <;> rfl),
     fun _ _ _ => Framed.leaves (by apply execHoistWrite_frame <;> rfl),
     fun _ _ _ => Framed.leaves (by apply execHoistAbort_frame <;> rfl),
     fun _ _ _ => Framed.leaves (by apply execHoistBadOpcode_frame <;> rfl),
     fun _ _ => Framed.leaves (by apply execHeldHoistLatch_frame <;> rfl),
     fun _ _ _ _ _ _ => Framed.leaves (by apply execAdmissionUnitTake_frame <;> rfl),
     fun _ _ _ => Framed.leaves (by apply execBufferedTerminal_frame <;> rfl),
     fun _ _ => Framed.leaves (by apply execCqPop_frame <;> rfl),
     fun _ _ _ _ => Framed.leaves (by apply execSlotopFree_frame <;> rfl),
     fun _ _ _ _ => Framed.leaves (by apply execSlotopClaim_frame <;> rfl),
     fun _ _ _ _ => Framed.leaves (by apply execPortCfgWrite_frame <;> rfl),
     fun _ _ => Framed.leaves (by apply execRightsRead_frame <;> rfl),
     fun _ _ => Framed.leaves (by apply execRightsSet_frame <;> rfl),
     fun _ _ => Framed.leaves (by apply execRightsClear_frame <;> rfl),
     fun _ => Framed.leaves (by apply execRightsCmdComplete_frame <;> rfl),
     fun _ _ => Framed.leaves (by apply execSlotopComplete_frame <;> rfl),
     fun _ _ => Framed.leaves (by apply execGrantRead_frame <;> rfl),
     fun _ _ => Framed.leaves (by apply execGrantSet_frame <;> rfl),
     fun _ _ => Framed.leaves (by apply execGrantRevoke_frame <;> rfl),
     fun _ => Framed.leaves (by apply execGrantCmdComplete_frame <;> rfl),
     fun _ _ _ => Framed.leaves (by apply execWinHoldWrite_frame <;> rfl),
     fun _ => Framed.leaves (by apply execHoldSweep_frame <;> rfl),
     fun _ _ _ _ _ => Framed.leaves (by apply execPrefetchIssue_frame <;> rfl),
     fun _ _ _ => Framed.leaves (by apply execPortTerminal_frame <;> rfl),
     fun _ _ => Framed.leaves (by apply execPortDetail_frame; rfl)⟩

/-- Settles O36: the frame lemma of each command, with its list of parts for the hidden ones. -/
theorem boundaryAndBudgetFrames : Obligations.BoundaryAndBudgetFrames := by
  unfold Obligations.BoundaryAndBudgetFrames
  exact
    ⟨fun _ _ _ _ => Framed.leaves (by apply execRegisterWrite_frame <;> rfl),
     fun _ _ _ _ _ _ _ => Framed.leaves (by apply execLinkWreg_frame <;> rfl),
     fun _ _ _ => Framed.leaves (by apply execWedgeBoundary_frame <;> rfl),
     fun _ _ => Framed.leaves (by apply execBcmdRead_frame <;> rfl),
     fun _ _ => Framed.leaves (by apply execBcmdWrite_frame <;> rfl),
     fun _ => Framed.leaves (by apply execBcmdComplete_frame <;> rfl),
     fun _ _ _ _ _ _ _ => Framed.leaves (by apply execLinkRreg_frame <;> rfl),
     fun _ _ _ _ _ _ _ _ => Framed.leaves (by apply execLinkWrd_frame <;> rfl),
     fun _ _ _ _ _ _ _ => Framed.leaves (by apply execLinkWwr_frame <;> rfl)⟩

end Sys2Proof.Proofs

/-! What every command leaves alone, a tick of TIME, the package resets, the clock monitor, the crossings, and the ends
of block resets and masks (R27 to R48, R444 to R448). -/

namespace Sys2Proof.Machine

/-! ### What every command leaves (R30; log 1) -/

/-- Hides every part of the state but the queue and TIME. -/
def beyondQueueAndTime : Part → Bool
  | .pending | .time => false
  | _ => true

/-- Every command but the power-on detector leaves the queue and TIME alone. -/
theorem exec_frame_queueAndTime (i : Instr) (s : State) (h : i ≠ .powerOnDetect) :
    Framed beyondQueueAndTime s (exec i s) := by
  cases i with
  | powerOnDetect => exact absurd rfl h
  | resetNAssert => apply execResetNAssert_frame <;> rfl
  | resetNRelease => apply execResetNRelease_frame; rfl
  | chipReset => apply execChipReset_frame <;> rfl
  | startStepDone _ => apply execStartStepDone_frame <;> rfl
  | startPfailHoldEnd => apply execStartPfailHoldEnd_frame <;> rfl
  | refclkGapTimeout => apply execRefclkGapTimeout_frame <;> rfl
  | refclkWindowEnd _ => apply execRefclkWindowEnd_frame <;> rfl
  | rootStop => apply execRootStop_frame <;> rfl
  | timeReplicaCompare _ _ => apply execTimeReplicaCompare_frame <;> rfl
  | cdcClockTimeout _ => apply execCdcClockTimeout_frame <;> rfl
  | cdcPulse _ _ => apply execCdcPulse_frame; rfl
  | cdcReopen _ => apply execCdcReopen_frame; rfl
  | blockResetEnd _ => apply execBlockResetEnd_frame <;> rfl
  | faultMaskEnd _ => apply execFaultMaskEnd_frame <;> rfl
  | fltFirstClear _ => apply execFltFirstClear_frame <;> rfl
  | fltPendClear _ _ _ => apply execFltPendClear_frame <;> rfl
  | registerWrite _ _ _ => apply execRegisterWrite_frame <;> rfl
  | rcFieldRead _ _ => apply execRcFieldRead_frame <;> rfl
  | hoistRead _ _ => apply execHoistRead_frame <;> rfl
  | hoistWrite _ _ => apply execHoistWrite_frame <;> rfl
  | hoistAbort _ _ => apply execHoistAbort_frame <;> rfl
  | hoistBadOpcode _ _ => apply execHoistBadOpcode_frame <;> rfl
  | heldHoistLatch _ => apply execHeldHoistLatch_frame <;> rfl
  | admissionUnitTake _ _ _ _ _ => apply execAdmissionUnitTake_frame <;> rfl
  | bufferedTerminal _ _ => apply execBufferedTerminal_frame <;> rfl
  | cqPop _ => apply execCqPop_frame <;> rfl
  | slotopFree _ _ _ => apply execSlotopFree_frame <;> rfl
  | slotopClaim _ _ _ => apply execSlotopClaim_frame <;> rfl
  | slotopComplete _ => apply execSlotopComplete_frame <;> rfl
  | portCfgWrite _ _ _ => apply execPortCfgWrite_frame <;> rfl
  | rightsRead _ => apply execRightsRead_frame <;> rfl
  | rightsSet _ => apply execRightsSet_frame <;> rfl
  | rightsClear _ => apply execRightsClear_frame <;> rfl
  | rightsCmdComplete => apply execRightsCmdComplete_frame <;> rfl
  | grantRead _ => apply execGrantRead_frame <;> rfl
  | grantSet _ => apply execGrantSet_frame <;> rfl
  | grantRevoke _ => apply execGrantRevoke_frame <;> rfl
  | grantCmdComplete => apply execGrantCmdComplete_frame <;> rfl
  | holdSweep => apply execHoldSweep_frame <;> rfl
  | winHoldWrite _ _ => apply execWinHoldWrite_frame <;> rfl
  | wedgeBoundary _ _ => apply execWedgeBoundary_frame <;> rfl
  | bcmdRead _ => apply execBcmdRead_frame <;> rfl
  | bcmdWrite _ => apply execBcmdWrite_frame <;> rfl
  | bcmdComplete => apply execBcmdComplete_frame <;> rfl
  | laneArmRead _ _ _ => apply execLaneArmRead_frame <;> rfl
  | laneArmWrite _ _ _ => apply execLaneArmWrite_frame <;> rfl
  | laneDisarm _ _ => apply execLaneDisarm_frame <;> rfl
  | adcStuck _ _ => apply execAdcStuck_frame <;> rfl
  | laneRetire _ _ _ => apply execLaneRetire_frame <;> rfl
  | hostWinhWrite _ _ _ _ => apply execHostWinhWrite_frame <;> rfl
  | pcbFrameSend _ _ => apply execPcbFrameSend_frame <;> rfl
  | pcbAck _ _ => apply execPcbAck_frame <;> rfl
  | pcbNak _ _ _ => apply execPcbNak_frame <;> rfl
  | pcbSense _ _ => apply execPcbSense_frame <;> rfl
  | pcbRdata _ _ _ => apply execPcbRdata_frame <;> rfl
  | pcbFaultFrame _ _ _ => apply execPcbFaultFrame_frame <;> rfl
  | pcbBadFrame _ _ => apply execPcbBadFrame_frame <;> rfl
  | pcbExchangeTimeout _ _ => apply execPcbExchangeTimeout_frame <;> rfl
  | pcbRegRead _ _ => apply execPcbRegRead_frame <;> rfl
  | pcbRegWrite _ _ => apply execPcbRegWrite_frame <;> rfl
  | pfltFall _ => apply execPfltFall_frame <;> rfl
  | pfltNoFaultFrame _ => apply execPfltNoFaultFrame_frame <;> rfl
  | mcbCycle _ _ => apply execMcbCycle_frame <;> rfl
  | mcbAck _ _ => apply execMcbAck_frame <;> rfl
  | mcbNak _ => apply execMcbNak_frame <;> rfl
  | vcmMeas _ _ _ _ => apply execVcmMeas_frame; rfl
  | spinMeas _ _ _ _ _ => apply execSpinMeas_frame <;> rfl
  | mcbRdata _ _ _ => apply execMcbRdata_frame <;> rfl
  | mcbFault _ _ => apply execMcbFault_frame <;> rfl
  | mcbRegRead _ _ => apply execMcbRegRead_frame <;> rfl
  | mcbRegWrite _ _ _ => apply execMcbRegWrite_frame <;> rfl
  | masterTakeover => apply execMasterTakeover_frame <;> rfl
  | pfailNFall => apply execPfailNFall_frame; rfl
  | pfailGlitch => apply execPfailGlitch_frame <;> rfl
  | pfailAccept => apply execPfailAccept_frame <;> rfl
  | pfPhaseB _ => apply execPfPhaseB_frame <;> rfl
  | pfBrake => apply execPfBrake_frame <;> rfl
  | pfailRecover => apply execPfailRecover_frame <;> rfl
  | fragmentReadStart _ _ _ => apply execFragmentReadStart_frame <;> rfl
  | syncWindowClose _ _ _ => apply execSyncWindowClose_frame <;> rfl
  | resyncSearch _ _ _ _ => apply execResyncSearch_frame <;> rfl
  | fragmentEnd _ _ _ => apply execFragmentEnd_frame <;> rfl
  | landingHead _ _ => apply execLandingHead_frame <;> rfl
  | decodeDispatch _ _ => apply execDecodeDispatch_frame <;> rfl
  | decodeEnd _ _ _ => apply execDecodeEnd_frame <;> rfl
  | decodeDeadline _ _ => apply execDecodeDeadline_frame <;> rfl
  | decoderTimeout _ _ => apply execDecoderTimeout_frame <;> rfl
  | stripeSettle _ _ => apply execStripeSettle_frame <;> rfl
  | parityEncodeDone _ => apply execParityEncodeDone_frame <;> rfl
  | commitTestDone _ _ => apply execCommitTestDone_frame <;> rfl
  | calSkewUpdate _ _ _ _ => apply execCalSkewUpdate_frame <;> rfl
  | relocTrackCopy _ _ _ _ => apply execRelocTrackCopy_frame <;> rfl
  | repairWrite _ _ _ _ => apply execRepairWrite_frame <;> rfl
  | patrolRead _ _ _ _ _ => apply execPatrolRead_frame <;> rfl
  | servoWd _ _ _ => apply execServoWd_frame <;> rfl
  | servoMidw _ => apply execServoMidw_frame <;> rfl
  | reacquireTimeout _ => apply execReacquireTimeout_frame <;> rfl
  | seqGo _ _ => apply execSeqGo_frame <;> rfl
  | seqBranch _ _ => apply execSeqBranch_frame <;> rfl
  | seqWait _ _ _ => apply execSeqWait_frame <;> rfl
  | seqWaitTimeout _ => apply execSeqWaitTimeout_frame <;> rfl
  | seqCall _ _ => apply execSeqCall_frame <;> rfl
  | seqReturn _ _ => apply execSeqReturn_frame <;> rfl
  | seqIret _ _ => apply execSeqIret_frame <;> rfl
  | seqJumpclr _ _ => apply execSeqJumpclr_frame <;> rfl
  | seqIllegalWord _ _ => apply execSeqIllegalWord_frame <;> rfl
  | aluMov _ _ _ => apply execAluMov_frame <;> rfl
  | aluAdd _ _ _ _ => apply execAluAdd_frame <;> rfl
  | aluSub _ _ _ _ => apply execAluSub_frame <;> rfl
  | aluAnd _ _ _ _ => apply execAluAnd_frame <;> rfl
  | aluOr _ _ _ _ => apply execAluOr_frame <;> rfl
  | aluXor _ _ _ _ => apply execAluXor_frame <;> rfl
  | aluShl _ _ _ _ => apply execAluShl_frame <;> rfl
  | aluShr _ _ _ _ => apply execAluShr_frame <;> rfl
  | aluPopcnt _ _ _ => apply execAluPopcnt_frame <;> rfl
  | aluFfs _ _ _ => apply execAluFfs_frame <;> rfl
  | aluMin _ _ _ _ => apply execAluMin_frame <;> rfl
  | timelineRead _ _ => apply execTimelineRead_frame; rfl
  | timelineReadDone _ => apply execTimelineReadDone_frame <;> rfl
  | servoMove _ _ => apply execServoMove_frame <;> rfl
  | servoHold _ => apply execServoHold_frame; rfl
  | pcbMode _ _ _ _ => apply execPcbMode_frame; rfl
  | strOpen _ _ => apply execStrOpen_frame; rfl
  | strWriteset _ _ => apply execStrWriteset_frame; rfl
  | strCommitTest _ => apply execStrCommitTest_frame; rfl
  | strClose _ => apply execStrClose_frame; rfl
  | stmKick _ _ => apply execStmKick_frame <;> rfl
  | budgetCheck _ _ _ => apply execBudgetCheck_frame; rfl
  | portTerminal _ _ => apply execPortTerminal_frame <;> rfl
  | portDetail _ => apply execPortDetail_frame; rfl
  | eventLog _ _ _ => apply execEventLog_frame <;> rfl
  | posSet _ _ => apply execPosSet_frame; rfl
  | seqInterrupt _ => apply execSeqInterrupt_frame <;> rfl
  | seqSafeLate _ => apply execSeqSafeLate_frame <;> rfl
  | seqRestart _ _ => apply execSeqRestart_frame <;> rfl
  | seqTest _ _ => apply execSeqTest_frame <;> rfl
  | seqHalt _ _ => apply execSeqHalt_frame <;> rfl
  | seqStep _ _ _ => apply execSeqStep_frame <;> rfl
  | csRead _ _ _ => apply execCsRead_frame <;> rfl
  | csWrite _ _ => apply execCsWrite_frame <;> rfl
  | csVerify _ _ => apply execCsVerify_frame <;> rfl
  | csVerifyDone _ _ => apply execCsVerifyDone_frame <;> rfl
  | gflagWrite _ _ _ => apply execGflagWrite_frame <;> rfl
  | clrRetry _ _ => apply execClrRetry_frame <;> rfl
  | spinWatchEnd => apply execSpinWatchEnd_frame <;> rfl
  | spinAlignEnd => apply execSpinAlignEnd_frame <;> rfl
  | sprefEdge _ => apply execSprefEdge_frame <;> rfl
  | sprefLost => apply execSprefLost_frame <;> rfl
  | spinNoZeroCrossing => apply execSpinNoZeroCrossing_frame <;> rfl
  | spinupTimeout => apply execSpinupTimeout_frame <;> rfl
  | memoryRead _ => apply execMemoryRead_frame <;> rfl
  | memoryWrite _ _ _ => apply execMemoryWrite_frame <;> rfl
  | memoryPartialWrite _ _ _ _ => apply execMemoryPartialWrite_frame <;> rfl
  | scrubRead _ _ _ => apply execScrubRead_frame <;> rfl
  | lineSweepBurst _ _ _ => apply execLineSweepBurst_frame <;> rfl
  | scrubRefetch _ _ _ => apply execScrubRefetch_frame <;> rfl
  | injectArm _ => apply execInjectArm_frame <;> rfl
  | injectDisarm _ => apply execInjectDisarm_frame <;> rfl
  | cacheInvalidate _ _ => apply execCacheInvalidate_frame <;> rfl
  | cacheEnable _ _ _ => apply execCacheEnable_frame <;> rfl
  | cacheDisable _ _ _ => apply execCacheDisable_frame <;> rfl
  | cacheDrainEnd _ => apply execCacheDrainEnd_frame <;> rfl
  | evictionWriteDone _ => apply execEvictionWriteDone_frame <;> rfl
  | prefetchIssue _ _ _ _ => apply execPrefetchIssue_frame <;> rfl
  | stmGo _ _ _ => apply execStmGo_frame <;> rfl
  | stmPause _ _ => apply execStmPause_frame <;> rfl
  | stmResume _ _ => apply execStmResume_frame <;> rfl
  | stmStop _ _ _ => apply execStmStop_frame <;> rfl
  | stmBurstIssue _ => apply execStmBurstIssue_frame <;> rfl
  | stmBurstAck _ => apply execStmBurstAck_frame <;> rfl
  | stmBurstTimeout _ => apply execStmBurstTimeout_frame <;> rfl
  | stmDescEnd _ => apply execStmDescEnd_frame <;> rfl
  | stmLinkReread _ => apply execStmLinkReread_frame <;> rfl
  | stmStatusRead n => exact execStmStatusRead_frame n s
  | linkCodeword _ _ _ _ => apply execLinkCodeword_frame <;> rfl
  | linkDataFlit _ => apply execLinkDataFlit_frame <;> rfl
  | linkIdleFlit _ => apply execLinkIdleFlit_frame <;> rfl
  | linkCtrlFlit _ => apply execLinkCtrlFlit_frame <;> rfl
  | linkReplayTimer _ => apply execLinkReplayTimer_frame <;> rfl
  | linkRreg _ _ _ _ _ _ => apply execLinkRreg_frame <;> rfl
  | linkWreg _ _ _ _ _ _ => apply execLinkWreg_frame <;> rfl
  | linkWrd _ _ _ _ _ _ _ => apply execLinkWrd_frame <;> rfl
  | linkWwr _ _ _ _ _ _ => apply execLinkWwr_frame <;> rfl
  | linkDblSend _ => apply execLinkDblSend_frame; rfl
  | linkEvtSend _ => apply execLinkEvtSend_frame; rfl
  | linkMapApply _ _ => apply execLinkMapApply_frame <;> rfl
  | linkLaneRetrain _ _ => apply execLinkLaneRetrain_frame <;> rfl
  | linkEqualizeDone _ _ _ => apply execLinkEqualizeDone_frame <;> rfl
  | linkAlignDone _ => apply execLinkAlignDone_frame <;> rfl
  | linkConfigDone _ _ => apply execLinkConfigDone_frame <;> rfl
  | linkTrainTimeout _ => apply execLinkTrainTimeout_frame <;> rfl
  | linkRetrainDone _ => apply execLinkRetrainDone_frame <;> rfl
  | linkPortDown _ => apply execLinkPortDown_frame <;> rfl
  | staffHeartbeatTimeout _ => apply execStaffHeartbeatTimeout_frame <;> rfl
  | staffBootDone _ => apply execStaffBootDone_frame; rfl
  | dieHeartbeatTimeout _ => apply execDieHeartbeatTimeout_frame <;> rfl
  | eventStore => apply execEventStore_frame <;> rfl
  | opsecIncrement => apply execOpsecIncrement_frame <;> rfl
  | lifeRecordPeriodic => apply execLifeRecordPeriodic_frame; rfl
  | firstAreaProgram => apply execFirstAreaProgram_frame <;> rfl
  | calendarSet _ => apply execCalendarSet_frame <;> rfl
  | calendarClear _ => apply execCalendarClear_frame <;> rfl
  | logFreeze _ => apply execLogFreeze_frame <;> rfl
  | logThaw _ => apply execLogThaw_frame <;> rfl
  | logFreezeTimeout => apply execLogFreezeTimeout_frame <;> rfl
  | logReadSelect _ _ => apply execLogReadSelect_frame <;> rfl
  | logReadDone => apply execLogReadDone_frame <;> rfl
  | calTimebase _ _ _ => apply execCalTimebase_frame <;> rfl
  | calRefdac _ _ _ => apply execCalRefdac_frame <;> rfl
  | calAnalog _ _ _ => apply execCalAnalog_frame <;> rfl
  | calMedia _ _ _ => apply execCalMedia_frame <;> rfl
  | calClusterClosed => apply execCalClusterClosed_frame <;> rfl
  | calSessionEnd _ => apply execCalSessionEnd_frame <;> rfl
  | calStore _ => apply execCalStore_frame <;> rfl
  | calStoreDone _ _ => apply execCalStoreDone_frame <;> rfl
  | monitorSample _ _ => apply execMonitorSample_frame <;> rfl
  | foreignClockReturn _ => apply execForeignClockReturn_frame <;> rfl
  | calrefPresentChange _ => apply execCalrefPresentChange_frame <;> rfl
  | pfltRise _ => apply execPfltRise_frame; rfl
  | mcbBadReply => apply execMcbBadReply_frame <;> rfl
  | storeReloadDone _ => apply execStoreReloadDone_frame <;> rfl
  | invalidateDone _ => apply execInvalidateDone_frame <;> rfl
  | steeringHoldEnd _ => apply execSteeringHoldEnd_frame <;> rfl
  | fragmentWriteStart _ _ _ => apply execFragmentWriteStart_frame <;> rfl
  | posHit _ => apply execPosHit_frame; rfl

/-- No command adds to the queue, drops from it or reorders it. -/
theorem exec_pending (i : Instr) (s t : State) (h : exec i s = .next t) : t.pending = s.pending := by
  by_cases hi : i = .powerOnDetect
  · subst hi
    have hf : Framed (fun p => p != .pending) s (execPowerOnDetect s) := by apply execPowerOnDetect_frame <;> rfl
    exact same_of_hide (hf t h) .pending rfl
  · exact same_of_hide (exec_frame_queueAndTime i s hi t h) .pending rfl

theorem exec_time (i : Instr) (s t : State) (hi : i ≠ .powerOnDetect) (h : exec i s = .next t) :
    t.clk.time = s.clk.time :=
  same_of_hide (exec_frame_queueAndTime i s hi t h) .time rfl

/-! ### A part that is held (log 5) -/

/-- The commands that act on a part held in reset, stopped or halted (log 5). -/
def actsOnHeldPart : Instr → Bool
  | .powerOnDetect | .resetNAssert | .resetNRelease | .rootStop | .refclkGapTimeout | .refclkWindowEnd _ => true
  | _ => false

theorem State.runOn_run (s : State) (d : Nat) (f : State → State) : ∃ g, s.runOn d f = s.run g := ⟨_, rfl⟩

theorem onWord_run (m : MemAt) (s : State) (f : State → State) :
    (∃ g, onWord m s f = s.run g) ∨ onWord m s f = .fault .noSuchWord := by
  unfold onWord
  split
  · exact Or.inl ⟨f, rfl⟩
  · exact Or.inr rfl

/-- Every other command works through `State.run`, or stops at a word that no memory has. -/
theorem exec_run (i : Instr) (s : State) (h : actsOnHeldPart i = false) :
    (∃ f, exec i s = s.run f) ∨ exec i s = .fault .noSuchWord := by
  cases i
  case powerOnDetect | resetNAssert | resetNRelease | rootStop | refclkGapTimeout | refclkWindowEnd => cases h
  all_goals dsimp only [exec]
  case memoryRead | memoryWrite | memoryPartialWrite | scrubRead => exact onWord_run _ s _
  case hoistRead | hoistWrite | hoistAbort | hoistBadOpcode | cqPop | slotopFree | slotopClaim | laneRetire |
      hostWinhWrite | pcbRegRead | pcbRegWrite | seqRestart | seqTest | seqHalt | seqStep | csRead | csWrite |
      csVerify | gflagWrite | cacheInvalidate | cacheEnable | cacheDisable | stmGo | stmPause | stmResume | stmStop =>
    exact Or.inl (s.runOn_run _ _)
  all_goals exact Or.inl ⟨_, rfl⟩

theorem exec_dead (i : Instr) (s t : State) (hi : actsOnHeldPart i = false) (hs : s.live = false)
    (h : exec i s = .next t) : t = s := by
  rcases exec_run i s hi with ⟨f, hf⟩ | hf
  · rw [hf, s.run_dead f hs] at h
    cases h
    rfl
  · rw [hf] at h
    cases h

/-! ### Steps and ticks of TIME (R30, R31; log 1) -/

theorem step_cons {s : State} {c : Instr} {rest : List Instr} (h : s.pending = c :: rest) :
    step s = exec c { s with pending := rest } := by
  unfold step
  rw [h]

theorem step_nil {s : State} (h : s.pending = []) : step s = .next s.timeTick := by
  unfold step
  rw [h]

theorem State.timeTick_counting (s : State) (hc : s.clk.counting = true) (hr : s.clk.rootStopped = false) :
    s.timeTick = s.timeOn.slotsTick := by
  unfold State.timeTick
  rw [hc, hr]
  rfl

theorem State.timeTick_still (s : State) (h : s.clk.counting = false ∨ s.clk.rootStopped = true) :
    s.timeTick = s := by
  unfold State.timeTick
  rcases h with h | h <;> simp [h]

theorem State.slotsTick_idle (s : State) (h : s.ports.slotOps = []) : s.slotsTick = s := by
  unfold State.slotsTick
  rw [h]
  rfl

/-! ### Package resets (R30, R34) -/

/-- Beyond registers and recorder the part powers on in its cold state. -/
theorem execPowerOnDetect_cold (s : State) {t : State} (h : execPowerOnDetect s = .next t) :
    t.hide (fun p => decide (p ∈ [.regs, .log])) = s.coldState.hide (fun p => decide (p ∈ [.regs, .log])) := by
  cases h
  rw [State.set_frame rfl, State.resume_frame rfl rfl, State.firstDone_frame rfl]

theorem State.heldInReset_clk (s : State) : s.heldInReset.clk =
    { s.packageReset.clk with resetLow := true, rootStopped := false, monErr := false } := by
  unfold State.heldInReset
  dsimp only
  split <;> rfl

theorem State.heldInReset_not_live (s : State) : s.heldInReset.live = false := by
  unfold State.live
  rw [s.heldInReset_clk]
  rfl

theorem State.heldInReset_pin (s : State) : s.heldInReset.get TOP_RSTCAUSE_PIN = 1 := by
  unfold State.heldInReset
  dsimp only
  split
  · rw [State.get_set_other _ _ _ _ (by decide) (by decide)]
    exact State.get_set_fits _ _ 1 (by decide) (by decide)
  · exact State.get_set_fits _ _ 1 (by decide) (by decide)

/-! ### The clock monitor and the TIME replicas (R27, R29, R31) -/

theorem State.gapInWindow_same (s : State) (h : s.clk.refLost = false) : s.gapInWindow false = s := by
  unfold State.gapInWindow
  rw [← h]

theorem State.lockFalls_locked (s : State) (h : s.is TOP_CLKSTAT_ROOT_LOCK = true) :
    s.lockFalls = (s.set TOP_CLKSTAT_ROOT_LOCK 0).set TOP_CLKSTAT_LOCK_LOST 1 := if_pos h

theorem State.lockFalls_unlocked (s : State) (h : s.is TOP_CLKSTAT_ROOT_LOCK = false) : s.lockFalls = s :=
  if_neg (by rw [h]; decide)

theorem State.lockFalls_clk (s : State) : s.lockFalls.clk = s.clk := by
  cases h : s.is TOP_CLKSTAT_ROOT_LOCK
  · rw [s.lockFalls_unlocked h]
  · rw [s.lockFalls_locked h]
    rfl

/-- REF_OK clears, and a part that runs raises REFCLK_LOSS. -/
def State.refclkLossRaised (s : State) : State :=
  if s.live = true then (s.set TOP_CLKSTAT_REF_OK 0).raise srcREFCLK 0 (orgInt 0 0 0) else s.set TOP_CLKSTAT_REF_OK 0

/-- A lost REFCLK is reported first; what the report leaves of ROOT_LOCK then decides on holdover (R27). -/
theorem State.refclkLoss_eq (s : State) : s.refclkLoss =
    if s.refclkLossRaised.is TOP_CLKSTAT_ROOT_LOCK = true then
      (((s.refclkLossRaised.set TOP_CLKSTAT_ROOT_LOCK 0).set TOP_CLKSTAT_LOCK_LOST 1).set
        TOP_CLKSTAT_HOLDOVER 1).failAssumption 1 (fun _ => true)
    else s.refclkLossRaised := by
  show (if s.refclkLossRaised.is TOP_CLKSTAT_ROOT_LOCK = true then
      (s.refclkLossRaised.lockFalls.set TOP_CLKSTAT_HOLDOVER 1).failAssumption 1 (fun _ => true)
    else s.refclkLossRaised) = _
  split
  case isTrue h => rw [State.lockFalls_locked _ h]
  case isFalse => rfl

/-- A fault and its reaction leave TIME alone. -/
theorem State.raise_time (s : State) (src info origin : Nat) : (s.raise src info origin).clk.time = s.clk.time :=
  same_of_hide (m := (· != .time)) (by apply State.raise_frame <;> rfl) .time rfl

/-- A replica that differs from TIME raises TIME_MISMATCH with the difference (R31). -/
def State.replicaCompared (s : State) (d : Die) (rep : BitVec 64) : State :=
  if rep.toNat = s.clk.time then s
  else s.raise (srcTIME d) (sat32 ((rep.toNat : Int) - s.clk.time)) (orgInt 0 d 0)

theorem State.replicaCompared_time (s : State) (d : Die) (rep : BitVec 64) :
    (s.replicaCompared d rep).clk.time = s.clk.time := by
  unfold State.replicaCompared
  split
  · rfl
  · exact s.raise_time _ _ _

/-- The replica of a die reloads from TIME. -/
def State.reloadReplica (s : State) (d : Die) : State :=
  if d.val = 0 then { s with clk := { s.clk with rep0 := s.clk.time } }
  else { s with clk := { s.clk with rep1 := s.clk.time } }

theorem State.reloadReplica_eq (s : State) (d : Die) : s.reloadReplica d =
    { s with clk := { s.clk with rep0 := if d.val = 0 then s.clk.time else s.clk.rep0
                                 rep1 := if d.val = 0 then s.clk.rep1 else s.clk.time } } := by
  unfold State.reloadReplica
  split <;> rfl

theorem State.reloadReplica_rep0 (s : State) (d : Die) (h : d.val = 0) : (s.reloadReplica d).clk.rep0 = s.clk.time := by
  rw [s.reloadReplica_eq]
  exact if_pos h

theorem State.reloadReplica_rep1 (s : State) (d : Die) (h : d.val = 1) : (s.reloadReplica d).clk.rep1 = s.clk.time := by
  rw [s.reloadReplica_eq]
  exact if_neg (by omega)

theorem State.reloadReplica_regs (s : State) (d : Die) : (s.reloadReplica d).regs = s.regs := by
  rw [s.reloadReplica_eq]

theorem execTimeReplicaCompare_live (d : Die) (rep : BitVec 64) (s : State) (hs : s.live = true) :
    execTimeReplicaCompare d rep s = .next ((s.replicaCompared d rep).reloadReplica d) :=
  s.run_live _ hs

/-! ### Crossings (R38 to R42) -/

theorem State.cdcPresent_get_closed (s : State) (n v : Nat) :
    (s.set (TOP_CDC_STAT_CLK_PRESENT n) v).get (TOP_CDC_STAT_CLOSED n) = s.get (TOP_CDC_STAT_CLOSED n) :=
  s.get_set_other _ _ v (by simp [TOP_CDC_STAT_CLK_PRESENT])
    (by simp [Fld.apart, TOP_CDC_STAT_CLK_PRESENT, TOP_CDC_STAT_CLOSED])

theorem State.cdcPresent_get_timeout (s : State) (n v : Nat) :
    (s.set (TOP_CDC_STAT_CLK_PRESENT n) v).get (TOP_CDC_STAT_CDC_TIMEOUT n) = s.get (TOP_CDC_STAT_CDC_TIMEOUT n) :=
  s.get_set_other _ _ v (by simp [TOP_CDC_STAT_CLK_PRESENT])
    (by simp [Fld.apart, TOP_CDC_STAT_CLK_PRESENT, TOP_CDC_STAT_CDC_TIMEOUT])

theorem State.cdcClosed_get_timeout (s : State) (n v : Nat) :
    (s.set (TOP_CDC_STAT_CLOSED n) v).get (TOP_CDC_STAT_CDC_TIMEOUT n) = s.get (TOP_CDC_STAT_CDC_TIMEOUT n) :=
  s.get_set_other _ _ v (by simp [TOP_CDC_STAT_CLOSED])
    (by simp [Fld.apart, TOP_CDC_STAT_CLOSED, TOP_CDC_STAT_CDC_TIMEOUT])

/-- A crossing whose clock timed out: closed, its cause shown, and no foreign clock present (R39). -/
def State.closeCrossing (s : State) (n : Nat) : State :=
  (((s.set (TOP_CDC_STAT_CDC_TIMEOUT n) 1).set (TOP_CDC_STAT_CLOSED n) 1).set (TOP_CDC_STAT_CLK_PRESENT n) 0).setCross
    n { s.crossOf n with stopped := true, reopening := false }

theorem State.closeCrossing_closed (s : State) (n : Nat) : (s.closeCrossing n).get (TOP_CDC_STAT_CLOSED n) = 1 := by
  unfold State.closeCrossing
  rw [State.setCross_get, State.cdcPresent_get_closed, State.get_set_same _ _ _ (by simp [TOP_CDC_STAT_CLOSED])]
  rfl

theorem State.closeCrossing_timeout (s : State) (n : Nat) :
    (s.closeCrossing n).get (TOP_CDC_STAT_CDC_TIMEOUT n) = 1 := by
  unfold State.closeCrossing
  rw [State.setCross_get, State.cdcPresent_get_timeout, State.cdcClosed_get_timeout,
    State.get_set_same _ _ _ (by simp [TOP_CDC_STAT_CDC_TIMEOUT])]
  rfl

theorem execCdcClockTimeout_open (n : Crossing) (s : State) (hs : s.live = true) (hn : n.val < 51)
    (hc : s.is (TOP_CDC_STAT_CLOSED n) = false) (hr : (s.crossOf n).reset = false)
    (ho : (s.crossOf n).reopening = false) : execCdcClockTimeout n s =
      .next (((s.closeCrossing n).raise (srcCDC n) 0 (orgInt 0 0 0)).crossingLost n) := by
  unfold execCdcClockTimeout
  rw [s.run_live _ hs, if_neg (by simp [hc, hr, ho, hn])]
  rfl

theorem execForeignClockReturn_foreign (n : Crossing) (s : State) (hs : s.live = true) (hn : n.val < 51) :
    execForeignClockReturn n s =
      .next ((s.setCross n { s.crossOf n with stopped := false }).set (TOP_CDC_STAT_CLK_PRESENT n) 1) :=
  (s.run_live _ hs).trans (congrArg Host.Outcome.next (if_neg (Nat.not_le.mpr hn)))

theorem execCdcPulse_open (n : Crossing) (busy : Bool) (s : State) (hs : s.live = true)
    (hn : n.val < 20 ∨ (40 ≤ n.val ∧ n.val < 48) ∨ n.val = 51) (hc : s.is (TOP_CDC_STAT_CLOSED n) = false)
    (hr : (s.crossOf n).reset = false) (ho : (s.crossOf n).reopening = false) :
    execCdcPulse n busy s = .next (if busy then s.set (TOP_CDC_STAT_OVERRUN n) 1
      else if n.val < 20 then s.countSat (LNK_LANE_UNCORR_COUNT n) else s) := by
  have hpulse : (decide (n.val < 20) || decide (40 ≤ n.val) && decide (n.val < 48) || n.val == 51) = true := by
    simpa [or_assoc] using hn
  unfold execCdcPulse
  rw [s.run_live _ hs]
  simp [hpulse, hc, hr, ho]

theorem execCdcReopen_ready (n : Crossing) (s : State) (hs : s.live = true) (ho : (s.crossOf n).reopening = true)
    (hr : (s.crossOf n).reset = false) (hp : (s.crossOf n).stopped = false) :
    execCdcReopen n s = .next (s.setCross n { s.crossOf n with reopening := false }) :=
  (s.run_live _ hs).trans (congrArg Host.Outcome.next (if_pos ⟨ho, hr, hp⟩))

/-! ### The ends of block resets and masks, the fault registers and the monitors (R34, R444, R447, R448, R502) -/

theorem execBlockResetEnd_ends (b : BlockId) (s : State) (hs : s.live = true) (hr : s.resetting.contains b = true)
    (hp : s.pcsHeld b = false) (hw : s.windowAt b + windowTicks b ≤ s.clk.time) :
    execBlockResetEnd b s = .next ((s.endWindow b).blockResume b) := by
  have hend : (s.resetting.contains b && !s.pcsHeld b && decide (s.windowAt b + windowTicks b ≤ s.now)) = true := by
    rw [hr, hp, decide_eq_true (p := _ ≤ s.now) hw]
    rfl
  exact (s.run_live _ hs).trans (congrArg Host.Outcome.next (if_pos hend))

theorem execFaultMaskEnd_ends (b : BlockId) (s : State) (hs : s.live = true) (hr : s.resetting.contains b = false)
    (hp : s.pcsHeld b = false) (hw : s.windowAt b + 4 ≤ s.clk.time) :
    execFaultMaskEnd b s = .next { s with
      masked := s.masked.filter (· != b)
      clk := { s.clk with windows := s.clk.windows.filter (fun p => p.1 != b) } } := by
  have hend : (s.resetting.contains b || s.pcsHeld b || decide (s.now < s.windowAt b + 4)) = false := by
    rw [hr, hp, decide_eq_false (p := s.now < _) (Nat.not_lt.mpr hw)]
    rfl
  exact (s.run_live _ hs).trans (congrArg Host.Outcome.next (if_neg (by rw [hend]; decide)))

theorem execFltPendClear_live (o : Origin) (k : Fin 10) (v : BitVec 32) (s : State) (hs : s.live = true) :
    execFltPendClear o k v s =
      .next ((s.wr (FLT_PEND k) (s.rd (FLT_PEND k) &&& ~~~v)).logPriv o (FLT_PEND k) v.toNat 0) :=
  s.run_live _ hs

/-- The supply samples and the junction samples of one MONITOR_SAMPLE, in their order. -/
def State.monitorSamples (s : State) (mv : Vector (BitVec 12) 5) (tj : Vector (BitVec 16) 9) : State :=
  State.each (State.each s (fun v s => s.supplySample v ((mv.toList.map BitVec.toNat).getD v 0)) (List.range 5))
    (fun i s => s.junctionSample i ((tj.toList.map BitVec.toNat).getD i 0)) (List.range 9)

theorem execMonitorSample_live (mv : Vector (BitVec 12) 5) (tj : Vector (BitVec 16) 9) (s : State)
    (hs : s.live = true) : execMonitorSample mv tj s = .next (State.supplyFail
      (if (tj.toList.map BitVec.toNat).all (fun x => decide (signed 16 x < 105 * 16)) = true
        then (s.monitorSamples mv tj).set TOP_MONSTAT_TJ_ERR 0 else s.monitorSamples mv tj)) :=
  s.run_live _ hs

/-- The first-error latch and its four registers cleared (R447). -/
def State.clearFirst (s : State) : State :=
  ((((s.wr FLT_FIRST 0).wr FLT_FIRST_TLO 0).wr FLT_FIRST_THI 0).wr FLT_FIRST_INFO 0).wr FLT_FIRST_ORIGIN 0

theorem State.clearFirst_rd (s : State) (a : Nat) : s.clearFirst.rd a =
    if a ∈ [FLT_FIRST, FLT_FIRST_TLO, FLT_FIRST_THI, FLT_FIRST_INFO, FLT_FIRST_ORIGIN] then 0 else s.rd a := by
  unfold State.clearFirst
  simp only [State.rd_wr, List.mem_cons, List.not_mem_nil, or_false]
  split_ifs <;> simp_all

theorem execFltFirstClear_live (o : Origin) (s : State) (hs : s.live = true) :
    execFltFirstClear o s = .next (s.logPriv o FLT_FIRST (2 ^ 31) 0).clearFirst :=
  s.run_live _ hs

end Sys2Proof.Machine

/-! The statements on levels, clocks and crossings. -/

namespace Sys2Proof.Proofs

open Sys2Proof.Machine

/-- Settles O2: no command changes the queue it is run on, which is the rest. -/
theorem stepLeavesQueueRest : Obligations.StepLeavesQueueRest := by
  intro s t c rest hq h
  rw [step_cons hq] at h
  exact exec_pending c _ t h

/-- Settles O3: TIME is outside the frame of every command but the power-on detector, and that one starts from a fresh
clock. -/
theorem onlyPowerOnClearsTime : Obligations.OnlyPowerOnClearsTime :=
  ⟨exec_time, fun s _ h => same_of_hide (execPowerOnDetect_cold s h) .time rfl⟩

/-- Settles O47: every other command works through `State.run`, which does nothing on a part that is not live. -/
theorem heldPartIgnoresCommands : Obligations.HeldPartIgnoresCommands := by
  intro c s t hs hpon hassert hrelease hstop hgap hwin h
  have hc : actsOnHeldPart c = false := by
    cases c
    case refclkWindowEnd b => exact absurd rfl (hwin b)
    case powerOnDetect | resetNAssert | resetNRelease | rootStop | refclkGapTimeout => contradiction
    all_goals rfl
  exact exec_dead c s t hc hs h

/-- Settles O34: the frame lemma of each command, with its list of parts for the hidden ones. -/
theorem clockAndStartFrames : Obligations.ClockAndStartFrames := by
  unfold Obligations.ClockAndStartFrames
  exact
    ⟨fun _ => Framed.leaves (by apply execPowerOnDetect_frame <;> rfl),
     fun _ => Framed.leaves (by apply execResetNAssert_frame <;> rfl),
     fun _ => Framed.leaves (by apply execChipReset_frame <;> rfl),
     fun _ => Framed.leaves (by apply execResetNRelease_frame; rfl),
     fun _ _ => Framed.leaves (by apply execStartStepDone_frame <;> rfl),
     fun _ => Framed.leaves (by apply execStartPfailHoldEnd_frame <;> rfl),
     fun _ => Framed.leaves (by apply execRefclkGapTimeout_frame <;> rfl),
     fun _ _ => Framed.leaves (by apply execRefclkWindowEnd_frame <;> rfl),
     fun _ _ _ => Framed.leaves (by apply execTimeReplicaCompare_frame <;> rfl),
     fun _ _ => Framed.leaves (by apply execCdcClockTimeout_frame <;> rfl),
     fun _ => Framed.leaves (by apply execRootStop_frame <;> rfl),
     fun _ _ _ => Framed.leaves (by apply execCdcPulse_frame; rfl),
     fun _ _ => Framed.leaves (by apply execCdcReopen_frame; rfl),
     fun _ _ => Framed.leaves (by apply execBlockResetEnd_frame <;> rfl),
     fun _ _ => Framed.leaves (by apply execFaultMaskEnd_frame <;> rfl),
     fun _ _ => Framed.leaves (by apply execFltFirstClear_frame <;> rfl),
     fun _ _ _ _ => Framed.leaves (by apply execFltPendClear_frame <;> rfl),
     fun _ _ => Framed.leaves (by apply execForeignClockReturn_frame <;> rfl)⟩

/-- Settles O4: on an empty queue a step is the tick, which counts TIME and then does the slot operations' work. -/
theorem tickCountsTime : Obligations.TickCountsTime := by
  intro s hq
  rw [step_nil hq]
  refine ⟨?_, fun h => by rw [s.timeTick_still h]⟩
  rintro u rfl hc hr
  rw [s.timeTick_counting hc hr]
  exact ⟨rfl, fun hidle => congrArg _ (s.timeOn.slotsTick_idle hidle)⟩

/-- Settles O5: what a package reset keeps of TIME and the media is outside its frame; the rest is what it builds. -/
theorem packageResetsComplete : Obligations.PackageResetsComplete := by
  obtain ⟨-, hassert, hchip, -⟩ := clockAndStartFrames
  refine ⟨fun s => ⟨_, rfl, ?_⟩, fun s hlow => ?_, fun s => rfl, fun s hs hreq hin => ?_⟩
  · have hcold := execPowerOnDetect_cold s rfl
    have hclk := same_of_hide hcold .clk rfl
    exact ⟨same_of_hide hcold .time rfl, congrArg Clock.counting hclk,
      State.get_set_fits _ _ 1 (by decide) (by decide), same_of_hide hcold .mem rfl,
      same_of_hide hcold .memX rfl, same_of_hide hcold .media rfl,
      (congrArg Clock.resetLow hclk).trans rfl, (congrArg PowerFail.low (same_of_hide hcold .pf rfl)).trans rfl⟩
  · have hexec : exec .resetNAssert s = .next s.heldInReset :=
      congrArg Host.Outcome.next (if_neg (by rw [hlow]; decide))
    exact ⟨_, hexec, s.heldInReset_not_live, s.heldInReset_pin, hassert s _ hexec .time (by decide),
      hassert s _ hexec .media (by decide)⟩
  · have hexec : exec .chipReset s = .next (s.packageReset.set TOP_RSTCAUSE_CHIP 1) :=
      (s.run_live _ hs).trans (congrArg Host.Outcome.next (if_pos ⟨hreq, hin⟩))
    exact ⟨_, hexec, rfl, State.get_set_fits _ _ 1 (by decide) (by decide), hchip s _ hexec .time (by decide),
      hchip s _ hexec .media (by decide)⟩

/-- Settles O6: on the states that a clause names its command takes one path, which the lemma on that command states;
the report of a lost REFCLK comes before holdover is weighed. -/
theorem clocksAndCrossingsComplete : Obligations.ClocksAndCrossingsComplete := by
  unfold Obligations.ClocksAndCrossingsComplete
  refine ⟨?_, ?_, ?_, ?_, ?_, ?_, ?_, ?_, ?_⟩
  · rintro s u t rfl rfl
    exact ⟨congrArg (fun x : State => Host.Outcome.next (x.gapInWindow true)) s.refclkLoss_eq, fun r hr => by
      rw [hr]
      exact congrArg Host.Outcome.next (State.refclkLoss_eq _)⟩
  · intro s hlost
    exact congrArg Host.Outcome.next (if_pos hlost)
  · intro s hlost
    have hnot : ¬ s.clk.refLost = true := by rw [hlost]; decide
    exact congrArg Host.Outcome.next ((if_neg hnot).trans (by rw [s.gapInWindow_same hlost]))
  · intro s
    refine Answers.next ⟨?_, ?_, fun h => ?_, fun h => ?_⟩
    · rw [s.lockFalls_clk]
    · simp [State.errNLow]
    · rw [s.lockFalls_unlocked h]
    · rw [s.lockFalls_locked h]
  · intro d rep s hs
    refine ⟨_, execTimeReplicaCompare_live d rep s hs, fun h => ?_, fun hd => ?_, fun hd => ?_, fun h => ?_⟩
    · rw [State.replicaCompared, if_pos h, State.reloadReplica_eq]
    · rw [State.reloadReplica_rep0 _ d hd, State.replicaCompared_time]
    · rw [State.reloadReplica_rep1 _ d hd, State.replicaCompared_time]
    · rw [State.reloadReplica_regs, State.replicaCompared, if_neg h]
  · rintro n s hs hn hc hr ho u rfl
    exact ⟨s.closeCrossing_closed n, s.closeCrossing_timeout n, execCdcClockTimeout_open n s hs hn hc hr ho⟩
  · intro n s hs hn
    exact ⟨_, execForeignClockReturn_foreign n s hs hn,
      State.get_set_same _ _ _ (by simp [TOP_CDC_STAT_CLK_PRESENT]),
      congrArg Cross.stopped (s.setCross_crossOf_same n _), State.cdcPresent_get_closed _ n 1⟩
  · intro n s hs hn hc hr ho
    exact ⟨execCdcPulse_open n true s hs hn hc hr ho, execCdcPulse_open n false s hs hn hc hr ho⟩
  · intro n s hs ho hr hp
    exact execCdcReopen_ready n s hs ho hr hp

/-- Settles O7: the end of a window or mask takes its one path, a filter drops just the block, and the five cleared
registers are apart from all others. -/
theorem blocksAndFaultRegistersComplete : Obligations.BlocksAndFaultRegistersComplete := by
  unfold Obligations.BlocksAndFaultRegistersComplete
  refine ⟨?_, ?_, ?_, ?_, ?_⟩
  · intro b s hs hr hp hw
    exact execBlockResetEnd_ends b s hs hr hp hw
  · intro b s hs hr hp hw
    refine ⟨_, execFaultMaskEnd_ends b s hs hr hp hw, rfl, ?_, fun x hx => ?_⟩
    · simp
    · simp [List.contains_eq_mem, hx]
  · intro o s hs
    refine ⟨_, execFltFirstClear_live o s hs, ?_, ?_, ?_, ?_, ?_, rfl,
      fun a ha => (State.clearFirst_rd _ a).trans (if_neg ha)⟩
    all_goals exact (State.clearFirst_rd _ _).trans (if_pos (by decide))
  · intro o k v s hs
    exact execFltPendClear_live o k v s hs
  · rintro mv tj s hs u rfl
    exact execMonitorSample_live mv tj s hs

/-- Settles O46: the state after reset is a literal, and unlisted entries read as their initial values. -/
theorem resetState : Obligations.ResetState :=
  ⟨State.reset_canonical, rfl, rfl, rfl, rfl, rfl, rfl, rfl,
    fun c => ⟨rfl, rfl, by decide +revert⟩, fun _ => rfl⟩

end Sys2Proof.Proofs

/-! Slot operations, port configuration, rights, grants and the hold limit (R144 to R154). -/

namespace Sys2Proof.Machine

/-! ### The slots that an operation turns (R144, R149) -/

/-- A slot operation acts on a slot of this flag: CLAIM on FREE, FREE on HOST and POISONED. -/
def slotTurns (claim : Bool) (f : Nat) : Bool :=
  if claim then f == slotFREE else f == slotHOST || f == slotPOISONED

/-- The flag that a slot operation gives the slots it acts on. -/
def slotTurned (claim : Bool) : Nat := if claim then slotHOST else slotFREE

@[simp] theorem State.setFlag_flag (s : State) (m f i : Nat) :
    (s.setFlag m f).flag i = if i = m then f else s.flag i := by
  unfold State.setFlag
  split
  case isTrue hsame =>
    split
    · subst i
      exact hsame
    · rfl
  case isFalse => exact tget_tset 0 s.win.flags m i f

theorem State.slotRun_succ (s : State) (claim : Bool) (n m k : Nat) :
    s.slotRun claim (n + 1) m k = if slotTurns claim (s.flag m) then
      (s.setFlag m (slotTurned claim)).slotRun claim n (m + 1) k else s.slotRun claim n (m + 1) (k + 1) := by
  rw [State.slotRun]
  cases claim <;> simp [slotTurns, slotTurned]

/-- A slot operation turns the slots of its range that it acts on and keeps all other flags. -/
theorem State.slotRun_flag (claim : Bool) (n m k : Nat) (s : State) (i : Nat) :
    (s.slotRun claim n m k).1.flag i =
      if m ≤ i ∧ i < m + n ∧ slotTurns claim (s.flag i) then slotTurned claim else s.flag i := by
  induction n generalizing s m k with
  | zero => exact (if_neg fun ⟨hm, hn, _⟩ => by omega).symm
  | succ n ih =>
    rw [State.slotRun_succ]
    by_cases hm : i = m
    · subst hm
      by_cases hturn : slotTurns claim (s.flag i) <;> simp [hturn, ih]
    · have hrange : (m + 1 ≤ i ∧ i < m + 1 + n) ↔ (m ≤ i ∧ i < m + (n + 1)) := by omega
      simp only [← and_assoc] at ih ⊢
      split <;> simp only [ih, State.setFlag_flag, if_neg hm, hrange]

/-- A slot operation counts the slots of its range that it leaves. -/
theorem State.slotRun_skipped (claim : Bool) (n m k : Nat) (s : State) :
    (s.slotRun claim n m k).2 = k + (List.range n).countP (fun j => !slotTurns claim (s.flag (m + j))) := by
  induction n generalizing s m k with
  | zero => rfl
  | succ n ih =>
    have hnext : (List.range n).countP ((fun j => !slotTurns claim (s.flag (m + j))) ∘ Nat.succ) =
        (List.range n).countP (fun j => !slotTurns claim (s.flag (m + 1 + j))) :=
      congrArg (List.countP · _) (funext fun j => by simp [Nat.add_right_comm m 1 j, Nat.add_assoc])
    have hother : ∀ j, m + 1 + j ≠ m := by omega
    rw [State.slotRun_succ, List.range_succ_eq_map, List.countP_cons, List.countP_map, hnext]
    by_cases hturn : slotTurns claim (s.flag m)
    · simp [hturn, ih, hother]
    · simp [hturn, ih, Nat.add_assoc, Nat.add_comm]

/-! ### Starting a slot operation (R149; log 82) -/

/-- A slot operation set running over the range that SLOTCMD and `num` name. -/
def State.slotOpBegun (s : State) (o : Origin) (n num : Nat) (claim bad : Bool) : State :=
  { s.set (TP_SLOTRES_BUSY n) 1 with ports := { s.ports with
    slotOps := tset none s.ports.slotOps n (some ⟨claim, s.get (TP_SLOTCMD_FIRST n), num, 0, bad, orgOf o⟩) } }

/-- The first slot of a range outside the grants of a burgee. -/
def State.firstOutside (s : State) (b first num : Nat) : Option Nat :=
  ((List.range num).map (· + first)).find? (fun m => !s.granted b m)

theorem State.firstOutside_none (s : State) {b first num : Nat}
    (h : ∀ m, first ≤ m → m < first + num → s.granted b m = true) : s.firstOutside b first num = none := by
  simp only [State.firstOutside, List.find?_eq_none, List.mem_map, List.mem_range]
  rintro _ ⟨j, hj, rfl⟩
  simp [h (j + first) (by omega) (by omega)]

theorem State.firstOutside_some (s : State) {b first num m : Nat} (hfirst : first ≤ m) (hlast : m < first + num)
    (hm : s.granted b m = false) (hbefore : ∀ k, first ≤ k → k < m → s.granted b k = true) :
    s.firstOutside b first num = some m := by
  have hj : (List.range num).find? ((fun m => !s.granted b m) ∘ (· + first)) = some (m - first) := by
    simp only [List.find?_range_eq_some, Function.comp, Nat.sub_add_cancel hfirst, hm, List.mem_range]
    refine ⟨rfl, by omega, fun j hj => ?_⟩
    simp [hbefore (j + first) (by omega) (by omega)]
  rw [State.firstOutside, List.find?_map, hj]
  simp [Nat.sub_add_cancel hfirst]

section
variable (s : State) (o : Origin) {n num : Nat} (claim : Bool) (hbusy : s.is (TP_SLOTRES_BUSY n) = false)
  (hnum : num ≠ 0) (hrange : s.get (TP_SLOTCMD_FIRST n) + num ≤ 2097152)
include hbusy hnum hrange

theorem State.slotOp_granted
    (h : s.firstOutside (s.get (TPT_PORT_CFG_BURGEE n)) (s.get (TP_SLOTCMD_FIRST n)) num = none) :
    s.slotOp o n num claim = s.slotOpBegun o n num claim false := by
  have hin : ¬ (num = 0 ∨ 2097151 < s.get (TP_SLOTCMD_FIRST n) + num - 1) := by omega
  unfold State.firstOutside at h
  unfold State.slotOp State.slotOpBegun
  rw [if_neg (by rw [hbusy]; decide), if_neg hin]
  simp only [h, Option.isSome_none, State.set_ports]

theorem State.slotOp_outside {m : Nat}
    (h : s.firstOutside (s.get (TPT_PORT_CFG_BURGEE n)) (s.get (TP_SLOTCMD_FIRST n)) num = some m) :
    s.slotOp o n num claim = (s.slotOpBegun o n num claim true).viewViolation (s.get (TPT_PORT_CFG_BURGEE n)) (orgOf o)
      (slotLink m) true 2 := by
  have hin : ¬ (num = 0 ∨ 2097151 < s.get (TP_SLOTCMD_FIRST n) + num - 1) := by omega
  unfold State.firstOutside at h
  unfold State.slotOp State.slotOpBegun
  rw [if_neg (by rw [hbusy]; decide), if_neg hin]
  simp only [h, Option.isSome_some, State.set_ports]

end

/-! ### The end of a slot operation (R149; log 15) -/

theorem State.slotRun_ports (s : State) (claim : Bool) (n m k : Nat) : (s.slotRun claim n m k).1.ports = s.ports :=
  same_of_hide (State.slotRun_frame (fm := fun x => decide (x = .win)) rfl s claim n m k) .ports rfl

theorem State.slotGo_bad {s : State} {n : Nat} {op : SlotOp} (h : tget none s.ports.slotOps n = some op)
    (hbad : op.bad = true) (k : Nat) : s.slotGo n k = s := by
  unfold State.slotGo
  simp only [h, hbad, if_true]

/-- An operation with at most `k` slots left does them all. -/
theorem State.slotGo_last {s : State} {n : Nat} {op : SlotOp} (h : tget none s.ports.slotOps n = some op)
    (hbad : op.bad = false) {k : Nat} (hk : op.left ≤ k) :
    s.slotGo n k = { (s.slotRun op.claim op.left op.next op.skipped).1 with ports := { s.ports with
      slotOps := tset none s.ports.slotOps n (some { op with
        next := op.next + op.left, left := 0, skipped := (s.slotRun op.claim op.left op.next op.skipped).2 }) } } := by
  unfold State.slotGo
  simp only [h, hbad, Bool.false_eq_true, if_false, Nat.min_eq_right hk, Nat.sub_self, State.slotRun_ports]

theorem execSlotopComplete_refused (n : TaskPort) (s : State) {op : SlotOp} (hs : s.live = true)
    (h : tget none s.ports.slotOps n.val = some op) (hbad : op.bad = true) :
    execSlotopComplete n s = .next (((State.set { s with ports := { s.ports with
      slotOps := tset none s.ports.slotOps n.val none } } (TP_SLOTRES_BUSY n) 0).set (TP_SLOTRES_RESULT n) 1).set
        (TP_SLOTRES_SKIPPED n) 0) := by
  unfold execSlotopComplete
  rw [State.run_live s _ hs]
  simp only [h, hbad, State.slotGo_bad h hbad, Bool.not_true, Bool.false_and, Bool.false_eq_true, if_false,
    Option.getD_some, if_true]

theorem execSlotopComplete_done (n : TaskPort) (s : State) {op : SlotOp} (hs : s.live = true)
    (h : tget none s.ports.slotOps n.val = some op) (hbad : op.bad = false) (hleft : op.left ≤ 256) :
    execSlotopComplete n s = .next ((((State.set { (s.slotRun op.claim op.left op.next op.skipped).1 with
      ports := { s.ports with slotOps := tset none s.ports.slotOps n.val none } } (TP_SLOTRES_BUSY n) 0).set
        (TP_SLOTRES_RESULT n) (if (s.slotRun op.claim op.left op.next op.skipped).2 = 0 then 0 else 2)).set
          (TP_SLOTRES_SKIPPED n) (s.slotRun op.claim op.left op.next op.skipped).2)) := by
  have hgone : ∀ v, tset none (tset none s.ports.slotOps n.val v) n.val none = tset none s.ports.slotOps n.val none :=
    Tab.put_put_unlisted (fun _ => none) s.ports.slotOps n.val
  unfold execSlotopComplete
  rw [State.run_live s _ hs]
  simp only [h, hbad, State.slotGo_last h hbad hleft, Nat.not_lt.mpr hleft, decide_false, Bool.not_false,
    Bool.and_false, Bool.false_eq_true, if_false, tget_tset_same, Option.getD_some, hgone]

/-! ### Port configuration (R131, R153) -/

theorem State.portCfg_enables (s : State) (o : Origin) (n v : Nat) (hoff : s.is (TPT_PORT_CFG_ENABLE n) = false)
    (hdrained : s.draining n = false) (hen : bitAt v 31 = true) (hburgee : bitsOf v 0 12 ≠ 0)
    (hdepth : bitsOf v 12 9 ≠ 0) (hmax : bitsOf v 12 9 ≤ 256)
    (hcredit : s.get (TPT_CREDIT_CREDITED (portDie n)) + 2 * bitsOf v 12 9 ≤ 98304) :
    s.portCfg o n v = State.event ((s.wr (TPT_PORT_CFG n)
      (BitVec.ofNat 32 (bitsOf v 0 21 + bitsOf v 31 1 * 2 ^ 31))).set (TPT_CREDIT_CREDITED (portDie n))
        (s.get (TPT_CREDIT_CREDITED (portDie n)) + 2 * bitsOf v 12 9)) (orgOf o) 0x24
      [n, (s.rd (TPT_PORT_CFG n)).toNat, bitsOf v 0 21 + bitsOf v 31 1 * 2 ^ 31, 0] := by
  have hrange : ¬ (bitsOf v 12 9 = 0 ∨ 256 < bitsOf v 12 9) := by omega
  have hpool := Nat.not_lt.mpr hcredit
  unfold State.portCfg
  simp [hoff, hdrained, hen, hburgee, hrange, hpool]

/-! ### Rights (R154) -/

/-- A rights command set running. -/
def State.rightsBegun (s : State) (o : Origin) (op : Nat) : State :=
  State.set { s with ports := { s.ports with rcmd := some ⟨op, 0, orgOf o⟩ } } TPT_RSTAT_BUSY 1

theorem State.rightsCmd_idle (s : State) (o : Origin) {op : Nat} (hbusy : s.is TPT_RSTAT_BUSY = false)
    (hop : op ≠ 0) :
    s.rightsCmd o op = if op = 1 then (s.rightsBegun o op).logPriv o TPT_RCMD 1 0 else s.rightsBegun o op := by
  unfold State.rightsCmd
  rw [if_neg (by rw [hbusy]; decide), if_neg hop]
  rfl

/-- The running rights command ended, before its effect. -/
def State.rightsEnded (s : State) : State :=
  State.set { s with ports := { s.ports with rcmd := none } } TPT_RSTAT_BUSY 0

theorem State.rightsEnded_get (s : State) {x : Fld} (h : x.addr ≠ TPT_RSTAT) : s.rightsEnded.get x = s.get x :=
  State.get_set_reg _ TPT_RSTAT_BUSY x 0 h

theorem State.rightsEnded_rights (s : State) : s.rightsEnded.ports.rights = s.ports.rights := by
  rw [State.rightsEnded, State.set_ports]

theorem State.rightsEnded_selected (s : State) : s.rightsEnded.get TPT_RSEL_ENTRY = s.get TPT_RSEL_ENTRY :=
  s.rightsEnded_get (by decide)

theorem State.rightsEnded_capacity (s : State) : s.rightsEnded.capacity = s.capacity := by
  unfold State.capacity
  rw [s.rightsEnded_get (by decide), s.rightsEnded_get (by decide)]

theorem State.rightsEnded_staged (s : State) : s.rightsEnded.stagedRights = s.stagedRights := by
  unfold State.stagedRights State.is
  simp (disch := decide) only [State.rightsEnded_get]

/-- A staged entry that SET refuses: no block, a last block past the capacity, or burgee 0. -/
abbrev State.stagedBad (s : State) : Prop :=
  s.stagedRights.cnt = 0 ∨ s.capacity < s.stagedRights.base + s.stagedRights.cnt - 1 ∨ s.stagedRights.burgee = 0

theorem State.rightsEnded_bad (s : State) : s.rightsEnded.stagedBad ↔ s.stagedBad := by
  unfold State.stagedBad
  rw [s.rightsEnded_staged, s.rightsEnded_capacity]

/-- A rights entry shown in the staging registers. -/
def State.showRights (s : State) (e : Rights) : State :=
  ((((((s.set TPT_RBASE_LO_BASE_LO e.base).set TPT_RBASE_HI_BASE_HI (e.base / 2 ^ 32)).set TPT_RCNT_LO_CNT_LO
    e.cnt).set TPT_RCNT_HI_CNT_HI (e.cnt / 2 ^ 32)).set TPT_ROWN_BURGEE e.burgee).set TPT_ROWN_READ
    (if e.rd then 1 else 0)).set TPT_ROWN_WRITE (if e.wr then 1 else 0)

/-- A rights entry replaced. -/
def State.putRights (s : State) (i : Nat) (e : Rights) : State :=
  { s with ports := { s.ports with rights := tset Rights.init s.ports.rights i e } }

/-- What a rights command does at its end, on the entry that TPT.RSEL names. -/
def State.rightsEffect (s : State) (r : Running) : State :=
  if r.op = 1 then (s.showRights (tget Rights.init s.ports.rights (s.get TPT_RSEL_ENTRY))).set TPT_RSTAT_ERR 0
  else if r.op = 2 then
    ((if s.stagedBad then s else s.putRights (s.get TPT_RSEL_ENTRY) s.stagedRights).set TPT_RSTAT_ERR
      (if s.stagedBad then 1 else 0)).rightsEvent r.origin 2 (if s.stagedBad then 1 else 0)
  else ((s.putRights (s.get TPT_RSEL_ENTRY) Rights.init).set TPT_RSTAT_ERR 0).rightsEvent r.origin 3 0

theorem execRightsCmdComplete_running {s : State} {r : Running} (hs : s.live = true) (hr : s.ports.rcmd = some r) :
    execRightsCmdComplete s = .next (s.rightsEnded.rightsEffect r) := by
  unfold execRightsCmdComplete State.rightsEffect
  rw [State.run_live s _ hs]
  simp only [hr]
  rfl

theorem State.rightsEnded_read (s : State) {r : Running} (hop : r.op = 1) : s.rightsEnded.rightsEffect r =
    (s.rightsEnded.showRights (tget Rights.init s.ports.rights (s.get TPT_RSEL_ENTRY))).set TPT_RSTAT_ERR 0 := by
  rw [State.rightsEffect, if_pos hop, s.rightsEnded_rights, s.rightsEnded_selected]

theorem State.rightsEnded_set (s : State) {r : Running} (hop : r.op = 2) (h : ¬ s.stagedBad) :
    s.rightsEnded.rightsEffect r = ((s.rightsEnded.putRights (s.get TPT_RSEL_ENTRY) s.stagedRights).set
      TPT_RSTAT_ERR 0).rightsEvent r.origin 2 0 := by
  rw [State.rightsEffect, if_neg (by omega), if_pos hop]
  simp only [s.rightsEnded_bad, h, if_false, s.rightsEnded_selected, s.rightsEnded_staged]

theorem State.rightsEnded_refused (s : State) {r : Running} (hop : r.op = 2) (h : s.stagedBad) :
    s.rightsEnded.rightsEffect r = (s.rightsEnded.set TPT_RSTAT_ERR 1).rightsEvent r.origin 2 1 := by
  rw [State.rightsEffect, if_neg (by omega), if_pos hop]
  simp only [s.rightsEnded_bad, h, if_true]

theorem State.rightsEnded_clear (s : State) {r : Running} (hop : r.op = 3) : s.rightsEnded.rightsEffect r =
    ((s.rightsEnded.putRights (s.get TPT_RSEL_ENTRY) Rights.init).set TPT_RSTAT_ERR 0).rightsEvent r.origin 3 0 := by
  rw [State.rightsEffect, if_neg (by omega), if_neg (by omega), s.rightsEnded_selected]

/-! ### Grants and the hold limit (R147, R150) -/

/-- A grant command set running. -/
def State.grantBegun (s : State) (o : Origin) (op : Nat) : State :=
  State.set { s with win := { s.win with gcmd := some ⟨op, 0, orgOf o⟩ } } WIN_GSTAT_BUSY 1

theorem State.grantCmd_idle (s : State) (o : Origin) {op : Nat} (hbusy : s.is WIN_GSTAT_BUSY = false) (hop : op ≠ 0) :
    s.grantCmd o op = if op = 1 then (s.grantBegun o op).logPriv o WIN_GCMD 1 0 else s.grantBegun o op := by
  unfold State.grantCmd
  rw [if_neg (by rw [hbusy]; decide), if_neg hop]
  rfl

/-- The running grant command ended, before its effect. -/
def State.grantEnded (s : State) : State := State.set { s with win := { s.win with gcmd := none } } WIN_GSTAT_BUSY 0

/-- The state and the error code that SET, for operation 2, or else REVOKE answers on the entry that WIN.GSEL names. -/
def State.grantAnswer (s : State) (op : Nat) : State × Nat :=
  if op = 2 then s.grantSet (s.get WIN_GSEL_ENTRY)
    ⟨true, s.get WIN_GBASE_BASE, s.get WIN_GCNT_NUM, s.get WIN_GOWN_BURGEE⟩
  else s.grantRevoke (s.get WIN_GSEL_ENTRY)

/-- A grant shown in the staging registers. -/
def State.showGrant (s : State) (g : Grant) : State :=
  (((s.set WIN_GBASE_BASE g.base).set WIN_GCNT_NUM g.num).set WIN_GOWN_BURGEE g.burgee).set WIN_GOWN_VALID
    (if g.valid then 1 else 0)

/-- What a grant command does at its end. -/
def State.grantEffect (s : State) (r : Running) : State :=
  if r.op = 1 then (s.showGrant (tget Grant.init s.win.grants (s.get WIN_GSEL_ENTRY))).set WIN_GSTAT_ERR 0
  else ((s.grantAnswer r.op).1.set WIN_GSTAT_ERR (s.grantAnswer r.op).2).grantEvent r.origin r.op (s.grantAnswer r.op).2

theorem execGrantCmdComplete_running {s : State} {r : Running} (hs : s.live = true) (hr : s.win.gcmd = some r) :
    execGrantCmdComplete s = .next (s.grantEnded.grantEffect r) := by
  unfold execGrantCmdComplete State.grantEffect
  rw [State.run_live s _ hs]
  simp only [hr]
  rfl

theorem execHoldSweep_due {s : State} (hs : s.live = true) (hlimit : s.get WIN_HOLD_LIMIT_MS ≠ 0)
    (hdue : s.win.sweptAt + s.sweepPeriod ≤ s.clk.time) :
    execHoldSweep s = .next (State.each { s with win := { s.win with sweptAt := s.clk.time } }
      (fun m s => s.visit m) (s.win.flags.map Prod.fst)) :=
  (s.run_live _ hs).trans (congrArg Host.Outcome.next (if_neg (not_or.mpr ⟨hlimit, Nat.not_lt.mpr hdue⟩)))

end Sys2Proof.Machine

/-! The statements on slot operations, port configuration, rights, grants and the hold limit. -/

namespace Sys2Proof.Proofs

open Sys2Proof.Machine

/-- Settles O52: the run over the range, read slot by slot for CLAIM and for FREE. -/
theorem slotRunChangesFlags : Obligations.SlotRunChangesFlags := by
  unfold Obligations.SlotRunChangesFlags
  intro claim n m k s
  refine ⟨fun i => ?_, ?_⟩
  · rw [State.slotRun_flag]
    cases claim <;> simp [slotTurns, slotTurned]
  · rw [State.slotRun_skipped, List.countP_eq_length_filter]
    cases claim <;> simp [slotTurns, bne]

/-- Settles O9: each command takes the one path that its premises leave open, which the lemma on that command states. -/
theorem windowAndRightsComplete : Obligations.WindowAndRightsComplete := by
  unfold Obligations.WindowAndRightsComplete
  refine ⟨?_, ?_, ?_, ?_, ?_, ?_, ?_, ?_, ?_⟩
  · intro o n num s u hs hdie hbusy hnum hrange hu
    have hfree : exec (.slotopFree o n num) s = .next (s.slotOp o n num false) :=
      s.runOn_live _ (fun s => s.slotOp o n num false) hs hdie
    have hclaim : exec (.slotopClaim o n num) s = .next (s.slotOp o n num true) :=
      s.runOn_live _ (fun s => s.slotOp o n num true) hs hdie
    rw [hfree, hclaim]
    refine ⟨fun hg => ?_, fun m hfirst hlast hm hbefore => ?_⟩
    · have hin := s.firstOutside_none hg
      rw [s.slotOp_granted o false hbusy hnum hrange hin, s.slotOp_granted o true hbusy hnum hrange hin, hu, hu]
      exact ⟨rfl, rfl⟩
    · have hout := s.firstOutside_some hfirst hlast hm hbefore
      rw [s.slotOp_outside o false hbusy hnum hrange hout, s.slotOp_outside o true hbusy hnum hrange hout, hu, hu]
      exact ⟨rfl, rfl⟩
  · intro n s op hs hop
    refine ⟨?_, fun hbad => execSlotopComplete_refused n s hs hop hbad⟩
    rintro hbad hleft u rfl
    exact execSlotopComplete_done n s hs hop hbad hleft
  · rintro o n v s hs hoff hdrained - hen hburgee hdepth hmax hcredit w rfl
    exact (s.run_live (fun s => s.portCfg o n v.toNat) hs).trans (congrArg Host.Outcome.next
      (s.portCfg_enables o n v.toNat hoff hdrained hen hburgee hdepth hmax hcredit))
  · intro o s u hs hbusy hu
    have hcmd : ∀ op, op ≠ 0 → s.run (fun s => s.rightsCmd o op) =
        .next (if op = 1 then (u op).logPriv o TPT_RCMD 1 0 else u op) := fun op hop => by
      rw [s.run_live _ hs, s.rightsCmd_idle o hbusy hop, hu]
      rfl
    exact ⟨hcmd 1 (by decide), hcmd 2 (by decide), hcmd 3 (by decide)⟩
  · rintro s u r e hs hr rfl rfl
    have hrun : exec .rightsCmdComplete s = .next (s.rightsEnded.rightsEffect r) := execRightsCmdComplete_running hs hr
    rw [hrun]
    refine ⟨fun hop => congrArg _ (s.rightsEnded_read hop), fun hop hcnt hlast hburgee => ?_,
      fun hop hbad => congrArg _ (s.rightsEnded_refused hop hbad), fun hop => congrArg _ (s.rightsEnded_clear hop)⟩
    have hgood : ¬ s.stagedBad := by
      rintro (h | h | h) <;> omega
    exact congrArg _ (s.rightsEnded_set hop hgood)
  · intro o s u hs hbusy hu
    have hcmd : ∀ op, op ≠ 0 → s.run (fun s => s.grantCmd o op) =
        .next (if op = 1 then (u op).logPriv o WIN_GCMD 1 0 else u op) := fun op hop => by
      rw [s.run_live _ hs, s.grantCmd_idle o hbusy hop, hu]
      rfl
    exact ⟨hcmd 1 (by decide), hcmd 2 (by decide), hcmd 3 (by decide)⟩
  · rintro s u r q g hs hr rfl rfl rfl
    have hrun : exec .grantCmdComplete s = .next (s.grantEnded.grantEffect r) := execGrantCmdComplete_running hs hr
    rw [hrun]
    exact ⟨fun hop => congrArg _ (if_pos hop), fun hop => congrArg _ (if_neg (by omega))⟩
  · intro s hs hlimit hdue
    exact execHoldSweep_due hs hlimit hdue
  · intro o v s hs
    exact s.run_live (fun s => s.holdWrite o v.toNat) hs

end Sys2Proof.Proofs

/-! The motor command bus: what a cycle sends, which reply ends an exchange, register accesses and the move of the
master (R184 to R191). -/

namespace Sys2Proof.Machine

/-- A reply with SEQ `n` reaches the master of a running part and meets the oldest exchange `q`, ahead of `qs`: over a
crossing that is not closed, on a die in service (R39, R185, R189). -/
structure State.MeetsReply (s : State) (q : McbFrame) (qs : List McbFrame) (n : Fin 16) : Prop where
  live : s.live = true
  flight : s.mcb.flight = q :: qs
  seq : q.seq = n.val
  crossing : s.is (TOP_CDC_STAT_CLOSED (48 + s.get LOOP_MCB_STAT_MASTER)) = false
  die : s.dieIsLost (s.get LOOP_MCB_STAT_MASTER) = false

/-! ### Cycles (R185, R187) -/

theorem execMcbCycle_turn (drive angle : BitVec 12) (s : State) (hs : s.live = true)
    (hup : s.is LOOP_MCB_STAT_UP = true) (hcycle : s.clk.time % 50 = 0)
    (hdie : s.dieIsLost (s.get LOOP_MCB_STAT_MASTER) = false) :
    execMcbCycle drive angle s = .next (s.mcbTurn (s.clk.time / 50) drive.toNat angle.toNat) := by
  unfold execMcbCycle
  rw [s.run_live _ hs]
  simp only [State.now, hup, hcycle, hdie, beq_self_eq_true, Bool.not_false, Bool.and_self, if_true]

/-- In a cycle that is not the spindle's own, with no SPMODE waiting, the oldest VCM frame goes out. -/
theorem State.mcbTurn_vcm (s : State) {k : Nat} (drive angle : Nat) {q : McbFrame} {qs : List McbFrame}
    (hsp : s.mcb.spmode = none) (hk : k % 16 ≠ 0) (hv : s.mcb.vcm = q :: qs) : s.mcbTurn k drive angle =
      State.parkDone { s with mcb := { s.mcb with
        vcm := qs, flight := s.mcb.flight ++ [{ q with seq := k % 16 }]
        line := mcbBits q.kind.code q.target (k % 16) q.payload } } := by
  have hturn : (k % 16 == 0) = false := beq_false_of_ne hk
  simp only [State.mcbTurn, hsp, hturn, Bool.false_eq_true, if_false, State.mcbOther, hv, State.mcbSend, McbFrame.bits]

/-- An SPMODE frame of the power-fail sequence takes the next cycle. -/
theorem State.mcbTurn_pf (s : State) (k drive angle : Nat) {q : McbFrame} (hsp : s.mcb.spmode = some q)
    (hpf : q.pf = true) : s.mcbTurn k drive angle = { s with mcb := { s.mcb with
      spmode := none, flight := s.mcb.flight ++ [{ q with seq := k % 16 }]
      line := mcbBits q.kind.code q.target (k % 16) q.payload } } := by
  simp only [State.mcbTurn, hsp, hpf, Bool.true_or, if_true, State.mcbSend, McbFrame.bits]

/-! ### Replies (R186, R189) -/

/-- The oldest exchange taken off, with a number of failures in a row. -/
def State.mcbTaken (s : State) (qs : List McbFrame) (fails : Nat) : State :=
  { s with mcb := { s.mcb with flight := qs, fails := fails } }

/-- A failed exchange of a frame that is not resent: it is taken off and counted. -/
def State.mcbMissed (s : State) (qs : List McbFrame) : State :=
  (s.mcbTaken qs (s.mcb.fails + 1)).count LOOP_MCB_FAILS_COUNT

section
variable {s : State} {q : McbFrame} {qs : List McbFrame}

theorem State.mcbOk_oldest (hf : s.mcb.flight = q :: qs) : s.mcbOk = s.mcbTaken qs 0 := by
  simp only [State.mcbOk, hf, List.drop_succ_cons, List.drop_zero, State.mcbTaken]

/-- VCM, SPIN and NOP frames are not resent; the 64th failure in a row loses the bus (R189). -/
theorem State.mcbFail_unresent (hf : s.mcb.flight = q :: qs)
    (hk : q.kind = .vcm ∨ q.kind = .spin ∨ q.kind = .nop) :
    s.mcbFail = if s.mcb.fails + 1 = 64 then (s.mcbMissed qs).motorLost else s.mcbMissed qs := by
  have hretry : (q.kind.eqb .spmode || q.kind.eqb .wreg || q.kind.eqb .rreg) = false := by
    rcases hk with hk | hk | hk <;> rw [hk] <;> rfl
  simp only [State.mcbFail, hf, hretry, Bool.not_false, if_true, State.mcbMissed, State.mcbTaken]

variable {n : Fin 16} (h : s.MeetsReply q qs n)
include h

theorem State.MeetsReply.run_fromDriver (f : McbFrame → State → State) :
    s.run (fun s => s.fromDriver n.val f) = .next (f q s) := by
  rw [s.run_live _ h.live]
  simp only [State.fromDriver, h.flight, h.seq, h.crossing, h.die, ne_eq, not_true_eq_false, Bool.false_eq_true,
    or_self, if_false]

theorem State.MeetsReply.mcbAck (echo : BitVec 24) (hecho : q.payload = echo.toNat)
    (hk : q.kind = .spmode ∨ q.kind = .wreg ∨ q.kind = .nop) :
    execMcbAck n echo s = .next ((s.mcbTaken qs 0).mcbRegEnd q) := by
  have hacked : (q.kind.eqb .spmode || q.kind.eqb .wreg || q.kind.eqb .nop) = true := by
    rcases hk with hk | hk | hk <;> rw [hk] <;> rfl
  unfold execMcbAck
  rw [h.run_fromDriver]
  simp only [hacked, hecho, beq_self_eq_true, Bool.and_self, if_true, State.mcbOk_oldest h.flight]

theorem State.MeetsReply.vcmMeas (c : Cluster) (cur emf : BitVec 12) (hk : q.kind = .vcm) (hc : q.target = c.val) :
    execVcmMeas c n cur emf s = .next { s with mcb := { s.mcb with
      flight := qs, fails := 0, meas := tset (0, 0) s.mcb.meas c (cur.toNat, emf.toNat) } } := by
  unfold execVcmMeas
  rw [h.run_fromDriver]
  simp only [hk, hc, McbKind.eqb, decide_true, beq_self_eq_true, Bool.and_self, if_true, State.mcbOk_oldest h.flight,
    State.mcbTaken]

/-- The sample of a SPIN reply is stored; a zero crossing it reports goes to a spindle loop that runs (R186, R353). -/
theorem State.MeetsReply.spinMeas (emf : BitVec 12) (phase : Fin 3) (vbus : BitVec 10) (zero : Option (Bool × Fin 16))
    (hk : q.kind = .spin) {v : State} (hv : v = { s with mcb := { s.mcb with
      flight := qs, fails := 0, spin := (emf.toNat, phase.val, vbus.toNat) } }) :
    execSpinMeas n emf phase vbus zero s = .next (match zero with
      | none => v
      | some (up, k) => if s.spinRuns then v.spinZero up (16 * s.clk.time + k.val) else v) := by
  subst hv
  unfold execSpinMeas
  rw [h.run_fromDriver]
  simp only [hk, McbKind.eqb, decide_true, if_true, State.mcbOk_oldest h.flight, State.mcbTaken]
  cases zero <;> rfl

theorem State.MeetsReply.mcbRdata (addr : BitVec 8) (data : BitVec 16) (hk : q.kind = .rreg)
    (haddr : q.payload = addr.toNat) :
    execMcbRdata n addr data s =
      .next (((s.mcbTaken qs 0).set LOOP_MCB_REG_BUSY 0).set LOOP_MCB_REG_DATA data.toNat) := by
  unfold execMcbRdata
  rw [h.run_fromDriver]
  simp only [hk, haddr, McbKind.eqb, decide_true, beq_self_eq_true, Bool.and_self, if_true, State.mcbOk_oldest h.flight,
    State.mcbRegEnd, Bool.or_true]

theorem State.MeetsReply.mcbFault (payload : BitVec 24) : execMcbFault n payload s =
    .next ((((s.mcbTaken qs 0).mcbAgain q).set LOOP_MCB_FCODE_FAULT payload.toNat).set LOOP_MCB_STAT_DRV_FAULT 1) := by
  unfold execMcbFault
  rw [h.run_fromDriver]
  simp only [State.mcbOk_oldest h.flight]

theorem State.MeetsReply.mcbNak : execMcbNak n s = .next s.mcbFail := h.run_fromDriver _

end

theorem State.mcbRegEnd_wreg (s : State) {q : McbFrame} (hk : q.kind = .wreg) :
    s.mcbRegEnd q = s.set LOOP_MCB_REG_BUSY 0 := if_pos (by rw [hk]; rfl)

theorem State.mcbRegEnd_other (s : State) {q : McbFrame} (hk : q.kind = .spmode ∨ q.kind = .nop) :
    s.mcbRegEnd q = s := if_neg (by rcases hk with hk | hk <;> rw [hk] <;> decide)

/-! ### Register access (R187, R189) -/

/-- No register depends on the state of the motor bus. -/
theorem State.get_with_mcb (s : State) (m : Mcb) (x : Fld) : ({ s with mcb := m } : State).get x = s.get x := rfl

/-- The frame that a register access of the driver makes pending. -/
def mcbRegFrame (op addr data : Nat) : McbFrame :=
  if op = 2 then ⟨.wreg, 0, addr + data * 2 ^ 8, 0, 0, false⟩ else ⟨.rreg, 0, addr, 0, 0, false⟩

/-- A register access of the driver logged, with its address and data shown. -/
def State.mcbRegShown (s : State) (o : Origin) (op addr data : Nat) : State :=
  ((s.logPriv o LOOP_MCB_REG (addr + data * 2 ^ 8 + op * 2 ^ 24) 0).set LOOP_MCB_REG_ADDR addr).set
    LOOP_MCB_REG_DATA data

/-- A register access that finds none under way is shown and waits, with BUSY set. -/
theorem State.mcbReg_idle (s : State) (o : Origin) (op addr data : Nat) (hbusy : s.is LOOP_MCB_REG_BUSY = false) :
    s.mcbReg o op addr data = State.set { s.mcbRegShown o op addr data with
      mcb := { s.mcb with reg := some (mcbRegFrame op addr data) } } LOOP_MCB_REG_BUSY 1 := by
  unfold State.mcbReg State.mcbRegShown mcbRegFrame
  simp only [hbusy, Bool.false_eq_true, if_false, State.set_mcb, State.logPriv_mcb]

section
variable (s : State) (o : Origin) (op addr data : Nat) (hbusy : s.is LOOP_MCB_REG_BUSY = false)
include hbusy

theorem State.mcbReg_busy : (s.mcbReg o op addr data).get LOOP_MCB_REG_BUSY = 1 := by
  rw [s.mcbReg_idle o op addr data hbusy]
  exact State.get_set_fits _ _ 1 (by decide) (by decide)

theorem State.mcbReg_shown {x : Fld} (h : LOOP_MCB_REG_BUSY.apart x) :
    (s.mcbReg o op addr data).get x = (s.mcbRegShown o op addr data).get x := by
  rw [s.mcbReg_idle o op addr data hbusy, State.get_set_other _ _ _ _ (by decide) h]
  exact State.get_with_mcb _ _ x

theorem State.mcbReg_addr (h : addr < 2 ^ 8) : (s.mcbReg o op addr data).get LOOP_MCB_REG_ADDR = addr := by
  rw [s.mcbReg_shown o op addr data hbusy (by decide), State.mcbRegShown,
    State.get_set_other _ _ _ _ (by decide) (by decide)]
  exact State.get_set_fits _ _ _ (by decide) h

theorem State.mcbReg_data (h : data < 2 ^ 16) : (s.mcbReg o op addr data).get LOOP_MCB_REG_DATA = data := by
  rw [s.mcbReg_shown o op addr data hbusy (by decide), State.mcbRegShown]
  exact State.get_set_fits _ _ _ (by decide) h

theorem State.mcbReg_mcb :
    (s.mcbReg o op addr data).mcb = { s.mcb with reg := some (mcbRegFrame op addr data) } := by
  rw [s.mcbReg_idle o op addr data hbusy, State.set_mcb]

end

theorem execMcbRegRead_live (o : Origin) (addr : BitVec 8) (s : State) (hs : s.live = true) :
    execMcbRegRead o addr s = .next (s.mcbReg o 1 addr.toNat (s.get LOOP_MCB_REG_DATA)) := s.run_live _ hs

theorem execMcbRegWrite_live (o : Origin) (addr : BitVec 8) (data : BitVec 16) (s : State) (hs : s.live = true) :
    execMcbRegWrite o addr data s = .next (s.mcbReg o 2 addr.toNat data.toNat) := s.run_live _ hs

/-! ### The master (R184, R191) -/

theorem execMasterTakeover_lost (s : State) (hs : s.live = true) (hdie : s.dieIsLost 0 = true)
    (hmaster : s.is LOOP_MCB_STAT_MASTER = false) : execMasterTakeover s =
      .next (if s.is (TOP_CDC_STAT_CLOSED 49) then (s.set LOOP_MCB_STAT_MASTER 1).motorLost
        else s.set LOOP_MCB_STAT_MASTER 1) := by
  have hclosed : (s.set LOOP_MCB_STAT_MASTER 1).is (TOP_CDC_STAT_CLOSED 49) = s.is (TOP_CDC_STAT_CLOSED 49) :=
    congrArg (· != 0) (s.get_set_reg _ _ _ (by decide))
  unfold execMasterTakeover
  rw [s.run_live _ hs, if_pos ⟨hdie, hmaster⟩]
  simp only [hclosed]

end Sys2Proof.Machine

/-! The preamp control bus: what is sent, which reply ends an exchange, register accesses and preamp faults (R172 to
R183). -/

namespace Sys2Proof.Machine

/-! ### Sending (R173, R177) -/

/-- A frame goes out with the bus's SEQ; only an MA frame has no reply to wait for. -/
theorem State.pcbSend_pcbOf (s : State) (c : Nat) (q : PcbFrame) :
    (s.pcbSend c q).pcbOf c = { s.pcbOf c with
      seqNo := ((s.pcbOf c).seqNo + 1) % 16
      wait := if q.kind = .ma then (s.pcbOf c).wait else (s.pcbOf c).wait ++ [{ q with seq := (s.pcbOf c).seqNo }]
      line := pcbBits q.kind.code (s.pcbOf c).seqNo q.words } := by
  simp only [State.pcbSend, State.setPcb_pcbOf_same, PcbKind.eqb, decide_eq_true_eq, PcbFrame.bits]

theorem State.dropHeat_none (s : State) (c : Nat) (h : (s.pcbOf c).queue.any PcbFrame.reheat = false) :
    s.dropHeat c = s := if_neg (by rw [h]; decide)

theorem State.fillFrame_mode (s : State) (c : Nat) {q : PcbFrame} (h : q.kind = .mode) :
    s.fillFrame c q = { q with words := s.modeWords c q } := by
  unfold State.fillFrame
  rw [h]

/-- The payload of a MODE frame depends on the frames outstanding, not on those waiting. -/
theorem State.modeWords_setPcb (s : State) (c : Nat) {x : Pcb} (q : PcbFrame) (h : x.wait = (s.pcbOf c).wait) :
    (s.setPcb c x).modeWords c q = s.modeWords c q := by
  simp only [State.modeWords, State.modeOf, State.setPcb_pcbOf_same, State.setPcb_get, h]

section
variable (c : Cluster) (fits : Bool) (s : State) (hs : s.live = true) (hup : s.is (SRV_PCB_STAT_UP c) = true)
include hs hup

theorem execPcbFrameSend_ma (hma : (s.pcbOf c).maDue = true) : execPcbFrameSend c fits s =
    .next (((s.setPcb c { s.pcbOf c with maDue := false }).pcbSend c
      ⟨.ma, s.maWords c, 0, 0, 0, 0, false⟩).dropHeat c) := by
  unfold execPcbFrameSend
  rw [s.run_live _ hs]
  simp only [hup, hma, Bool.not_true, Bool.false_eq_true, if_false, if_true]

theorem execPcbFrameSend_heat (hma : (s.pcbOf c).maDue = false) (hheat : (s.pcbOf c).heatDue = true) :
    execPcbFrameSend c true s = .next (((s.setPcb c { s.pcbOf c with heatDue := false }).noteHeat c).pcbSend c
      ⟨.heat, s.heatWords c, 0, 0, 0, 0, false⟩) := by
  unfold execPcbFrameSend
  rw [s.run_live _ hs]
  simp only [hup, hma, hheat, Bool.not_true, Bool.false_eq_true, if_false, if_true]

/-- A MODE frame carries the modes of all surfaces (R175). -/
theorem execPcbFrameSend_mode (hma : (s.pcbOf c).maDue = false) (hheat : (s.pcbOf c).heatDue = false) {q : PcbFrame}
    (hq : firstFrame (s.pcbOf c).queue = some q) (hk : q.kind = .mode) : execPcbFrameSend c true s =
      .next ((s.setPcb c { s.pcbOf c with queue := (s.pcbOf c).queue.erase q }).pcbSend c
        { q with words := s.modeWords c q }) := by
  unfold execPcbFrameSend
  rw [s.run_live _ hs]
  simp only [hup, hma, hheat, hq, State.fillFrame_mode _ _ hk, State.modeWords_setPcb, Bool.not_true,
    Bool.false_eq_true, if_false, if_true]

end

/-! ### Replies and failed exchanges (R174 to R176) -/

/-- A return frame over a crossing that is not closed reaches a running part (R39). -/
theorem State.run_fromPreamp (s : State) (c : Nat) (f : State → State) (hs : s.live = true)
    (hopen : s.is (TOP_CDC_STAT_CLOSED (40 + c)) = false) : s.run (fun s => s.fromPreamp c f) = .next (f s) := by
  rw [s.run_live _ hs, State.fromPreamp, if_neg (by rw [hopen]; decide)]

theorem State.pcbAnswered_oldest (s : State) (c : Nat) {q : PcbFrame} {qs : List PcbFrame}
    (hw : (s.pcbOf c).wait = q :: qs) : s.pcbAnswered c = s.setPcb c { s.pcbOf c with wait := qs, fails := 0 } := by
  simp only [State.pcbAnswered, hw, List.drop_succ_cons, List.drop_zero]

/-- What the ACK of a frame confirms (R175, R180): the modes of a MODE frame, the end of a WREG, nothing of a PING. -/
def State.pcbConfirmed (s : State) (c : Nat) (q : PcbFrame) : State :=
  match q.kind with
  | .mode => (State.each s (fun f s => s.set (LAN_STAT_MODE c f) q.mode) (setBits 32 q.mask)).seqEvent c 8
  | .wreg => s.pcbRegEnd c false
  | _ => s

section
variable {c : Cluster} {s : State} {q : PcbFrame} {qs : List PcbFrame} (hs : s.live = true)
  (hopen : s.is (TOP_CDC_STAT_CLOSED (40 + c)) = false) (hw : (s.pcbOf c).wait = q :: qs)
include hs hopen hw

theorem execPcbAck_oldest (seq : Fin 16) (hseq : q.seq = seq.val)
    (hk : q.kind = .mode ∨ q.kind = .wreg ∨ q.kind = .ping) :
    execPcbAck c seq s = .next ((s.setPcb c { s.pcbOf c with wait := qs, fails := 0 }).pcbConfirmed c q) := by
  unfold execPcbAck State.pcbConfirmed
  rw [s.run_fromPreamp c _ hs hopen]
  rcases hk with hk | hk | hk <;>
    simp only [hw, hseq, hk, ne_eq, not_true_eq_false, if_false, s.pcbAnswered_oldest c hw]

theorem execPcbSense_oldest (r : Vector (BitVec 16) 32) (hk : q.kind = .heat) : execPcbSense c r s =
    .next ((s.setPcb c { s.pcbOf c with wait := qs, fails := 0 }).senseAll c (r.toList.map BitVec.toNat)) := by
  unfold execPcbSense
  rw [s.run_fromPreamp c _ hs hopen]
  simp only [hw, hk, PcbKind.eqb, decide_true, if_true, s.pcbAnswered_oldest c hw]

theorem execPcbRdata_oldest (addr data : BitVec 16) (hk : q.kind = .rreg) (haddr : q.words = [addr.toNat]) :
    execPcbRdata c addr data s = .next (((s.setPcb c { s.pcbOf c with wait := qs, fails := 0 }).pcbRegEnd c false).set
      (SRV_PCB_REGD_DATA c) data.toNat) := by
  unfold execPcbRdata
  rw [s.run_fromPreamp c _ hs hopen]
  simp only [hw, hk, haddr, PcbKind.eqb, decide_true, beq_self_eq_true, Bool.and_self, if_true,
    s.pcbAnswered_oldest c hw]

end

theorem execPcbExchangeTimeout_outstanding (c : Cluster) (passed : BitVec 12) (s : State) (hs : s.live = true)
    (hw : (s.pcbOf c).wait ≠ []) : execPcbExchangeTimeout c passed s =
      .next ((s.count (SRV_PCB_NORESP_COUNT c)).pcbHeadFails c passed.toNat) :=
  (s.run_live _ hs).trans (congrArg Host.Outcome.next (if_neg (by rwa [List.isEmpty_iff])))

/-! ### Register access (R178) -/

theorem State.pcbRegEnd_busy (s : State) (c : Nat) (err : Bool) :
    (s.pcbRegEnd c err).get (SRV_PCB_REGSTAT_BUSY c) = 0 := by
  unfold State.pcbRegEnd
  rw [State.get_set_other _ _ _ _ (by simp [SRV_PCB_REGSTAT_ERR])
    (by simp [Fld.apart, SRV_PCB_REGSTAT_BUSY, SRV_PCB_REGSTAT_ERR])]
  exact State.get_set_fits _ _ 0 (by simp [SRV_PCB_REGSTAT_BUSY]) (by simp)

theorem State.pcbRegEnd_err (s : State) (c : Nat) : (s.pcbRegEnd c false).get (SRV_PCB_REGSTAT_ERR c) = 0 :=
  State.get_set_fits _ _ 0 (by simp [SRV_PCB_REGSTAT_ERR]) (by simp)

/-- The data register stands apart from the status of the access. -/
theorem State.get_regstat_set_regd (s : State) (c v : Nat) {x : Fld} (h : x.addr = SRV_PCB_REGSTAT c) :
    (s.set (SRV_PCB_REGD_DATA c) v).get x = s.get x :=
  State.get_set_reg _ _ _ _ (by simp [h, SRV_PCB_REGSTAT, SRV_PCB_REGD_DATA, SRV_PCB_REGD])

/-- The frame that a register access queues: a WREG for operation 2, else an RREG. -/
def State.pcbRegFrame (s : State) (c op : Nat) : PcbFrame :=
  if op = 2 then ⟨.wreg, [s.get (SRV_PCB_REGA_ADDR c), s.get (SRV_PCB_REGD_DATA c)], 0, 0, 0, 0, false⟩
  else ⟨.rreg, [s.get (SRV_PCB_REGA_ADDR c)], 0, 0, 0, 0, false⟩

/-- Logging the write of an access leaves the frame it queues as it was. -/
theorem State.pcbRegFrame_logPriv (s : State) (o : Origin) (a v r c op : Nat) :
    (s.logPriv o a v r).pcbRegFrame c op = s.pcbRegFrame c op := by
  have haddr : (s.logPriv o a v r).get (SRV_PCB_REGA_ADDR c) = s.get (SRV_PCB_REGA_ADDR c) :=
    s.logPriv_get _ _ _ _ _ (by simp only [SRV_PCB_REGA_ADDR, SRV_PCB_REGA, LOG_FRZLOST]; omega)
      (by simp only [SRV_PCB_REGA_ADDR, SRV_PCB_REGA, LOG_INLOST]; omega)
  have hdata : (s.logPriv o a v r).get (SRV_PCB_REGD_DATA c) = s.get (SRV_PCB_REGD_DATA c) :=
    s.logPriv_get _ _ _ _ _ (by simp only [SRV_PCB_REGD_DATA, SRV_PCB_REGD, LOG_FRZLOST]; omega)
      (by simp only [SRV_PCB_REGD_DATA, SRV_PCB_REGD, LOG_INLOST]; omega)
  unfold State.pcbRegFrame
  rw [haddr, hdata]

theorem State.logPriv_pcbOf (s : State) (o : Origin) (a v r c : Nat) : (s.logPriv o a v r).pcbOf c = s.pcbOf c := by
  unfold State.pcbOf
  rw [State.logPriv_pcb]

/-- A register access that finds none under way is logged, queues its frame, sets BUSY and clears ERR. -/
theorem State.pcbReg_idle (s : State) (o : Origin) (c op : Nat) (hbusy : s.is (SRV_PCB_REGSTAT_BUSY c) = false) :
    s.pcbReg o c op = (((s.logPriv o (SRV_PCB_REGCMD c) op 0).setPcb c { s.pcbOf c with
      queue := (s.pcbOf c).queue ++ [s.pcbRegFrame c op] }).set (SRV_PCB_REGSTAT_BUSY c) 1).set
        (SRV_PCB_REGSTAT_ERR c) 0 := by
  rw [← s.pcbRegFrame_logPriv o (SRV_PCB_REGCMD c) op 0, ← s.logPriv_pcbOf o (SRV_PCB_REGCMD c) op 0]
  exact if_neg (by rw [hbusy]; decide)

section
variable (s : State) (o : Origin) (c op : Nat) (hbusy : s.is (SRV_PCB_REGSTAT_BUSY c) = false)
include hbusy

theorem State.pcbReg_busy : (s.pcbReg o c op).get (SRV_PCB_REGSTAT_BUSY c) = 1 := by
  rw [s.pcbReg_idle o c op hbusy, State.get_set_other _ _ _ _ (by simp [SRV_PCB_REGSTAT_ERR])
    (by simp [Fld.apart, SRV_PCB_REGSTAT_BUSY, SRV_PCB_REGSTAT_ERR])]
  exact State.get_set_fits _ _ 1 (by simp [SRV_PCB_REGSTAT_BUSY]) (by simp [SRV_PCB_REGSTAT_BUSY])

theorem State.pcbReg_err : (s.pcbReg o c op).get (SRV_PCB_REGSTAT_ERR c) = 0 := by
  rw [s.pcbReg_idle o c op hbusy]
  exact State.get_set_fits _ _ 0 (by simp [SRV_PCB_REGSTAT_ERR]) (by simp)

theorem State.pcbReg_queue :
    ((s.pcbReg o c op).pcbOf c).queue = (s.pcbOf c).queue ++ [s.pcbRegFrame c op] := by
  rw [s.pcbReg_idle o c op hbusy]
  exact congrArg Pcb.queue (State.setPcb_pcbOf_same _ c _)

end

/-! ### Preamp faults (R182) -/

theorem execPfltFall_live (c : Cluster) (s : State) (hs : s.live = true) : execPfltFall c s =
    .next (State.seqIrq (State.each ((s.set (SRV_PCB_STAT_PFLT c) 1).setPcb c { s.pcbOf c with pflt := some 0 })
      (fun f s => (s.cutWrite c f).setLane c f { (s.cutWrite c f).lane c f with idle := true, resume := false })
      (List.range 32)) c 2) := by
  unfold execPfltFall
  exact s.run_live _ hs

theorem execPfltRise_live (c : Cluster) (s : State) (hs : s.live = true) :
    execPfltRise c s = .next (s.set (SRV_PCB_STAT_PFLT c) 0) := s.run_live _ hs

theorem execPfltNoFaultFrame_due (c : Cluster) (s : State) (hs : s.live = true) (h : (s.pcbOf c).pflt = some 4) :
    execPfltNoFaultFrame c s = .next (s.preampLost c) := by
  unfold execPfltNoFaultFrame
  rw [s.run_live _ hs]
  simp only [h, Nat.le_refl, if_true]

end Sys2Proof.Machine

/-! The power-fail sequence from the fall of PFAIL_N to its recovery (R192 to R195). -/

namespace Sys2Proof.Machine

theorem execPfailNFall_live (s : State) (hs : s.live = true) :
    execPfailNFall s = .next { s with pf := { s.pf with low := true, lowAt := s.clk.time } } := s.run_live _ hs

theorem execPfailGlitch_short (s : State) (hs : s.live = true) (hlow : s.pf.low = true)
    (hnew : s.get LOOP_PF_STAT_PHASE = 0 ∨ s.pf.acceptedAt < s.pf.lowAt) (hshort : s.clk.time ≤ s.pf.lowAt + 4) :
    execPfailGlitch s = .next (State.count { s with pf := { s.pf with low := false } } LOOP_PF_GLITCH_COUNT) :=
  (s.run_live _ hs).trans (congrArg Host.Outcome.next (if_pos ⟨hlow, hnew, hshort⟩))

/-- The dump of every cluster fixed at acceptance (R193, R254). -/
def State.pfTodo (s : State) : State :=
  { s with pf := { s.pf with
    acceptedAt := s.clk.time, todo := (List.range 8).foldl (fun t c => tset [] t c (s.dumpStripes c)) [] } }

/-- Acceptance up to the SPMODE frame that waits: PFAIL raised and logged, phase A begun, A6 and A2 failed, the door
closed. -/
def State.pfClosed (s : State) : State :=
  State.queueSpmode ((State.failAssumption (State.failAssumption (((s.raise srcPFAIL 0 orgPfail).lifeEntry
    .pfail).set LOOP_PF_STAT_PHASE 1) 6 (fun _ => true)) 2 (fun _ => true)).set PRM_STATUS_OPEN 0) 1 true

/-- Acceptance from the end of a calibration session on: a spindle without a fault generates, and source 0 goes to every
sequencer. -/
def State.pfGenerates (s : State) : State :=
  State.each (if s.spState = spFAULT then s else s.set LOOP_STAT_SP_STATE spGENERATE) (fun c s => s.seqIrq c 0)
    (List.range 8)

theorem execPfailAccept_due (s : State) (hs : s.live = true) (hlow : s.pf.low = true)
    (hphase : s.get LOOP_PF_STAT_PHASE = 0) (harmed : s.start.armed = true) (hdue : s.pf.lowAt + 4 ≤ s.clk.time) :
    execPfailAccept s = .next (if s.pfTodo.pfClosed.cal.session.isSome then s.pfTodo.pfClosed.calEnd 5
      else s.pfTodo.pfClosed).pfGenerates :=
  (s.run_live _ hs).trans (congrArg Host.Outcome.next (if_pos ⟨harmed, hlow, hphase, hdue⟩))

theorem execPfPhaseB_due (wrote : List (Cluster × Nat × Nat)) (s : State) (hs : s.live = true)
    (hphase : s.get LOOP_PF_STAT_PHASE = 1)
    (hdue : s.pf.acceptedAt + s.get LOOP_PF_CFG_WRITE_MS * 100000 ≤ s.clk.time) {u : State}
    (hu : u = wrote.foldl (fun s w => s.dumped w.1 w.2.1 w.2.2) s) : execPfPhaseB wrote s =
      .next (State.each (State.each (State.set { u with pf := { u.pf with todo := [] } } LOOP_PF_STAT_PHASE 2)
        (fun c s => s.phaseBEnd c) (List.range 8)) (fun c s => s.headsOff c) (List.range 8)) := by
  subst hu
  exact (s.run_live _ hs).trans (congrArg Host.Outcome.next (if_pos ⟨hphase, hdue⟩))

theorem execPfBrake_phaseC (s : State) (hs : s.live = true) (hphase : s.get LOOP_PF_STAT_PHASE = 3) {u : State}
    (hu : u = (s.queueSpmode 2 true).set LOOP_PF_STAT_PHASE 4) : execPfBrake s =
      .next (State.lifeEntry (if u.spState = spGENERATE then u.set LOOP_STAT_SP_STATE spBRAKE else u) .close) := by
  subst hu
  exact (s.run_live _ hs).trans (congrArg Host.Outcome.next (if_pos hphase))

theorem execPfailRecover_braked (s : State) (hs : s.live = true) (hphase : s.get LOOP_PF_STAT_PHASE = 4) {u : State}
    (hu : u = State.raise { s with pf := { s.pf with low := false } } srcPFREC 0 orgPfail) :
    execPfailRecover s = .next { u with clk := { u.clk with chipResetReq := true } } := by
  subst hu
  exact (s.run_live _ hs).trans (congrArg Host.Outcome.next (if_pos hphase))

/-- A fault and its reaction leave the power-fail state alone. -/
theorem State.raise_pf (s : State) (src info origin : Nat) : (s.raise src info origin).pf = s.pf :=
  same_of_hide (m := (· != .pf)) (by apply State.raise_frame <;> rfl) .pf rfl

end Sys2Proof.Machine

/-! The statements on the preamp bus, the motor bus and the power-fail sequence, and the frames of the motor bus, power,
clearance, spindle and monitors. -/

namespace Sys2Proof.Proofs

open Sys2Proof.Machine

/-- Settles O38: the frame lemma of each command, with its list of parts for the hidden ones. -/
theorem motorAndPowerFrames : Obligations.MotorAndPowerFrames := by
  unfold Obligations.MotorAndPowerFrames
  exact
    ⟨fun _ _ _ => Framed.leaves (by apply execMcbCycle_frame <;> rfl),
     fun _ => Framed.leaves (by apply execSpinWatchEnd_frame <;> rfl),
     fun _ _ _ => Framed.leaves (by apply execMcbAck_frame <;> rfl),
     fun _ _ _ _ => Framed.leaves (by apply execMcbRdata_frame <;> rfl),
     fun _ _ _ => Framed.leaves (by apply execMcbFault_frame <;> rfl),
     fun _ _ => Framed.leaves (by apply execMcbNak_frame <;> rfl),
     fun _ => Framed.leaves (by apply execMcbBadReply_frame <;> rfl),
     fun _ _ _ _ _ => Framed.leaves (by apply execVcmMeas_frame; rfl),
     fun _ _ _ _ _ _ => Framed.leaves (by apply execSpinMeas_frame <;> rfl),
     fun _ _ _ => Framed.leaves (by apply execMcbRegRead_frame <;> rfl),
     fun _ _ _ _ => Framed.leaves (by apply execMcbRegWrite_frame <;> rfl),
     fun _ => Framed.leaves (by apply execPfBrake_frame <;> rfl),
     fun _ => Framed.leaves (by apply execMasterTakeover_frame <;> rfl),
     fun _ => Framed.leaves (by apply execSpinNoZeroCrossing_frame <;> rfl),
     fun _ => Framed.leaves (by apply execSpinupTimeout_frame <;> rfl),
     fun _ => Framed.leaves (by apply execPfailNFall_frame; rfl),
     fun _ => Framed.leaves (by apply execPfailGlitch_frame <;> rfl),
     fun _ => Framed.leaves (by apply execPfailAccept_frame <;> rfl),
     fun _ _ => Framed.leaves (by apply execPfPhaseB_frame <;> rfl),
     fun _ => Framed.leaves (by apply execPfailRecover_frame <;> rfl),
     fun _ _ _ => Framed.leaves (by apply execClrRetry_frame <;> rfl),
     fun _ => Framed.leaves (by apply execSpinAlignEnd_frame <;> rfl),
     fun _ _ => Framed.leaves (by apply execSprefEdge_frame <;> rfl),
     fun _ => Framed.leaves (by apply execSprefLost_frame <;> rfl),
     fun _ _ _ => Framed.leaves (by apply execMonitorSample_frame <;> rfl)⟩

/-- Settles O14: what is sent, what a reply ends and what a fault does is one path of its command. -/
theorem preampBusCompletes : Obligations.PreampBusCompletes := by
  unfold Obligations.PreampBusCompletes
  refine ⟨?_, ?_, ?_, ?_, ?_, ?_, ?_, ?_, ?_⟩
  · intro c fits s hs hup hma hq
    refine ⟨_, execPcbFrameSend_ma c fits s hs hup hma, ?_⟩
    rw [State.dropHeat_none _ _ (by rwa [State.pcbSend_pcbOf, State.setPcb_pcbOf_same])]
    exact ⟨by rw [State.pcbSend_pcbOf, State.setPcb_pcbOf_same, if_pos rfl], rfl⟩
  · intro c s hs hup hma hheat
    exact execPcbFrameSend_heat c s hs hup hma hheat
  · intro c s q hs hup hma hheat hq hk
    refine ⟨_, execPcbFrameSend_mode c s hs hup hma hheat hq hk, (State.pcbSend_pcbOf _ _ _).trans ?_⟩
    rw [State.setPcb_pcbOf_same, hk]
    rfl
  · rintro c seq s q qs hs hopen hw hseq u rfl
    have hack := execPcbAck_oldest hs hopen hw seq hseq
    refine ⟨fun hk => (hack (.inl hk)).trans ?_, fun hk => (hack (.inr (.inl hk))).trans ?_,
      fun hk => (hack (.inr (.inr hk))).trans ?_⟩ <;> rw [State.pcbConfirmed, hk]
  · rintro c s q qs hs hopen hw u rfl
    refine ⟨fun r hk => execPcbSense_oldest hs hopen hw r hk, fun addr data hk haddr =>
      ⟨_, execPcbRdata_oldest hs hopen hw addr data hk haddr, rfl, ?_, ?_, ?_⟩⟩
    · exact State.get_set_fits _ _ _ (by simp [SRV_PCB_REGD_DATA]) data.isLt
    · rw [State.get_regstat_set_regd _ _ _ rfl, State.pcbRegEnd_busy]
    · rw [State.get_regstat_set_regd _ _ _ rfl, State.pcbRegEnd_err]
  · intro c passed s hs hopen
    exact ⟨s.run_fromPreamp c _ hs hopen, s.run_fromPreamp c _ hs hopen, s.run_fromPreamp c _ hs hopen,
      execPcbExchangeTimeout_outstanding c passed s hs⟩
  · intro o c s hs hdie hbusy
    have haccess : ∀ op, Answers (s.runOn (dieOf c) fun s => s.pcbReg o c op) fun t =>
        t.get (SRV_PCB_REGSTAT_BUSY c) = 1 ∧ t.get (SRV_PCB_REGSTAT_ERR c) = 0 ∧
          (t.pcbOf c).queue = (s.pcbOf c).queue ++ [s.pcbRegFrame c op] := fun op =>
      Answers.runOn hs hdie ⟨s.pcbReg_busy o c op hbusy, s.pcbReg_err o c op hbusy, s.pcbReg_queue o c op hbusy⟩
    exact ⟨haccess 1, haccess 2⟩
  · rintro c surfaces cause s hs hopen m k u rfl rfl rfl v rfl
    exact s.run_fromPreamp c _ hs hopen
  · intro c s hs
    exact ⟨execPfltFall_live c s hs, execPfltRise_live c s hs, execPfltNoFaultFrame_due c s hs⟩

/-- Settles O15: a reply that reaches the master takes the oldest exchange off; the lemma on its command says how. -/
theorem motorBusCompletes : Obligations.MotorBusCompletes := by
  unfold Obligations.MotorBusCompletes
  refine ⟨?_, ?_, ?_, ?_⟩
  · intro drive angle s hs hup hcycle hdie
    have hturn := execMcbCycle_turn drive angle s hs hup hcycle hdie
    exact ⟨hturn, fun q qs hsp hk hv => hturn.trans (congrArg _ (s.mcbTurn_vcm _ _ hsp hk hv)),
      fun q hsp hpf => hturn.trans (congrArg _ (s.mcbTurn_pf _ _ _ hsp hpf))⟩
  · rintro s q qs n hs hf hseq hopen hdie u rfl
    have hreply : s.MeetsReply q qs n := ⟨hs, hf, hseq, hopen, hdie⟩
    have hmissed : q.kind = .vcm ∨ q.kind = .spin ∨ q.kind = .nop → ∀ t,
        (if s.mcb.fails + 1 = 64 then (s.mcbMissed qs).motorLost else s.mcbMissed qs) = t →
        exec (.mcbNak n) s = .next t ∧ exec .mcbBadReply s = .next t := by
      rintro hk t rfl
      rw [← State.mcbFail_unresent hf hk]
      exact ⟨hreply.mcbNak, s.run_live _ hs⟩
    refine ⟨?_, ?_, ?_, ?_, ?_, ?_, ?_⟩
    · intro echo hecho
      have hack := hreply.mcbAck echo hecho
      refine ⟨fun hk => ⟨_, hack (.inr (.inl hk)), State.mcbRegEnd_wreg _ hk, ?_⟩,
        fun hk => (hack (hk.imp_right .inr)).trans (congrArg _ (State.mcbRegEnd_other _ hk))⟩
      rw [State.mcbRegEnd_wreg _ hk]
      exact State.get_set_fits _ _ 0 (by decide) (by decide)
    · intro c cur emf hk hc
      exact ⟨_, hreply.vcmMeas c cur emf hk hc, tget_tset_same _ _ _ _, rfl, rfl, rfl⟩
    · intro emf phase vbus hk v hv
      exact ⟨hreply.spinMeas emf phase vbus none hk hv,
        fun up k => hreply.spinMeas emf phase vbus (some (up, k)) hk hv⟩
    · intro addr data hk haddr
      refine ⟨_, hreply.mcbRdata addr data hk haddr, State.get_set_fits _ _ _ (by decide) data.isLt, ?_, ?_⟩
      · rw [State.get_set_other _ _ _ _ (by decide) (by decide)]
        exact State.get_set_fits _ _ 0 (by decide) (by decide)
      · rw [State.set_mcb, State.set_mcb, State.mcbTaken]
    · intro payload
      refine ⟨_, hreply.mcbFault payload, ?_, State.get_set_fits _ _ 1 (by decide) (by decide), ?_⟩
      · rw [State.get_set_reg _ _ _ _ (by decide)]
        exact State.get_set_fits _ _ _ (by decide) payload.isLt
      · rw [State.set_mcb, State.set_mcb, State.mcbTaken]
    · rintro hfew hk t rfl
      exact hmissed hk _ (if_neg (by omega))
    · rintro hall hk t rfl
      exact hmissed hk _ (if_pos hall)
  · intro o addr data s hs hbusy
    have haccess : ∀ op d, d < 2 ^ 16 → (s.mcbReg o op addr.toNat d).get LOOP_MCB_REG_BUSY = 1 ∧
        (s.mcbReg o op addr.toNat d).get LOOP_MCB_REG_ADDR = addr.toNat ∧
        (s.mcbReg o op addr.toNat d).get LOOP_MCB_REG_DATA = d ∧
        (s.mcbReg o op addr.toNat d).mcb = { s.mcb with reg := some (mcbRegFrame op addr.toNat d) } := fun op d hd =>
      ⟨s.mcbReg_busy o op _ d hbusy, s.mcbReg_addr o op _ d hbusy addr.isLt, s.mcbReg_data o op _ d hbusy hd,
        s.mcbReg_mcb o op _ d hbusy⟩
    exact ⟨⟨_, execMcbRegRead_live o addr s hs, haccess 1 _ (s.get_lt LOOP_MCB_REG_DATA)⟩,
      ⟨_, execMcbRegWrite_live o addr data s hs, haccess 2 _ data.isLt⟩⟩
  · intro s hs hdie hmaster
    have hmove := execMasterTakeover_lost s hs hdie hmaster
    exact ⟨fun hopen => hmove.trans (congrArg _ (if_neg (by rw [hopen]; decide))),
      fun hclosed => hmove.trans (congrArg _ (if_pos hclosed))⟩

/-- Settles O16: each command of the sequence takes the one path that its premises leave open. -/
theorem powerFailCompletes : Obligations.PowerFailCompletes := by
  unfold Obligations.PowerFailCompletes
  refine ⟨?_, ?_, ?_, ?_, ?_⟩
  · intro s hs
    exact execPfailNFall_live s hs
  · intro s hs hlow
    refine ⟨fun hnew hshort => execPfailGlitch_short s hs hlow hnew hshort, ?_⟩
    rintro hphase harmed hdue u v w rfl rfl rfl
    exact execPfailAccept_due s hs hlow hphase harmed hdue
  · rintro wrote s hs hphase hdue u v hu rfl
    exact execPfPhaseB_due wrote s hs hphase hdue hu
  · intro s hs hphase u hu
    exact execPfBrake_phaseC s hs hphase hu
  · intro s hs hphase
    refine ⟨_, execPfailRecover_braked s hs hphase rfl, rfl, ?_, ?_⟩
    · exact congrArg PowerFail.low (State.raise_pf _ _ _ _)
    · rintro u rfl
      rfl

end Sys2Proof.Proofs

/-! A lane's read of a fragment, the canton's landing slots and its decoders (R208 to R229). -/

namespace Sys2Proof.Machine

/-! ### The read gate and the sync window (R208, R215 to R217) -/

theorem execFragmentReadStart_armed {c : Cluster} {f : Surface} (raw : List (BitVec 7)) {s u v : State} {a : LaneArm}
    {ch : Chan} (hs : s.live = true) (harm : (s.lane c f).arm = some a) (hdir : a.write = false)
    (hend : (s.lane c f).ended = false) (hread : (s.lane c f).read = none) (hlost : s.laneIsLost c f = false)
    (hheld : (s.lane c f).held = false) (hzone : (u, ch) = s.loadZone c f (s.slotZone c a.slot))
    (hv : v = ((u.set (RCH_STAT_ACTIVE c f) 1).set (RCH_STAT_PHASE c f) 1).countRaw c f raw) :
    execFragmentReadStart c f raw s =
      .next (v.putRead c f ⟨a.slot, a.owner, .gate, 0, none, false, (v.chanCfg c f).feed ch raw⟩) := by
  subst hv
  rw [execFragmentReadStart, s.run_live _ hs]
  simp only [harm, hdir, hend, hread, hlost, hheld, Option.isSome_none, Bool.or_self, Bool.false_eq_true, if_false,
    ← hzone]

section
variable {c : Cluster} {f : Surface} (raw : List (BitVec 7)) {s u : State} {r x : ReadFrag} (hs : s.live = true)
  (hread : (s.lane c f).read = some r) (hgate : r.phase = .gate) (hservo : s.get (RCH_STAT_PHASE c f) ≠ 3)
  (hx : x = { r with ch := (s.chanCfg c f).feed r.ch raw }) (hu : u = (s.countRaw c f raw).putRead c f x)
include hs hread hgate hservo hx hu

theorem execSyncWindowClose_missed (hcands : ranked x.ch.cands = []) :
    execSyncWindowClose c f raw s = .next ((u.countSat (RCH_SYNC_MISS_COUNT c f)).noSync c f x) := by
  subst hx hu
  rw [execSyncWindowClose, s.run_live _ hs]
  simp only [hread, hgate, hservo, hcands, ne_eq, not_true_eq_false, or_self, if_false]

theorem execSyncWindowClose_single {a : Cand} (hcands : ranked x.ch.cands = [a]) :
    execSyncWindowClose c f raw s = .next ((u.set (RCH_STAT_PHASE c f) 2).putRead c f
      { x with phase := .synced, h0 := a.1, h1 := none }) := by
  subst hx hu
  rw [execSyncWindowClose, s.run_live _ hs]
  simp only [hread, hgate, hservo, hcands, ne_eq, not_true_eq_false, or_self, if_false, List.head?_nil,
    Option.map_none]

theorem execSyncWindowClose_dual {a b : Cand} {more : List Cand} (hcands : ranked x.ch.cands = a :: b :: more) :
    execSyncWindowClose c f raw s =
      .next ((((u.countSat (RCH_SYNC_DUAL_COUNT c f)).addSat (RCH_SYNC_EXTRA_COUNT c f) more.length).set
        (RCH_STAT_PHASE c f) 2).putRead c f { x with phase := .synced, h0 := a.1, h1 := some b.1 }) := by
  subst hx hu
  rw [execSyncWindowClose, s.run_live _ hs]
  simp only [hread, hgate, hservo, hcands, ne_eq, not_true_eq_false, or_self, if_false, List.head?_cons,
    Option.map_some]

end

/-! ### The search after a servo field (R209, R218) -/

section
variable {c : Cluster} {f : Surface} (before after : List (BitVec 7)) {s u : State} {r : ReadFrag} {a b : Chan}
  (hs : s.live = true) (hread : (s.lane c f).read = some r) (hservo : s.get (RCH_STAT_PHASE c f) = 3)
  (ha : a = (s.chanCfg c f).feed r.ch before) (hb : b = (s.chanCfg c f).feed a.newRegion after)
  (hu : u = State.set ((s.countRaw c f before).countRaw c f after) (RCH_STAT_PHASE c f)
    (if r.phase = .gate then 1 else 2))
include hs hread hservo ha hb hu

theorem execResyncSearch_found {p : Cand} {l : List Cand} (hcands : ranked (b.resyncCands a.bit) = p :: l) :
    execResyncSearch c f before after s =
      .next (u.putRead c f { r with ch := b.resynced a.bit ((a.bit : Int) + 48 + p.1).toNat }) := by
  subst ha hb hu
  rw [execResyncSearch, s.run_live _ hs]
  simp only [hread, hservo, hcands, ne_eq, not_true_eq_false, if_false]

theorem execResyncSearch_missed (hcands : ranked (b.resyncCands a.bit) = []) (hslot : r.phase ≠ .noSlot) :
    execResyncSearch c f before after s =
      .next ((u.countSat (RCH_RESYNC_MISS_COUNT c f)).noSync c f { r with ch := b }) := by
  subst ha hb hu
  rw [execResyncSearch, s.run_live _ hs]
  simp only [hread, hservo, hcands, hslot, ne_eq, not_true_eq_false, if_false]

theorem execResyncSearch_noSlot (hcands : ranked (b.resyncCands a.bit) = []) (hslot : r.phase = .noSlot) :
    execResyncSearch c f before after s = .next (u.putRead c f { r with phase := .dropped, ch := b }) := by
  subst ha hb hu
  rw [execResyncSearch, s.run_live _ hs]
  simp only [hread, hservo, hcands, hslot, ne_eq, not_true_eq_false, if_false, if_true]

end

/-! ### The end of a fragment (R167, R208, R214, R219) -/

theorem execFragmentEnd_read {c : Cluster} {f : Surface} (raw : List (BitVec 7)) {s : State} {r x : ReadFrag}
    (hs : s.live = true) (hread : (s.lane c f).read = some r) (hgate : r.phase ≠ .gate)
    (hservo : s.get (RCH_STAT_PHASE c f) ≠ 3) (hsent : r.phase = .synced → r.sent = true)
    (hx : x = { r with ch := (s.chanCfg c f).feed r.ch raw }) : execFragmentEnd c f raw s =
      .next (((((s.countRaw c f raw).putRead c f x).readEnd c f x).keepChan c f x).gateClose c f) := by
  subst hx
  have hhead : ¬(r.phase = .synced ∧ r.sent = false) := fun ⟨hphase, hnot⟩ =>
    Bool.false_ne_true (hnot.symm.trans (hsent hphase))
  rw [execFragmentEnd, s.run_live _ hs]
  simp only [hread, hgate, hservo, hhead, or_self, if_false]

theorem execFragmentEnd_write {c : Cluster} {f : Surface} (raw : List (BitVec 7)) {s : State} {n : Nat}
    (hs : s.live = true) (hread : (s.lane c f).read = none) (hwrite : (s.lane c f).writing = true)
    (hn : n = (((s.lane c f).out.map (fun p => (s.serialize c f p).clamps)).foldl (· + ·) 0)) :
    execFragmentEnd c f raw s = .next (((s.addCount (LAN_WCLAMP_COUNT c f) n).setLane c f
      { s.lane c f with writing := false, ended := true, out := [] }).fragEnd c) := by
  subst hn
  rw [execFragmentEnd, s.run_live _ hs]
  simp only [hread, hwrite, if_true]

/-! ### Landing slots (R219, R220) -/

@[simp] theorem State.set_cantonOf (s : State) (x : Fld) (n k : Nat) : (s.set x n).cantonOf k = s.cantonOf k := id rfl

@[simp] theorem State.setLane_cantonOf (s : State) (c f : Nat) (l : Lane) (k : Nat) :
    (s.setLane c f l).cantonOf k = s.cantonOf k := id rfl

section
variable {c : Cluster} {f : Surface} {s : State} {r : ReadFrag} (hs : s.live = true)
  (hread : (s.lane c f).read = some r) (hphase : r.phase = .synced) (hsent : r.sent = false)
include hs hread hphase hsent

theorem execLandingHead_full (hfull : 160 ≤ (s.cantonOf (c.val / 2)).slots.length) {v : State}
    (hv : v = ((s.countSat (RCH_FRAGS_COUNT c f)).countSat (RCH_NOSLOT_COUNT c f)).fragResult c r.slot f .erased) :
    execLandingHead c f s =
      .next (v.setLane c f { v.lane c f with read := some { r with phase := .noSlot, sent := true } }) := by
  subst hv
  rw [execLandingHead, s.run_live _ hs]
  simp only [hread, hphase, hsent, hfull, ne_eq, not_true_eq_false, Bool.false_eq_true, or_self, if_false, if_true]

/-- The packet of the HEAD stands behind those already in the canton. -/
theorem execLandingHead_lands (hroom : (s.cantonOf (c.val / 2)).slots.length < 160) :
    Answers (execLandingHead c f s) fun t => (t.cantonOf (c.val / 2)).slots =
      (s.cantonOf (c.val / 2)).slots ++ [(s.countSat (RCH_FRAGS_COUNT c f)).packetOf c f r] := by
  rw [execLandingHead]
  refine Answers.run hs ?_
  have hnot : ¬160 ≤ (s.cantonOf (c.val / 2)).slots.length := Nat.not_le.mpr hroom
  simp only [hread, hphase, hsent, hnot, ne_eq, not_true_eq_false, Bool.false_eq_true, or_self, if_false,
    State.setLane_cantonOf, State.set_cantonOf, State.setCanton_cantonOf_same]

end

theorem State.packetOf_isOf (s : State) (c f : Nat) (r : ReadFrag) : (s.packetOf c f r).isOf c f r.slot = true := by
  simp only [Packet.isOf, State.packetOf, beq_self_eq_true, Bool.and_self]

/-! ### Decoders (R222 to R229) -/

theorem execDecodeDispatch_free {k : CantonNo} {d : Fin 20} {s u : State} {p : Packet} {second : Bool}
    (hs : s.live = true) (hactive : bitAt (s.get (DEC_K_ACTIVE_MASK k)) d = true)
    (hreset : s.resetting.contains (.dec k d) = false) (hfree : (s.cantonOf k).slots.any (fun p => p.on d) = false)
    (hu : u = s.dropAllPq k) (hnext : u.nextFraming (u.cantonOf k) = some (p, second)) :
    execDecodeDispatch k d s = .next (u.setCanton k ((u.cantonOf k).update p (fun q =>
      if second then { q with h1 := .running d (16 * u.clk.time) false }
      else { q with h0 := .running d (16 * u.clk.time) false }))) := by
  subst hu
  rw [execDecodeDispatch, s.run_live _ hs]
  simp only [hactive, hreset, hfree, hnext, Bool.not_true, Bool.or_self, Bool.false_eq_true, if_false, State.now]

section
variable {k : CantonNo} {d : Fin 20} {s : State} {p : Packet} {h1 x : Bool} {since : Nat} (hs : s.live = true)
  (hfind : (s.cantonOf k).slots.find? (fun p => p.on d) = some p) (hjob : p.job d = some (h1, since, x))
include hs hfind hjob

theorem execDecodeEnd_inTime (checker : Bool) {e : PassEnd} (he : e = p.pass (16 * s.deadlineOf p) since h1 x)
    (hfin : e.fin ≤ 16 * s.clk.time) (hdead : s.clk.time ≤ s.deadlineOf p) :
    execDecodeEnd k d checker s = .next (s.passResult k d p (h1, since, x) e checker) := by
  subst he
  rw [execDecodeEnd, s.run_live _ hs]
  simp only [hfind, hjob, State.now, Nat.not_lt.mpr hfin, Nat.not_lt.mpr hdead, if_false]

theorem execDecoderTimeout_due (hdue : since + 6400 ≤ 16 * s.clk.time) :
    execDecoderTimeout k d s = .next (s.decLost k d) := by
  rw [execDecoderTimeout, s.run_live _ hs]
  simp only [hfind, Option.bind_some, hjob, State.now, hdue, if_true]

end

/-- A pass with a zero syndrome: the check of R200 judges its bytes (R222, R229). -/
theorem State.passResult_bytes (s : State) (k d : Nat) (p : Packet) (job : Bool × Nat × Bool) {e : PassEnd}
    (checker : Bool) {b : List Nat} (hb : e.bytes = some b) : s.passResult k d p job e checker =
      if fragOk p.seed p.role b = true then
        if checker then (s.addSat (DEC_K_ITERSUM_COUNT k) e.iters).decLost k d
        else (s.addSat (DEC_K_ITERSUM_COUNT k) e.iters).framing k d p (.passed b)
      else if p.h1 ≠ .absent then (s.addSat (DEC_K_ITERSUM_COUNT k) e.iters).framing k d p .failed
      else (s.addSat (DEC_K_ITERSUM_COUNT k) e.iters).fragBad p DEC_K_ER_MISCORRECT_COUNT := by
  simp only [State.passResult, hb, bne_iff_ne]

/-- A pass without one: after twelve iterations of the first pass the second starts where it still fits (R223). -/
theorem State.passResult_noBytes (s : State) (k d : Nat) (p : Packet) (h1 : Bool) (since : Nat) (x : Bool)
    {e : PassEnd} (checker : Bool) {u : State} (hu : u = s.addSat (DEC_K_ITERSUM_COUNT k) e.iters)
    (hb : e.bytes = none) : s.passResult k d p (h1, since, x) e checker =
      if e.full = true ∧ x = false ∧ e.fin + 576 ≤ 16 * u.deadlineOf p then
        (u.countSat (DEC_K_PASS2_COUNT k)).setCanton k
          ((u.cantonOf k).update p (fun q => q.settle d (.running d since true)))
      else u.undecoded k d p := by
  subst hu
  simp only [State.passResult, hb, Bool.and_eq_true, Bool.not_eq_true', decide_eq_true_eq, and_assoc]

theorem execDecodeDeadline_due {c : Cluster} {f : Surface} {s : State} {p : Packet} (hs : s.live = true)
    (hfind : (s.cantonOf (c.val / 2)).slots.find?
      (fun p => p.cluster == c.val && p.surface == f.val && p.last.isSome) = some p)
    (hdue : s.deadlineOf p ≤ s.clk.time) : execDecodeDeadline c f s = .next (s.judge p true) := by
  rw [execDecodeDeadline, s.run_live _ hs]
  simp only [hfind, State.now, hdue, if_true]

end Sys2Proof.Machine

/-! The statements on the read channel, the landing slots and the decoders, and the frames of the read channel and the
stripe engine. -/

namespace Sys2Proof.Proofs

open Sys2Proof.Machine

/-- Settles O39: the frame lemma of each command, with its list of parts for the hidden ones. -/
theorem readChannelAndStripeFrames : Obligations.ReadChannelAndStripeFrames := by
  unfold Obligations.ReadChannelAndStripeFrames
  exact
    ⟨fun _ _ _ _ => Framed.leaves (by apply execFragmentReadStart_frame <;> rfl),
     fun _ _ _ _ => Framed.leaves (by apply execSyncWindowClose_frame <;> rfl),
     fun _ _ _ _ _ => Framed.leaves (by apply execResyncSearch_frame <;> rfl),
     fun _ _ _ => Framed.leaves (by apply execLandingHead_frame <;> rfl),
     fun _ _ _ _ => Framed.leaves (by apply execFragmentEnd_frame <;> rfl),
     fun _ _ _ => Framed.leaves (by apply execDecodeDispatch_frame <;> rfl),
     fun _ _ _ => Framed.leaves (by apply execDecodeDeadline_frame <;> rfl),
     fun _ _ _ _ => Framed.leaves (by apply execDecodeEnd_frame <;> rfl),
     fun _ _ _ => Framed.leaves (by apply execDecoderTimeout_frame <;> rfl),
     fun _ _ _ _ _ => Framed.leaves (by apply execCalSkewUpdate_frame <;> rfl),
     fun _ _ _ _ _ => Framed.leaves (by apply execRelocTrackCopy_frame <;> rfl),
     fun _ _ _ => Framed.leaves (by apply execStripeSettle_frame <;> rfl),
     fun _ _ => Framed.leaves (by apply execParityEncodeDone_frame <;> rfl),
     fun _ _ _ => Framed.leaves (by apply execCommitTestDone_frame <;> rfl),
     fun _ _ _ _ _ => Framed.leaves (by apply execRepairWrite_frame <;> rfl),
     fun _ _ _ _ _ _ => Framed.leaves (by apply execPatrolRead_frame <;> rfl)⟩

/-- Settles O17: each command takes the one path that its premises leave open; the lemma on that command states it. -/
theorem readChannelCompletes : Obligations.ReadChannelCompletes := by
  unfold Obligations.ReadChannelCompletes
  refine ⟨?_, ?_, ?_, ?_, ?_, ?_, ?_, ?_, ?_⟩
  · intro c f raw s a hs harm hdir hend hread hlost hheld u v ch hzone hv
    exact execFragmentReadStart_armed raw hs harm hdir hend hread hlost hheld hzone hv
  · intro c f raw s r x hs hread hgate hservo hx u hu
    exact ⟨execSyncWindowClose_missed raw hs hread hgate hservo hx hu,
      fun a => execSyncWindowClose_single raw hs hread hgate hservo hx hu,
      fun a b more => execSyncWindowClose_dual raw hs hread hgate hservo hx hu⟩
  · rintro c f before after s r hs hread hservo a b n u ha hb rfl hu
    exact ⟨fun p l => execResyncSearch_found before after hs hread hservo ha hb hu,
      execResyncSearch_missed before after hs hread hservo ha hb hu,
      execResyncSearch_noSlot before after hs hread hservo ha hb hu⟩
  · intro c f raw s r x hs hread hgate hservo hsent hx
    exact execFragmentEnd_read raw hs hread hgate hservo hsent hx
  · intro c f raw s hs hread hwrite n hn
    exact execFragmentEnd_write raw hs hread hwrite hn
  · rintro c f s r hs hread hphase hsent u rfl
    refine ⟨fun hfull v hv => execLandingHead_full hs hread hphase hsent hfull hv, fun hroom => ?_⟩
    obtain ⟨t, ht, hslots⟩ := execLandingHead_lands hs hread hphase hsent hroom
    exact ⟨t, ht, _, hslots, State.packetOf_isOf _ _ _ r, rfl, rfl, rfl, rfl⟩
  · intro k d s p second hs hactive hreset hfree u hu hnext
    exact execDecodeDispatch_free hs hactive hreset hfree hu hnext
  · intro k d s p h1 x since hs hfind hjob
    refine ⟨fun checker e => execDecodeEnd_inTime hs hfind hjob checker, ?_, execDecoderTimeout_due hs hfind hjob⟩
    intro checker e u hu
    refine ⟨fun b hb => ?_, s.passResult_noBytes k d p h1 since x checker hu⟩
    rw [hu]
    exact s.passResult_bytes k d p (h1, since, x) checker hb
  · intro c f s p hs hfind hdue
    exact execDecodeDeadline_due hs hfind hdue

end Sys2Proof.Proofs

/-! The unit commands of a sequencer: TIMELINE, PCB, STR, STM, BUDGET, PORT, EVENT and POS (R240, R244, R245, R308,
R310, R311, R411). -/

namespace Sys2Proof.Machine

/-! ### Commands without a premise of their own (R240, R244, R245, R310, R311) -/

section
variable (c : Cluster) {s : State} (hs : s.live = true)
include hs

theorem execTimelineRead_live (wedge : BitVec 32) :
    execTimelineRead c wedge s = .next (s.setSeq c { s.seqOf c with tlReq := some wedge.toNat }) := s.run_live _ hs

theorem execPosSet_live (v : BitVec 32) :
    execPosSet c v s = .next (s.setSeq c { s.seqOf c with posCmp := some v.toNat }) := s.run_live _ hs

theorem execStmKick_live (addr : BitVec 32) : execStmKick c addr s = .next (s.stmKick c addr.toNat) := s.run_live _ hs

theorem execPcbMode_live (mask : BitVec 32) (mode : Fin 4) (act : BitVec 12) :
    execPcbMode c mask mode act s = .next (s.queueMode c mask.toNat mode act.toNat) := s.run_live _ hs

theorem execStrOpen_live (slot : BitVec 32) {gone : Nat} {o : OpenStripe}
    (hgone : gone = s.slotShut c slot.toNat ||| (s.repairOf c slot.toNat).stale)
    (ho : o = ⟨slot.toNat, s.stripeOwner c slot.toNat, false, 0, 0, [], [],
      (setBits 32 gone).foldl (fun t f => tset .waiting t f .erased) [], 0, false, false, false, 0, false⟩) :
    execStrOpen c slot s = .next (s.setStr c { s.strOf c with
      opened := (s.strOf c).opened.filter (fun y => y.slot != slot.toNat) ++ [o], cur := some slot.toNat }) := by
  subst ho hgone
  exact s.run_live _ hs

theorem execStrCommitTest_live :
    execStrCommitTest c s = .next (s.setStr c ((s.strOf c).curUpdate (fun o => { o with testing := o.write }))) :=
  s.run_live _ hs

theorem execStrClose_live : execStrClose c s = .next (s.setStr c { s.strOf c with
    opened := (s.strOf c).opened.filter (fun o => (s.strOf c).cur != some o.slot), cur := none }) := s.run_live _ hs

theorem execEventLog_live (code : BitVec 16) (payload : BitVec 32) :
    execEventLog c code payload s = .next (s.event (orgClu c 0) code.toNat [payload.toNat]) := s.run_live _ hs

end

/-! ### Event conditions and the registers G0 to G15 (R307, R308) -/

theorem bitAt_putBit_same (v i : Nat) (b : Bool) : bitAt (putBit v i b) i = b := by
  have hbit := bitsOf_putBits_same v i 1 (if b then 1 else 0)
  simp only [bitsOf, Nat.pow_one] at hbit
  rw [bitAt, putBit, hbit]
  cases b <;> rfl

@[simp] theorem State.seqEvent_get (s : State) (c code : Nat) (x : Fld) : (s.seqEvent c code).get x = s.get x :=
  State.setSeq_get s c _ x

@[simp] theorem State.seqEvent_seqOf_same (s : State) (c code : Nat) :
    (s.seqEvent c code).seqOf c = { s.seqOf c with events := putBit (s.seqOf c).events code true } :=
  State.setSeq_seqOf_same s c _

@[simp] theorem State.setG_seqOf (s : State) (c n v d : Nat) : (s.setG c n v).seqOf d = s.seqOf d := by
  rw [State.setG, State.seqOf, State.set_seq, ← State.seqOf]

theorem State.setG_get_same (s : State) (c v : Nat) {n : Nat} (hn : n < 16) :
    (s.setG c n v).get (SEQ_GREG_G c n) = v % 2 ^ 32 := by
  rw [State.setG, Nat.mod_eq_of_lt hn]
  exact State.get_set_same s (SEQ_GREG_G c n) v (Nat.le_refl 32)

theorem State.setG_get_other (s : State) (c v : Nat) {m n : Nat} (hn : n < 16) (h : m ≠ n) :
    (s.setG c n v).get (SEQ_GREG_G c m) = s.get (SEQ_GREG_G c m) := by
  rw [State.setG, Nat.mod_eq_of_lt hn]
  refine State.get_set_reg s _ _ v ?_
  simp only [SEQ_GREG_G, SEQ_GREG]
  omega

/-! ### TIMELINE READ (R310; log 45) -/

/-- Where the cells of a wedge that are not FREE hold one handle, that handle is the owner; no free value is drawn. -/
theorem State.slotOwner_single (s : State) (c : Nat) {w : WSlot}
    (hone : ∀ p ∈ w.cells, p.2.kind = .free ∨ ∀ q ∈ w.cells, q.2.kind = .free ∨ q.2.owner = p.2.owner) :
    s.slotOwner c w = (s, ((w.cells.filter (fun p => p.2.kind != .free)).map (fun p => p.2.owner)).headD 0) := by
  rw [State.slotOwner]
  cases hcells : w.cells.filter (fun p => p.2.kind != .free) with
  | nil => rfl
  | cons p ps =>
    have hused : ∀ q ∈ p :: ps, q ∈ w.cells ∧ q.2.kind ≠ .free := by
      intro q hq
      rw [← hcells] at hq
      simpa using hq
    have hp := hused p List.mem_cons_self
    have hsame : (ps.map (fun q => q.2.owner)).all (· == p.2.owner) = true := by
      simp only [List.all_map, List.all_eq_true, Function.comp_apply, beq_iff_eq]
      intro q hq
      have hq := hused q (List.mem_cons_of_mem p hq)
      exact ((hone p hp.1).resolve_left hp.2 q hq.1).resolve_left hq.2
    simp only [List.map_cons, hsame, if_true, List.headD_cons]

/-- The surfaces whose XFER cell of a wedge reads, or writes. -/
def WSlot.xferMask (w : WSlot) (wr : Bool) : Nat :=
  maskOf ((w.cells.filter (fun p => p.2.kind = .xfer && p.2.wr == wr)).map Prod.fst)

theorem execTimelineReadDone_oneOwner {c : Cluster} {s : State} {n : Nat} {w : WSlot} (hs : s.live = true)
    (hreq : (s.seqOf c).tlReq = some n) (hw : w = (s.tlOf c).slotAt (nearWedge (s.tlOf c).now n))
    (hone : ∀ p ∈ w.cells, p.2.kind = .free ∨ ∀ q ∈ w.cells, q.2.kind = .free ∨ q.2.owner = p.2.owner) :
    Answers (execTimelineReadDone c s) fun t =>
      t.get (SEQ_GREG_G c 9) = w.xferMask false % 2 ^ 32 ∧ t.get (SEQ_GREG_G c 10) = w.xferMask true % 2 ^ 32 ∧
      t.get (SEQ_GREG_G c 11) =
        (((w.cells.filter (fun p => p.2.kind != .free)).map (fun p => p.2.owner)).headD 0) % 2 ^ 32 ∧
      (t.seqOf c).tlReq = none ∧ bitAt (t.seqOf c).events 7 = true := by
  subst hw
  refine Answers.run hs ?_
  simp only [hreq, State.slotOwner_single _ _ hone, State.seqEvent_get, State.seqEvent_seqOf_same, State.setG_seqOf,
    State.setSeq_seqOf_same]
  refine ⟨?_, ?_, ?_, trivial, bitAt_putBit_same _ 7 true⟩
  · rw [State.setG_get_other _ _ _ (by decide) (by decide), State.setG_get_other _ _ _ (by decide) (by decide),
      State.setG_get_same _ _ _ (by decide)]
    rfl
  · rw [State.setG_get_other _ _ _ (by decide) (by decide), State.setG_get_same _ _ _ (by decide)]
    rfl
  · exact State.setG_get_same _ _ _ (by decide)

/-! ### STR (R239, R244) -/

theorem execStrWriteset_open {c : Cluster} (mask : BitVec 32) {s : State} {w : Nat} (hs : s.live = true)
    (hw : w = ((s.strOf c).wseq + 1) % 2 ^ 32) (hcur : (s.strOf c).cur?.isSome = true) :
    execStrWriteset c mask s = .next (s.setStr c { (s.strOf c).curUpdate (fun o => { o with
      write := true, wset := mask.toNat &&& (mask.toNat ^^^ s.slotShut c o.slot), cut := 0, pq := false,
      wseq := w }) with wseq := w }) := by
  subst hw
  rw [execStrWriteset, s.run_live _ hs]
  simp only [hcur, if_true]

/-! ### BUDGET and PORT (R141, R143, R310) -/

section
variable {s : State} {owner : BitVec 32} {x : Cmd} (hs : s.live = true) (hx : s.cmdByHandle? owner.toNat = some x)
include hs hx

theorem execBudgetCheck_owned (c : Cluster) (cells : BitVec 32) {r : Row}
    (hr : r = tget Row.init (s.tlOf c).rows x.rowKey) :
    execBudgetCheck c cells owner s = .next (s.setSeq c { s.seqOf c with
      budgetOk := !r.closed && decide (r.spent + cells.toNat ≤ s.booked c x.rowKey) }) := by
  subst hr
  rw [execBudgetCheck, s.run_live _ hs, State.budgetCheck, hx]

theorem execPortTerminal_promised (status : BitVec 8) (hphase : x.phase = .promised) :
    execPortTerminal owner status s =
      .next (((s.setCmd { x with status := worse x.status status.toNat }).endCmd x.id).tidy) := by
  rw [execPortTerminal, s.run_live _ hs, State.portTerminal, hx]
  exact congrArg Host.Outcome.next (if_pos hphase)

theorem execPortDetail_hoisted (hphase : x.phase = .promised) (hhoisted : x.hoisted = true) :
    execPortDetail owner s = .next (s.setCmd { x with detail := some true }) := by
  rw [execPortDetail, s.run_live _ hs, State.portDetail, hx]
  simp only [hphase, hhoisted, decide_true, Bool.and_self, if_true]

end

end Sys2Proof.Machine

/-! The statement on the unit commands of a sequencer. -/

namespace Sys2Proof.Proofs

open Sys2Proof.Machine

/-- Settles O22: a command without a premise of its own does its unit's work on a live part; the others take the one
path that their premises leave open, which the lemma on that command states. -/
theorem unitCommandsComplete : Obligations.UnitCommandsComplete := by
  unfold Obligations.UnitCommandsComplete
  refine ⟨?_, ?_, ?_, ?_, ?_, ?_, ?_, ?_⟩
  · intro c v s hs
    exact ⟨execTimelineRead_live c hs v, execPosSet_live c hs v, execStmKick_live c hs v⟩
  · intro c s n w hs hreq hw hone
    exact execTimelineReadDone_oneOwner hs hreq hw hone
  · intro c mask mode act s hs
    exact execPcbMode_live c hs mask mode act
  · intro c slot s hs gone o hgone ho
    exact execStrOpen_live c hs slot hgone ho
  · intro c mask s hs
    exact ⟨fun w hw hcur => execStrWriteset_open mask hs hw hcur, execStrCommitTest_live c hs,
      execStrClose_live c hs⟩
  · intro c cells owner s x hs hx r hr
    exact execBudgetCheck_owned hs hx c cells hr
  · intro owner status s x hs hx hphase
    exact ⟨execPortTerminal_promised hs hx status hphase, execPortDetail_hoisted hs hx hphase⟩
  · intro c code payload s hs
    exact execEventLog_live c hs code payload

end Sys2Proof.Proofs

/-! The servo of a cluster: the wedge, the reacquire timeout and the SERVO unit's MOVE and HOLD (R276, R280, R285, R295,
R298, R310). -/

namespace Sys2Proof.Machine

/-! ### WD and mid-wedge (R270, R276, R280) -/

section
variable {c : Cluster} {s u : State} (hs : s.live = true)
include hs

theorem execServoWd_running {xs : Vector (Option Sample) 32} (lane : Surface) {found : List (Option Reading)}
    (hu : u = s.coastLanes c) (hfound : found = u.demodAll c xs.toList) (hruns : u.servoRuns c = true) :
    execServoWd c xs lane s = .next ((u.servoWd c found (u.wtrOf c (found.getD lane none))).calWd c) := by
  rw [execServoWd, s.run_live _ hs]
  simp only [← hu, ← hfound, hruns, if_true]

theorem execServoWd_idle (xs : Vector (Option Sample) 32) (lane : Surface) (hu : u = s.coastLanes c)
    (hidle : u.servoRuns c = false) : execServoWd c xs lane s = .next (u.calWd c) := by
  rw [execServoWd, s.run_live _ hs]
  simp only [← hu, hidle, Bool.false_eq_true, if_false]

theorem execServoMidw_running (hruns : s.servoRuns c = true) (hu : u = (s.maUpdate c).vcmUpdate c) :
    execServoMidw c s = .next ((u.setPcb c { u.pcbOf c with maDue := true }).seqEvent c 2) := by
  subst hu
  exact (s.run_live _ hs).trans (congrArg Host.Outcome.next (if_pos hruns))

/-! ### The reacquire timeout (R295, R298) -/

theorem execReacquireTimeout_due (hstate : s.get (SRV_STAT_STATE c) = 1 ∨ s.get (SRV_STAT_STATE c) = 4)
    (hdue : s.get (SRV_THR3_REACQ_REVS c) * s.wpr ≤ (s.servoOf c).lostWedges) : execReacquireTimeout c s =
      .next (((s.raiseC kSERVO_LOST c 0).queueVcm c (vcmPayload 0 2)).loseCluster c) :=
  (s.run_live _ hs).trans (congrArg Host.Outcome.next (if_pos ⟨hstate, hdue⟩))

end

/-! ### SEEK or FOLLOW by the distance left (R285) -/

section
variable (s : State) (c : Nat) (x : Rat)

theorem State.seekOrFollow_eq : s.seekOrFollow c x = s.set (SRV_STAT_STATE c)
    (if ((s.get (SRV_THR1_D_SW c) : Nat) : Rat) < |(s.get (SRV_TGT_TARGET c) : Nat) - x| then 3 else 2) := by
  simp only [State.seekOrFollow, srvSEEK, srvFOLLOW, decide_eq_true_eq]

@[simp] theorem State.seekOrFollow_servoOf (d : Nat) : (s.seekOrFollow c x).servoOf d = s.servoOf d := by
  rw [State.seekOrFollow_eq, State.servoOf, State.set_servo, ← State.servoOf]

theorem State.seekOrFollow_get_other {y : Fld} (hy : (SRV_STAT_STATE c).apart y) :
    (s.seekOrFollow c x).get y = s.get y := by
  rw [State.seekOrFollow_eq]
  exact State.get_set_other s _ y _ (by decide : 0 + 3 ≤ 32) hy

theorem State.seekOrFollow_state : (s.seekOrFollow c x).get (SRV_STAT_STATE c) = 2 ∨
    (s.seekOrFollow c x).get (SRV_STAT_STATE c) = 3 := by
  rw [State.seekOrFollow_eq, State.get_set_same _ _ _ (by decide : 0 + 3 ≤ 32)]
  split
  · exact Or.inr rfl
  · exact Or.inl rfl

end

theorem SRV_STAT_ne_SRV_TGT (c : Nat) : SRV_STAT c ≠ SRV_TGT c := by
  simp only [SRV_STAT, SRV_TGT]
  omega

/-! ### MOVE and HOLD (R285, R310, R312) -/

/-- A MOVE begun: the target set, SETTLED clear, and the move of its distance in progress. -/
def State.moving (s : State) (c track owner : Nat) : State :=
  let d := ((track : Int) - s.get (SRV_TGT_TARGET c)).natAbs
  let t := (s.set (SRV_TGT_TARGET c) track).set (SRV_STAT_SETTLED c) 0
  t.setServo c { s.servoOf c with settleRun := 0, move := some ⟨owner, t.seek c d, d, 0, false⟩ }

theorem State.moving_target (s : State) (c owner : Nat) {track : Nat} (ht : track < 2 ^ 26) :
    (s.moving c track owner).get (SRV_TGT_TARGET c) = track := by
  rw [State.moving, State.setServo_get, State.get_set_reg _ _ _ _ (SRV_STAT_ne_SRV_TGT c).symm]
  exact State.get_set_fits s (SRV_TGT_TARGET c) track (by decide : 0 + 26 ≤ 32) ht

theorem State.moving_settled (s : State) (c track owner : Nat) :
    (s.moving c track owner).get (SRV_STAT_SETTLED c) = 0 := by
  rw [State.moving, State.setServo_get]
  exact State.get_set_fits _ (SRV_STAT_SETTLED c) 0 (by decide : 3 + 1 ≤ 32) (by decide : 0 < 2 ^ 1)

/-- In FOLLOW or SEEK a MOVE begins; where the arm stands decides only between SEEK and FOLLOW. -/
theorem State.startMove_tracking (s : State) (c track owner : Nat)
    (hstate : s.get (SRV_STAT_STATE c) = 2 ∨ s.get (SRV_STAT_STATE c) = 3) :
    ∃ x, s.startMove c track owner = (s.moving c track owner).seekOrFollow c x :=
  ⟨_, if_pos hstate⟩

theorem execServoMove_tracking {c : Cluster} (track : BitVec 26) {s : State} (hs : s.live = true)
    (hstate : s.get (SRV_STAT_STATE c) = 2 ∨ s.get (SRV_STAT_STATE c) = 3) :
    Answers (execServoMove c track s) fun t => t.get (SRV_TGT_TARGET c) = track.toNat ∧
      t.get (SRV_STAT_SETTLED c) = 0 ∧
      (t.get (SRV_STAT_STATE c) = 2 ∨ t.get (SRV_STAT_STATE c) = 3) ∧
      ∃ m : Move, (t.servoOf c).move = some m ∧ m.owner = ((s.tlOf c).cellAt (s.tlOf c).now 0).owner ∧
        m.dist = ((track.toNat : Int) - s.get (SRV_TGT_TARGET c)).natAbs ∧ m.taken = 0 := by
  rw [execServoMove]
  refine Answers.run hs ?_
  obtain ⟨x, hmove⟩ := s.startMove_tracking c track.toNat ((s.tlOf c).cellAt (s.tlOf c).now 0).owner hstate
  simp only [hmove, State.seekOrFollow_servoOf]
  refine ⟨?_, ?_, State.seekOrFollow_state _ c x, ?_⟩
  · exact (State.seekOrFollow_get_other _ c x (y := SRV_TGT_TARGET c) (Or.inl (SRV_STAT_ne_SRV_TGT c))).trans
      (s.moving_target c _ track.isLt)
  · exact (State.seekOrFollow_get_other _ c x (y := SRV_STAT_SETTLED c) (Or.inr (Or.inl (Nat.le_refl 3)))).trans
      (s.moving_settled c _ _)
  · rw [State.moving, State.setServo_servoOf_same]
    exact ⟨_, rfl, rfl, rfl, rfl⟩

section
variable {c : Cluster} {s : State} (hs : s.live = true)
include hs

theorem execServoHold_seek (hstate : s.get (SRV_STAT_STATE c) = 3) {x : Rat}
    (hx : x = (s.armAt c (16 * ((s.clk.time : Nat) : Rat))).1) :
    execServoHold c s = .next (s.set (SRV_STAT_STATE c)
      (if ((s.get (SRV_THR1_D_SW c) : Nat) : Rat) < |(s.get (SRV_TGT_TARGET c) : Nat) - x| then 3 else 2)) := by
  rw [← State.seekOrFollow_eq, hx]
  exact (s.run_live _ hs).trans (congrArg Host.Outcome.next (if_pos hstate))

theorem execServoHold_follow (hstate : s.get (SRV_STAT_STATE c) = 2) : execServoHold c s = .next s := by
  have hseek : s.get (SRV_STAT_STATE c) ≠ srvSEEK := by
    rw [hstate]
    decide
  exact (s.run_live _ hs).trans (congrArg Host.Outcome.next (if_neg hseek))

end

end Sys2Proof.Machine

/-! The statement on the servo, and the frames of the servo and the units a sequencer commands. -/

namespace Sys2Proof.Proofs

open Sys2Proof.Machine

/-- Settles O40: the frame lemma of each command, with its list of parts for the hidden ones. -/
theorem servoAndUnitFrames : Obligations.ServoAndUnitFrames := by
  unfold Obligations.ServoAndUnitFrames
  exact
    ⟨fun _ _ _ _ => Framed.leaves (by apply execServoWd_frame <;> rfl),
     fun _ _ => Framed.leaves (by apply execServoMidw_frame <;> rfl),
     fun _ _ => Framed.leaves (by apply execReacquireTimeout_frame <;> rfl),
     fun _ _ _ => Framed.leaves (execTimelineRead_frame rfl _ _ _),
     fun _ _ _ _ => Framed.leaves (execBudgetCheck_frame rfl _ _ _ _),
     fun _ _ _ => Framed.leaves (execPosSet_frame rfl _ _ _),
     fun _ _ => Framed.leaves (by apply execTimelineReadDone_frame <;> rfl),
     fun _ _ _ => Framed.leaves (by apply execServoMove_frame <;> rfl),
     fun _ _ => Framed.leaves (execServoHold_frame rfl _ _),
     fun _ _ _ _ _ => Framed.leaves (execPcbMode_frame rfl _ _ _ _ _),
     fun _ _ _ => Framed.leaves (execStrOpen_frame rfl _ _ _),
     fun _ _ _ => Framed.leaves (execStrWriteset_frame rfl _ _ _),
     fun _ _ => Framed.leaves (execStrCommitTest_frame rfl _ _),
     fun _ _ => Framed.leaves (execStrClose_frame rfl _ _),
     fun _ _ _ => Framed.leaves (by apply execStmKick_frame <;> rfl),
     fun _ _ _ _ => Framed.leaves (by apply execEventLog_frame <;> rfl)⟩

/-- Settles O21: WD, mid-wedge and the reacquire timeout take the branch that their premises leave open; a MOVE sets its
registers before it chooses between SEEK and FOLLOW, and that choice touches the servo's state alone. -/
theorem servoCommandsComplete : Obligations.ServoCommandsComplete := by
  unfold Obligations.ServoCommandsComplete
  refine ⟨?_, ?_, ?_, ?_, ?_⟩
  · intro c xs lane s hs u hu found hfound
    exact ⟨execServoWd_running hs lane hu hfound, execServoWd_idle hs xs lane hu⟩
  · intro c s hs hruns u hu
    exact execServoMidw_running hs hruns hu
  · intro c s hs hstate hdue
    exact execReacquireTimeout_due hs hstate hdue
  · intro c track s hs hstate
    exact execServoMove_tracking track hs hstate
  · intro c s hs
    exact ⟨fun hstate x => execServoHold_seek hs hstate, execServoHold_follow hs⟩

end Sys2Proof.Proofs

/-! The ALU of a sequencer, and the execution of its words: waits, interrupts and the stretch limit (R303 to R308, R316,
R318, R320). -/

namespace Sys2Proof.Machine

/-! ### The bits that POPCNT and FFS look at (R307) -/

theorem bitAt_toNat (y : BitVec 32) (i : Nat) : bitAt y.toNat i = y.getLsbD i := by
  rw [bitAt_eq, BitVec.testBit_toNat]

theorem popc_eq_length_filter (n v : Nat) : popc n v = ((List.range n).filter (bitAt v)).length := by
  induction n with
  | zero => rfl
  | succ n ih =>
    rw [popc, ih, List.range_succ, List.filter_append, List.length_append, List.filter_singleton]
    cases bitAt v n <;> simp [Nat.add_comm]

theorem firstSet_eq_find (v n i : Nat) : firstSet v n i = ((List.range' i n).find? (bitAt v)).getD 32 := by
  induction n generalizing i with
  | zero => rfl
  | succ n ih =>
    rw [firstSet, List.range'_succ, List.find?_cons]
    cases bitAt v i with
    | true => rfl
    | false => exact ih (i + 1)

theorem popc_toNat (y : BitVec 32) : popc 32 y.toNat = ((List.range 32).filter (fun i => y.getLsbD i)).length := by
  simp only [popc_eq_length_filter, funext (bitAt_toNat y)]

theorem firstSet_toNat (y : BitVec 32) :
    firstSet y.toNat 32 0 = ((List.range 32).find? (fun i => y.getLsbD i)).getD 32 := by
  simp only [firstSet_eq_find, List.range_eq_range', funext (bitAt_toNat y)]

/-! ### One ALU operation (R307) -/

/-- Operand B as a word, from the register or the immediate that names it. -/
def State.aluOperand (s : State) (c : Nat) (b : AluB) : BitVec 32 := BitVec.ofNat 32 (s.operandB c b)

theorem State.g_fin (s : State) (c : Nat) (n : Fin 16) : s.g c n = s.get (SEQ_GREG_G c n) := by
  rw [State.g, Nat.mod_eq_of_lt n.isLt]

theorem State.aluOperand_reg (s : State) (c : Nat) (r : Fin 16) :
    s.aluOperand c (.reg r) = BitVec.ofNat 32 (s.get (SEQ_GREG_G c r)) := congrArg (BitVec.ofNat 32) (s.g_fin c r)

theorem State.aluOperand_imm (s : State) (c : Nat) (v : BitVec 32) : s.aluOperand c (.imm v) = v :=
  (BitVec.ofNat_toNat 32 v).trans (BitVec.setWidth_eq v)

theorem State.alu_nop (s : State) (c dst a : Nat) (b : AluB) : s.alu c 0 dst a b = s := rfl

section
variable (s : State) (c : Nat) (dst a : Fin 16) (b : AluB) {op : Nat} (hop : op ≠ 0)
include hop

/-- Every operation but NOP writes its destination, and then the flags. -/
theorem State.alu_eq : s.alu c op dst a b =
    (s.setG c dst (aluResult op (BitVec.ofNat 32 (s.get (SEQ_GREG_G c a))) (s.aluOperand c b)).toNat).setSeq c
      ((s.seqOf c).flags op (BitVec.ofNat 32 (s.get (SEQ_GREG_G c a))) (s.aluOperand c b)) := by
  rw [State.alu, if_neg hop, s.g_fin, State.aluOperand]

theorem State.alu_get_dst : (s.alu c op dst a b).get (SEQ_GREG_G c dst) =
    (aluResult op (BitVec.ofNat 32 (s.get (SEQ_GREG_G c a))) (s.aluOperand c b)).toNat := by
  rw [s.alu_eq c dst a b hop, State.setSeq_get, State.setG_get_same _ _ _ dst.isLt]
  exact Nat.mod_eq_of_lt (BitVec.isLt _)

theorem State.alu_seqOf : (s.alu c op dst a b).seqOf c =
    (s.seqOf c).flags op (BitVec.ofNat 32 (s.get (SEQ_GREG_G c a))) (s.aluOperand c b) := by
  rw [s.alu_eq c dst a b hop, State.setSeq_seqOf_same]

theorem State.alu_get_other {z : Fld} (hz : z.addr ≠ SEQ_GREG c dst) : (s.alu c op dst a b).get z = s.get z := by
  rw [s.alu_eq c dst a b hop, State.setSeq_get, State.setG, Nat.mod_eq_of_lt dst.isLt]
  exact State.get_set_reg _ _ _ _ hz

end

theorem Seq.flags_mov (q : Seq) (x y : BitVec 32) : q.flags 1 x y = q := rfl

/-- Operations 2 to 11 set the three flags. -/
theorem Seq.flags_sets (q : Seq) {op : Nat} (hop : 2 ≤ op ∧ op ≤ 11) (x y : BitVec 32) : q.flags op x y =
    { q with zero := aluResult op x y == 0, neg := (aluResult op x y).msb, carry := aluCarry op x y } := if_pos hop

/-- `t` is `s` with `r` in Gn of sequencer `c`, and ZERO and NEG of it; no other register differs (R307). -/
def State.AluSets (s : State) (c : Nat) (n : Fin 16) (r : BitVec 32) (t : State) : Prop :=
  t.get (SEQ_GREG_G c n) = r.toNat ∧ (t.seqOf c).zero = (r == 0) ∧ (t.seqOf c).neg = r.getLsbD 31 ∧
    ∀ z : Fld, z.addr ≠ SEQ_GREG c n → t.get z = s.get z

/-- What operations 2 to 11 leave. -/
theorem State.alu_sets (s : State) (c : Nat) (dst a : Fin 16) (b : AluB) {op : Nat} (hop : 2 ≤ op ∧ op ≤ 11)
    {x y r : BitVec 32} (hx : x = BitVec.ofNat 32 (s.get (SEQ_GREG_G c a))) (hy : y = s.aluOperand c b)
    (hr : aluResult op x y = r) :
    s.AluSets c dst r (s.alu c op dst a b) ∧ ((s.alu c op dst a b).seqOf c).carry = aluCarry op x y := by
  have hne : op ≠ 0 := by omega
  have hseq := s.alu_seqOf c dst a b hne
  have hdst := s.alu_get_dst c dst a b hne
  rw [← hx, ← hy] at hseq hdst
  rw [Seq.flags_sets _ hop, hr] at hseq
  rw [hr] at hdst
  refine ⟨⟨hdst, ?_, ?_, fun z hz => s.alu_get_other c dst a b hne hz⟩, ?_⟩ <;> rw [hseq]
  exact BitVec.msb_eq_getLsbD_last r

/-! ### The ALU commands (R307) -/

section
variable {c : Cluster} {s : State} (hs : s.live = true) (hruns : s.seqRuns c = true) (dst a : Fin 16) (b : AluB)
include hs hruns

theorem State.aluCmd_running (op : Nat) : s.aluCmd c op dst a b = .next (s.alu c op dst a b) := by
  rw [State.aluCmd, s.run_live _ hs, if_pos hruns]

/-- What a command of operations 2 to 11 answers. -/
theorem State.aluCmd_sets {op : Nat} (hop : 2 ≤ op ∧ op ≤ 11) {x y r : BitVec 32}
    (hx : x = BitVec.ofNat 32 (s.get (SEQ_GREG_G c a))) (hy : y = s.aluOperand c b) (hr : aluResult op x y = r) :
    Answers (s.aluCmd c op dst a b) fun t => s.AluSets c dst r t ∧ (t.seqOf c).carry = aluCarry op x y :=
  ⟨_, s.aluCmd_running hs hruns dst a b op, s.alu_sets c dst a b hop hx hy hr⟩

theorem execAluMov_running {y : BitVec 32} (hy : y = s.aluOperand c b) :
    Answers (execAluMov c dst b s) fun t => t.get (SEQ_GREG_G c dst) = y.toNat ∧ t.seqOf c = s.seqOf c ∧
      ∀ z : Fld, z.addr ≠ SEQ_GREG c dst → t.get z = s.get z := by
  refine ⟨_, s.aluCmd_running hs hruns dst 0 b 1, ?_, ?_, fun z hz => ?_⟩
  · rw [hy]
    exact s.alu_get_dst c dst 0 b Nat.one_ne_zero
  · exact (s.alu_seqOf c dst 0 b Nat.one_ne_zero).trans (Seq.flags_mov _ _ _)
  · exact s.alu_get_other c dst 0 b Nat.one_ne_zero hz

end

theorem Answers.left {r : Res} {P Q : State → Prop} (h : Answers r fun t => P t ∧ Q t) : Answers r P := by
  obtain ⟨t, hr, hp, -⟩ := h
  exact ⟨t, hr, hp⟩

/-- The codes 12 to 15 of ALUOP are reserved (R307, R320). -/
theorem Ctl.legal_eq_false_of_aluop {x : Ctl} (h : 12 ≤ x.aluop) : x.legal = false :=
  decide_eq_false fun hlegal => Nat.not_lt.mpr h hlegal.2.1

/-! ### The fetch of a word (R316, R320, R327) -/

/-- The word at the PC of a sequencer. -/
def State.wordAtPc (s : State) (k : Cluster) : Nat := s.csWord k (s.get (SEQ_STAT_PC k))

/-- A live sequencer that executes words comes to the word at its PC: no interrupt is taken before it, and its parity is
good or, in RUN, not looked at. -/
structure State.Fetches (s : State) (k : Cluster) : Prop where
  live : s.live = true
  runs : s.seqRuns k = true
  uninterrupted : s.seqInterrupted k = false
  parity : s.get (SEQ_STAT_MODE k) = 2 ∨ parityOk (s.wordAtPc k) = true

theorem State.upsetCs_zero (s : State) (c a : Nat) : s.upsetCs c a 0 = s := if_pos rfl

section
variable {s : State} {k : Cluster} (h : s.Fetches k)
include h

theorem State.Fetches.run_wordAt (held : Nat) {p : Ctl → Bool} (hp : p (ctlOf (s.wordAtPc k)) = true) :
    s.run (fun s => s.wordAt k 0 held p) = .next (s.runFetched k held) := by
  have hp' : p (ctlOf (s.csWord k (s.get (SEQ_STAT_PC k)))) = true := hp
  rw [s.run_live _ h.live, State.wordAt, State.upsetCs_zero]
  simp only [h.runs, h.uninterrupted, hp', Bool.not_false, Bool.and_self, if_true]

/-- A word that is fetched so is no machine check; only its legality is left to decide. -/
theorem State.Fetches.runFetched_eq (held : Nat) : s.runFetched k held =
    if !s.is (SEQ_STAT_WAITING k) && !(ctlOf (s.wordAtPc k)).legal then
      s.seqFault k (SEQ_FAULT_ILLEGAL k) kILLEGAL
    else s.runWord k (ctlOf (s.wordAtPc k)) held := by
  have hcheck : (!s.is (SEQ_STAT_WAITING k) && s.get (SEQ_STAT_MODE k) != 2 && !parityOk (s.wordAtPc k)) = false := by
    rcases h.parity with hrun | hok
    · simp [hrun]
    · simp [hok]
  exact if_neg (by rw [← State.wordAtPc, hcheck]; decide)

theorem State.Fetches.illegal (hwait : s.is (SEQ_STAT_WAITING k) = false)
    (hillegal : (ctlOf (s.wordAtPc k)).legal = false) :
    execSeqIllegalWord k 0 s = .next (s.seqFault k (SEQ_FAULT_ILLEGAL k) kILLEGAL) := by
  rw [execSeqIllegalWord, h.run_wordAt 0 (by simp only [hillegal, Bool.not_false]), h.runFetched_eq]
  simp only [hwait, hillegal, Bool.not_false, Bool.and_self, if_true]

variable {x : Ctl} (hx : x = ctlOf (s.wordAtPc k)) (hlegal : x.legal = true)
include hx hlegal

/-- A legal word runs on the command for its FLOW. -/
theorem State.Fetches.run_flow (held : Nat) {n : Nat} (hflow : x.flow = n) :
    s.run (fun s => s.wordAt k 0 held (flowIs n)) = .next (s.runWord k x held) := by
  have hfor : flowIs n (ctlOf (s.wordAtPc k)) = true := by
    rw [← hx, flowIs, hlegal, hflow, beq_self_eq_true, Bool.and_self]
  rw [h.run_wordAt held hfor, h.runFetched_eq, ← hx]
  simp only [hlegal, Bool.not_true, Bool.and_false, Bool.false_eq_true, if_false]

end

/-! ### A legal word by its FLOW (R303, R304, R306, R308; log 44) -/

section
variable (s : State) (k : Cluster) {x : Ctl} (held : Nat)

theorem State.runWord_go (hflow : x.flow = 0) : s.runWord k x held = (s.beginWord k x).endWord k x x.succ := by
  simp only [State.runWord, hflow]

theorem State.runWord_branch (hflow : x.flow = 1) : s.runWord k x held =
    ((s.consume k x).beginWord k x).endWord k x (if s.condOf k x then x.alt else x.succ) := by
  simp only [State.runWord, hflow]

/-- A WAIT that holds runs on. -/
theorem State.runWord_wait_holding (hflow : x.flow = 2) (hwait : s.is (SEQ_STAT_WAITING k) = true) :
    s.runWord k x held = s.waitOn k x held := by
  rw [State.runWord, hflow]
  exact if_pos hwait

/-- A WAIT is entered, and times out only where its counter is not 0 then. -/
theorem State.runWord_wait_entered (hflow : x.flow = 2) (hwait : s.is (SEQ_STAT_WAITING k) = false) {u : State}
    (hu : u = s.beginWord k x) : s.runWord k x held =
      State.waitOn (u.setSeq k { u.seqOf k with timed := decide ((u.seqOf k).tmo ≠ 0) }) k x held := by
  rw [State.runWord, hflow, hu]
  exact if_neg (by rw [hwait]; decide)

theorem State.runWord_call (hflow : x.flow = 3) (hroom : (s.seqOf k).stack.length < 4) :
    s.runWord k x held = ((s.beginWord k x).pushRet k ⟨x.succ, none, none⟩).endWord k x x.alt := by
  rw [State.runWord, hflow]
  exact if_neg (Nat.not_le.mpr hroom)

theorem State.runWord_call_full (hflow : x.flow = 3) (hfull : 4 ≤ (s.seqOf k).stack.length) :
    s.runWord k x held = s.seqFault k (SEQ_FAULT_STACK k) kSTACK := by
  rw [State.runWord, hflow]
  exact if_pos hfull

theorem State.runWord_return (hflow : x.flow = 4) {r : Ret} {rs : List Ret} (htop : (s.seqOf k).stack = r :: rs) :
    s.runWord k x held = ((s.beginWord k x).popRet k).endWord k x r.addr := by
  simp only [State.runWord, hflow, htop]

theorem State.runWord_iret (hflow : x.flow = 5) {r : Ret} {rs : List Ret} (htop : (s.seqOf k).stack = r :: rs) :
    s.runWord k x held = (s.beginWord k x).iret k x r := by
  simp only [State.runWord, hflow, htop]

/-- RETURN and IRET on an empty stack. -/
theorem State.runWord_pop_empty (hflow : x.flow = 4 ∨ x.flow = 5) (hempty : (s.seqOf k).stack = []) :
    s.runWord k x held = s.seqFault k (SEQ_FAULT_STACK k) kSTACK := by
  rcases hflow with hflow | hflow <;> simp only [State.runWord, hflow, hempty]

theorem State.runWord_jumpclr (hflow : x.flow = 6) {u : State} (hu : u = s.beginWord k x) :
    s.runWord k x held = ((((u.setSeq k { u.seqOf k with stack := [] }).set (SEQ_STAT_DEPTH k) 0).set
      (SEQ_STAT_IN_INT k) 0).endWord k x x.succ) := by
  simp only [State.runWord, hflow, hu]

end

/-! ### Timeouts of a WAIT, the stretch limit and the compare value (R303, R308, R309, R318) -/

section
variable {k : Cluster} {s : State} (hs : s.live = true)
include hs

/-- A QCLK counter has passed: the condition wins where it is true, else the WAIT goes on to ALT. -/
theorem execSeqWaitTimeout_passed {x : Ctl} {u : State} (hruns : s.seqRuns k = true)
    (hwait : s.is (SEQ_STAT_WAITING k) = true) (hx : x = ctlOf (s.wordAtPc k)) (htimed : (s.seqOf k).timed = true)
    (hunit : (s.seqOf k).tmoWedges = false) (hu : u = s.waitOn k x (s.seqOf k).tmo) : execSeqWaitTimeout k s =
      .next (if u.is (SEQ_STAT_WAITING k) = true then (u.consume k x).endWord k x x.alt else u) := by
  subst hu hx
  rw [execSeqWaitTimeout, s.run_live _ hs]
  simp only [hruns, hwait, htimed, hunit, Bool.not_false, Bool.true_or, Bool.and_self, if_true, Bool.false_eq_true,
    if_false]
  rfl

theorem execSeqSafeLate_due {u : State} (hruns : s.seqRuns k = true) (hlate : (s.seqOf k).late = false)
    (hlong : 256 < (s.seqOf k).words ∨ 1600 < (s.seqOf k).cycles)
    (hu : u = ((s.safeMax k).setSeq k { s.seqOf k with late := true }).set (SEQ_FAULT_SAFE_LATE k) 1) :
    execSeqSafeLate k s = .next (State.raiseC (u.set (SEQ_FAULT_FADDR k) (u.get (SEQ_STAT_PC k))) kSAFE_LATE k
      (s.seqOf k).words) := by
  subst hu
  refine (s.run_live _ hs).trans (congrArg Host.Outcome.next (if_pos ?_))
  simp only [hruns, hlate, decide_eq_true hlong, Bool.not_false, Bool.and_self]

theorem execPosHit_set {n : Nat} (hn : (s.seqOf k).posCmp = some n) : execPosHit k s = .next (s.seqEvent k 21) :=
  (s.run_live _ hs).trans (congrArg Host.Outcome.next (if_pos (by rw [hn]; rfl)))

theorem execSeqInterrupt_taken (hruns : s.seqRuns k = true) (hint : s.seqInterrupted k = true) :
    execSeqInterrupt k s = .next (s.takeInterrupt k) :=
  (s.run_live _ hs).trans (congrArg Host.Outcome.next (if_pos (by rw [hruns, hint]; rfl)))

end

/-! ### Taking an interrupt (R316) -/

theorem firstSet_le (v n i : Nat) (h : i + n ≤ 32) : firstSet v n i ≤ 32 := by
  induction n generalizing i with
  | zero => exact Nat.le_refl 32
  | succ n ih =>
    rw [firstSet]
    split
    · omega
    · exact ih (i + 1) (by omega)

@[simp] theorem State.set_seqOf (s : State) (x : Fld) (n c : Nat) : (s.set x n).seqOf c = s.seqOf c := by
  rw [State.seqOf, State.set_seq, ← State.seqOf]

@[simp] theorem State.countSat_seqOf (s : State) (x : Fld) (c : Nat) : (s.countSat x).seqOf c = s.seqOf c :=
  s.set_seqOf x _ c

@[simp] theorem State.pushRet_seqOf (s : State) (c : Nat) (r : Ret) :
    (s.pushRet c r).seqOf c = { s.seqOf c with stack := r :: (s.seqOf c).stack } := by
  rw [State.pushRet, State.set_seqOf, State.setSeq_seqOf_same]

theorem SEQ_STAT_ne_SEQ_INTS (c : Nat) : SEQ_STAT c ≠ SEQ_INTS c := by
  simp only [SEQ_STAT, SEQ_INTS]
  omega

theorem SEQ_STAT_ne_SEQ_INTPEND (c : Nat) : SEQ_STAT c ≠ SEQ_INTPEND c := by
  simp only [SEQ_STAT, SEQ_INTPEND]
  omega

/-- Taking an interrupt ends in the PC of its vector and a count; before, IN_INT is set. -/
theorem State.takeInterrupt_eq (s : State) (c : Nat) (hroom : (s.seqOf c).stack.length < 4) : ∃ u : State,
    s.takeInterrupt c = (((u.set (SEQ_STAT_IN_INT c) 1).set (SEQ_INTPEND_PEND c)
      (putBit ((u.set (SEQ_STAT_IN_INT c) 1).get (SEQ_INTPEND_PEND c)) (firstSet (s.seqReady c) 8 0) false)).set
      (SEQ_STAT_PC c) (8 + firstSet (s.seqReady c) 8 0)).countSat (SEQ_INTS_COUNT c) ∧
    (u.seqOf c).stack.length = (s.seqOf c).stack.length + 1 := by
  rw [State.takeInterrupt, if_neg (Nat.not_le.mpr hroom)]
  refine ⟨_, rfl, ?_⟩
  rw [State.set_seqOf, State.setSeq_seqOf_same, State.pushRet_seqOf, List.length_cons]

section
variable (s : State) (c : Nat) (hroom : (s.seqOf c).stack.length < 4)
include hroom

theorem State.takeInterrupt_pc : (s.takeInterrupt c).get (SEQ_STAT_PC c) = 8 + firstSet (s.seqReady c) 8 0 := by
  obtain ⟨u, hu, -⟩ := s.takeInterrupt_eq c hroom
  have hvector : 8 + firstSet (s.seqReady c) 8 0 < 2 ^ 14 :=
    Nat.lt_of_le_of_lt (Nat.add_le_add_left (firstSet_le _ 8 0 (by decide)) 8) (by decide)
  rw [hu, State.countSat_get_other _ _ _ (SEQ_STAT_ne_SEQ_INTS c)]
  exact State.get_set_fits _ (SEQ_STAT_PC c) _ (by decide : 8 + 14 ≤ 32) hvector

theorem State.takeInterrupt_inInt : (s.takeInterrupt c).get (SEQ_STAT_IN_INT c) = 1 := by
  obtain ⟨u, hu, -⟩ := s.takeInterrupt_eq c hroom
  rw [hu, State.countSat_get_other _ _ _ (SEQ_STAT_ne_SEQ_INTS c),
    State.get_set_other _ (SEQ_STAT_PC c) (SEQ_STAT_IN_INT c) _ (by decide : 8 + 14 ≤ 32)
      (Or.inr (Or.inr (by decide : 4 + 1 ≤ 8))),
    State.get_set_reg _ _ _ _ (SEQ_STAT_ne_SEQ_INTPEND c)]
  exact State.get_set_fits _ (SEQ_STAT_IN_INT c) 1 (by decide : 4 + 1 ≤ 32) (by decide : 1 < 2 ^ 1)

theorem State.takeInterrupt_depth :
    ((s.takeInterrupt c).seqOf c).stack.length = (s.seqOf c).stack.length + 1 := by
  obtain ⟨u, hu, hdepth⟩ := s.takeInterrupt_eq c hroom
  rw [hu, State.countSat_seqOf, State.set_seqOf, State.set_seqOf, State.set_seqOf, hdepth]

end

end Sys2Proof.Machine

/-! The statements on a sequencer's ALU and words, and the frames of the lanes, the preamp bus and the sequencer. -/

namespace Sys2Proof.Proofs

open Sys2Proof.Machine

/-- Settles O19: an ALU command of a running sequencer is its operation, whose result and flags are those of its code;
POPCNT and FFS read B bit by bit. -/
theorem aluResultsAndFlags : Obligations.AluResultsAndFlags := by
  unfold Obligations.AluResultsAndFlags
  refine ⟨?_, fun c dst a b s => s.alu_nop c dst a b, fun w h => Ctl.legal_eq_false_of_aluop h⟩
  intro c dst a b s x y hs hruns hx hy sets hsets
  have hb : y = s.aluOperand c b := by
    cases b with
    | reg r => exact hy.trans (s.aluOperand_reg c r).symm
    | imm v => exact hy.trans (s.aluOperand_imm c v).symm
  obtain rfl : sets = s.AluSets c dst := hsets
  have hop {op : Nat} {r : BitVec 32} (h : 2 ≤ op ∧ op ≤ 11) (hr : aluResult op x y = r) :=
    State.aluCmd_sets hs hruns dst a b h hx hb hr
  have hunary {op : Nat} {r : BitVec 32} (h : 2 ≤ op ∧ op ≤ 11)
      (hr : aluResult op (BitVec.ofNat 32 (s.get (SEQ_GREG_G c (0 : Fin 16)))) y = r) :=
    State.aluCmd_sets hs hruns dst 0 b h rfl hb hr
  refine ⟨execAluMov_running hs hruns dst b hb, hop (by decide) rfl, hop (by decide) rfl, (hop (by decide) rfl).left,
    (hop (by decide) rfl).left, (hop (by decide) rfl).left, (hop (by decide) rfl).left, (hop (by decide) rfl).left,
    (hunary (by decide) ?_).left, (hunary (by decide) ?_).left, (hop (by decide) rfl).left⟩
  · exact congrArg (BitVec.ofNat 32) (popc_toNat y)
  · exact congrArg (BitVec.ofNat 32) (firstSet_toNat y)

/-- Settles O37: the frame lemma of each command, with its list of parts for the hidden ones. -/
theorem laneAndPreampFrames : Obligations.LaneAndPreampFrames := by
  unfold Obligations.LaneAndPreampFrames
  exact
    ⟨fun _ _ _ _ => Framed.leaves (by apply execLaneArmRead_frame <;> rfl),
     fun _ _ _ _ => Framed.leaves (by apply execLaneArmWrite_frame <;> rfl),
     fun _ _ => Framed.leaves (by apply execPfltNoFaultFrame_frame <;> rfl),
     fun _ _ _ => Framed.leaves (by apply execLaneDisarm_frame <;> rfl),
     fun _ _ _ => Framed.leaves (by apply execAdcStuck_frame <;> rfl),
     fun _ _ _ _ => Framed.leaves (by apply execLaneRetire_frame <;> rfl),
     fun _ _ _ _ _ => Framed.leaves (by apply execHostWinhWrite_frame <;> rfl),
     fun _ _ _ => Framed.leaves (by apply execPcbFrameSend_frame <;> rfl),
     fun _ _ _ _ => Framed.leaves (by apply execPcbNak_frame <;> rfl),
     fun _ _ _ => Framed.leaves (by apply execPcbSense_frame <;> rfl),
     fun _ _ _ _ => Framed.leaves (by apply execPcbFaultFrame_frame <;> rfl),
     fun _ _ _ => Framed.leaves (by apply execPcbBadFrame_frame <;> rfl),
     fun _ _ _ => Framed.leaves (by apply execPcbExchangeTimeout_frame <;> rfl),
     fun _ _ _ => Framed.leaves (by apply execPcbAck_frame <;> rfl),
     fun _ _ _ _ => Framed.leaves (by apply execPcbRdata_frame <;> rfl),
     fun _ _ _ => Framed.leaves (by apply execPcbRegRead_frame <;> rfl),
     fun _ _ _ => Framed.leaves (by apply execPcbRegWrite_frame <;> rfl),
     fun _ _ => Framed.leaves (by apply execPfltFall_frame <;> rfl),
     fun _ _ => Framed.leaves (by apply execPfltRise_frame; rfl),
     fun _ _ _ _ => Framed.leaves (by apply execFragmentWriteStart_frame <;> rfl)⟩

/-- Settles O41: the frame lemma of each command, with its list of parts for the hidden ones. -/
theorem sequencerFrames : Obligations.SequencerFrames := by
  unfold Obligations.SequencerFrames
  exact
    ⟨fun _ _ _ => Framed.leaves (by apply execSeqGo_frame <;> rfl),
     fun _ _ _ => Framed.leaves (by apply execSeqBranch_frame <;> rfl),
     fun _ _ _ _ => Framed.leaves (by apply execSeqWait_frame <;> rfl),
     fun _ _ _ => Framed.leaves (by apply execSeqCall_frame <;> rfl),
     fun _ _ _ => Framed.leaves (by apply execSeqReturn_frame <;> rfl),
     fun _ _ _ => Framed.leaves (by apply execSeqIret_frame <;> rfl),
     fun _ _ _ => Framed.leaves (by apply execSeqJumpclr_frame <;> rfl),
     fun _ _ _ => Framed.leaves (by apply execSeqIllegalWord_frame <;> rfl),
     fun _ _ _ _ => Framed.leaves (by apply execSeqStep_frame <;> rfl),
     fun _ _ => Framed.leaves (execSeqWaitTimeout_frame rfl rfl _ _),
     fun _ _ _ _ => Framed.leaves (execAluMov_frame rfl rfl _ _ _ _),
     fun _ _ _ _ _ => Framed.leaves (execAluAdd_frame rfl rfl _ _ _ _ _),
     fun _ _ _ _ _ => Framed.leaves (execAluSub_frame rfl rfl _ _ _ _ _),
     fun _ _ _ _ _ => Framed.leaves (execAluAnd_frame rfl rfl _ _ _ _ _),
     fun _ _ _ _ _ => Framed.leaves (execAluOr_frame rfl rfl _ _ _ _ _),
     fun _ _ _ _ _ => Framed.leaves (execAluXor_frame rfl rfl _ _ _ _ _),
     fun _ _ _ _ _ => Framed.leaves (execAluShl_frame rfl rfl _ _ _ _ _),
     fun _ _ _ _ _ => Framed.leaves (execAluShr_frame rfl rfl _ _ _ _ _),
     fun _ _ _ _ => Framed.leaves (execAluPopcnt_frame rfl rfl _ _ _ _),
     fun _ _ _ _ => Framed.leaves (execAluFfs_frame rfl rfl _ _ _ _),
     fun _ _ _ _ _ => Framed.leaves (execAluMin_frame rfl rfl _ _ _ _ _),
     fun _ _ => Framed.leaves (execStoreReloadDone_frame rfl rfl _ _),
     fun _ _ => Framed.leaves (by apply execSeqInterrupt_frame <;> rfl),
     fun _ _ => Framed.leaves (by apply execSeqSafeLate_frame <;> rfl),
     fun _ _ _ => Framed.leaves (by apply execCsVerifyDone_frame <;> rfl),
     fun _ _ _ => Framed.leaves (by apply execSeqRestart_frame <;> rfl),
     fun _ _ _ _ => Framed.leaves (by apply execCsRead_frame <;> rfl),
     fun _ _ _ => Framed.leaves (by apply execCsWrite_frame <;> rfl),
     fun _ _ _ => Framed.leaves (by apply execCsVerify_frame <;> rfl),
     fun _ _ _ => Framed.leaves (by apply execSeqTest_frame <;> rfl),
     fun _ _ _ _ => Framed.leaves (by apply execGflagWrite_frame <;> rfl),
     fun _ _ _ => Framed.leaves (by apply execSeqHalt_frame <;> rfl),
     fun _ _ => Framed.leaves (execPosHit_frame rfl _ _)⟩

/-- Settles O20: the command for the FLOW of a legal word at PC runs that word, whose FLOW fixes the path it takes; the
other commands take the one path that their premises leave open. -/
theorem sequencerWordsComplete : Obligations.SequencerWordsComplete := by
  unfold Obligations.SequencerWordsComplete
  refine ⟨?_, ?_, ?_, ?_, ?_, ?_⟩
  · intro k s x hs hruns hint hx hlegal hparity
    have hfetch : s.Fetches k := ⟨hs, hruns, hint, hparity⟩
    have hword (held : Nat) {n : Nat} {t : State} (hflow : x.flow = n) (ht : s.runWord k x held = t) :
        s.run (fun s => s.wordAt k 0 held (flowIs n)) = .next t := ht ▸ hfetch.run_flow hx hlegal held hflow
    refine ⟨fun hf => hword 0 hf (s.runWord_go k 0 hf), fun hf => hword 0 hf (s.runWord_branch k 0 hf),
      fun hf held => ⟨fun hw => hword _ hf (s.runWord_wait_holding k _ hf hw),
        fun hw u hu => hword _ hf (s.runWord_wait_entered k _ hf hw hu)⟩,
      fun hf hroom => hword 0 hf (s.runWord_call k 0 hf hroom),
      fun hf hfull => hword 0 hf (s.runWord_call_full k 0 hf hfull),
      fun r rs htop => ⟨fun hf => hword 0 hf (s.runWord_return k 0 hf htop),
        fun hf => hword 0 hf (s.runWord_iret k 0 hf htop)⟩,
      fun hempty => ⟨fun hf => hword 0 hf (s.runWord_pop_empty k 0 (.inl hf) hempty),
        fun hf => hword 0 hf (s.runWord_pop_empty k 0 (.inr hf) hempty)⟩,
      fun hf u hu => hword 0 hf (s.runWord_jumpclr k 0 hf hu)⟩
  · intro k s hs hruns hint hwait hillegal hparity
    exact State.Fetches.illegal ⟨hs, hruns, hint, hparity⟩ hwait hillegal
  · intro k s x hs hruns hwait hx htimed hunit u hu
    exact execSeqWaitTimeout_passed hs hruns hwait hx htimed hunit hu
  · intro k s hs hruns hint hroom
    exact ⟨execSeqInterrupt_taken hs hruns hint, s.takeInterrupt_pc k hroom, s.takeInterrupt_inInt k hroom,
      s.takeInterrupt_depth k hroom⟩
  · intro k s hs hruns hlate hlong u hu
    exact execSeqSafeLate_due hs hruns hlate hlong hu
  · intro k s n hs hn
    exact execPosHit_set hs hn

end Sys2Proof.Proofs

/-! CLR_RETRY, the spindle's steps and faults, and SPREF (R342, R345, R347, R349, R350). -/

namespace Sys2Proof.Machine

/-! ### CLR_RETRY (R342) -/

theorem execClrRetry_due {c : Cluster} {f : Surface} {s : State} (hs : s.live = true)
    (hstate : s.get (LAN_CLSTAT_STATE c f) = 4) (hretries : s.get (LAN_CLSTAT_RETRIES c f) < 3)
    (hrevs : s.get LOOP_SUPCFG0_RETRY_REVS ≤ (s.clrOf c f).revs) : execClrRetry c f s =
      .next (((s.clrRamp c f 1).set (LAN_CLSTAT_STATE c f) 5).setClr c f
        { s.clrOf c f with prob := 0, probRun := false, mis := 0, same := 0, lostRun := 0 }) :=
  (s.run_live _ hs).trans (congrArg Host.Outcome.next (if_pos ⟨hstate, hretries, hrevs⟩))

/-! ### Both dies' loops and the loop's state (R350; log 63) -/

theorem State.setSpin_spinOf (s : State) (d e : Nat) (x : Spin) :
    (s.setSpin d x).spinOf e = if e = d then x else s.spinOf e := tget_tset _ _ _ _ _

@[simp] theorem State.spinBoth_clk (s : State) (f : Spin → Spin) : (s.spinBoth f).clk = s.clk := rfl

@[simp] theorem State.spinBoth_spinOf (s : State) (f : Spin → Spin) (d : Die) :
    (s.spinBoth f).spinOf d = f (s.spinOf d) := by
  rw [State.spinBoth, State.setSpin_spinOf, State.setSpin_spinOf]
  match d with
  | 0 => rfl
  | 1 => rfl

@[simp] theorem State.queueSpmode_clk (s : State) (mode : Nat) (pf : Bool) : (s.queueSpmode mode pf).clk = s.clk := rfl

@[simp] theorem State.queueSpmode_spinOf (s : State) (mode d : Nat) (pf : Bool) :
    (s.queueSpmode mode pf).spinOf d = s.spinOf d := rfl

theorem State.spinTo_spState (s : State) {st : Nat} (h : st < 2 ^ 3) : (s.spinTo st).get LOOP_STAT_SP_STATE = st :=
  State.get_set_fits _ LOOP_STAT_SP_STATE st (by decide : 0 + 3 ≤ 32) h

@[simp] theorem State.spinTo_spinOf (s : State) (st : Nat) (d : Die) :
    (s.spinTo st).spinOf d = { s.spinOf d with since := s.clk.time, aligned := false } := by
  rw [State.spinTo, State.spinOf, State.set_spin, ← State.spinOf, State.spinBoth_spinOf]
  rfl

section
variable {s : State} (hs : s.live = true)
include hs

/-! ### The watch and ALIGN (R345) -/

theorem execSpinWatchEnd_due (hstate : s.get LOOP_STAT_SP_STATE = 0) (hwatch : s.spin0.watching = true)
    (hdue : s.spin0.since + 1000000 ≤ s.clk.time) : Answers (execSpinWatchEnd s) fun t =>
      t.get LOOP_STAT_SP_STATE = (if s.spin0.seen3 then 3 else 1) ∧ ∀ d : Die, t.spinOf d = { s.spinOf d with
        watching := false, enabled := true, left := s.clk.time, since := s.clk.time, aligned := false } := by
  refine Answers.run hs ?_
  rw [if_pos ⟨hstate, hwatch, hdue⟩]
  refine ⟨State.spinTo_spState _ ?_, fun d => ?_⟩
  · split <;> decide
  · simp only [State.spinTo_spinOf, State.queueSpmode_spinOf, State.queueSpmode_clk, State.spinBoth_spinOf,
      State.spinBoth_clk, State.now]

theorem execSpinAlignEnd_due (hstate : s.get LOOP_STAT_SP_STATE = 1)
    (hdue : s.spin0.since + s.get LOOP_SPCFG_ALIGN_MS * 100000 ≤ s.clk.time) : Answers (execSpinAlignEnd s) fun t =>
      t.get LOOP_STAT_SP_STATE = 2 ∧ ∀ d : Die, t.spinOf d = { s.spinOf d with
        zeros := 0, since := s.clk.time, aligned := false } := by
  refine Answers.run hs ?_
  rw [if_pos ⟨hstate, hdue⟩]
  refine ⟨State.spinTo_spState _ (by decide), fun d => ?_⟩
  simp only [State.spinTo_spinOf, State.spinBoth_spinOf, State.spinBoth_clk]

/-! ### Spindle faults (R349) -/

theorem execSpinNoZeroCrossing_due (hstate : s.get LOOP_STAT_SP_STATE = 3 ∨ s.get LOOP_STAT_SP_STATE = 4)
    (hdue : 4 * s.periodTarget ≤ (s.halvesPerRev : Rat) *
      ((16 * s.clk.time : Nat) - (max (16 * s.spin0.since) (s.spin0.cross.getD 0) : Nat) : Int)) :
    execSpinNoZeroCrossing s = .next (((s.set LOOP_STAT_SP_STATE 7).raise srcSPINDLE 0 (orgInt 13 0 0)).loseSpindle) :=
  (s.run_live _ hs).trans (congrArg Host.Outcome.next (if_pos ⟨hstate, hdue⟩))

theorem execSpinupTimeout_due (henabled : s.spin0.enabled = true) (hnever : s.spin0.everLocked = false)
    (hstate : s.get LOOP_STAT_SP_STATE ∈ [1, 2, 3])
    (hdue : s.spin0.left + s.get LOOP_SPCFG_SPINUP_MAX_S * 100000000 ≤ s.clk.time) :
    execSpinupTimeout s = .next (s.raise srcSPINUP 0 (orgInt 13 0 0)) := by
  simp only [List.mem_cons, List.not_mem_nil, or_false] at hstate
  exact (s.run_live _ hs).trans (congrArg Host.Outcome.next (if_pos ⟨henabled, hnever, hstate, hdue⟩))

/-! ### SPREF (R347) -/

section
variable (hen : s.is LOOP_SPCFG_SPREF_EN = true)
include hen

theorem execSprefEdge_first (frac : Fin 16) (hfirst : s.spin0.lastEdge = none) :
    execSprefEdge frac s = .next (s.sprefAccept (16 * s.clk.time + frac.val)) := by
  rw [execSprefEdge, s.run_live _ hs, hen, hfirst]
  rfl

/-- An edge after an accepted one is judged by how far its period, in 2^-20 of a tick, is off the nominal one. -/
theorem execSprefEdge_next {frac : Fin 16} {p off : Nat} (hlast : s.spin0.lastEdge = some p)
    (hoff : off = ((((16 * s.clk.time + frac.val : Nat) : Int) - p) * 2 ^ 16 - s.nominal).natAbs) :
    execSprefEdge frac s = .next (if off * 1000000 ≤ s.nominal * s.get LOOP_SPREF_SPREF_TOL then
      s.sprefAccept (16 * s.clk.time + frac.val)
      else (s.spinBoth (fun x => { x with run := 0 })).countSat LOOP_SPREF_MISS_COUNT) := by
  subst hoff
  rw [execSprefEdge, s.run_live _ hs, hen, hlast, State.now, if_neg (by decide)]

theorem execSprefLost_due {p : Nat} (hlast : s.spin0.lastEdge = some p)
    (hdue : p * 2 ^ 16 + 3 * s.nominal ≤ 16 * s.clk.time * 2 ^ 16) : execSprefLost s =
      .next (((s.spinBoth (fun x => { x with lastEdge := none, run := 0, periods := [] })).set
        LOOP_STAT_SPREF_OK 0).raise srcSPREFLOST 0 (orgInt 13 0 0)) := by
  rw [execSprefLost, s.run_live _ hs, hlast]
  refine congrArg Host.Outcome.next (if_pos ?_)
  rw [hen, State.now, decide_eq_true hdue, Bool.and_self]

end

end

end Sys2Proof.Machine

/-! The statement on the clearance retry, the spindle and SPREF. -/

namespace Sys2Proof.Proofs

open Sys2Proof.Machine

/-- Settles O24: each command takes the one path that its premises leave open; a SPREF edge after an accepted one is
accepted or missed by which side of SPREF_TOL its period falls on. -/
theorem loopCommandsComplete : Obligations.LoopCommandsComplete := by
  unfold Obligations.LoopCommandsComplete
  refine ⟨?_, ?_, ?_, ?_, ?_⟩
  · intro c f s hs hstate hretries hrevs
    exact execClrRetry_due hs hstate hretries hrevs
  · intro s hs hstate hwatch hdue
    exact execSpinWatchEnd_due hs hstate hwatch hdue
  · intro s hs hstate hdue
    exact execSpinAlignEnd_due hs hstate hdue
  · intro s hs
    exact ⟨execSpinNoZeroCrossing_due hs, execSpinupTimeout_due hs⟩
  · rintro s frac e hs hen rfl
    refine ⟨execSprefEdge_first hs hen frac, fun p hlast off hoff => ⟨fun hin => ?_, fun hout => ?_,
      execSprefLost_due hs hen hlast⟩⟩
    · exact (execSprefEdge_next hs hen hlast hoff).trans (congrArg Host.Outcome.next (if_pos hin))
    · exact (execSprefEdge_next hs hen hlast hoff).trans (congrArg Host.Outcome.next (if_neg (Nat.not_le.mpr hout)))

end Sys2Proof.Proofs

/-! Every step keeps the memory tables in canonical form (log 8). -/

namespace Sys2Proof.Machine

/-- The commands that may store to memory. -/
def writesMemories : Instr → Bool
  | .powerOnDetect | .resetNAssert | .chipReset | .startStepDone _ | .admissionUnitTake _ _ _ _ _ | .stripeSettle _ _
  | .memoryRead _ | .memoryWrite _ _ _ | .memoryPartialWrite _ _ _ _ | .scrubRead _ _ _ | .lineSweepBurst _ _ _
  | .steeringHoldEnd _ | .scrubRefetch _ _ _ | .cacheDrainEnd _ | .stmBurstIssue _ | .linkWwr _ _ _ _ _ _ => true
  | _ => false

/-- Every other command leaves both memory tables alone. -/
theorem exec_frame_memories (i : Instr) (s : State) (h : writesMemories i = false) : Framed notMem s (exec i s) := by
  cases i with
  | powerOnDetect | resetNAssert | chipReset | startStepDone | admissionUnitTake | stripeSettle | memoryRead
  | memoryWrite | memoryPartialWrite | scrubRead | lineSweepBurst | steeringHoldEnd | scrubRefetch | cacheDrainEnd
  | stmBurstIssue | linkWwr => cases h
  | resetNRelease => apply execResetNRelease_frame; rfl
  | startPfailHoldEnd => apply execStartPfailHoldEnd_frame <;> rfl
  | refclkGapTimeout => apply execRefclkGapTimeout_frame <;> rfl
  | refclkWindowEnd _ => apply execRefclkWindowEnd_frame <;> rfl
  | rootStop => apply execRootStop_frame <;> rfl
  | timeReplicaCompare _ _ => apply execTimeReplicaCompare_frame <;> rfl
  | cdcClockTimeout _ => apply execCdcClockTimeout_frame <;> rfl
  | cdcPulse _ _ => apply execCdcPulse_frame; rfl
  | cdcReopen _ => apply execCdcReopen_frame; rfl
  | blockResetEnd _ => apply execBlockResetEnd_frame <;> rfl
  | faultMaskEnd _ => apply execFaultMaskEnd_frame <;> rfl
  | fltFirstClear _ => apply execFltFirstClear_frame <;> rfl
  | fltPendClear _ _ _ => apply execFltPendClear_frame <;> rfl
  | registerWrite _ _ _ => apply execRegisterWrite_frame <;> rfl
  | rcFieldRead _ _ => apply execRcFieldRead_frame <;> rfl
  | hoistRead _ _ => apply execHoistRead_frame <;> rfl
  | hoistWrite _ _ => apply execHoistWrite_frame <;> rfl
  | hoistAbort _ _ => apply execHoistAbort_frame <;> rfl
  | hoistBadOpcode _ _ => apply execHoistBadOpcode_frame <;> rfl
  | heldHoistLatch _ => apply execHeldHoistLatch_frame <;> rfl
  | bufferedTerminal _ _ => apply execBufferedTerminal_frame <;> rfl
  | cqPop _ => apply execCqPop_frame <;> rfl
  | slotopFree _ _ _ => apply execSlotopFree_frame <;> rfl
  | slotopClaim _ _ _ => apply execSlotopClaim_frame <;> rfl
  | slotopComplete _ => apply execSlotopComplete_frame <;> rfl
  | portCfgWrite _ _ _ => apply execPortCfgWrite_frame <;> rfl
  | rightsRead _ => apply execRightsRead_frame <;> rfl
  | rightsSet _ => apply execRightsSet_frame <;> rfl
  | rightsClear _ => apply execRightsClear_frame <;> rfl
  | rightsCmdComplete => apply execRightsCmdComplete_frame <;> rfl
  | grantRead _ => apply execGrantRead_frame <;> rfl
  | grantSet _ => apply execGrantSet_frame <;> rfl
  | grantRevoke _ => apply execGrantRevoke_frame <;> rfl
  | grantCmdComplete => apply execGrantCmdComplete_frame <;> rfl
  | holdSweep => apply execHoldSweep_frame <;> rfl
  | winHoldWrite _ _ => apply execWinHoldWrite_frame <;> rfl
  | wedgeBoundary _ _ => apply execWedgeBoundary_frame <;> rfl
  | bcmdRead _ => apply execBcmdRead_frame <;> rfl
  | bcmdWrite _ => apply execBcmdWrite_frame <;> rfl
  | bcmdComplete => apply execBcmdComplete_frame <;> rfl
  | laneArmRead _ _ _ => apply execLaneArmRead_frame <;> rfl
  | laneArmWrite _ _ _ => apply execLaneArmWrite_frame <;> rfl
  | laneDisarm _ _ => apply execLaneDisarm_frame <;> rfl
  | adcStuck _ _ => apply execAdcStuck_frame <;> rfl
  | laneRetire _ _ _ => apply execLaneRetire_frame <;> rfl
  | hostWinhWrite _ _ _ _ => apply execHostWinhWrite_frame <;> rfl
  | pcbFrameSend _ _ => apply execPcbFrameSend_frame <;> rfl
  | pcbAck _ _ => apply execPcbAck_frame <;> rfl
  | pcbNak _ _ _ => apply execPcbNak_frame <;> rfl
  | pcbSense _ _ => apply execPcbSense_frame <;> rfl
  | pcbRdata _ _ _ => apply execPcbRdata_frame <;> rfl
  | pcbFaultFrame _ _ _ => apply execPcbFaultFrame_frame <;> rfl
  | pcbBadFrame _ _ => apply execPcbBadFrame_frame <;> rfl
  | pcbExchangeTimeout _ _ => apply execPcbExchangeTimeout_frame <;> rfl
  | pcbRegRead _ _ => apply execPcbRegRead_frame <;> rfl
  | pcbRegWrite _ _ => apply execPcbRegWrite_frame <;> rfl
  | pfltFall _ => apply execPfltFall_frame <;> rfl
  | pfltNoFaultFrame _ => apply execPfltNoFaultFrame_frame <;> rfl
  | mcbCycle _ _ => apply execMcbCycle_frame <;> rfl
  | mcbAck _ _ => apply execMcbAck_frame <;> rfl
  | mcbNak _ => apply execMcbNak_frame <;> rfl
  | vcmMeas _ _ _ _ => apply execVcmMeas_frame; rfl
  | spinMeas _ _ _ _ _ => apply execSpinMeas_frame <;> rfl
  | mcbRdata _ _ _ => apply execMcbRdata_frame <;> rfl
  | mcbFault _ _ => apply execMcbFault_frame <;> rfl
  | mcbRegRead _ _ => apply execMcbRegRead_frame <;> rfl
  | mcbRegWrite _ _ _ => apply execMcbRegWrite_frame <;> rfl
  | masterTakeover => apply execMasterTakeover_frame <;> rfl
  | pfailNFall => apply execPfailNFall_frame; rfl
  | pfailGlitch => apply execPfailGlitch_frame <;> rfl
  | pfailAccept => apply execPfailAccept_frame <;> rfl
  | pfPhaseB _ => apply execPfPhaseB_frame <;> rfl
  | pfBrake => apply execPfBrake_frame <;> rfl
  | pfailRecover => apply execPfailRecover_frame <;> rfl
  | fragmentReadStart _ _ _ => apply execFragmentReadStart_frame <;> rfl
  | syncWindowClose _ _ _ => apply execSyncWindowClose_frame <;> rfl
  | resyncSearch _ _ _ _ => apply execResyncSearch_frame <;> rfl
  | fragmentEnd _ _ _ => apply execFragmentEnd_frame <;> rfl
  | landingHead _ _ => apply execLandingHead_frame <;> rfl
  | decodeDispatch _ _ => apply execDecodeDispatch_frame <;> rfl
  | decodeEnd _ _ _ => apply execDecodeEnd_frame <;> rfl
  | decodeDeadline _ _ => apply execDecodeDeadline_frame <;> rfl
  | decoderTimeout _ _ => apply execDecoderTimeout_frame <;> rfl
  | parityEncodeDone _ => apply execParityEncodeDone_frame <;> rfl
  | commitTestDone _ _ => apply execCommitTestDone_frame <;> rfl
  | calSkewUpdate _ _ _ _ => apply execCalSkewUpdate_frame <;> rfl
  | relocTrackCopy _ _ _ _ => apply execRelocTrackCopy_frame <;> rfl
  | repairWrite _ _ _ _ => apply execRepairWrite_frame <;> rfl
  | patrolRead _ _ _ _ _ => apply execPatrolRead_frame <;> rfl
  | servoWd _ _ _ => apply execServoWd_frame <;> rfl
  | servoMidw _ => apply execServoMidw_frame <;> rfl
  | reacquireTimeout _ => apply execReacquireTimeout_frame <;> rfl
  | seqGo _ _ => apply execSeqGo_frame <;> rfl
  | seqBranch _ _ => apply execSeqBranch_frame <;> rfl
  | seqWait _ _ _ => apply execSeqWait_frame <;> rfl
  | seqWaitTimeout _ => apply execSeqWaitTimeout_frame <;> rfl
  | seqCall _ _ => apply execSeqCall_frame <;> rfl
  | seqReturn _ _ => apply execSeqReturn_frame <;> rfl
  | seqIret _ _ => apply execSeqIret_frame <;> rfl
  | seqJumpclr _ _ => apply execSeqJumpclr_frame <;> rfl
  | seqIllegalWord _ _ => apply execSeqIllegalWord_frame <;> rfl
  | aluMov _ _ _ => apply execAluMov_frame <;> rfl
  | aluAdd _ _ _ _ => apply execAluAdd_frame <;> rfl
  | aluSub _ _ _ _ => apply execAluSub_frame <;> rfl
  | aluAnd _ _ _ _ => apply execAluAnd_frame <;> rfl
  | aluOr _ _ _ _ => apply execAluOr_frame <;> rfl
  | aluXor _ _ _ _ => apply execAluXor_frame <;> rfl
  | aluShl _ _ _ _ => apply execAluShl_frame <;> rfl
  | aluShr _ _ _ _ => apply execAluShr_frame <;> rfl
  | aluPopcnt _ _ _ => apply execAluPopcnt_frame <;> rfl
  | aluFfs _ _ _ => apply execAluFfs_frame <;> rfl
  | aluMin _ _ _ _ => apply execAluMin_frame <;> rfl
  | timelineRead _ _ => apply execTimelineRead_frame; rfl
  | timelineReadDone _ => apply execTimelineReadDone_frame <;> rfl
  | servoMove _ _ => apply execServoMove_frame <;> rfl
  | servoHold _ => apply execServoHold_frame; rfl
  | pcbMode _ _ _ _ => apply execPcbMode_frame; rfl
  | strOpen _ _ => apply execStrOpen_frame; rfl
  | strWriteset _ _ => apply execStrWriteset_frame; rfl
  | strCommitTest _ => apply execStrCommitTest_frame; rfl
  | strClose _ => apply execStrClose_frame; rfl
  | stmKick _ _ => apply execStmKick_frame <;> rfl
  | budgetCheck _ _ _ => apply execBudgetCheck_frame; rfl
  | portTerminal _ _ => apply execPortTerminal_frame <;> rfl
  | portDetail _ => apply execPortDetail_frame; rfl
  | eventLog _ _ _ => apply execEventLog_frame <;> rfl
  | posSet _ _ => apply execPosSet_frame; rfl
  | seqInterrupt _ => apply execSeqInterrupt_frame <;> rfl
  | seqSafeLate _ => apply execSeqSafeLate_frame <;> rfl
  | seqRestart _ _ => apply execSeqRestart_frame <;> rfl
  | seqTest _ _ => apply execSeqTest_frame <;> rfl
  | seqHalt _ _ => apply execSeqHalt_frame <;> rfl
  | seqStep _ _ _ => apply execSeqStep_frame <;> rfl
  | csRead _ _ _ => apply execCsRead_frame <;> rfl
  | csWrite _ _ => apply execCsWrite_frame <;> rfl
  | csVerify _ _ => apply execCsVerify_frame <;> rfl
  | csVerifyDone _ _ => apply execCsVerifyDone_frame <;> rfl
  | gflagWrite _ _ _ => apply execGflagWrite_frame <;> rfl
  | clrRetry _ _ => apply execClrRetry_frame <;> rfl
  | spinWatchEnd => apply execSpinWatchEnd_frame <;> rfl
  | spinAlignEnd => apply execSpinAlignEnd_frame <;> rfl
  | sprefEdge _ => apply execSprefEdge_frame <;> rfl
  | sprefLost => apply execSprefLost_frame <;> rfl
  | spinNoZeroCrossing => apply execSpinNoZeroCrossing_frame <;> rfl
  | spinupTimeout => apply execSpinupTimeout_frame <;> rfl
  | injectArm _ => apply execInjectArm_frame <;> rfl
  | injectDisarm _ => apply execInjectDisarm_frame <;> rfl
  | cacheInvalidate _ _ => apply execCacheInvalidate_frame <;> rfl
  | cacheEnable _ _ _ => apply execCacheEnable_frame <;> rfl
  | cacheDisable _ _ _ => apply execCacheDisable_frame <;> rfl
  | evictionWriteDone _ => apply execEvictionWriteDone_frame <;> rfl
  | prefetchIssue _ _ _ _ => apply execPrefetchIssue_frame <;> rfl
  | stmGo _ _ _ => apply execStmGo_frame <;> rfl
  | stmPause _ _ => apply execStmPause_frame <;> rfl
  | stmResume _ _ => apply execStmResume_frame <;> rfl
  | stmStop _ _ _ => apply execStmStop_frame <;> rfl
  | stmBurstAck _ => apply execStmBurstAck_frame <;> rfl
  | stmBurstTimeout _ => apply execStmBurstTimeout_frame <;> rfl
  | stmDescEnd _ => apply execStmDescEnd_frame <;> rfl
  | stmLinkReread _ => apply execStmLinkReread_frame <;> rfl
  | stmStatusRead n => exact execStmStatusRead_frame n s
  | linkCodeword _ _ _ _ => apply execLinkCodeword_frame <;> rfl
  | linkDataFlit _ => apply execLinkDataFlit_frame <;> rfl
  | linkIdleFlit _ => apply execLinkIdleFlit_frame <;> rfl
  | linkCtrlFlit _ => apply execLinkCtrlFlit_frame <;> rfl
  | linkReplayTimer _ => apply execLinkReplayTimer_frame <;> rfl
  | linkRreg _ _ _ _ _ _ => apply execLinkRreg_frame <;> rfl
  | linkWreg _ _ _ _ _ _ => apply execLinkWreg_frame <;> rfl
  | linkWrd _ _ _ _ _ _ _ => apply execLinkWrd_frame <;> rfl
  | linkDblSend _ => apply execLinkDblSend_frame; rfl
  | linkEvtSend _ => apply execLinkEvtSend_frame; rfl
  | linkMapApply _ _ => apply execLinkMapApply_frame <;> rfl
  | linkLaneRetrain _ _ => apply execLinkLaneRetrain_frame <;> rfl
  | linkEqualizeDone _ _ _ => apply execLinkEqualizeDone_frame <;> rfl
  | linkAlignDone _ => apply execLinkAlignDone_frame <;> rfl
  | linkConfigDone _ _ => apply execLinkConfigDone_frame <;> rfl
  | linkTrainTimeout _ => apply execLinkTrainTimeout_frame <;> rfl
  | linkRetrainDone _ => apply execLinkRetrainDone_frame <;> rfl
  | linkPortDown _ => apply execLinkPortDown_frame <;> rfl
  | staffHeartbeatTimeout _ => apply execStaffHeartbeatTimeout_frame <;> rfl
  | staffBootDone _ => apply execStaffBootDone_frame; rfl
  | dieHeartbeatTimeout _ => apply execDieHeartbeatTimeout_frame <;> rfl
  | eventStore => apply execEventStore_frame <;> rfl
  | opsecIncrement => apply execOpsecIncrement_frame <;> rfl
  | lifeRecordPeriodic => apply execLifeRecordPeriodic_frame; rfl
  | firstAreaProgram => apply execFirstAreaProgram_frame <;> rfl
  | calendarSet _ => apply execCalendarSet_frame <;> rfl
  | calendarClear _ => apply execCalendarClear_frame <;> rfl
  | logFreeze _ => apply execLogFreeze_frame <;> rfl
  | logThaw _ => apply execLogThaw_frame <;> rfl
  | logFreezeTimeout => apply execLogFreezeTimeout_frame <;> rfl
  | logReadSelect _ _ => apply execLogReadSelect_frame <;> rfl
  | logReadDone => apply execLogReadDone_frame <;> rfl
  | calTimebase _ _ _ => apply execCalTimebase_frame <;> rfl
  | calRefdac _ _ _ => apply execCalRefdac_frame <;> rfl
  | calAnalog _ _ _ => apply execCalAnalog_frame <;> rfl
  | calMedia _ _ _ => apply execCalMedia_frame <;> rfl
  | calClusterClosed => apply execCalClusterClosed_frame <;> rfl
  | calSessionEnd _ => apply execCalSessionEnd_frame <;> rfl
  | calStore _ => apply execCalStore_frame <;> rfl
  | calStoreDone _ _ => apply execCalStoreDone_frame <;> rfl
  | monitorSample _ _ => apply execMonitorSample_frame <;> rfl
  | foreignClockReturn _ => apply execForeignClockReturn_frame <;> rfl
  | calrefPresentChange _ => apply execCalrefPresentChange_frame <;> rfl
  | pfltRise _ => apply execPfltRise_frame; rfl
  | mcbBadReply => apply execMcbBadReply_frame <;> rfl
  | storeReloadDone _ => apply execStoreReloadDone_frame <;> rfl
  | invalidateDone _ => apply execInvalidateDone_frame <;> rfl
  | fragmentWriteStart _ _ _ => apply execFragmentWriteStart_frame <;> rfl
  | posHit _ => apply execPosHit_frame; rfl

theorem exec_keeps {s : State} (h : s.canonical) (i : Instr) : KeepsCanonical (exec i s) := by
  by_cases hw : writesMemories i = false
  · exact (exec_frame_memories i s hw).keeps h
  · cases i
    case powerOnDetect => exact execPowerOnDetect_keeps
    case resetNAssert => exact execResetNAssert_keeps h
    case chipReset => exact execChipReset_keeps h
    case startStepDone f => exact execStartStepDone_keeps h f
    case admissionUnitTake d k u a b => exact execAdmissionUnitTake_keeps h d k u a b
    case stripeSettle c n => exact execStripeSettle_keeps h c n
    case memoryRead m => exact execMemoryRead_keeps h m
    case memoryWrite o m v => exact execMemoryWrite_keeps h o m v
    case memoryPartialWrite o m k v => exact execMemoryPartialWrite_keeps h o m k v
    case scrubRead m row last => exact execScrubRead_keeps h m row last
    case lineSweepBurst ch a l => exact execLineSweepBurst_keeps h ch a l
    case steeringHoldEnd ch => exact execSteeringHoldEnd_keeps h ch
    case scrubRefetch lba d k => exact execScrubRefetch_keeps h lba d k
    case cacheDrainEnd d => exact execCacheDrainEnd_keeps h d
    case stmBurstIssue n => exact execStmBurstIssue_keeps h n
    case linkWwr p v f b a d => exact execLinkWwr_keeps h p v f b a d
    all_goals exact absurd rfl hw

theorem State.timeTick_canonical {s : State} (h : s.canonical) : s.timeTick.canonical :=
  canonical_ite ((canon (State.slotsTick_frame rfl rfl s.timeOn)).mpr ((canon_eq rfl rfl).mpr h)) h

theorem step_keeps {s : State} (h : s.canonical) : KeepsCanonical (step s) := by
  cases hq : s.pending with
  | nil =>
    rw [step_nil hq]
    rintro t ⟨⟩
    exact State.timeTick_canonical h
  | cons c rest =>
    rw [step_cons hq]
    exact exec_keeps (s := { s with pending := rest }) h c

end Sys2Proof.Machine

/-! Classes of stored words: the columns of the 40 stored bits, and the syndrome of a word with bits flipped (R355 to
R357). -/

namespace Sys2Proof.Machine

/-! ### What a reader is given, by the class of the word (R357, R359) -/

section
variable {w u : Stored}

theorem Stored.view_of_clean (h : w.classOf = .clean) : w.view = if w.poison then none else some w.data := by
  rw [Stored.view, h]

theorem Stored.view_of_corrected (h : w.classOf = .corrected u) :
    w.view = if u.poison then none else some u.data := by
  rw [Stored.view, h]

theorem Stored.view_of_uncorrectable (h : w.classOf = .uncorrectable) : w.view = none := by
  rw [Stored.view, h]

end

/-! ### The class of a word by its syndrome (R357) -/

theorem Stored.syndrome_lt (w : Stored) : w.syndrome < 2 ^ 7 := numOfBits_lt _ _

theorem Stored.syndrome_eq_xor {w : Stored} (hc : w.check < 2 ^ 7) :
    w.syndrome = eccOf w.data w.poison ^^^ w.check :=
  numOfBits_ext (Nat.xor_lt_two_pow (eccOf_lt _ _) hc) fun j hj => by
    rw [Nat.testBit_xor, ← bitAt_eq, ← bitAt_eq, eccOf, bitAt_numOfBits, decide_eq_true hj, Bool.true_and]

/-- The columns of DATA and POISON are different, and none is 0. -/
theorem eccColumns_distinct : ∀ i < 33, eccColumns.getD i 0 ≠ 0 ∧
    eccColumns.findIdx? (· == eccColumns.getD i 0) = some i := by decide

/-- A syndrome of weight 1 is no column. -/
theorem eccColumns_two_pow : ∀ k < 7, eccColumns.findIdx? (· == 2 ^ k) = none ∧ popc 7 (2 ^ k) = 1 := by decide

theorem two_pow_of_popc : ∀ y < 2 ^ 7, popc 7 y = 1 → ∃ k < 7, y = 2 ^ k := by decide

section
variable {w : Stored}

theorem Stored.classOf_zero (h : w.syndrome = 0) : w.classOf = .clean := by
  rw [Stored.classOf, h, if_pos rfl]

theorem Stored.classOf_column {i : Nat} (hi : i < 33) (h : w.syndrome = eccColumns.getD i 0) :
    w.classOf = .corrected (if i = 32 then ⟨w.data, !w.poison, w.check⟩
      else ⟨xorBits 32 w.data (2 ^ i), w.poison, w.check⟩) := by
  obtain ⟨hne, hfind⟩ := eccColumns_distinct i hi
  simp only [Stored.classOf, h, if_neg hne, hfind]
  split <;> rfl

theorem Stored.classOf_data {i : Nat} (hi : i < 32) (h : w.syndrome = eccColumns.getD i 0) :
    w.classOf = .corrected ⟨xorBits 32 w.data (2 ^ i), w.poison, w.check⟩ := by
  rw [Stored.classOf_column (by omega) h, if_neg (by omega)]

theorem Stored.classOf_poison (h : w.syndrome = eccColumns.getD 32 0) :
    w.classOf = .corrected ⟨w.data, !w.poison, w.check⟩ := by
  rw [Stored.classOf_column (by decide) h, if_pos rfl]

theorem Stored.classOf_check {k : Nat} (hk : k < 7) (h : w.syndrome = 2 ^ k) :
    w.classOf = .corrected (freshWord w.data w.poison) := by
  obtain ⟨hfind, hpopc⟩ := eccColumns_two_pow k hk
  simp only [Stored.classOf, h, if_neg (Nat.two_pow_pos k).ne', hfind, if_pos hpopc]

theorem Stored.classOf_uncorrectable (hzero : w.syndrome ≠ 0) (hcol : w.syndrome ∉ eccColumns)
    (hcheck : ∀ k < 7, w.syndrome ≠ 2 ^ k) : w.classOf = .uncorrectable := by
  have hfind : eccColumns.findIdx? (· == w.syndrome) = none :=
    List.findIdx?_eq_none_iff.mpr fun x hx => beq_false_of_ne fun e => hcol (e ▸ hx)
  have hpopc : popc 7 w.syndrome ≠ 1 := fun h =>
    let ⟨k, hk, e⟩ := two_pow_of_popc _ w.syndrome_lt h
    hcheck k hk e
  simp only [Stored.classOf, if_neg hzero, hfind, if_neg hpopc]

end

/-! ### Flipped bits (R355, R356) -/

/-- The column of a stored bit: DATA in [31:0], POISON in [32], CHECK in [39:33], whose columns have weight 1. -/
def columnOf (i : Nat) : Nat := if i < 33 then eccColumns.getD i 0 else 2 ^ (i - 33)

theorem parityBelow_congr {n : Nat} {f g : Nat → Bool} (h : ∀ i < n, f i = g i) :
    parityBelow n f = parityBelow n g := by
  induction n with
  | zero => rfl
  | succ n ih => rw [parityBelow, parityBelow, h n n.lt_succ_self, ih fun i hi => h i (hi.trans n.lt_succ_self)]

theorem parityBelow_xor (n : Nat) (f g : Nat → Bool) :
    parityBelow n (fun i => xor (f i) (g i)) = xor (parityBelow n f) (parityBelow n g) := by
  induction n with
  | zero => rfl
  | succ n ih =>
    simp only [parityBelow, ih, Bool.xor_assoc, Bool.xor_left_comm]

theorem numOfBits_xor {n : Nat} {f g h : Nat → Bool} (e : ∀ i < n, f i = xor (g i) (h i)) :
    numOfBits n f = numOfBits n g ^^^ numOfBits n h :=
  numOfBits_ext (Nat.xor_lt_two_pow (numOfBits_lt _ _) (numOfBits_lt _ _)) fun i hi => by
    rw [Nat.testBit_xor, ← bitAt_eq, ← bitAt_eq, bitAt_numOfBits, bitAt_numOfBits, decide_eq_true hi, e i hi,
      Bool.true_and, Bool.true_and]

theorem bitAt_zero (i : Nat) : bitAt 0 i = false := by rw [bitAt_eq, Nat.zero_testBit]

theorem bitAt_xorBits {n i : Nat} (hi : i < n) (a b : Nat) : bitAt (xorBits n a b) i = xor (bitAt a i) (bitAt b i) := by
  rw [xorBits, bitAt_numOfBits, decide_eq_true hi, Bool.true_and]

/-- The word of which only the bits of a mask are set. -/
def maskWord (m : Nat) : Stored := (⟨0, false, 0⟩ : Stored).flip m

/-- The check bits are linear in DATA and POISON. -/
theorem eccBit_flip (w : Stored) (m j : Nat) : eccBit (w.flip m).data (w.flip m).poison j =
    xor (eccBit w.data w.poison j) (eccBit (maskWord m).data (maskWord m).poison j) := by
  rw [eccBit, eccBit, eccBit, ← parityBelow_xor]
  refine parityBelow_congr fun i hi => ?_
  by_cases h : i = 32
  · subst h
    simp only [Stored.flip, maskWord, if_true, Bool.false_xor, Bool.and_xor_distrib_right]
  · have hlt : i < 32 := by omega
    simp only [Stored.flip, maskWord, if_neg h, bitAt_xorBits hlt, bitAt_zero, Bool.false_xor,
      Bool.and_xor_distrib_right]

/-- Flipping bits adds their part to the syndrome, whatever the word. -/
theorem Stored.flip_syndrome (w : Stored) (m : Nat) : (w.flip m).syndrome = w.syndrome ^^^ (maskWord m).syndrome := by
  refine numOfBits_xor fun j hj => ?_
  rw [eccBit_flip]
  simp only [Stored.flip, maskWord, bitAt_xorBits hj, bitAt_zero, Bool.false_xor, Bool.xor_assoc, Bool.xor_left_comm]

theorem freshWord_syndrome {v : Nat} (hv : v < 2 ^ 32) (p : Bool) : (freshWord v p).syndrome = 0 := by
  rw [Stored.syndrome_eq_xor (eccOf_lt v p), freshWord, Nat.mod_eq_of_lt hv, Nat.xor_self]

theorem freshWord_flip_syndrome {v : Nat} (hv : v < 2 ^ 32) (p : Bool) (m : Nat) :
    ((freshWord v p).flip m).syndrome = (maskWord m).syndrome := by
  rw [Stored.flip_syndrome, freshWord_syndrome hv, Nat.zero_xor]

theorem bitAt_xor (a b i : Nat) : bitAt (a ^^^ b) i = xor (bitAt a i) (bitAt b i) := by
  rw [bitAt_eq, bitAt_eq, bitAt_eq, Nat.testBit_xor]

theorem bitsOf_xor (a b lo w : Nat) : bitsOf (a ^^^ b) lo w = bitsOf a lo w ^^^ bitsOf b lo w := by
  rw [bitsOf, bitsOf, bitsOf, Nat.xor_div_two_pow, Nat.xor_mod_two_pow]

theorem xorBits_xorBits (n d a b : Nat) : xorBits n (xorBits n d a) b = xorBits n d (a ^^^ b) :=
  numOfBits_ext (numOfBits_lt _ _) fun i hi => by
    rw [← bitAt_eq, bitAt_xorBits hi, bitAt_xorBits hi, bitAt_xor, Bool.xor_assoc]

theorem Stored.flip_flip (w : Stored) (a b : Nat) : (w.flip a).flip b = w.flip (a ^^^ b) := by
  simp only [Stored.flip, xorBits_xorBits, bitAt_xor, bitsOf_xor, Bool.xor_assoc]

theorem maskWord_syndrome_xor (a b : Nat) :
    (maskWord (a ^^^ b)).syndrome = (maskWord a).syndrome ^^^ (maskWord b).syndrome := by
  rw [maskWord, ← Stored.flip_flip, Stored.flip_syndrome, ← maskWord]

theorem maskWord_syndrome_one : ∀ i < 40, (maskWord (2 ^ i)).syndrome = columnOf i := by decide +kernel

theorem two_pow_add_two_pow {i j : Nat} (h : i ≠ j) : 2 ^ i + 2 ^ j = 2 ^ i ^^^ 2 ^ j := by
  wlog hlt : j < i generalizing i j
  · rw [Nat.add_comm, Nat.xor_comm]
    exact this h.symm (by omega)
  have hor := Nat.two_pow_add_eq_or_of_lt (Nat.pow_lt_pow_right Nat.one_lt_two hlt) 1
  rw [Nat.mul_one] at hor
  rw [hor]
  refine Nat.eq_of_testBit_eq fun k => ?_
  rw [Nat.testBit_or, Nat.testBit_xor, Nat.testBit_two_pow, Nat.testBit_two_pow]
  by_cases hi : i = k
  · rw [decide_eq_true hi, decide_eq_false (show j ≠ k by omega)]
    rfl
  · rw [decide_eq_false hi, Bool.false_or, Bool.false_xor]

theorem maskWord_syndrome_two {i j : Nat} (hi : i < 40) (hj : j < 40) (hij : i ≠ j) :
    (maskWord (2 ^ i + 2 ^ j)).syndrome = columnOf i ^^^ columnOf j := by
  rw [two_pow_add_two_pow hij, maskWord_syndrome_xor, maskWord_syndrome_one i hi, maskWord_syndrome_one j hj]

theorem popc_xor (n a b : Nat) : popc n (a ^^^ b) % 2 = (popc n a + popc n b) % 2 := by
  induction n with
  | zero => rfl
  | succ n ih =>
    have hbit : ∀ x y : Bool, (if xor x y then 1 else 0) % 2 = ((if x then 1 else 0) + if y then 1 else 0) % 2 := by
      decide
    have hn := hbit (bitAt a n) (bitAt b n)
    simp only [popc, bitAt_xor]
    omega

theorem eccColumns_odd : ∀ x ∈ eccColumns, popc 7 x % 2 = 1 := by decide

theorem columnOf_odd : ∀ i < 40, popc 7 (columnOf i) % 2 = 1 := by decide

theorem columnOf_nodup : ((List.range 40).map columnOf).Nodup := by decide

theorem columnOf_inj {i j : Nat} (hi : i < 40) (hj : j < 40) (h : columnOf i = columnOf j) : i = j :=
  List.inj_on_of_nodup_map columnOf_nodup (List.mem_range.mpr hi) (List.mem_range.mpr hj) h

/-- A syndrome of even weight is no column. -/
theorem Stored.classOf_even {w : Stored} (hzero : w.syndrome ≠ 0) (heven : popc 7 w.syndrome % 2 = 0) :
    w.classOf = .uncorrectable := by
  refine Stored.classOf_uncorrectable hzero (fun h => ?_) (fun k hk h => ?_)
  · have := eccColumns_odd _ h
    omega
  · have := (eccColumns_two_pow k hk).2
    rw [h] at heven
    omega

section
variable {v : Nat} (hv : v < 2 ^ 32) (p : Bool)
include hv

theorem flip_data_view {i : Nat} (hi : i < 32) :
    ((freshWord v p).flip (2 ^ i)).view = if p then none else some v := by
  have hsyn : ((freshWord v p).flip (2 ^ i)).syndrome = eccColumns.getD i 0 := by
    rw [freshWord_flip_syndrome hv, maskWord_syndrome_one i (by omega), columnOf, if_pos (by omega)]
  have hpow : 2 ^ i < 2 ^ 32 := Nat.pow_lt_pow_right (by decide) hi
  have hdata : xorBits 32 ((freshWord v p).flip (2 ^ i)).data (2 ^ i) = v := by
    simp only [Stored.flip, freshWord, Nat.mod_eq_of_lt hv, xorBits_eq hv hpow,
      xorBits_eq (Nat.xor_lt_two_pow hv hpow) hpow, Nat.xor_xor_cancel_right]
  have hpoison : ((freshWord v p).flip (2 ^ i)).poison = p := by
    simp only [Stored.flip, freshWord, bitAt_eq, Nat.testBit_lt_two_pow hpow, Bool.xor_false]
  rw [Stored.view_of_corrected (Stored.classOf_data hi hsyn), hdata, hpoison]

/-- Bits above DATA leave it alone. -/
theorem flip_data_of_le {i : Nat} (hi : 32 ≤ i) : ((freshWord v p).flip (2 ^ i)).data = v := by
  refine numOfBits_ext hv fun k hk => ?_
  rw [freshWord, Nat.mod_eq_of_lt hv, bitAt_eq, bitAt_eq, Nat.testBit_two_pow_of_ne (by omega), Bool.xor_false]

theorem flip_poison_view : ((freshWord v p).flip (2 ^ 32)).view = if p then none else some v := by
  have hsyn : ((freshWord v p).flip (2 ^ 32)).syndrome = eccColumns.getD 32 0 :=
    (freshWord_flip_syndrome hv p _).trans (maskWord_syndrome_one 32 (by decide))
  have hpoison : ((freshWord v p).flip (2 ^ 32)).poison = !p := Bool.xor_true p
  rw [Stored.view_of_corrected (Stored.classOf_poison hsyn), flip_data_of_le hv p le_rfl, hpoison, Bool.not_not]

theorem flip_check_view {k : Nat} (hk : k < 7) :
    ((freshWord v p).flip (2 ^ (33 + k))).view = if p then none else some v := by
  have hsyn : ((freshWord v p).flip (2 ^ (33 + k))).syndrome = 2 ^ k := by
    rw [freshWord_flip_syndrome hv, maskWord_syndrome_one _ (by omega), columnOf, if_neg (by omega),
      Nat.add_sub_cancel_left]
  have hpoison : ((freshWord v p).flip (2 ^ (33 + k))).poison = p := by
    have hne : 33 + k ≠ 32 := by omega
    simp only [Stored.flip, freshWord, bitAt_eq, Nat.testBit_two_pow_of_ne hne, Bool.xor_false]
  rw [Stored.view_of_corrected (Stored.classOf_check hk hsyn), flip_data_of_le hv p (by omega), hpoison, freshWord,
    Nat.mod_eq_of_lt hv]

theorem flip_one_view {i : Nat} (hi : i < 40) : ((freshWord v p).flip (2 ^ i)).view = if p then none else some v := by
  rcases lt_trichotomy i 32 with h | rfl | h
  · exact flip_data_view hv p h
  · exact flip_poison_view hv p
  · obtain ⟨k, rfl⟩ := Nat.exists_eq_add_of_lt h
    exact Nat.add_right_comm 32 k 1 ▸ flip_check_view hv p (by omega)

theorem flip_two_uncorrectable {i j : Nat} (hi : i < 40) (hj : j < 40) (hij : i ≠ j) :
    ((freshWord v p).flip (2 ^ i + 2 ^ j)).classOf = .uncorrectable := by
  have hsyn : ((freshWord v p).flip (2 ^ i + 2 ^ j)).syndrome = columnOf i ^^^ columnOf j := by
    rw [freshWord_flip_syndrome hv, maskWord_syndrome_two hi hj hij]
  have hi' := columnOf_odd i hi
  have hj' := columnOf_odd j hj
  refine Stored.classOf_even ?_ ?_ <;> rw [hsyn]
  · exact fun h => hij (columnOf_inj hi hj (Nat.xor_eq_zero_iff.mp h))
  · rw [popc_xor]
    omega

end

end Sys2Proof.Machine

/-! Reads, writes and scrub reads of a stored word, the sweep of a channel, a block's refetch and injected faults (R355
to R381). -/

namespace Sys2Proof.Machine

/-! ### Commands on a word (R357, R359, R361, R368; log 36) -/

theorem onWord_none {m : MemAt} (hm : m.exists? = false) (s : State) (f : State → State) :
    onWord m s f = .fault .noSuchWord := by
  rw [onWord, hm]
  rfl

theorem onWord_next {m : MemAt} (hm : m.exists? = true) {s : State} (hs : s.live = true) (f : State → State) :
    onWord m s f = .next (f s) := by
  rw [onWord, if_pos hm, s.run_live f hs]

theorem State.request_free {s : State} {x : MemAccess} (h : s.chanHeld x.at = false) : s.request x = s.access x :=
  if_neg (ne_true_of_eq_false h)

section
variable {m : MemAt} {s : State} (hlost : s.wordLost m.key = false)
include hlost

theorem State.access_read : s.access (.read m) = s.readWord m 0 := if_neg (ne_true_of_eq_false hlost)

theorem State.access_write (org v : Nat) : s.access (.write org m v) = s.writeWord org m v :=
  if_neg (ne_true_of_eq_false hlost)

theorem State.access_merge (org mask v : Nat) : s.access (.merge org m mask v) = s.mergeWord org m mask v :=
  if_neg (ne_true_of_eq_false hlost)

end

section
variable {m : MemAt} {s : State} (hm : m.exists? = true) (hs : s.live = true) (hheld : s.chanHeld m = false)
  (hlost : s.wordLost m.key = false)
include hm hs hheld hlost

theorem execMemoryRead_next : execMemoryRead m s = .next (s.readWord m 0) := by
  rw [execMemoryRead, onWord_next hm hs, State.request_free hheld, State.access_read hlost]

theorem execMemoryWrite_next (o : Origin) (v : Word) :
    execMemoryWrite o m v s = .next (s.writeWord (orgOf o) m v.toNat) := by
  rw [execMemoryWrite, onWord_next hm hs, State.request_free hheld, State.access_write hlost]

theorem execMemoryPartialWrite_next (o : Origin) {mask : BitVec 4} (hmask : mask ≠ 15) (v : Word) :
    execMemoryPartialWrite o m mask v s = .next (s.mergeWord (orgOf o) m mask.toNat v.toNat) := by
  rw [execMemoryPartialWrite, onWord_next hm hs, if_neg hmask, State.request_free hheld, State.access_merge hlost]

end

theorem execMemoryPartialWrite_all (o : Origin) (m : MemAt) (v : Word) (s : State) :
    execMemoryPartialWrite o m 15 v s = execMemoryWrite o m v s := rfl

/-! ### By the class of the word read (R357, R358, R360, R361) -/

section
variable {m : MemAt} {s : State} {old w : Stored} (hw : w = old.flip m.flips.toNat)
include hw

theorem State.readFound_clean (by' : FoundBy) (h : w.classOf = .clean) : s.readFound m by' old = s := by
  subst hw
  simp only [State.readFound, h]

theorem State.readFound_corrected (by' : FoundBy) {x : Stored} (h : w.classOf = .corrected x) :
    s.readFound m by' old = s.corr m by' w x := by
  subst hw
  simp only [State.readFound, h]

theorem State.readFound_uncorrectable (by' : FoundBy) (h : w.classOf = .uncorrectable) :
    s.readFound m by' old = s.unc m by' w (freshWord old.data old.poison) := by
  subst hw
  simp only [State.readFound, h]

variable (org mask v : Nat)

theorem State.mergeFound_clean (h : w.classOf = .clean) : s.mergeFound org m mask v old =
    s.putReq org m.key (freshWord (mergeBytes w.data v mask) w.poison) := by
  subst hw
  simp only [State.mergeFound, h]

theorem State.mergeFound_corrected {x : Stored} (h : w.classOf = .corrected x) : s.mergeFound org m mask v old =
    (s.corr m 2 w x).putReq org m.key (freshWord (mergeBytes x.data v mask) x.poison) := by
  subst hw
  simp only [State.mergeFound, h]

theorem State.mergeFound_uncorrectable (h : w.classOf = .uncorrectable) : s.mergeFound org m mask v old =
    (s.unc m 2 w (freshWord old.data old.poison)).putReq org m.key (freshWord (mergeBytes w.data v mask) true) := by
  subst hw
  simp only [State.mergeFound, h]

end

/-! ### Storing a word (R355, R359, R379) -/

theorem State.memBurst_same (s : State) (m : MemAt) {p : Part} (h : p ≠ .memu) : p.same s (s.memBurst m) :=
  same_of_hide (State.memBurst_frame (fm := fun p => decide (p = .memu)) rfl s m) p (decide_eq_false h)

/-- Which dies are lost shows in one register field. -/
theorem State.wordLost_of_get {s t : State} (h : t.get FLT_STAT_DIE_LOST = s.get FLT_STAT_DIE_LOST) (k : Nat) :
    t.wordLost k = s.wordLost k := by
  simp only [State.wordLost, State.dieIsLost, h]

theorem State.is_congr {s t : State} (h : t.regs = s.regs) (x : Fld) : t.is x = s.is x := by
  simp only [State.is, State.get_congr h]

theorem State.injKey_congr {s t : State} (h : t.regs = s.regs) : t.injKey = s.injKey := by
  simp only [State.injKey, State.get_congr h]

theorem State.injMask_congr {s t : State} (h : t.regs = s.regs) : t.injMask = s.injMask := by
  simp only [State.injMask, State.get_congr h]

theorem State.stored_congr {s t : State} (hmem : t.mem = s.mem) (hmemX : t.memX = s.memX) {k : Nat}
    (hlost : t.wordLost k = s.wordLost k) : t.stored k = s.stored k := by
  unfold State.stored
  rw [hmem, hmemX, hlost]

/-- No byte or side byte outside a word changes when it is stored. -/
theorem State.putStored_elsewhere (s : State) (k : Nat) (w : Stored) :
    (∀ a, a < k ∨ k + 4 ≤ a → byteAt (s.putStored k w).mem a = byteAt s.mem a) ∧
    ∀ a, a ≠ k → byteAt (s.putStored k w).memX a = byteAt s.memX a := by
  unfold State.putStored
  split
  · exact ⟨fun _ _ => rfl, fun _ _ => rfl⟩
  · exact ⟨fun a ha => byteAt_putWord_other s.mem k w.data a ha,
      fun a ha => (byteAt_putByte s.memX k a _).trans (if_neg ha)⟩

theorem freshWord_fits (v : Nat) (p : Bool) : (freshWord v p).data < 2 ^ 32 ∧ (freshWord v p).check < 2 ^ 7 :=
  ⟨Nat.mod_lt _ (by decide), eccOf_lt v p⟩

theorem Stored.flip_fits (w : Stored) (m : Nat) : (w.flip m).data < 2 ^ 32 ∧ (w.flip m).check < 2 ^ 7 :=
  ⟨numOfBits_lt _ _, numOfBits_lt _ _⟩

/-- What a fired injection makes of a state that stores the flipped word: no longer armed, done, and logged (R379). -/
def State.fired (s : State) (u : MemUnit) (org : Nat) : State :=
  State.injEvent { (s.set MEM_INJ_CTL_ARM 0).set MEM_INJ_CTL_DONE 1 with memu := u } org 1

section
variable {s : State} {k : Nat} {w : Stored}

theorem State.putReq_unarmed (harm : s.is MEM_INJ_CTL_ARM = false) (org : Nat) :
    s.putReq org k w = s.putStored k w := by
  rw [State.putReq, harm]
  rfl

/-- An injection armed for the word fires: the word is stored with the bits of its mask flipped. -/
theorem State.putReq_armed (harm : s.is MEM_INJ_CTL_ARM = true) (hkey : s.injKey = k) (hlost : s.wordLost k = false)
    (org : Nat) : ∃ u, s.putReq org k w = (s.putStored k (w.flip s.injMask)).fired u org := by
  have hfire : (s.is MEM_INJ_CTL_ARM && s.injKey == k && !s.wordLost k) = true := by
    simp only [harm, hkey, hlost, beq_self_eq_true, Bool.not_false, Bool.and_self]
  exact ⟨_, if_pos hfire⟩

end

section
variable (s : State) (u : MemUnit) (org : Nat)

theorem State.fired_get {x : Fld} (hfrz : x.addr ≠ LOG_FRZLOST) (hlog : x.addr ≠ LOG_INLOST) :
    (s.fired u org).get x = ((s.set MEM_INJ_CTL_ARM 0).set MEM_INJ_CTL_DONE 1).get x :=
  (State.event_get _ _ _ _ x hfrz hlog).trans (State.get_congr rfl x)

theorem State.fired_armed : (s.fired u org).is MEM_INJ_CTL_ARM = false := by
  rw [State.is, s.fired_get u org (by decide) (by decide), State.get_set_other _ _ _ _ (by decide) (by decide),
    State.get_set_fits _ _ _ (by decide) (by decide)]
  rfl

theorem State.fired_done : (s.fired u org).is MEM_INJ_CTL_DONE = true := by
  rw [State.is, s.fired_get u org (by decide) (by decide), State.get_set_fits _ _ _ (by decide) (by decide)]
  rfl

theorem State.fired_stored (k : Nat) : (s.fired u org).stored k = s.stored k := by
  have hmem : (s.fired u org).mem = s.mem := State.event_mem _ _ _ _
  have hmemX : (s.fired u org).memX = s.memX := State.event_memX _ _ _ _
  refine State.stored_congr hmem hmemX (State.wordLost_of_get ?_ k)
  rw [s.fired_get u org (by decide) (by decide), State.get_set_reg _ _ _ _ (by decide),
    State.get_set_reg _ _ _ _ (by decide)]

end

/-! ### The scrubber (R374, R378) -/

section
variable {m : MemAt} {s : State} (hm : m.exists? = true) (hs : s.live = true) (hen : s.is MEM_SCRUB_CFG_EN = true)
include hm hs hen

theorem execScrubRead_sram (hspace : m.space ≠ 0) (row : BitVec 32) (last : Bool) : execScrubRead m row last s =
    .next (if last then (s.readWord m 1).count MEM_SCRUB_PASSES_SRAM else s.readWord m 1) := by
  rw [execScrubRead, onWord_next hm hs, hen, if_neg (by decide), if_neg hspace]

theorem execScrubRead_dram (hheld : s.chanHeld m = false) (hlost : s.wordLost m.key = false) (hspace : m.space = 0)
    (hround : tget 0 s.memu.scrubbed (channelOf m.at) < chanWords) (row : BitVec 32) (last : Bool) {v : State}
    {f : Nat × Nat} (hv : v = s.readWord m 1) (hf : f = tget (0, 0) v.memu.rows row.toNat) :
    execScrubRead m row last s =
      .next (State.scrubStep (State.rowSuspect { v with memu := { v.memu with
        rows := tset (0, 0) v.memu.rows row.toNat (f.1 + (s.scrubFound m).1, f.2 + (s.scrubFound m).2) } }
        row.toNat m.at) (channelOf m.at)) := by
  subst hf hv
  have hreads : (s.chanHeld m || s.wordLost m.key ||
      decide (chanWords ≤ tget 0 s.memu.scrubbed (channelOf m.at))) = false := by
    rw [hheld, hlost, decide_eq_false (Nat.not_le.mpr hround)]
    rfl
  rw [execScrubRead, onWord_next hm hs, hen, if_neg (by decide), if_pos hspace]
  dsimp only
  rw [if_neg (ne_true_of_eq_false hreads)]

end

/-! ### The sweep and the hold of a channel (R375) -/

section
variable {s : State} (hs : s.live = true)
include hs

theorem execLineSweepBurst_due {ch : Channel} {addr : BitVec 35} (flips : List (BitVec 40)) {a : Nat}
    (hsweep : s.is (MEM_CH_STAT_SWEEPING ch) = true) (hheld : s.memu.held.contains ch.val = false)
    (ha : a = addr.toNat / 128 * 128) (hchan : channelOf a = ch.val) (hdie : s.dieIsLost (ch.val / 8) = false)
    (hdue : tget 0 s.memu.lineAt ch + 4 ≤ s.clk.time) {u : State}
    (hu : u = State.each { s with memu := { s.memu with lineAt := tset 0 s.memu.lineAt ch s.clk.time } } (fun i s =>
      s.readWord ⟨0, BitVec.ofNat 35 (a + 4 * i), .plain, flips.getD i 0⟩ 3) (List.range 32)) :
    execLineSweepBurst ch addr flips s = .next (if u.get (MEM_CH_SWEEP_BURST ch) = 16777215 then
      u.set (MEM_CH_STAT_SWEEPING ch) 0 else u.set (MEM_CH_SWEEP_BURST ch) (u.get (MEM_CH_SWEEP_BURST ch) + 1)) := by
  subst hu ha
  have hgoes : (!s.is (MEM_CH_STAT_SWEEPING ch) || s.memu.held.contains ch.val ||
      channelOf (addr.toNat / 128 * 128) != ch.val || s.dieIsLost (ch / 8) ||
      decide (s.now < tget 0 s.memu.lineAt ch + 4)) = false := by
    rw [hsweep, hheld, hchan, hdie, State.now, decide_eq_false (Nat.not_lt.mpr hdue), bne_self_eq_false]
    rfl
  rw [execLineSweepBurst, s.run_live _ hs, if_neg (ne_true_of_eq_false hgoes)]
  rfl

theorem execSteeringHoldEnd_due {ch : Channel} (hheld : s.memu.held.contains ch.val = true)
    (hdue : tget 0 s.memu.lineAt ch + 32 ≤ s.clk.time) : execSteeringHoldEnd ch s = .next (s.freeChan ch) :=
  (s.run_live _ hs).trans (congrArg Host.Outcome.next (if_pos ⟨hheld, hdue⟩))

/-! ### The refetch of a marked block (R88, R372; log 74) -/

section
variable {lba : BitVec 48} {c i : Nat} (hc : c = lba.toNat / 30 % 8) (hmark : s.markedLine lba.toNat = some i)
include hc hmark

theorem execScrubRefetch_places (hnone : s.workOf .scrub c false = none) (data : List (BitVec 32)) (h : Fin 16384) :
    execScrubRefetch lba data h s = .next (s.placeWork (s.newWork .scrub c lba.toNat
      [workStripe c (s.slotNo c (lba.toNat / 240)) (minus (2 ^ 32 - 1) (s.lostMask c)) 0 none]) c h
      (fun _ => true)) := by
  subst hc
  rw [execScrubRefetch, s.run_live _ hs]
  simp only [hnone, hmark]

theorem execScrubRefetch_ends {x : Cmd} (hwork : s.workOf .scrub c false = some x) (hlba : x.lba = lba.toNat)
    (hpassed : x.stripes.all s.passed = true) (data : List (BitVec 32)) (h : Fin 16384) :
    execScrubRefetch lba data h s = .next ((s.refetched lba.toNat i (data.map BitVec.toNat)).endWork x) := by
  subst hc
  rw [execScrubRefetch, s.run_live _ hs]
  simp only [hwork, hmark]
  rw [if_pos ⟨hlba, hpassed⟩]

end

/-! ### Arming and disarming an injection (R379, R381) -/

theorem execInjectArm_idle (o : Origin) (harm : s.is MEM_INJ_CTL_ARM = false) : Answers (execInjectArm o s) fun t =>
    t.get MEM_INJ_CTL_ARM = 1 ∧ t.memu = { s.memu with armedBy := orgOf o } := by
  refine Answers.run hs ?_
  rw [if_neg (ne_true_of_eq_false harm)]
  refine ⟨?_, State.event_memu _ _ _ _⟩
  rw [State.injEvent, State.event_get _ _ _ _ _ (by decide) (by decide)]
  exact State.get_set_fits s MEM_INJ_CTL_ARM 1 (by decide) (by decide)

theorem execInjectDisarm_armed (o : Origin) (harm : s.is MEM_INJ_CTL_ARM = true) :
    Answers (execInjectDisarm o s) fun t => t.get MEM_INJ_CTL_ARM = 0 ∧ t.memu = s.memu := by
  refine Answers.run hs ?_
  rw [if_pos harm]
  refine ⟨?_, State.event_memu _ _ _ _⟩
  rw [State.injEvent, State.event_get _ _ _ _ _ (by decide) (by decide)]
  exact State.get_set_fits s MEM_INJ_CTL_ARM 0 (by decide) (by decide)

end

end Sys2Proof.Machine

/-! The statements on the protection of memory, and the frames of the memory and the front cache. -/

namespace Sys2Proof.Proofs

open Sys2Proof.Machine

/-- Settles O45: a tick leaves the tables alone, and so does every command but those that store, which keep the form. -/
theorem stepKeepsMemoryCanonical : Obligations.StepKeepsMemoryCanonical :=
  fun _ t h => step_keeps h t

/-- Settles O42: the frame lemma of each command, with its list of parts for the hidden ones. -/
theorem memoryAndCacheFrames : Obligations.MemoryAndCacheFrames := by
  unfold Obligations.MemoryAndCacheFrames
  exact
    ⟨fun _ _ => Framed.leaves (by apply execMemoryRead_frame <;> rfl),
     fun _ _ _ _ => Framed.leaves (by apply execMemoryWrite_frame <;> rfl),
     fun _ _ _ _ _ => Framed.leaves (by apply execMemoryPartialWrite_frame <;> rfl),
     fun _ _ _ _ => Framed.leaves (by apply execScrubRead_frame <;> rfl),
     fun _ _ _ _ => Framed.leaves (by apply execLineSweepBurst_frame <;> rfl),
     fun _ _ => Framed.leaves (by apply execSteeringHoldEnd_frame <;> rfl),
     fun _ _ _ _ => Framed.leaves (by apply execScrubRefetch_frame <;> rfl),
     fun _ _ => Framed.leaves (by apply execInjectArm_frame <;> rfl),
     fun _ _ => Framed.leaves (by apply execInjectDisarm_frame <;> rfl),
     fun _ _ _ _ => Framed.leaves (by apply execCacheEnable_frame <;> rfl),
     fun _ _ _ _ => Framed.leaves (by apply execCacheDisable_frame <;> rfl),
     fun _ _ _ => Framed.leaves (by apply execCacheInvalidate_frame <;> rfl),
     fun _ _ => Framed.leaves (by apply execCacheDrainEnd_frame <;> rfl),
     fun _ _ => Framed.leaves (by apply execEvictionWriteDone_frame <;> rfl),
     fun _ _ => Framed.leaves (by apply execInvalidateDone_frame <;> rfl)⟩

/-- Settles O50: the lemma on each class gives the class, and the class gives the view. -/
theorem syndromeClasses : Obligations.SyndromeClasses := by
  intro w hdata hcheck
  refine ⟨Stored.syndrome_eq_xor hcheck, fun h => ?_, fun i hi h => ?_, fun h => ?_, fun i hi h => ?_,
    fun hzero hcol hone => ?_⟩
  · have hclass := Stored.classOf_zero h
    exact ⟨hclass, Stored.view_of_clean hclass⟩
  · have hclass := Stored.classOf_data hi h
    rw [xorBits_eq hdata (Nat.pow_lt_pow_right (by decide) hi)] at hclass
    exact ⟨_, hclass, rfl, rfl, Stored.view_of_corrected hclass⟩
  · have hclass := Stored.classOf_poison h
    refine ⟨_, hclass, rfl, rfl, (Stored.view_of_corrected hclass).trans ?_⟩
    cases w.poison <;> rfl
  · have hclass := Stored.classOf_check hi h
    have hmod : (freshWord w.data w.poison).data = w.data := Nat.mod_eq_of_lt hdata
    exact ⟨_, hclass, hmod, rfl, (Stored.view_of_corrected hclass).trans (by rw [hmod, freshWord])⟩
  · have hclass := Stored.classOf_uncorrectable hzero hcol hone
    exact ⟨hclass, Stored.view_of_uncorrectable hclass⟩

/-- Settles O51: a flipped bit adds its column to the syndrome, and the sum of two columns is neither 0 nor a column. -/
theorem singleErrorsCorrected : Obligations.SingleErrorsCorrected :=
  fun _ p hv => ⟨fun _ hi => flip_one_view hv p hi, fun _ _ hi hj hij => flip_two_uncorrectable hv p hi hj hij⟩

/-- Settles O49: the four commands stop at a word that no memory has. -/
theorem outsideMemoriesFault : Obligations.OutsideMemoriesFault :=
  fun _ _ s hm => ⟨onWord_none hm s _, fun _ => onWord_none hm s _, fun _ _ => onWord_none hm s _,
    fun _ _ => onWord_none hm s _⟩

/-- Settles O48: counting the burst leaves memory and registers alone, and then the word is stored, flipped where an
injection is armed for it. -/
theorem memoryWriteStores : Obligations.MemoryWriteStores := by
  intro o m v s hs hm hheld hlost
  have hmem : (s.memBurst m).mem = s.mem := s.memBurst_same m (p := .mem) (by decide)
  have hmemX : (s.memBurst m).memX = s.memX := s.memBurst_same m (p := .memX) (by decide)
  have hregs : (s.memBurst m).regs = s.regs := s.memBurst_same m (p := .regs) (by decide)
  have hlost' : (s.memBurst m).wordLost m.key = false :=
    (State.wordLost_of_get (State.get_congr hregs _) _).trans hlost
  have hexec := execMemoryWrite_next hm hs hheld hlost o v
  refine ⟨fun harm => ⟨_, hexec, ?_⟩, fun harm hkey => ⟨_, hexec, ?_⟩⟩
  · obtain ⟨hbytes, hside⟩ := (s.memBurst m).putStored_elsewhere m.key (freshWord v.toNat false)
    obtain ⟨hdata, hcheck⟩ := freshWord_fits v.toNat false
    rw [State.writeWord, State.putReq_unarmed ((State.is_congr hregs _).trans harm)]
    exact ⟨State.stored_putStored _ _ _ hlost' hdata hcheck, hmem ▸ hbytes, hmemX ▸ hside⟩
  · obtain ⟨u, hfires⟩ := State.putReq_armed (w := freshWord v.toNat false) ((State.is_congr hregs _).trans harm)
      ((State.injKey_congr hregs).trans hkey) hlost' (orgOf o)
    obtain ⟨hdata, hcheck⟩ := (freshWord v.toNat false).flip_fits (s.memBurst m).injMask
    rw [State.writeWord, hfires]
    refine ⟨?_, State.fired_armed _ u _, State.fired_done _ u _⟩
    rw [State.fired_stored, State.stored_putStored _ _ _ hlost' hdata hcheck, State.injMask_congr hregs]

/-- Settles O25: each command takes the one path that its premises leave open; a read goes by the class of its word. -/
theorem memoryCommandsComplete : Obligations.MemoryCommandsComplete := by
  unfold Obligations.MemoryCommandsComplete
  refine ⟨?_, ?_, ?_, ?_, ?_⟩
  · intro m s hm hs hheld hlost u old w hu hold hw
    obtain rfl : u = s.memBurst m := hu
    subst hold
    refine ⟨fun h => ⟨?_, fun o mask v hmask => ?_⟩, fun x h => ⟨?_, fun o mask v hmask => ?_⟩, fun h g hg => ?_,
      fun o v => ?_, fun row hen hspace => ?_, ?_⟩
    · exact (execMemoryRead_next hm hs hheld hlost).trans (congrArg Host.Outcome.next (State.readFound_clean hw 0 h))
    · exact (execMemoryPartialWrite_next hm hs hheld hlost o hmask v).trans
        (congrArg Host.Outcome.next (State.mergeFound_clean hw _ _ _ h))
    · exact (execMemoryRead_next hm hs hheld hlost).trans
        (congrArg Host.Outcome.next (State.readFound_corrected hw 0 h))
    · exact (execMemoryPartialWrite_next hm hs hheld hlost o hmask v).trans
        (congrArg Host.Outcome.next (State.mergeFound_corrected hw _ _ _ h))
    · subst hg
      exact ⟨(execMemoryRead_next hm hs hheld hlost).trans
          (congrArg Host.Outcome.next (State.readFound_uncorrectable hw 0 h)),
        fun o mask v hmask => (execMemoryPartialWrite_next hm hs hheld hlost o hmask v).trans
          (congrArg Host.Outcome.next (State.mergeFound_uncorrectable hw _ _ _ h))⟩
    · exact ⟨execMemoryWrite_next hm hs hheld hlost o v, execMemoryPartialWrite_all o m v s⟩
    · exact ⟨(execScrubRead_sram hm hs hen hspace row false).trans
          (congrArg Host.Outcome.next (if_neg Bool.false_ne_true)),
        (execScrubRead_sram hm hs hen hspace row true).trans (congrArg Host.Outcome.next (if_pos rfl))⟩
    · intro row last hen hspace hround v f hv hf
      exact execScrubRead_dram hm hs hen hheld hlost hspace hround row last hv hf
  · intro ch addr flips s a hs hsweep hheld ha hchan hdie hdue u hu
    exact execLineSweepBurst_due hs flips hsweep hheld ha hchan hdie hdue hu
  · intro lba data h s c i hs hc hmark
    refine ⟨fun hnone => execScrubRefetch_places hs hc hmark hnone data h, ?_⟩
    rintro x hwork hlba hpassed d u v rfl rfl rfl
    exact execScrubRefetch_ends hs hc hmark hwork hlba hpassed data h
  · intro ch s hs hheld hdue
    exact execSteeringHoldEnd_due hs hheld hdue
  · intro o s hs
    exact ⟨execInjectArm_idle hs o, execInjectDisarm_armed hs o⟩

end Sys2Proof.Proofs

/-! The frames of the Streamers and the Halyard link, and of heartbeats, the recorder and calibration. -/

namespace Sys2Proof.Proofs

open Sys2Proof.Machine

/-- Settles O43: the frame lemma of each command, with its list of parts for the hidden ones. -/
theorem streamerAndLinkFrames : Obligations.StreamerAndLinkFrames := by
  unfold Obligations.StreamerAndLinkFrames
  exact
    ⟨fun _ _ _ _ => Framed.leaves (by apply execStmGo_frame <;> rfl),
     fun _ _ => Framed.leaves (by apply execStmBurstAck_frame <;> rfl),
     fun _ _ => Framed.leaves (by apply execStmBurstTimeout_frame <;> rfl),
     fun _ _ => Framed.leaves (by apply execStmDescEnd_frame <;> rfl),
     fun _ _ => Framed.leaves (by apply execStmLinkReread_frame <;> rfl),
     fun _ _ _ => Framed.leaves (by apply execStmPause_frame <;> rfl),
     fun _ _ _ _ => Framed.leaves (by apply execStmStop_frame <;> rfl),
     fun _ _ _ => Framed.leaves (by apply execStmResume_frame <;> rfl),
     fun _ _ => Framed.leaves (by apply execStmBurstIssue_frame <;> rfl),
     fun n s => Framed.leaves (execStmStatusRead_frame n s),
     fun _ _ _ _ _ => Framed.leaves (by apply execLinkCodeword_frame <;> rfl),
     fun _ _ => Framed.leaves (by apply execLinkDataFlit_frame <;> rfl),
     fun _ _ => Framed.leaves (by apply execLinkCtrlFlit_frame <;> rfl),
     fun _ _ => Framed.leaves (by apply execLinkPortDown_frame <;> rfl),
     fun _ _ => Framed.leaves (by apply execLinkIdleFlit_frame <;> rfl),
     fun _ _ => Framed.leaves (by apply execLinkReplayTimer_frame <;> rfl),
     fun _ _ _ => Framed.leaves (by apply execLinkMapApply_frame <;> rfl),
     fun _ _ _ _ => Framed.leaves (by apply execLinkEqualizeDone_frame <;> rfl),
     fun _ _ => Framed.leaves (by apply execLinkDblSend_frame; rfl),
     fun _ _ => Framed.leaves (by apply execLinkEvtSend_frame; rfl),
     fun _ _ _ => Framed.leaves (by apply execLinkLaneRetrain_frame <;> rfl),
     fun _ _ _ => Framed.leaves (by apply execLinkConfigDone_frame <;> rfl),
     fun _ _ => Framed.leaves (by apply execLinkRetrainDone_frame <;> rfl),
     fun _ _ => Framed.leaves (by apply execLinkAlignDone_frame <;> rfl),
     fun _ _ => Framed.leaves (by apply execLinkTrainTimeout_frame <;> rfl)⟩

/-- Settles O44: the frame lemma of each command, with its list of parts for the hidden ones. -/
theorem recorderAndCalibrationFrames : Obligations.RecorderAndCalibrationFrames := by
  unfold Obligations.RecorderAndCalibrationFrames
  exact
    ⟨fun _ _ => Framed.leaves (by apply execStaffHeartbeatTimeout_frame <;> rfl),
     fun _ _ => Framed.leaves (by apply execDieHeartbeatTimeout_frame <;> rfl),
     fun _ _ => Framed.leaves (by apply execStaffBootDone_frame; rfl),
     fun _ => Framed.leaves (by apply execEventStore_frame <;> rfl),
     fun _ => Framed.leaves (by apply execOpsecIncrement_frame <;> rfl),
     fun _ => Framed.leaves (by apply execFirstAreaProgram_frame <;> rfl),
     fun _ _ => Framed.leaves (by apply execCalendarSet_frame <;> rfl),
     fun _ _ => Framed.leaves (by apply execCalendarClear_frame <;> rfl),
     fun _ _ => Framed.leaves (by apply execLogFreeze_frame <;> rfl),
     fun _ _ => Framed.leaves (by apply execLogThaw_frame <;> rfl),
     fun _ => Framed.leaves (by apply execLogFreezeTimeout_frame <;> rfl),
     fun _ _ _ => Framed.leaves (by apply execLogReadSelect_frame <;> rfl),
     fun _ => Framed.leaves (by apply execLogReadDone_frame <;> rfl),
     fun _ => Framed.leaves (by apply execLifeRecordPeriodic_frame; rfl),
     fun _ _ _ _ => Framed.leaves (by apply execCalTimebase_frame <;> rfl),
     fun _ _ _ _ => Framed.leaves (by apply execCalRefdac_frame <;> rfl),
     fun _ _ _ _ => Framed.leaves (by apply execCalAnalog_frame <;> rfl),
     fun _ _ _ _ => Framed.leaves (by apply execCalMedia_frame <;> rfl),
     fun _ _ => Framed.leaves (by apply execCalStore_frame <;> rfl),
     fun _ => Framed.leaves (by apply execCalClusterClosed_frame <;> rfl),
     fun _ _ _ => Framed.leaves (by apply execCalStoreDone_frame <;> rfl),
     fun _ _ => Framed.leaves (by apply execCalrefPresentChange_frame <;> rfl),
     fun _ _ => Framed.leaves (by apply execCalSessionEnd_frame <;> rfl)⟩

end Sys2Proof.Proofs

/-! The front cache: invalidation, enabling, draining and eviction (R389 to R392). -/

namespace Sys2Proof.Machine

/-! ### Fields after a write of another field -/

theorem State.is_of_get {s t : State} {x : Fld} (h : t.get x = s.get x) : t.is x = s.is x := by
  unfold State.is
  rw [h]

theorem State.is_set_other (s : State) (x y : Fld) (n : Nat) (hx : x.inWord) (h : x.apart y) :
    (s.set x n).is y = s.is y := State.is_of_get (State.get_set_other s x y n hx h)

theorem State.is_false_iff {s : State} {x : Fld} : s.is x = false ↔ s.get x = 0 := by
  simp [State.is]

theorem State.get_of_rd_zero {s : State} {x : Fld} (h : s.rd x.addr = 0) : s.get x = 0 := by
  simp [State.get, h, bitsOf]

theorem State.is_of_get_one {s : State} {x : Fld} (h : s.get x = 1) : s.is x = true := by
  simp [State.is, h]

/-- What holds of an answer gives what follows from it. -/
theorem Answers.imp {r : Res} {P Q : State → Prop} (h : Answers r P) (hPQ : ∀ t, P t → Q t) : Answers r Q := by
  obtain ⟨t, ht, hP⟩ := h
  exact ⟨t, ht, hPQ t hP⟩

/-! ### Invalidation (R390) -/

theorem execCacheInvalidate_idle (o : Origin) {d : Die} {s : State} (hs : s.live = true)
    (hd : bitAt (s.get FLT_STAT_DIE_LOST) d = false) (hoff : s.is (CCH_STAT_ENABLED d) = false)
    (hdrain : s.is (CCH_STAT_DRAINING d) = false) (hevb : (s.cacheOf d).evb = []) : execCacheInvalidate o d s =
      .next ((s.setCache d { s.cacheOf d with invalidating := true }).logPriv o (CCH_CMD d) 1 0) := by
  rw [execCacheInvalidate, s.runOn_live _ _ hs hd]
  simp [hoff, hdrain, hevb]

theorem execInvalidateDone_running {d : Die} {s : State} (hs : s.live = true)
    (hrun : (s.cacheOf d).invalidating = true) : execInvalidateDone d s = .next ((s.setCache d
      { s.cacheOf d with lines := [], invalidating := false }).set (CCH_STAT_INV_DONE d) 1) :=
  (s.run_live _ hs).trans (congrArg Host.Outcome.next (if_pos hrun))

@[simp] theorem State.set_cacheOf (s : State) (x : Fld) (n d : Nat) : (s.set x n).cacheOf d = s.cacheOf d :=
  id rfl

/-! ### Enabling and disabling (R391, R392) -/

section
variable {d : Die} {s : State} (hs : s.live = true) (hd : bitAt (s.get FLT_STAT_DIE_LOST) d = false)
include hs hd

/-- All that CACHE_ENABLE does to the registers of its die: PF_EN as written, and EN, ENABLED and EN_REJECT by whether the
cache is on and, where it is not, by whether it may be turned on. -/
theorem execCacheEnable_fields (o : Origin) (pf : Bool) {on may : Bool} (hon : s.is (CCH_STAT_ENABLED d) = on)
    (hmay : (s.is (CCH_STAT_INV_DONE d) && !s.is (CCH_STAT_DRAINING d)) = may) :
    Answers (execCacheEnable o d pf s) fun t => t.get (CCH_CTL_PF_EN d) = (if pf then 1 else 0) ∧
      t.get (CCH_CTL_EN d) = (if on then s.get (CCH_CTL_EN d) else if may then 1 else 0) ∧
      t.get (CCH_STAT_ENABLED d) = (if !on && may then 1 else s.get (CCH_STAT_ENABLED d)) ∧
      t.get (CCH_STAT_EN_REJECT d) = (if on || may then s.get (CCH_STAT_EN_REJECT d) else 1) := by
  have hpf : (if pf then 1 else 0) % 2 = if pf then 1 else 0 := by cases pf <;> rfl
  rw [execCacheEnable]
  refine Answers.runOn hs hd ?_
  cases on <;> cases may <;>
    simp (disch := (simp only [Fld.inWord, Fld.apart, CCH_CTL_PF_EN, CCH_CTL_EN, CCH_STAT_ENABLED, CCH_STAT_INV_DONE,
      CCH_STAT_DRAINING, CCH_STAT_EN_REJECT, CCH_CTL, CCH_STAT, LOG_FRZLOST, LOG_INLOST]; omega))
      [State.is_set_other, hon, hmay, State.logPriv_get, State.get_set_same, State.get_set_other, hpf,
      show (CCH_CTL_PF_EN d).w = 1 from rfl]

/-- All that CACHE_DISABLE does to the registers of its die, DRAINING by whether anything is left of the cache. -/
theorem execCacheDisable_fields (o : Origin) (pf : Bool) : Answers (execCacheDisable o d pf s) fun t =>
    t.get (CCH_CTL_PF_EN d) = (if pf then 1 else 0) ∧ t.get (CCH_CTL_EN d) = 0 ∧ t.get (CCH_STAT_ENABLED d) = 0 ∧
      t.get (CCH_STAT_INV_DONE d) = 0 ∧
      t.get (CCH_STAT_DRAINING d) = (if (s.cacheOf d).drained then s.get (CCH_STAT_DRAINING d) else 1) ∧
      t.cache = s.cache := by
  have hpf : (if pf then 1 else 0) % 2 = if pf then 1 else 0 := by cases pf <;> rfl
  rw [execCacheDisable]
  refine Answers.runOn hs hd ?_
  cases hleft : (s.cacheOf d).drained <;>
    simp (disch := (simp only [Fld.inWord, Fld.apart, CCH_CTL_PF_EN, CCH_CTL_EN, CCH_STAT_ENABLED, CCH_STAT_INV_DONE,
      CCH_STAT_DRAINING, CCH_CTL, CCH_STAT, LOG_FRZLOST, LOG_INLOST]; omega))
      [hleft, State.logPriv_get, State.get_set_same, State.get_set_other, hpf, show (CCH_CTL_PF_EN d).w = 1 from rfl]

end

/-! ### Draining and eviction (R389, R392) -/

theorem execCacheDrainEnd_draining {d : Die} {s u v : State} (hs : s.live = true)
    (hdrain : s.is (CCH_STAT_DRAINING d) = true) (hu : u = s.drainLines d ((s.cacheOf d).lines.map Prod.fst))
    (hv : v = (u.setCache d { u.cacheOf d with evb := [] }).set (CCH_EVB_USED d) 0) : execCacheDrainEnd d s =
      .next (if (v.cacheOf d).drained then v.set (CCH_STAT_DRAINING d) 0 else v) := by
  subst hv hu
  exact (s.run_live _ hs).trans (congrArg Host.Outcome.next (if_pos hdrain))

theorem execEvictionWriteDone_live (d : Die) {s : State} (hs : s.live = true) : execEvictionWriteDone d s =
    .next ((s.setCache d { s.cacheOf d with evb := (s.cacheOf d).evb.tail }).set (CCH_EVB_USED d)
      (s.cacheOf d).evb.tail.length) :=
  s.run_live _ hs

/-! ### A package reset (R34, R391) -/

theorem Tab.get_keep {α : Type} (d : Nat → α) (t : Tab α) (f : Nat → Bool) (k : Nat) :
    Tab.get d (t.keep f) k = if f k then Tab.get d t k else d k := by
  induction t with
  | nil => simp [Tab.keep, Tab.get]
  | cons p t ih =>
    unfold Tab.keep at ih ⊢
    by_cases hp : f p.1 <;> by_cases hk : k = p.1 <;> simp_all [Tab.get]

/-- What a package reset leaves of a register: a kept one as the recorder's reset leaves it, any other its reset word. -/
theorem State.packageReset_rd (s : State) {a : Nat} (ha : a ≠ LOG_RSTAT) :
    s.packageReset.rd a = if keptReg a then s.logReset.rd a else resetWord a :=
  (State.rd_set_other _ LOG_RSTAT_BUSY 0 a ha).trans (Tab.get_keep resetWord _ _ a)

theorem resetWord_cchStat (d : Die) : resetWord (CCH_STAT d) = 0 := by
  decide +revert +kernel

theorem State.packageReset_cchStat (s : State) (d : Die) : s.packageReset.rd (CCH_STAT d) = 0 := by
  have hkept : keptReg (CCH_STAT d) = false := by decide +revert
  rw [s.packageReset_rd (by simp only [CCH_STAT, LOG_RSTAT]; omega), hkept, resetWord_cchStat]
  rfl

end Sys2Proof.Machine

/-! The statements on the front cache. -/

namespace Sys2Proof.Proofs

open Sys2Proof.Machine

/-- Settles O26: each command takes the one path that its premises leave open; what enabling and disabling do to the
fields of the die stands in one lemma each. -/
theorem cacheCommandsComplete : Obligations.CacheCommandsComplete := by
  unfold Obligations.CacheCommandsComplete
  refine ⟨?_, ?_, ?_, ?_, ?_⟩
  · intro o d s hs hd hoff hdrain hevb
    exact execCacheInvalidate_idle o hs hd hoff hdrain hevb
  · intro d s hs hrun
    refine ⟨_, execInvalidateDone_running hs hrun, ?_, ?_, ?_⟩
    · exact State.get_set_fits _ (CCH_STAT_INV_DONE d) 1 (by decide : 2 + 1 ≤ 32) (by decide : 1 < 2 ^ 1)
    · simp
    · simp
  · intro o d pf s hs hd
    refine ⟨fun hon => ?_, fun hoff hinv hdrain => ?_, fun hoff hinv => ?_, execCacheDisable_fields hs hd o pf⟩
    · exact (execCacheEnable_fields hs hd o pf hon rfl).imp fun t ⟨hpf, hen, _, _⟩ => ⟨hpf, hen⟩
    · have hmay : (s.is (CCH_STAT_INV_DONE d) && !s.is (CCH_STAT_DRAINING d)) = true := by rw [hinv, hdrain]; rfl
      exact (execCacheEnable_fields hs hd o pf hoff hmay).imp fun t ⟨hpf, hen, hon, _⟩ => ⟨hpf, hen, hon⟩
    · have hmay : (s.is (CCH_STAT_INV_DONE d) && !s.is (CCH_STAT_DRAINING d)) = false := by rw [hinv]; rfl
      exact (execCacheEnable_fields hs hd o pf hoff hmay).imp
        fun t ⟨_, hen, hon, hrej⟩ => ⟨hen, hrej, hon.trans (State.is_false_iff.mp hoff)⟩
  · intro d s hs hdrain u hu v hv
    exact execCacheDrainEnd_draining hs hdrain hu hv
  · intro d s hs
    exact execEvictionWriteDone_live d hs

/-- Settles O54: a write of EN = 1 has three cases, by ENABLED and by INV_DONE with DRAINING; a package reset does not
keep CCH.STAT. -/
theorem cacheEnableRule : Obligations.CacheEnableRule := by
  unfold Obligations.CacheEnableRule
  refine ⟨fun o d p s hs hd => ⟨fun hoff => ⟨fun hinv hdrain => ?_, fun hbar => ?_⟩, fun hon => ?_, ?_⟩, fun d s => ?_⟩
  · have hmay : (s.is (CCH_STAT_INV_DONE d) && !s.is (CCH_STAT_DRAINING d)) = true := by rw [hinv, hdrain]; rfl
    exact (execCacheEnable_fields hs hd o p hoff hmay).imp
      fun t ⟨_, hen, hon, hrej⟩ => ⟨State.is_of_get_one hen, State.is_of_get_one hon, State.is_of_get hrej⟩
  · have hmay : (s.is (CCH_STAT_INV_DONE d) && !s.is (CCH_STAT_DRAINING d)) = false := by
      rcases hbar with h | h <;> simp [h]
    exact (execCacheEnable_fields hs hd o p hoff hmay).imp fun t ⟨_, hen, hon, hrej⟩ =>
      ⟨State.is_false_iff.mpr hen, (State.is_of_get hon).trans hoff, State.is_of_get_one hrej⟩
  · exact (execCacheEnable_fields hs hd o p hon rfl).imp
      fun t ⟨_, hen, hkept, _⟩ => ⟨State.is_of_get hen, (State.is_of_get hkept).trans hon⟩
  · exact (execCacheDisable_fields hs hd o p).imp fun t ⟨_, hen, hon, hinv, _, _⟩ =>
      ⟨State.is_false_iff.mpr hinv, State.is_false_iff.mpr hen, State.is_false_iff.mpr hon⟩
  · exact State.is_false_iff.mpr (State.get_of_rd_zero (x := CCH_STAT_INV_DONE d) (s.packageReset_cchStat d))

end Sys2Proof.Proofs

/-! The Streamers' commands (R397 to R408). -/

namespace Sys2Proof.Machine

/-! ### The commands of a GENERAL Streamer (R397, R405 to R407) -/

theorem STM_CTL_ne_STM_STAT (n : Nat) : STM_CTL n ≠ STM_STAT n := by
  simp only [STM_CTL, STM_STAT]
  omega

theorem State.logPriv_stmOf (s : State) (o : Origin) (a v r n : Nat) : (s.logPriv o a v r).stmOf n = s.stmOf n := by
  rw [State.stmOf, State.logPriv_streamers, ← State.stmOf]

section
variable {o : Origin} {n : StreamerNo} {s : State}

/-- A command of CTL at a GENERAL Streamer does its work and is logged. -/
theorem State.general_of_class (h : streamerClass n = 3) (a v : Nat) (f : State → State) :
    s.general n o a v f = (f s).logPriv o a v 0 := if_pos h

theorem State.general_of_other (h : streamerClass n ≠ 3) (a v : Nat) (f : State → State) :
    s.general n o a v f = (s.set (STM_STAT_REJECT n) 1).logPriv o a v 1 := if_neg h

theorem State.stmState_set_pause (v : Nat) : (s.set (STM_CTL_PAUSE n) v).stmState n = s.stmState n :=
  State.get_set_reg s (STM_CTL_PAUSE n) (STM_STAT_STATE n) v (STM_CTL_ne_STM_STAT n).symm

theorem State.get_pause_set_state (v : Nat) :
    (s.set (STM_STAT_STATE n) v).get (STM_CTL_PAUSE n) = s.get (STM_CTL_PAUSE n) :=
  State.get_set_reg s (STM_STAT_STATE n) (STM_CTL_PAUSE n) v (STM_CTL_ne_STM_STAT n)

theorem State.stmState_set {v : Nat} (hv : v < 8) : (s.set (STM_STAT_STATE n) v).stmState n = v :=
  State.get_set_fits s (STM_STAT_STATE n) v (by decide : 0 + 3 ≤ 32) hv

theorem State.get_pause_set {v : Nat} (hv : v < 2) : (s.set (STM_CTL_PAUSE n) v).get (STM_CTL_PAUSE n) = v :=
  State.get_set_fits s (STM_CTL_PAUSE n) v (by decide : 0 + 1 ≤ 32) hv

theorem State.logPriv_stmState (a v r : Nat) : (s.logPriv o a v r).stmState n = s.stmState n :=
  State.logPriv_get s o a v r (STM_STAT_STATE n) (by simp only [STM_STAT_STATE, STM_STAT, LOG_FRZLOST]; omega)
    (by simp only [STM_STAT_STATE, STM_STAT, LOG_INLOST]; omega)

theorem State.logPriv_get_pause (a v r : Nat) : (s.logPriv o a v r).get (STM_CTL_PAUSE n) = s.get (STM_CTL_PAUSE n) :=
  State.logPriv_get s o a v r (STM_CTL_PAUSE n) (by simp only [STM_CTL_PAUSE, STM_CTL, LOG_FRZLOST]; omega)
    (by simp only [STM_CTL_PAUSE, STM_CTL, LOG_INLOST]; omega)

@[simp] theorem State.set_stmOf (x : Fld) (v m : Nat) : (s.set x v).stmOf m = s.stmOf m := id rfl

@[simp] theorem State.setStm_stmState (x : Streamer) (m : Nat) : (s.setStm m x).stmState n = s.stmState n :=
  id rfl

variable (hs : s.live = true) (hd : bitAt (s.get FLT_STAT_DIE_LOST) (n / 16) = false)
include hs hd

theorem execStmPause_other (h : streamerClass n ≠ 3) :
    execStmPause o n s = .next ((s.set (STM_STAT_REJECT n) 1).logPriv o (STM_CTL n) 1 1) :=
  (s.runOn_live _ _ hs hd).trans (congrArg Host.Outcome.next (State.general_of_other h _ _ _))

variable (hgen : streamerClass n = 3)
include hgen

theorem execStmGo_ready (hi : Fin 8) {u : State} (hu : u = s.set (STM_KICK_HI_ADDR_HI n) hi)
    (hstate : u.stmState n = 0 ∨ u.stmState n = 3) (hwin : u.resetting.contains (.stm n) = false) :
    execStmGo o n hi s = .next ((u.logPriv o (STM_KICK_HI n) (hi.val + 2 ^ 31) 0).stmBegin n
      (.chain (u.get (STM_KICK_LO_ADDR_LO n) * 64 + hi.val * 2 ^ 32))) := by
  subst hu
  rw [execStmGo, s.runOn_live _ _ hs hd, if_pos hgen, if_pos ⟨hstate, hwin⟩]

theorem execStmPause_active (hact : s.stmState n = 1 ∨ s.stmState n = 2) : Answers (execStmPause o n s) fun t =>
    t.get (STM_CTL_PAUSE n) = 1 ∧ t.stmState n = (if (s.stmOf n).out.isEmpty then 5 else 4) ∧
      (t.stmOf n).waited = (s.stmState n == 2) := by
  rw [execStmPause]
  refine Answers.runOn hs hd ?_
  simp only [State.general_of_class hgen, State.stmState_set_pause, State.set_stmOf, if_pos hact]
  refine ⟨?_, ?_, ?_⟩
  · rw [State.logPriv_get_pause, State.get_pause_set_state, State.setStm_get, State.get_pause_set (by decide)]
  · rw [State.logPriv_stmState]
    exact State.stmState_set (by split <;> decide)
  · rw [State.logPriv_stmOf, State.set_stmOf, State.setStm_stmOf_same]

theorem execStmResume_paused (hpaused : s.stmState n = 5) : Answers (execStmResume o n s) fun t =>
    t.get (STM_CTL_PAUSE n) = 0 ∧ t.stmState n = (if (s.stmOf n).waited then 2 else 1) := by
  rw [execStmResume]
  refine Answers.runOn hs hd ?_
  simp only [State.general_of_class hgen, State.stmState_set_pause, State.set_stmOf, if_pos hpaused]
  refine ⟨?_, ?_⟩
  · rw [State.logPriv_get_pause, State.get_pause_set_state, State.get_pause_set (by decide)]
  · rw [State.logPriv_stmState]
    exact State.stmState_set (by split <;> decide)

theorem execStmStop_error (b : Bool) (herr : s.stmState n = 6) :
    Answers (execStmStop o n b s) fun t => t.stmState n = 0 := by
  rw [execStmStop]
  refine Answers.runOn hs hd ?_
  simp only [State.general_of_class hgen, State.stmState_set_pause, if_pos herr]
  rw [State.logPriv_stmState, State.stmState_set (by decide)]

theorem execStmStop_withdraws (b : Bool) (hok : s.stmState n ≠ 6) : execStmStop o n b s = .next
    (((s.set (STM_CTL_PAUSE n) (if b then 1 else 0)).withdraw n).logPriv o (STM_CTL n) (2 + (if b then 1 else 0)) 0) := by
  rw [execStmStop, s.runOn_live _ _ hs hd]
  simp only [State.general_of_class hgen, State.stmState_set_pause, if_neg hok]

end

/-! ### Bursts (R399, R401, R405 to R407) -/

section
variable {n : StreamerNo} {s : State} (hs : s.live = true)
include hs

theorem execStmBurstIssue_due {j : Job} {d : Desc} (hj : (s.stmOf n).job = some j) (hd : (s.stmOf n).desc = some d)
    (hrun : s.stmState n = 1) (hw : (s.stmOf n).withdrawn = false) (hi : (s.stmOf n).issued = false)
    (hwin : s.resetting.contains (.stm n) = false) (hrate : s.burstAt n < 16 * s.clk.time + 16) :
    execStmBurstIssue n s = .next (s.issueBurst n (s.stmOf n) j d) := by
  have hnow : decide (16 * s.now + 16 ≤ s.burstAt n) = false := decide_eq_false (Nat.not_le.mpr hrate)
  rw [execStmBurstIssue, s.run_live _ hs]
  simp only [hj, hd, hrun, hw, hi, hwin, hnow, ne_eq, not_true_eq_false, decide_false, Bool.or_false,
    Bool.false_eq_true, if_false]

theorem execStmDescEnd_whole (hrun : s.stmState n = 1) (hi : (s.stmOf n).issued = true)
    (hout : (s.stmOf n).out = []) : execStmDescEnd n s = .next (s.stmDescEnd n) := by
  rw [execStmDescEnd, s.run_live _ hs]
  simp [hrun, hi, hout]

/-- The acknowledgement of a burst, of a Streamer that tracks one descriptor and is not withdrawn. -/
theorem execStmBurstAck_counts {len t : Nat} {rest : List (Nat × Nat)} (hout : (s.stmOf n).out = (len, t) :: rest)
    (htrail : (s.stmOf n).trail = []) (hw : (s.stmOf n).withdrawn = false) {u v : State} (hu : u = s.stmBytes n len)
    (hv : v = u.setStm n { u.stmOf n with out := rest }) : execStmBurstAck n s =
      .next (if rest.isEmpty && v.stmState n == 4 then v.set (STM_STAT_STATE n) 5 else v) := by
  have hbytes : (s.stmBytes n len).stmOf n = { s.stmOf n with bytes := ((s.stmOf n).bytes + len) % 256 } := by
    rw [State.stmBytes, State.stmOf, State.addSat_streamers, ← State.stmOf, State.setStm_stmOf_same]
  subst hv hu
  rw [execStmBurstAck, s.run_live _ hs]
  cases rest <;> simp [hout, hbytes, htrail, hw]

theorem execStmBurstTimeout_due {j : Job} {len t : Nat} {rest : List (Nat × Nat)}
    (hout : (s.stmOf n).out = (len, t) :: rest) (htrail : (s.stmOf n).trail = []) (hj : (s.stmOf n).job = some j)
    (hdue : t + 256 ≤ s.clk.time) : execStmBurstTimeout n s =
      .next (((s.stmFault n 4 j ((s.stmOf n).desc.getD (s.jobDesc j)) true).raise (srcSTMTO (n / 16)) n
        (orgInt 12 (n / 16) n)).stmNext n) := by
  rw [execStmBurstTimeout, s.run_live _ hs]
  simp [hout, htrail, hj, State.now, Nat.not_lt.mpr hdue]

/-! ### The link word read again, and a read of the status (R403, R404) -/

theorem execStmLinkReread_found {a l h : Nat} (hwait : s.stmState n = 2) (hdue : (s.stmOf n).linkAt + 4 ≤ s.clk.time)
    (ha : a = s.get (STM_CUR_LO_CUR n) + s.get (STM_CUR_HI_CUR n) * 2 ^ 32)
    (hl : (s.stored (descKey 0 (a + 56))).view = some l) (hh : (s.stored (descKey 0 (a + 60))).view = some h) :
    execStmLinkReread n s = .next (s.linkFound n (l / 64 * 64 + h % 8 * 2 ^ 32)) := by
  subst ha
  have hready : ¬ (s.stmState n ≠ 2 ∨ s.now < (s.stmOf n).linkAt + 4) := by
    rw [State.now]
    omega
  rw [execStmLinkReread, s.run_live _ hs, if_neg hready]
  simp only [hl, hh]

end

theorem execStmStatusRead_next (n : StreamerNo) (s : State) : execStmStatusRead n s = .next s :=
  congrArg Host.Outcome.next (ite_self s)

end Sys2Proof.Machine

/-! The statement on the Streamers' commands. -/

namespace Sys2Proof.Proofs

open Sys2Proof.Machine

/-- Settles O27: each command takes the one path that its premises leave open. -/
theorem streamerCommandsComplete : Obligations.StreamerCommandsComplete := by
  unfold Obligations.StreamerCommandsComplete
  refine ⟨?_, ?_, ?_, ?_, ?_, ?_, fun n s => execStmStatusRead_next n s⟩
  · intro o n s hs hd hgen
    exact ⟨fun hi u => execStmGo_ready hs hd hgen hi, execStmPause_active hs hd hgen, execStmResume_paused hs hd hgen,
      execStmStop_error hs hd hgen, execStmStop_withdraws hs hd hgen⟩
  · intro o n s hs hd
    exact execStmPause_other hs hd
  · intro n s j d hs hj hd hrun hw
    exact ⟨execStmBurstIssue_due hs hj hd hrun hw, execStmDescEnd_whole hs hrun⟩
  · intro n s len t rest hs hout htrail hw u hu v hv
    rw [show exec (.stmBurstAck n) s = _ from execStmBurstAck_counts hs hout htrail hw hu hv]
    refine ⟨fun hmore => ?_, fun hlast hpausing => ?_⟩
    · rw [if_neg]
      simpa [imp_iff_not_or] using hmore
    · rw [if_pos]
      simp [hlast, hpausing]
  · intro n s j len t rest hs
    exact execStmBurstTimeout_due hs
  · intro n s a l h hs hwait hdue ha hl hh
    rw [show exec (.stmLinkReread n) s = _ from execStmLinkReread_found hs hwait hdue ha hl hh]
    exact ⟨fun hnone => congrArg Host.Outcome.next (if_neg (not_not_intro hnone)),
      fun hsome => congrArg Host.Outcome.next (if_pos hsome)⟩

end Sys2Proof.Proofs

/-! The link layer: lanes and their codewords, flits, replay, what is sent on a credit, maps and training (R414 to R440). -/

namespace Sys2Proof.Machine

/-! ### Codewords (R414, R415, R435) -/

section
variable {n : HLane} {info : BitVec 5140} {errs : Fin 545} {skew : BitVec 8} {s : State} (hs : s.live = true)
  (hheld : (s.hlaneOf n).held = false) (hreset : s.resetting.contains (.pcs n) = false)
  (hopen : s.is (TOP_CDC_STAT_CLOSED n) = false) (hcross : (s.crossOf n).reopening = false)
  (hout : s.get (LNK_LANE_STAT_STATE n) ≠ 2)
include hheld hreset hopen hcross

/-- A codeword comes to a lane whose PCS runs and whose crossing is open. -/
theorem execLinkCodeword_arrives : ((s.hlaneOf n).held || s.resetting.contains (.pcs n) ||
    s.is (TOP_CDC_STAT_CLOSED n) || (s.crossOf n).reopening) = false := by
  rw [hheld, hreset, hopen, hcross]
  rfl

include hs hout

theorem execLinkCodeword_uncorrectable (herrs : 15 < errs.val) : execLinkCodeword n info errs skew s =
    .next (s.setHlane n { s.hlaneOf n with unc := (true :: (s.hlaneOf n).unc).take 64 }) := by
  have hunc : rsCorrects < errs.val := herrs
  rw [execLinkCodeword, s.run_live _ hs]
  simp only [execLinkCodeword_arrives hheld hreset hopen hcross, Bool.false_eq_true, if_false, decide_eq_true hunc,
    if_true, State.setHlane_get, if_pos hout]

theorem execLinkCodeword_good (herrs : errs.val ≤ 15) (hmark : cwMark info.toNat = 10)
    (hlane : cwLane info.toNat = n.val) : execLinkCodeword n info errs skew s =
      .next (((s.addSat (LNK_LANE_CORR_COUNT n) errs).set (LNK_LANE_SKEW_WORDS n) skew.toNat).setHlane n
        { s.hlaneOf n with badHdr := 0, unc := (false :: (s.hlaneOf n).unc).take 64 }) := by
  have hcorr : ¬ rsCorrects < errs.val := Nat.not_lt.mpr herrs
  have hgood : ¬ (cwMark info.toNat ≠ 10 ∨ cwLane info.toNat ≠ n.val) := by
    rintro (h | h)
    · exact h hmark
    · exact h hlane
  have hstate : ((s.addSat (LNK_LANE_CORR_COUNT n) errs).set (LNK_LANE_SKEW_WORDS n) skew.toNat).get
      (LNK_LANE_STAT_STATE n) ≠ 2 := by
    rw [State.get_set_reg, State.addSat, State.get_set_reg]
    · exact hout
    · simp only [LNK_LANE_STAT_STATE, LNK_LANE_CORR_COUNT, LNK_LANE_STAT, LNK_LANE_CORR]
      omega
    · simp only [LNK_LANE_STAT_STATE, LNK_LANE_SKEW_WORDS, LNK_LANE_STAT, LNK_LANE_SKEW]
      omega
  rw [execLinkCodeword, s.run_live _ hs]
  simp only [execLinkCodeword_arrives hheld hreset hopen hcross, Bool.false_eq_true, if_false,
    decide_eq_false hcorr, decide_eq_false hgood, State.setHlane_get, if_pos hstate]

end

/-- What a codeword's corrections and skew leave in its lane's registers. -/
theorem State.corrected_skewed (s : State) (n : HLane) (e v : Nat) :
    ((s.addSat (LNK_LANE_CORR_COUNT n) e).set (LNK_LANE_SKEW_WORDS n) v).get (LNK_LANE_SKEW_WORDS n) =
      v % 2 ^ (LNK_LANE_SKEW_WORDS n).w ∧
    ((s.addSat (LNK_LANE_CORR_COUNT n) e).set (LNK_LANE_SKEW_WORDS n) v).get (LNK_LANE_CORR_COUNT n) =
      (s.addSat (LNK_LANE_CORR_COUNT n) e).get (LNK_LANE_CORR_COUNT n) := by
  refine ⟨State.get_set_same _ (LNK_LANE_SKEW_WORDS n) v (by decide : 0 + 8 ≤ 32), State.get_set_reg _ _ _ _ ?_⟩
  simp only [LNK_LANE_CORR_COUNT, LNK_LANE_SKEW_WORDS, LNK_LANE_CORR, LNK_LANE_SKEW]
  omega

/-! ### Flits (R417, R418, R420) -/

section
variable {p : LinkPort} {ws : List Nat} {s : State} (hup : s.portState p = 4) (hhead : (s.linkOf p).head = some ws)
include hup hhead

/-- A flit with a bad CRC asks for a NAK, whichever kind is taken. -/
theorem State.flit_bad (kind : Nat) (f : List Nat → State → State) (hbad : flitGood ws = false) :
    s.flit p kind f = s.setLink p { s.linkOf p with stream := (s.linkOf p).stream.drop 4, nak := true } := by
  rw [State.flit, if_neg (show ¬ s.portState p ≠ lkUP from not_not_intro hup), hhead]
  simp only [hbad, Bool.not_false, Bool.true_or, if_true]

/-- A good flit of the kind taken leaves the stream and hands over its ACK and NAK first. -/
theorem State.flit_good {kind : Nat} (f : List Nat → State → State) (hne : ws ≠ []) (hgood : flitGood ws = true)
    (hkind : flitKind ws = kind) : s.flit p kind f = f ws ((s.setLink p
      { s.linkOf p with stream := (s.linkOf p).stream.drop 4 }).ackNak p (flitAck ws) (flitNak ws)) := by
  have hwhole : ¬ (!flitGood ws || ws.isEmpty) = true := by
    rw [hgood, List.isEmpty_eq_false_iff.mpr hne]
    decide
  rw [State.flit, if_neg (show ¬ s.portState p ≠ lkUP from not_not_intro hup), hhead]
  exact (if_neg hwhole).trans (if_neg fun h => h.1 hkind)

end

section
variable {p : LinkPort} {ws : List Nat} {u : State} {x : LinkPortSt} (hx : x = u.linkOf p)
include hx

theorem State.dataFlit_inSequence (hseq : flitSeq ws = (x.rxAck + 1) % 4096) {l : List (List Nat) × List Nat}
    (hl : l = splitPackets 64 (x.part ++ flitContent ws)) : u.dataFlit p ws =
      (u.setLink p { x with rxAck := flitSeq ws, nak := false, part := l.2 }).takePkts p
        (l.1.map (fun k => k.map (BitVec.ofNat 32))) := by
  subst hl hx
  exact if_pos hseq

theorem State.dataFlit_old (hseq : flitSeq ws ≠ (x.rxAck + 1) % 4096)
    (hold : (x.rxAck + 4096 - flitSeq ws) % 4096 < 2048) : u.dataFlit p ws = u := by
  subst hx
  exact (if_neg hseq).trans (if_pos hold)

theorem State.dataFlit_ahead (hseq : flitSeq ws ≠ (x.rxAck + 1) % 4096)
    (hnew : 2048 ≤ (x.rxAck + 4096 - flitSeq ws) % 4096) : u.dataFlit p ws = u.setLink p { x with nak := true } := by
  subst hx
  exact (if_neg hseq).trans (if_neg (Nat.not_lt.mpr hnew))

variable {y : LinkPortSt} (hy : y = { x with pcred := bitsOf (ws.getD 0 0) 0 16 }) {item arg cw : Nat}
  (hitem : item = bitsOf (ws.getD 1 0) 0 4)
include hy hitem

theorem State.ctrlFlit_noItem (hnone : item = 0) : u.ctrlFlit p ws = u.setLink p y := by
  subst hy hx hitem
  exact if_pos (Or.inl hnone)

variable (harg : arg = bitsOf (ws.getD 1 0) 4 20) (hcw : cw = bitsOf (ws.getD 2 0) 0 11) (h1 : 1 ≤ item) (h3 : item ≤ 3)
include harg hcw h1 h3

theorem State.ctrlFlit_again (hsame : x.item = some (item, arg, cw)) (hnew : x.acted = false) :
    u.ctrlFlit p ws = (u.setLink p { y with acted := true }).actItem p item arg cw := by
  subst hy hx hitem harg hcw
  refine (if_neg (by omega)).trans ((if_pos hsame).trans (if_neg ?_))
  rw [hnew]
  decide

theorem State.ctrlFlit_first (hother : x.item ≠ some (item, arg, cw)) :
    u.ctrlFlit p ws = u.setLink p { y with item := some (item, arg, cw), acted := false } := by
  subst hy hx hitem harg hcw
  exact (if_neg (by omega)).trans (if_neg hother)

end

/-! ### Replay, and what is sent on a credit (R421, R423, R432 to R434) -/

section
variable {s : State} (hs : s.live = true)
include hs

theorem execLinkReplayTimer_due {p : LinkPort} (hup : s.portState p = 4) (hsent : (s.linkOf p).sent ≠ [])
    (hdue : (s.linkOf p).ackAt + 400 ≤ s.clk.time) : execLinkReplayTimer p s = .next (s.resend p) :=
  (s.run_live _ hs).trans (congrArg Host.Outcome.next (if_pos ⟨hup, hsent, hdue⟩))

theorem execLinkDblSend_credited {n : TaskPort} {p : LinkPort} {f : Nat}
    (hwait : s.link.doorbells.contains n.val = true)
    (hto : tget (none : Option (Nat × Nat)) (s.link.dblTo.map (fun q => (q.1, some q.2))) n = some (p.val, f))
    (hup : s.portState p = 4) (hroom : (s.linkOf p).room ≠ 0) {u : State}
    (hu : u = (s.setLink p { s.linkOf p with pused := ((s.linkOf p).pused + 1) % 2 ^ 16 }).sendPkt p
      ⟨10, false, f, s.get (TPT_PORT_CFG_BURGEE n), 0, 0, n, [(s.queueOf n).length % 2 ^ 18]⟩) : execLinkDblSend n s =
      .next { u with link := { u.link with doorbells := u.link.doorbells.filter (· != n.val) } } := by
  subst hu
  have hgo : s.portState p = lkUP ∧ (s.linkOf p).room ≠ 0 := ⟨hup, hroom⟩
  rw [execLinkDblSend, s.run_live _ hs, hwait, hto]
  exact congrArg Host.Outcome.next (if_pos hgo)

section
variable {e : Nat × Nat} {es : List (Nat × Nat)} {p : Nat} (hp : p = s.get LNK_EVTDST_PORT) (hup : s.portState p = 4)
  (hroom : (s.linkOf p).room ≠ 0) {u : State}
  (hu : u = (s.setLink p { s.linkOf p with pused := ((s.linkOf p).pused + 1) % 2 ^ 16 }).sendPkt p
    ⟨9, true, s.get LNK_EVTDST_FUNC, 0, 0, 0, 0, lohi e.1 ++ [e.2, 0]⟩)
include hp hup hroom hu

theorem execLinkEvtSend_die0 (hwait : s.link.evt0 = e :: es) :
    execLinkEvtSend 0 s = .next { u with link := { u.link with evt0 := es } } := by
  subst hu hp
  rw [execLinkEvtSend, s.run_live _ hs]
  simp only [Fin.val_zero, if_true, hwait]
  exact congrArg Host.Outcome.next (if_pos ⟨hup, hroom⟩)

theorem execLinkEvtSend_die1 (hwait : s.link.evt1 = e :: es) :
    execLinkEvtSend 1 s = .next { u with link := { u.link with evt1 := es } } := by
  subst hu hp
  rw [execLinkEvtSend, s.run_live _ hs]
  simp only [Fin.val_one, Nat.one_ne_zero, if_false, hwait]
  exact congrArg Host.Outcome.next (if_pos ⟨hup, hroom⟩)

end

/-! ### Maps and lanes (R436, R438) -/

theorem execLinkMapApply_rx {p : LinkPort} {m w : Nat} (hpend : (s.linkOf p).rxPend = some (m, w))
    (hround : ((s.linkOf p).round + 2048 - w) % 2048 < 1024) : execLinkMapApply p true s =
      .next ((s.setLink p { s.linkOf p with rxPend := none, sending := none }).putRx p m) := by
  rw [execLinkMapApply, s.run_live _ hs]
  simp only [if_true, hpend, if_pos hround]

theorem execLinkMapApply_tx {p : LinkPort} {m : Nat} (hpend : (s.linkOf p).txPend = some m)
    (hdue : (s.linkOf p).itemAt + 38 ≤ s.clk.time) : execLinkMapApply p false s =
      .next ((s.setLink p { s.linkOf p with txPend := none, sending := none }).putTx p m) := by
  rw [execLinkMapApply, s.run_live _ hs]
  simp only [Bool.false_eq_true, if_false, hpend]
  exact congrArg Host.Outcome.next (if_pos hdue)

end

/-- A held lane is retrained: its next try is counted from now. -/
def State.laneTried (s : State) (n : HLane) : State :=
  let u := s.setHlane n { s.hlaneOf n with triedAt := s.clk.time }
  u.set (LNK_LANE_READDS_TRIES n) (u.get (LNK_LANE_READDS_TRIES n) + 1)

theorem State.laneTried_tries (s : State) (n : HLane) (h : s.get (LNK_LANE_READDS_TRIES n) < 15) :
    (s.laneTried n).get (LNK_LANE_READDS_TRIES n) = s.get (LNK_LANE_READDS_TRIES n) + 1 := by
  rw [State.laneTried, State.setHlane_get]
  exact State.get_set_fits _ (LNK_LANE_READDS_TRIES n) _ (by decide : 0 + 5 ≤ 32)
    (show s.get (LNK_LANE_READDS_TRIES n) + 1 < 32 by omega)

/-- A lane whose retrain passed: its PCS runs, it carries traffic, and the adapter is asked to ADD it. -/
def State.laneReadded (s : State) (n : HLane) (p : Nat) : State :=
  let t := (((((s.setHlane n HLaneSt.init).peerBack n).peerBack (20 + n)).endWindow (.pcs n)).set
    (LNK_LANE_STAT_STATE n) 2)
  t.setLink p { t.linkOf p with
    txPend := some (putBit ((t.linkOf p).txPend.getD (t.get (LNK_PORT_TXMAP_MAP p))) n true)
    sending := some (3, n.val), itemAt := t.now }

@[simp] theorem State.endWindow_get (s : State) (b : BlockId) (x : Fld) : (s.endWindow b).get x = s.get x := by
  refine State.get_congr ?_ x
  rw [State.endWindow, State.markWindow]

theorem State.peerBack_get (s : State) (k : Nat) {x : Fld} (h : x.addr ≠ TOP_CDC_STAT k) :
    (s.peerBack k).get x = s.get x :=
  State.get_set_reg _ (TOP_CDC_STAT_CLOSED k) x 0 h

theorem State.laneReadded_state (s : State) (n : HLane) (p : Nat) :
    (s.laneReadded n p).get (LNK_LANE_STAT_STATE n) = 2 := by
  rw [State.laneReadded, State.setLink_get]
  exact State.get_set_fits _ (LNK_LANE_STAT_STATE n) 2 (by decide : 0 + 2 ≤ 32) (by decide : 2 < 2 ^ 2)

theorem State.laneReadded_tries (s : State) (n : HLane) (p : Nat) :
    (s.laneReadded n p).get (LNK_LANE_READDS_TRIES n) = s.get (LNK_LANE_READDS_TRIES n) := by
  have hstat : (LNK_LANE_READDS_TRIES n).addr ≠ (LNK_LANE_STAT_STATE n).addr := by
    simp only [LNK_LANE_READDS_TRIES, LNK_LANE_READDS, LNK_LANE_STAT_STATE, LNK_LANE_STAT]
    omega
  have hcdc : ∀ k < 69, (LNK_LANE_READDS_TRIES n).addr ≠ TOP_CDC_STAT k := by
    simp only [LNK_LANE_READDS_TRIES, LNK_LANE_READDS, TOP_CDC_STAT]
    omega
  rw [State.laneReadded, State.setLink_get, State.get_set_reg _ _ _ _ hstat, State.endWindow_get,
    State.peerBack_get _ _ (hcdc _ (by omega)), State.peerBack_get _ _ (hcdc _ (by omega)), State.setHlane_get]

section
variable {n : HLane} {s : State} (hs : s.live = true) (hauto : s.is LNK_CFG_AUTO_READD = true)
  (hout : s.get (LNK_LANE_STAT_STATE n) = 0) (hup : s.portState (s.lanePort n) = 4)
  (htries : s.get (LNK_LANE_READDS_TRIES n) < 15) (hheld : (s.hlaneOf n).held = true)
  (hdue : (s.hlaneOf n).triedAt + 10 ^ 7 ≤ s.clk.time)
include hs hauto hout hup htries hheld hdue

/-- The retrain of a held lane runs: a try more, and what its end brings. -/
theorem execLinkLaneRetrain_due (passed : Bool) : execLinkLaneRetrain n passed s =
    .next (if passed then (s.laneTried n).laneReadded n (s.lanePort n) else s.laneTried n) := by
  have hmore : ¬ 16 ≤ s.get (LNK_LANE_READDS_TRIES n) := by omega
  have hlast : (s.laneTried n).get (LNK_LANE_READDS_TRIES n) ≠ 16 := by
    rw [s.laneTried_tries n htries]
    omega
  have hwaited : decide (s.now < (s.hlaneOf n).triedAt + 10 ^ 7) = false := decide_eq_false (Nat.not_lt.mpr hdue)
  have hruns : ¬ (!s.is LNK_CFG_AUTO_READD || decide (s.get (LNK_LANE_STAT_STATE n) ≠ 0) ||
      decide (s.portState (s.lanePort n) ≠ lkUP) || decide (16 ≤ s.get (LNK_LANE_READDS_TRIES n)) ||
      !(s.hlaneOf n).held || decide (s.now < (s.hlaneOf n).triedAt + 10 ^ 7)) = true := by
    rw [hauto, hout, hup, hheld, hwaited, decide_eq_false hmore]
    decide
  refine (s.run_live _ hs).trans (congrArg Host.Outcome.next ((if_neg hruns).trans ?_))
  cases passed
  · exact if_neg hlast
  · rfl

end

/-! ### Training (R439, R440) -/

section
variable {p : LinkPort} {s : State} (hs : s.live = true)
include hs

section
variable (htime : s.trainLate p = false)
include htime

theorem execLinkEqualizeDone_adapted (ok inv : BitVec 20) {ls : List Nat} (hstate : s.portState p = 1)
    (hls : ls = (s.portLanes p).filter (fun n => bitAt ok.toNat n)) (hne : ls ≠ []) {u : State}
    (hu : u = State.each s (fun n s =>
      if ls.contains n then s.set (LNK_LANE_STAT_POLARITY n) (if bitAt inv.toNat n then 1 else 0)
      else (s.set (LNK_LANE_STAT_POLARITY n) (if bitAt inv.toNat n then 1 else 0)).set (LNK_LANE_STAT_STATE n) 0)
      (s.portLanes p)) : execLinkEqualizeDone p ok inv s =
      .next (((u.putRx p (maskOf ls)).putTx p (maskOf ls)).setPortState p 2) := by
  have hlate : ¬ s.trainLate p = true := ne_true_of_eq_false htime
  subst hu hls
  rw [execLinkEqualizeDone, s.run_live _ hs, if_neg hlate, if_pos (show s.portState p = lkEQUALIZE from hstate)]
  exact congrArg Host.Outcome.next (if_neg fun h => hne (List.isEmpty_iff.mp h))

theorem execLinkAlignDone_align (hstate : s.portState p = 2) :
    execLinkAlignDone p s = .next (s.setPortState p 3) :=
  (s.run_live _ hs).trans (congrArg Host.Outcome.next ((if_neg (ne_true_of_eq_false htime)).trans (if_pos hstate)))

theorem execLinkAlignDone_retrain (hstate : s.portState p = 5) : execLinkAlignDone p s =
    .next (s.setLink p { s.linkOf p with reAligned := true, got := [], stream := [] }) := by
  have hother : ¬ s.portState p = lkALIGN := by
    rw [hstate]
    decide
  exact (s.run_live _ hs).trans (congrArg Host.Outcome.next
    ((if_neg (ne_true_of_eq_false htime)).trans ((if_neg hother).trans (if_pos hstate))))

theorem execLinkConfigDone_config (pcred : BitVec 16) (hstate : s.portState p = 3) {u : State}
    (hu : u = State.lanesIn ((s.setLink p { LinkPortSt.init with pcred := pcred.toNat }).setPortState p 4) p) :
    execLinkConfigDone p pcred s = .next (if (s.linkOf p).redbl then u.redoorbell else u) := by
  subst hu
  exact (s.run_live _ hs).trans (congrArg Host.Outcome.next ((if_neg (ne_true_of_eq_false htime)).trans (if_pos hstate)))

theorem execLinkRetrainDone_aligned (hstate : s.portState p = 5) (haligned : (s.linkOf p).reAligned = true) {u : State}
    (hu : u = (s.setPortState p 4).lanesIn p) : execLinkRetrainDone p s = .next (u.setLink p
      (LinkPortSt.pump { u.linkOf p with resends := 0, nakAt := none } (u.linkOf p).wait)) := by
  subst hu
  exact (s.run_live _ hs).trans (congrArg Host.Outcome.next (if_pos ⟨hstate, haligned, htime⟩))

end

section
variable (htime : s.trainLate p = true)
include htime

theorem execLinkTrainTimeout_late (hstate : s.portState p = 1 ∨ s.portState p = 2 ∨ s.portState p = 3) :
    execLinkTrainTimeout p s = .next ((s.equalize p).countSat (LNK_PORT_RETRAINS_COUNT p)) :=
  (s.run_live _ hs).trans (congrArg Host.Outcome.next (if_pos ⟨hstate, Or.inl htime⟩))

theorem execLinkPortDown_late (hstate : s.portState p = 5) : execLinkPortDown p s =
    .next ((((s.setPortState p 0).setLink p { LinkPortSt.init with redbl := true }).raise (srcPORTDOWN p) 0
      (orgLnk p)).equalize p) :=
  (s.run_live _ hs).trans (congrArg Host.Outcome.next (if_pos ⟨hstate, htime⟩))

end

end

end Sys2Proof.Machine

/-! The statement on the link layer. -/

namespace Sys2Proof.Proofs

open Sys2Proof.Machine

/-- On a running part the three kinds of flit take the head of the port's stream. -/
theorem execFlits_live (p : LinkPort) {s : State} (hs : s.live = true) :
    exec (.linkDataFlit p) s = .next (s.flit p 0 fun ws s => s.dataFlit p ws) ∧
    exec (.linkIdleFlit p) s = .next (s.flit p 1 fun _ s => s) ∧
    exec (.linkCtrlFlit p) s = .next (s.flit p 2 fun ws s => s.ctrlFlit p ws) :=
  ⟨s.run_live (fun s => s.flit p 0 fun ws s => s.dataFlit p ws) hs, s.run_live (fun s => s.flit p 1 fun _ s => s) hs,
    s.run_live (fun s => s.flit p 2 fun ws s => s.ctrlFlit p ws) hs⟩

/-- Settles O28: each command takes the one path that its premises leave open; a flit goes by its CRC, then by its kind. -/
theorem linkCommandsComplete : Obligations.LinkCommandsComplete := by
  unfold Obligations.LinkCommandsComplete
  refine ⟨?_, ?_, ?_, ?_, ?_, ?_, ?_, ?_, ?_, ?_⟩
  · intro n info errs skew s hs hheld hreset hopen hcross hout
    refine ⟨execLinkCodeword_uncorrectable hs hheld hreset hopen hcross hout, fun herrs hmark hlane => ?_⟩
    obtain ⟨hskew, hcorr⟩ := s.corrected_skewed n errs skew.toNat
    exact ⟨_, execLinkCodeword_good hs hheld hreset hopen hcross hout herrs hmark hlane,
      (State.setHlane_get _ _ _ _).trans hskew, (State.setHlane_get _ _ _ _).trans hcorr,
      State.setHlane_hlaneOf_same _ _ _⟩
  · rintro p ws s hs hup hhead hne v rfl
    obtain ⟨hdata, hidle, hctrl⟩ := execFlits_live p hs
    rw [hdata, hidle, hctrl]
    refine ⟨?_, ?_⟩
    · rintro hbad t rfl
      simp only [State.flit_bad hup hhead _ _ hbad, and_self]
    · rintro hgood u x rfl hx
      refine ⟨fun hkind hseq l hl => ?_, fun hkind hseq => ⟨fun hold => ?_, fun hnew => ?_⟩, fun hkind => ?_,
        fun hkind y hy item arg cw hitem harg hcw => ⟨fun hnone => ?_, fun h1 h3 hsame hnew => ?_,
          fun h1 h3 hother => ?_⟩⟩
      all_goals rw [State.flit_good hup hhead _ hne hgood hkind]
      · rw [State.dataFlit_inSequence hx hseq hl]
      · rw [State.dataFlit_old hx hseq hold]
      · rw [State.dataFlit_ahead hx hseq hnew]
      · rw [State.ctrlFlit_noItem hx hy hitem hnone]
      · rw [State.ctrlFlit_again hx hy hitem harg hcw h1 h3 hsame hnew]
      · rw [State.ctrlFlit_first hx hy hitem harg hcw h1 h3 hother]
  · intro p s hs
    exact execLinkReplayTimer_due hs
  · intro n p f s hs hwait hto hup hroom u
    exact execLinkDblSend_credited hs hwait hto hup hroom
  · intro s e es p hs hp hup hroom u hu
    exact ⟨execLinkEvtSend_die0 hs hp hup hroom hu, execLinkEvtSend_die1 hs hp hup hroom hu⟩
  · intro p s m w hs
    exact ⟨execLinkMapApply_rx hs, execLinkMapApply_tx hs⟩
  · rintro n s hs hauto hout hup htries hheld hdue u rfl
    have hruns := execLinkLaneRetrain_due hs hauto hout hup htries hheld hdue
    refine ⟨hruns false, _, hruns true, State.laneReadded_state _ n _, ?_, ?_⟩
    · exact (State.laneReadded_tries _ n _).trans (s.laneTried_tries n htries)
    · exact congrArg LinkPortSt.sending (State.setLink_linkOf_same _ _ _)
  · intro p ok inv s ls hs htime hstate hls hne u
    exact execLinkEqualizeDone_adapted hs htime ok inv hstate hls hne
  · intro p s hs htime
    exact ⟨execLinkAlignDone_align hs htime, execLinkAlignDone_retrain hs htime,
      fun pcred hstate u => execLinkConfigDone_config hs htime pcred hstate,
      fun hstate haligned u => execLinkRetrainDone_aligned hs htime hstate haligned⟩
  · intro p s hs htime
    exact ⟨execLinkTrainTimeout_late hs htime, execLinkPortDown_late hs htime⟩

end Sys2Proof.Proofs

/-! Which registers the functions of the recorder and of calibration may change (R455 to R467, R489 to R493). -/

namespace Sys2Proof.Machine

/-! ### Registers outside a list -/

section
variable {L : List Nat} {s t : State}

theorem RegsBut.refl (L : List Nat) (s : State) : RegsBut L s s := fun _ _ => rfl

theorem RegsBut.trans {u : State} (h : RegsBut L s t) (h' : RegsBut L t u) : RegsBut L s u :=
  fun a ha => (h' a ha).trans (h a ha)

/-- A step that leaves the register table leaves every register. -/
theorem RegsBut.of_regs {u : State} (h : RegsBut L s t) (hu : u.regs = t.regs) : RegsBut L s u :=
  fun a ha => (State.rd_congr hu a).trans (h a ha)

theorem RegsBut.ite {b : Prop} [Decidable b] {u : State} (ht : RegsBut L s t) (hu : RegsBut L s u) :
    RegsBut L s (if b then t else u) := by
  split
  · exact ht
  · exact hu

/-- A command changes what its effect on a running part changes. -/
theorem RegsBut.of_run {f : State → State} (h : s.run f = .next t) (hf : RegsBut L s (f s)) : RegsBut L s t :=
  Host.Outcome.next.inj h ▸ RegsBut.ite hf (RegsBut.refl L s)

variable (h : RegsBut L s t)
include h

theorem RegsBut.putLog (l : Recorder) : RegsBut L s { t with log := l } := h.of_regs rfl

theorem RegsBut.putCal (c : Cal) : RegsBut L s { t with cal := c } := h.of_regs rfl

theorem RegsBut.wr {a : Nat} (v : Word) (ha : a ∈ L) : RegsBut L s (t.wr a v) :=
  h.trans fun b hb => State.rd_wr_other t a b v fun he => hb (he ▸ ha)

theorem RegsBut.set {x : Fld} (n : Nat) (hx : x.addr ∈ L) : RegsBut L s (t.set x n) := h.wr _ hx

theorem RegsBut.count {x : Fld} (hx : x.addr ∈ L) : RegsBut L s (t.count x) :=
  h.trans fun b hb => State.count_rd t x b fun he => hb (he ▸ hx)

theorem RegsBut.each {f : Nat → State → State} {l : List Nat}
    (hf : ∀ i ∈ l, ∀ u : State, RegsBut L s u → RegsBut L s (f i u)) : RegsBut L s (State.each t f l) := by
  induction l generalizing t with
  | nil => exact h
  | cons i is ih =>
    exact ih (hf i List.mem_cons_self t h) fun j hj => hf j (List.mem_cons_of_mem i hj)

/-! ### The recorder -/

theorem RegsBut.thaw (org : Nat) (hctl : LOG_CTL ∈ L) (hstat : LOG_STAT ∈ L) : RegsBut L s (t.thaw org) :=
  ((h.set 0 (x := LOG_CTL_FREEZE) hctl).set 0 (x := LOG_STAT_FROZEN) hstat).putLog _

theorem RegsBut.ringPush (e : Event) (hnext : LOG_NEXT ∈ L) : RegsBut L s (t.ringPush e) :=
  RegsBut.set (h.putLog _) (x := LOG_NEXT_EVSEQ) _ hnext

section
variable (hev : [LOG_FRZLOST, LOG_INLOST] ⊆ L)
include hev

/-- An event that arrives may be counted lost, and changes no other register. -/
theorem RegsBut.arrive (a : Arrival) : RegsBut L s (t.arrive a) := by
  refine h.trans fun b hb => State.arrive_rd t a b (fun he => hb (hev ?_)) (fun he => hb (hev ?_))
  · exact he ▸ List.mem_cons_self
  · exact he ▸ List.mem_cons_of_mem _ List.mem_cons_self

theorem RegsBut.logPriv (o : Origin) (a v r : Nat) : RegsBut L s (t.logPriv o a v r) := h.arrive hev _

theorem RegsBut.gap (e : Nat) : RegsBut L s (t.gap e) := by
  unfold State.gap
  split
  · exact RegsBut.ite (h.putLog _) (h.arrive hev _)
  · exact h.arrive hev _

theorem RegsBut.leaves (x : Option Event) : RegsBut L s (t.leaves x) := by
  cases x with
  | none => exact h
  | some e => exact RegsBut.ite h (h.gap hev _)

variable (hnext : LOG_NEXT ∈ L)
include hnext

theorem RegsBut.store (a : Arrival) : RegsBut L s (t.store a) := by
  have hlife : RegsBut L s (t.when t.log.closed fun u => u.lifeEntry .periodic) := RegsBut.ite (h.putLog _) h
  exact (hlife.ringPush _ hnext).leaves hev _

theorem RegsBut.drainIntake (l : List Arrival) : RegsBut L s (t.drainIntake l) := by
  induction l generalizing t with
  | nil => exact h
  | cons a as ih =>
    exact ih (RegsBut.store (h.putLog _) hev hnext a)

end

end

/-! ### Starting a calibration session (R489, R490) -/

/-- A write of CAL.CTL with GO that is taken: its fields stand, and it is logged. -/
def State.calWritten (s : State) (o : Origin) (kind c : Nat) (apply : Bool) : State :=
  (((s.set CAL_CTL_KIND kind).set CAL_CTL_CLUSTER c).set CAL_CTL_APPLY (if apply then 1 else 0)).logPriv o CAL_CTL
    (calCtl kind c apply) 0

/-- A session runs from now. -/
def State.calBegun (s : State) (kind c : Nat) (apply : Bool) : State :=
  State.set { s with cal := { s.cal with session := some ⟨kind, c, apply, decide (3 ≤ kind), s.now⟩ } } CAL_STAT_BUSY 1

theorem State.calGo_busy {s : State} (hbusy : s.is CAL_STAT_BUSY = true) (o : Origin) (kind c : Nat) (apply ready : Bool) :
    s.calGo o kind c apply ready = s.calBusy o CAL_CTL (calCtl kind c apply) := if_pos hbusy

section
variable {s : State} (hidle : s.is CAL_STAT_BUSY = false) (o : Origin) (kind c : Nat) (apply : Bool)
include hidle

theorem State.calGo_notReady :
    s.calGo o kind c apply false = (s.calWritten o kind c apply).set CAL_STAT_RESULT 4 :=
  if_neg (ne_true_of_eq_false hidle)

theorem State.calGo_opened (hkind : kind < 3) :
    s.calGo o kind c apply true = (s.calWritten o kind c apply).calBegun kind c apply :=
  (if_neg (ne_true_of_eq_false hidle)).trans (if_neg (show ¬ decide (3 ≤ kind) = true by simpa using hkind))

theorem State.calGo_closing (hkind : 3 ≤ kind) : s.calGo o kind c apply true =
    (((s.calWritten o kind c apply).calBegun kind c apply).set CAL_STAT_CLOSING 1).setOpen c false :=
  (if_neg (ne_true_of_eq_false hidle)).trans (if_pos (decide_eq_true hkind))

end

section
variable {L : List Nat} {s t : State} (h : RegsBut L s t) (hev : [LOG_FRZLOST, LOG_INLOST] ⊆ L)
  (hstat : CAL_STAT ∈ L)
include h hev hstat

theorem RegsBut.calBusy (o : Origin) (a v : Nat) : RegsBut L s (t.calBusy o a v) :=
  (h.set 8 (x := CAL_STAT_RESULT) hstat).logPriv hev _ _ _ _

theorem RegsBut.calGo (hctl : CAL_CTL ∈ L) {kind : Nat} (hopen : 3 ≤ kind → PRM_STATUS ∈ L) (o : Origin) (c : Nat)
    (a ready : Bool) : RegsBut L s (t.calGo o kind c a ready) := by
  cases hbusy : t.is CAL_STAT_BUSY with
  | true => exact State.calGo_busy hbusy o kind c a ready ▸ h.calBusy hev hstat o _ _
  | false =>
    have hwritten : RegsBut L s (t.calWritten o kind c a) := (((h.set _ (x := CAL_CTL_KIND) hctl).set _
      (x := CAL_CTL_CLUSTER) hctl).set _ (x := CAL_CTL_APPLY) hctl).logPriv hev _ _ _ _
    have hbegun : RegsBut L s ((t.calWritten o kind c a).calBegun kind c a) :=
      RegsBut.set (hwritten.putCal _) (x := CAL_STAT_BUSY) _ hstat
    cases ready with
    | false => exact State.calGo_notReady hbusy o kind c a ▸ hwritten.set 4 (x := CAL_STAT_RESULT) hstat
    | true =>
      by_cases hk : 3 ≤ kind
      · rw [State.calGo_closing hbusy o kind c a hk]
        exact (hbegun.set _ (x := CAL_STAT_CLOSING) hstat).set _ (x := PRM_STATUS_OPEN) (hopen hk)
      · rw [State.calGo_opened hbusy o kind c a (Nat.lt_of_not_le hk)]
        exact hbegun

end

/-! ### The commands -/

section
variable {s t : State}

theorem execEventStore_regs (h : execEventStore s = .next t) :
    RegsBut (LOG_NEXT :: [LOG_FRZLOST, LOG_INLOST]) s t := by
  refine RegsBut.of_run h (RegsBut.ite (RegsBut.refl _ s) ?_)
  split
  · exact RegsBut.refl _ s
  · refine RegsBut.store ((RegsBut.refl _ s).putLog _) (by decide) (by decide) _

theorem execOpsecIncrement_regs (h : execOpsecIncrement s = .next t) : RegsBut [LOG_OPSEC] s t :=
  RegsBut.of_run h (RegsBut.ite (RegsBut.count ((RegsBut.refl _ s).putLog _) (x := LOG_OPSEC_OPSEC) (by decide))
    (RegsBut.refl _ s))

theorem execLifeRecordPeriodic_regs (h : execLifeRecordPeriodic s = .next t) : RegsBut [] s t :=
  RegsBut.of_run h (RegsBut.ite ((RegsBut.refl _ s).putLog _) (RegsBut.refl _ s))

theorem execFirstAreaProgram_regs (h : execFirstAreaProgram s = .next t) : RegsBut [LOG_STAT] s t := by
  refine RegsBut.of_run h ?_
  split
  · exact RegsBut.refl _ s
  · refine RegsBut.ite ((RegsBut.refl _ s).putLog _) (RegsBut.ite (RegsBut.set ((RegsBut.refl _ s).putLog _)
      (x := LOG_STAT_FIRST_DONE) 1 (by decide)) ((RegsBut.refl _ s).putLog _))

theorem execCalendarSet_regs (o : Origin) (h : execCalendarSet o s = .next t) :
    RegsBut (LOG_STAT :: [LOG_FRZLOST, LOG_INLOST]) s t :=
  RegsBut.of_run h ((RegsBut.set ((RegsBut.refl _ s).putLog _) (x := LOG_STAT_CAL_VALID) 1 (by decide)).arrive
    (by decide) _)

theorem execCalendarClear_regs (o : Origin) (h : execCalendarClear o s = .next t) :
    RegsBut (LOG_STAT :: [LOG_FRZLOST, LOG_INLOST]) s t :=
  RegsBut.of_run h (((RegsBut.refl _ s).set 0 (x := LOG_STAT_CAL_VALID) (by decide)).logPriv (by decide) _ _ _ _)

theorem execLogFreeze_regs (o : Origin) (h : execLogFreeze o s = .next t) :
    RegsBut (LOG_CTL :: LOG_STAT :: LOG_NEXT :: [LOG_FRZLOST, LOG_INLOST]) s t := by
  refine RegsBut.of_run h (RegsBut.ite ((RegsBut.refl _ s).logPriv (by decide) _ _ _ _) ?_)
  have hdrained := fun l l' => ((RegsBut.refl (LOG_CTL :: LOG_STAT :: LOG_NEXT :: [LOG_FRZLOST, LOG_INLOST])
    s).drainIntake (by decide) (by decide) l).drainIntake (by decide) (by decide) l'
  have hstored := fun l l' => ((hdrained l l').set 1 (x := LOG_CTL_FREEZE) (by decide)).store (by decide) (by decide)
  refine RegsBut.set (((hstored _ _ _).set 0 (x := LOG_FRZLOST_COUNT) (by decide)).putLog _) (x := LOG_STAT_FROZEN) 1
    (by decide)

theorem execLogThaw_regs (o : Origin) (h : execLogThaw o s = .next t) :
    RegsBut (LOG_CTL :: LOG_STAT :: [LOG_FRZLOST, LOG_INLOST]) s t :=
  RegsBut.of_run h (RegsBut.ite ((RegsBut.refl _ s).thaw _ (by decide) (by decide))
    (((RegsBut.refl _ s).set 0 (x := LOG_CTL_FREEZE) (by decide)).logPriv (by decide) _ _ _ _))

theorem execLogFreezeTimeout_regs (h : execLogFreezeTimeout s = .next t) : RegsBut [LOG_CTL, LOG_STAT] s t :=
  RegsBut.of_run h (RegsBut.ite ((RegsBut.refl _ s).thaw _ (by decide) (by decide)) (RegsBut.refl _ s))

theorem execLogReadSelect_regs (o : Origin) (v : Word) (h : execLogReadSelect o v s = .next t) :
    RegsBut (LOG_RSEL :: LOG_RSTAT :: [LOG_FRZLOST, LOG_INLOST]) s t :=
  RegsBut.of_run h (((((RegsBut.refl _ s).wr v (a := LOG_RSEL) (by decide)).set 1 (x := LOG_RSTAT_BUSY)
    (by decide)).logPriv (by decide) o LOG_RSEL v.toNat 0).putLog _)

theorem execLogReadDone_regs (h : execLogReadDone s = .next t) :
    RegsBut (LOG_RSTAT :: (List.range 16).map LOG_REV) s t := by
  refine RegsBut.of_run h ?_
  split
  · exact RegsBut.refl _ s
  · have hwords : ∀ ws : List Nat, RegsBut (LOG_RSTAT :: (List.range 16).map LOG_REV) s
        (State.each s (fun w u => u.set (LOG_REV_WORD w) (ws.getD w 0)) (List.range 16)) := fun ws =>
      (RegsBut.refl _ s).each fun w hw u hu => hu.set (x := LOG_REV_WORD w) _
        (List.mem_cons_of_mem _ (List.mem_map_of_mem hw))
    exact (((hwords _).set _ (x := LOG_RSTAT_WHERE) List.mem_cons_self).set _ (x := LOG_RSTAT_BUSY)
      List.mem_cons_self).putLog _

section
variable (o : Origin) (c : Cluster) (a : Bool)

theorem execCalTimebase_regs (h : execCalTimebase o c a s = .next t) :
    RegsBut (CAL_CTL :: CAL_STAT :: [LOG_FRZLOST, LOG_INLOST]) s t :=
  RegsBut.of_run h ((RegsBut.refl _ s).calGo (by decide) (by decide) (by decide) (by decide) o c a _)

theorem execCalRefdac_regs (h : execCalRefdac o c a s = .next t) :
    RegsBut (CAL_CTL :: CAL_STAT :: [LOG_FRZLOST, LOG_INLOST]) s t :=
  RegsBut.of_run h ((RegsBut.refl _ s).calGo (by decide) (by decide) (by decide) (by decide) o c a _)

theorem execCalAnalog_regs (h : execCalAnalog o c a s = .next t) :
    RegsBut (PRM_STATUS :: CAL_CTL :: CAL_STAT :: [LOG_FRZLOST, LOG_INLOST]) s t :=
  RegsBut.of_run h ((RegsBut.refl _ s).calGo (by decide) (by decide) (by decide) (by decide) o c a _)

theorem execCalMedia_regs (h : execCalMedia o c a s = .next t) :
    RegsBut (PRM_STATUS :: CAL_CTL :: CAL_STAT :: [LOG_FRZLOST, LOG_INLOST]) s t :=
  RegsBut.of_run h ((RegsBut.refl _ s).calGo (by decide) (by decide) (by decide) (by decide) o c a _)

end

theorem execCalClusterClosed_regs (h : execCalClusterClosed s = .next t) : RegsBut [CAL_STAT] s t := by
  refine RegsBut.of_run h ?_
  split
  · refine RegsBut.ite (RegsBut.set ((RegsBut.refl _ s).putCal _) (x := CAL_STAT_CLOSING) 0 (by decide))
      (RegsBut.refl _ s)
  · exact RegsBut.refl _ s

theorem execCalStore_regs (o : Origin) (h : execCalStore o s = .next t) :
    RegsBut (CAL_STAT :: [LOG_FRZLOST, LOG_INLOST]) s t :=
  RegsBut.of_run h (RegsBut.ite ((RegsBut.refl _ s).calBusy (by decide) (by decide) o _ _)
    ((((RegsBut.refl _ s).logPriv (by decide) o CAL_CMD 1 0).set 1 (x := CAL_STAT_BUSY) (by decide)).putCal _))

theorem execCalStoreDone_regs (same : Bool) (left : Option CalCopy) (h : execCalStoreDone same left s = .next t) :
    RegsBut [CAL_STAT] s t := by
  refine RegsBut.of_run h ?_
  split
  · exact RegsBut.refl _ s
  · refine (RegsBut.set ((RegsBut.refl _ s).putCal _) (x := CAL_STAT_BUSY) 0 (by decide)).set _ (x := CAL_STAT_RESULT)
      (by decide)

end

end Sys2Proof.Machine

/-! The statement on the registers that the recorder and calibration may change. -/

namespace Sys2Proof.Proofs

open Sys2Proof.Machine

/-- Settles O58: each command is followed through the functions that it runs. -/
theorem recorderRegisterFrames : Obligations.RecorderRegisterFrames := by
  unfold Obligations.RecorderRegisterFrames
  rintro o c a same left v s t ev rfl
  exact ⟨execEventStore_regs, execOpsecIncrement_regs, execLifeRecordPeriodic_regs, execFirstAreaProgram_regs,
    execCalendarSet_regs o, execCalendarClear_regs o, execLogFreeze_regs o, execLogThaw_regs o,
    execLogFreezeTimeout_regs, execLogReadSelect_regs o v, execLogReadDone_regs, execCalTimebase_regs o c a,
    execCalRefdac_regs o c a, execCalAnalog_regs o c a, execCalMedia_regs o c a, execCalClusterClosed_regs,
    execCalStore_regs o, execCalStoreDone_regs same left⟩

end Sys2Proof.Proofs

/-! The recorder: storing, calendar time, freezing and reading (R459 to R467). -/

namespace Sys2Proof.Machine

/-! ### What an arrival and a store leave of the recorder -/

/-- An event that arrives changes nothing of the recorder but its intake queue. -/
theorem State.arrive_log (s : State) (a : Arrival) :
    (s.arrive a).log = { s.log with intake := (s.arrive a).log.intake } := by
  unfold State.arrive
  split
  · rw [State.count_log]
  · split
    · rw [State.count_log]
    · rfl

theorem State.arrive_ring (s : State) (a : Arrival) : (s.arrive a).log.ring = s.log.ring := by
  rw [State.arrive_log]

theorem State.gap_ring (s : State) (e : Nat) : (s.gap e).log.ring = s.log.ring := by
  unfold State.gap
  split
  · split
    · rfl
    · exact State.arrive_ring s _
  · exact State.arrive_ring s _

theorem State.leaves_ring (s : State) (o : Option Event) : (s.leaves o).log.ring = s.log.ring := by
  cases o with
  | none => rfl
  | some e =>
    rw [State.leaves]
    split
    · rfl
    · exact State.gap_ring s _

theorem State.ringPush_last (s : State) (e : Event) : (s.ringPush e).log.ring.getLast? = some e :=
  List.getLast?_concat

/-- The event stored is the newest in the ring. -/
theorem State.store_last (s : State) (a : Arrival) : ∃ e, (s.store a).log.ring.getLast? = some e ∧ e.code = a.code :=
  ⟨_, (congrArg List.getLast? (State.leaves_ring _ _)).trans (State.ringPush_last _ _), rfl⟩

/-! ### Counting seconds, the life record and the first area -/

theorem State.programFirst_new {t : State} {e : Event} (hnew : t.log.firstArea.any (fun x => x.evseq == e.evseq) = false) :
    (t.programFirst e).log = { t.log with firstArea := t.log.firstArea ++ [e] } := by
  rw [State.programFirst, hnew, if_neg Bool.false_ne_true]
  split
  · rfl
  · rfl

/-- A freeze begins now. -/
def State.frozenNow (s : State) : State :=
  State.set { s with log := { s.log with frozenAt := s.now } } LOG_STAT_FROZEN 1

theorem State.frozenNow_frozen (s : State) : s.frozenNow.get LOG_STAT_FROZEN = 1 :=
  State.get_set_fits _ LOG_STAT_FROZEN 1 (by decide) (by decide)

theorem State.frozenNow_get (s : State) {x : Fld} (hx : x.addr ≠ LOG_STAT) : s.frozenNow.get x = s.get x :=
  State.get_set_reg { s with log := { s.log with frozenAt := s.now } } LOG_STAT_FROZEN x 1 hx

theorem State.frozenNow_frozenAt (s : State) : s.frozenNow.log.frozenAt = s.frozenNow.clk.time := rfl

theorem State.frozenNow_ring (s : State) : s.frozenNow.log.ring = s.log.ring := rfl

/-- A freeze that begins: FROZEN is 1, nothing is lost yet, and the event stored last is the newest. -/
theorem State.store_frozenNow (s : State) (a : Arrival) {t : State}
    (ht : t = ((s.store a).set LOG_FRZLOST_COUNT 0).frozenNow) : t.get LOG_STAT_FROZEN = 1 ∧
      t.get LOG_FRZLOST_COUNT = 0 ∧ t.log.frozenAt = t.clk.time ∧ ∃ e, t.log.ring.getLast? = some e ∧ e.code = a.code := by
  subst ht
  rw [State.frozenNow_frozen, State.frozenNow_get _ (by decide), State.frozenNow_frozenAt, State.frozenNow_ring,
    State.set_log, State.get_set_fits _ LOG_FRZLOST_COUNT 0 (by decide) (by decide)]
  exact ⟨rfl, rfl, rfl, s.store_last a⟩

section
variable {s : State} (hs : s.live = true)
include hs

theorem execEventStore_frozen (hfrozen : s.is LOG_STAT_FROZEN = true) : execEventStore s = .next s :=
  (s.run_live _ hs).trans (congrArg Host.Outcome.next (if_pos hfrozen))

theorem execEventStore_oldest (hrun : s.is LOG_STAT_FROZEN = false) {a : Arrival} {as : List Arrival}
    (hwait : s.log.intake = a :: as) :
    execEventStore s = .next ({ s with log := { s.log with intake := as } }.store a) := by
  rw [execEventStore, s.run_live _ hs, hrun, if_neg Bool.false_ne_true, hwait]

theorem execOpsecIncrement_due (hdue : s.log.opsecAt + 100000000 ≤ s.now) : execOpsecIncrement s =
    .next (State.count { s with log := { s.log with opsecAt := s.log.opsecAt + 100000000 } } LOG_OPSEC_OPSEC) :=
  (s.run_live _ hs).trans (congrArg Host.Outcome.next (if_pos hdue))

theorem execLifeRecordPeriodic_due
    (hdue : s.log.lifeOpsec + 4096 ≤ s.get LOG_OPSEC_OPSEC ∨ 2 ^ 20 ≤ s.log.sinceLife) :
    execLifeRecordPeriodic s = .next (s.lifeEntry .periodic) :=
  (s.run_live _ hs).trans (congrArg Host.Outcome.next (if_pos hdue))

theorem execFirstAreaProgram_new {e : Event} {es : List Event} (hwait : s.log.firstWait = e :: es)
    (hnew : s.log.firstArea.any (fun x => x.evseq == e.evseq) = false) : Answers (execFirstAreaProgram s) fun t =>
      t.log = { s.log with firstWait := es, firstArea := s.log.firstArea ++ [e] } := by
  rw [execFirstAreaProgram]
  refine Answers.run hs ?_
  rw [hwait]
  exact State.programFirst_new hnew

/-! ### Calendar time (R461) -/

theorem execCalendarSet_live (o : Origin) : Answers (execCalendarSet o s) fun t =>
    t.log.calSet = s.get LOG_CAL_LO_CAL_LO + s.get LOG_CAL_HI_CAL_HI * 2 ^ 32 ∧ t.log.calTick = s.clk.time ∧
      t.get LOG_STAT_CAL_VALID = 1 := by
  rw [execCalendarSet]
  refine Answers.run hs ⟨?_, ?_, ?_⟩
  · rw [State.event, State.arrive_log]
    rfl
  · rw [State.event, State.arrive_log]
    rfl
  · rw [State.event_get _ _ _ _ _ (by decide) (by decide)]
    exact State.get_set_fits _ LOG_STAT_CAL_VALID 1 (by decide) (by decide)

theorem execCalendarClear_live (o : Origin) : Answers (execCalendarClear o s) fun t => t.get LOG_STAT_CAL_VALID = 0 := by
  rw [execCalendarClear]
  refine Answers.run hs ?_
  rw [State.logPriv_get _ _ _ _ _ _ (by decide) (by decide)]
  exact State.get_set_fits _ LOG_STAT_CAL_VALID 0 (by decide) (by decide)

/-! ### Freezing (R466) -/

omit hs in
theorem State.thaw_get (origin : Nat) (x : Fld) :
    (s.thaw origin).get x = ((s.set LOG_CTL_FREEZE 0).set LOG_STAT_FROZEN 0).get x := State.get_congr rfl x

omit hs in
theorem State.thaw_intake (origin : Nat) : (s.thaw origin).log.intake = ⟨s.clk.time, origin, 5,
    [((s.set LOG_CTL_FREEZE 0).set LOG_STAT_FROZEN 0).get LOG_FRZLOST_COUNT]⟩ :: s.log.intake := rfl

omit hs in
/-- The end of a freeze: FROZEN and FREEZE are clear, and LOG_THAW with the count lost comes first of all. -/
theorem State.thaw_thawed (origin : Nat) : (s.thaw origin).get LOG_STAT_FROZEN = 0 ∧
    (s.thaw origin).get LOG_CTL_FREEZE = 0 ∧
    (s.thaw origin).log.intake = ⟨s.clk.time, origin, 5, [s.get LOG_FRZLOST_COUNT]⟩ :: s.log.intake := by
  rw [State.thaw_get, State.thaw_get, State.thaw_intake, State.get_set_fits _ LOG_STAT_FROZEN 0 (by decide) (by decide),
    State.get_set_reg _ LOG_STAT_FROZEN LOG_CTL_FREEZE _ (by decide),
    State.get_set_fits _ LOG_CTL_FREEZE 0 (by decide) (by decide),
    State.get_set_reg _ LOG_STAT_FROZEN LOG_FRZLOST_COUNT _ (by decide),
    State.get_set_reg _ LOG_CTL_FREEZE LOG_FRZLOST_COUNT _ (by decide)]
  exact ⟨rfl, rfl, rfl⟩

theorem execLogFreeze_frozen (o : Origin) (hfrozen : s.is LOG_STAT_FROZEN = true) :
    execLogFreeze o s = .next (s.logPriv o LOG_CTL 1 0) :=
  (s.run_live _ hs).trans (congrArg Host.Outcome.next (if_pos hfrozen))

theorem execLogFreeze_running (o : Origin) (hrun : s.is LOG_STAT_FROZEN = false) : ∃ u : State, ∃ a : Arrival,
    a.code = 4 ∧ execLogFreeze o s = .next ((u.store a).set LOG_FRZLOST_COUNT 0).frozenNow :=
  ⟨_, ⟨_, _, 4, _⟩, rfl, (s.run_live _ hs).trans (congrArg Host.Outcome.next (if_neg (ne_true_of_eq_false hrun)))⟩

theorem execLogThaw_frozen (o : Origin) (hfrozen : s.is LOG_STAT_FROZEN = true) :
    execLogThaw o s = .next (s.thaw (orgOf o)) :=
  (s.run_live _ hs).trans (congrArg Host.Outcome.next (if_pos hfrozen))

theorem execLogFreezeTimeout_due (hfrozen : s.is LOG_STAT_FROZEN = true)
    (hdue : s.log.frozenAt + 1000000000 ≤ s.clk.time) : execLogFreezeTimeout s = .next (s.thaw (orgInt 4 0 0)) := by
  have hgo : (s.is LOG_STAT_FROZEN && decide (s.log.frozenAt + 1000000000 ≤ s.now)) = true := by
    rw [hfrozen, Bool.true_and]
    exact decide_eq_true hdue
  exact (s.run_live _ hs).trans (congrArg Host.Outcome.next (if_pos hgo))

/-! ### Reading (R467) -/

theorem execLogReadSelect_live (o : Origin) (v : Word) : Answers (execLogReadSelect o v s) fun t =>
    t.get LOG_RSTAT_BUSY = 1 ∧ t.rd LOG_RSEL = v ∧ t.log.readSel = some (v.toNat, s.get LOG_RSRC_AREA) := by
  rw [execLogReadSelect]
  refine Answers.run hs ⟨?_, ?_, ?_⟩
  · refine (State.get_congr (s := ((s.wr LOG_RSEL v).set LOG_RSTAT_BUSY 1).logPriv o LOG_RSEL v.toNat 0) rfl _).trans ?_
    rw [State.logPriv_get _ _ _ _ _ _ (by decide) (by decide)]
    exact State.get_set_fits _ LOG_RSTAT_BUSY 1 (by decide) (by decide)
  · refine (State.rd_congr (s := ((s.wr LOG_RSEL v).set LOG_RSTAT_BUSY 1).logPriv o LOG_RSEL v.toNat 0) rfl _).trans ?_
    rw [State.logPriv_rd _ _ _ _ _ _ (by decide) (by decide), State.rd_set_other _ _ _ _ (by decide),
      State.rd_wr_same]
  · have harea : (((s.wr LOG_RSEL v).set LOG_RSTAT_BUSY 1).logPriv o LOG_RSEL v.toNat 0).get LOG_RSRC_AREA =
        s.get LOG_RSRC_AREA := by
      rw [State.logPriv_get _ _ _ _ _ _ (by decide) (by decide), State.get_set_reg _ _ _ _ (by decide),
        State.get_wr_other _ _ _ _ (by decide)]
    exact congrArg (fun a => some (v.toNat, a)) harea

end

/-- The words of an event are written to the LOG.REV registers of a list. -/
def State.showWords (s : State) (words : List Nat) (l : List Nat) : State :=
  State.each s (fun w s => s.set (LOG_REV_WORD w) (words.getD w 0)) l

/-- No lookup is asked for. -/
def State.noRead (s : State) : State := { s with log := { s.log with readSel := none } }

theorem State.noRead_get (s : State) (x : Fld) : s.noRead.get x = s.get x := State.get_congr rfl x

/-- A lookup has ended: the words and WHERE show what it found. -/
def State.readEnded (s : State) (words : List Nat) (found : Nat) : State :=
  (((s.showWords words (List.range 16)).set LOG_RSTAT_WHERE found).set LOG_RSTAT_BUSY 0).noRead

theorem State.showWords_get (s : State) (words l : List Nat) (i : Nat) : (s.showWords words l).get (LOG_REV_WORD i) =
    if i ∈ l then words.getD i 0 % 2 ^ 32 else s.get (LOG_REV_WORD i) := by
  induction l generalizing s with
  | nil => rfl
  | cons j js ih =>
    refine (ih _).trans ?_
    by_cases hi : i ∈ js
    · rw [if_pos hi, if_pos (List.mem_cons_of_mem j hi)]
    · rw [if_neg hi]
      by_cases hj : i = j
      · subst hj
        rw [if_pos List.mem_cons_self]
        exact State.get_set_same _ (LOG_REV_WORD i) _ (by decide : 0 + 32 ≤ 32)
      · rw [if_neg (by simp only [List.mem_cons, hj, hi, or_self, not_false_iff]), State.get_set_reg]
        simp only [LOG_REV_WORD, LOG_REV]
        omega

theorem State.readEnded_fields (s : State) {words : List Nat} {found : Nat} (hfound : found < 4)
    (hwords : ∀ w : Fin 16, words.getD w 0 < 2 ^ 32) : (s.readEnded words found).get LOG_RSTAT_BUSY = 0 ∧
    (s.readEnded words found).get LOG_RSTAT_WHERE = found ∧ (s.readEnded words found).log.readSel = none ∧
    ∀ w : Fin 16, (s.readEnded words found).get (LOG_REV_WORD w) = words.getD w 0 := by
  have hregs : ∀ x : Fld, (s.readEnded words found).get x = (((s.showWords words (List.range 16)).set LOG_RSTAT_WHERE
      found).set LOG_RSTAT_BUSY 0).get x := State.noRead_get _
  refine ⟨(hregs _).trans (State.get_set_fits _ LOG_RSTAT_BUSY 0 (by decide) (by decide)), (hregs _).trans ?_, rfl,
    fun w => (hregs _).trans ?_⟩
  · rw [State.get_set_other _ LOG_RSTAT_BUSY LOG_RSTAT_WHERE _ (by decide) (by decide)]
    exact State.get_set_fits _ LOG_RSTAT_WHERE _ (by decide) hfound
  · have hother : (LOG_REV_WORD w).addr ≠ LOG_RSTAT := by
      simp only [LOG_REV_WORD, LOG_REV, LOG_RSTAT]
      omega
    rw [State.get_set_reg _ LOG_RSTAT_BUSY _ _ hother, State.get_set_reg _ LOG_RSTAT_WHERE _ _ hother,
      State.showWords_get, if_pos (List.mem_range.mpr w.isLt), Nat.mod_eq_of_lt (hwords w)]

section
variable {s : State} (hs : s.live = true) {e : Nat}
include hs

theorem execLogReadDone_inRing {x : Event} (hsel : s.log.readSel = some (e, 0))
    (hx : s.log.ring.find? (fun x => x.evseq == e) = some x) : execLogReadDone s = .next (s.readEnded x.words 1) := by
  rw [execLogReadDone, s.run_live _ hs, hsel]
  simp only [if_true, hx]
  rfl

theorem execLogReadDone_absent {area : Nat} (hsel : s.log.readSel = some (e, area))
    (hring : ∀ x ∈ s.log.ring, x.evseq ≠ e) (hfirst : ∀ x ∈ s.log.firstArea, x.evseq ≠ e) :
    execLogReadDone s = .next (s.readEnded [] 0) := by
  have hnone : ∀ l : List Event, (∀ x ∈ l, x.evseq ≠ e) → l.find? (fun x => x.evseq == e) = none := fun l h =>
    List.find?_eq_none.mpr fun x hx he => h x hx (beq_iff_eq.mp he)
  rw [execLogReadDone, s.run_live _ hs, hsel]
  simp only [hnone _ hring, hnone _ hfirst, ite_self, Option.map_none]
  rfl

end

end Sys2Proof.Machine

/-! The statement on the recorder's commands. -/

namespace Sys2Proof.Proofs

open Sys2Proof.Machine

/-- Settles O32: each command takes the one path that its premises leave open. -/
theorem recorderCommandsComplete : Obligations.RecorderCommandsComplete := by
  unfold Obligations.RecorderCommandsComplete
  refine ⟨?_, ?_, ?_, ?_, ?_, ?_, ?_, ?_, ?_⟩
  · intro s a as hs
    exact ⟨execEventStore_frozen hs, fun hrun hwait => execEventStore_oldest hs hrun hwait⟩
  · intro s hs hdue hroom
    refine ⟨_, execOpsecIncrement_due hs hdue, ?_, ?_⟩
    · exact State.count_get { s with log := { s.log with opsecAt := s.log.opsecAt + 100000000 } } LOG_OPSEC_OPSEC
        (by decide) hroom
    · rw [State.count_log]
  · intro s hs hdue
    exact ⟨_, execLifeRecordPeriodic_due hs hdue, List.getLast?_concat, rfl⟩
  · intro s e es hs hwait hnew
    refine (execFirstAreaProgram_new hs hwait hnew).imp fun t ht => ?_
    rw [ht]
    exact ⟨rfl, rfl⟩
  · intro o s hs
    exact ⟨execCalendarSet_live hs o, execCalendarClear_live hs o⟩
  · intro o s hs
    refine ⟨execLogFreeze_frozen hs o, fun hrun => ?_,
      fun hfrozen => ⟨_, execLogThaw_frozen hs o hfrozen, State.thaw_thawed (orgOf o)⟩,
      fun hfrozen hdue => ⟨_, execLogFreezeTimeout_due hs hfrozen hdue, State.thaw_thawed (orgInt 4 0 0)⟩⟩
    obtain ⟨u, a, hcode, hfrozen⟩ := execLogFreeze_running hs o hrun
    exact ⟨_, hfrozen, hcode ▸ u.store_frozenNow a rfl⟩
  · intro o v s hs
    exact execLogReadSelect_live hs o v
  · intro e area s hs hsel hring hfirst
    exact ⟨_, execLogReadDone_absent hs hsel hring hfirst,
      s.readEnded_fields (words := []) (found := 0) (by decide) (fun _ => Nat.two_pow_pos 32)⟩
  · intro e x s hs hsel hx hwords
    exact ⟨_, execLogReadDone_inRing hs hsel hx, s.readEnded_fields (by decide) hwords⟩

end Sys2Proof.Proofs

/-! Calibration sessions and STORE (R489 to R493). -/

namespace Sys2Proof.Machine

/-! ### A cluster's OPEN bit -/

theorem bitAt_mod (v : Nat) {w i : Nat} (h : i < w) : bitAt (v % 2 ^ w) i = bitAt v i := by
  rw [bitAt_eq, bitAt_eq, Nat.testBit_mod_two_pow, decide_eq_true h, Bool.true_and]

theorem State.setOpen_isOpen (s : State) (c : Cluster) (b : Bool) : (s.setOpen c b).isOpen c = b := by
  rw [State.isOpen, State.setOpen, State.get_set_same _ PRM_STATUS_OPEN _ (by decide)]
  exact (bitAt_mod _ c.isLt).trans (bitAt_putBit_same _ c b)

/-! ### Starting a session -/

theorem State.calWritten_cal (s : State) (o : Origin) (kind c : Nat) (a : Bool) :
    (s.calWritten o kind c a).cal = s.cal := by
  simp only [State.calWritten, State.logPriv_cal, State.set_cal]

theorem State.calWritten_now (s : State) (o : Origin) (kind c : Nat) (a : Bool) :
    (s.calWritten o kind c a).now = s.clk.time := by
  simp only [State.now, State.calWritten, State.logPriv_clk, State.set_clk]

theorem State.calBegun_session (s : State) (kind c : Nat) (a : Bool) :
    (s.calBegun kind c a).cal.session = some ⟨kind, c, a, decide (3 ≤ kind), s.now⟩ := rfl

theorem State.calBegun_busy (s : State) (kind c : Nat) (a : Bool) : (s.calBegun kind c a).get CAL_STAT_BUSY = 1 :=
  State.get_set_fits _ CAL_STAT_BUSY 1 (by decide) (by decide)

section
variable {s : State} (hidle : s.is CAL_STAT_BUSY = false) (o : Origin) (kind : Nat) (c : Cluster) (a : Bool)
include hidle

/-- A session of KIND 1 or 2 begins. -/
theorem State.calGo_begins (hkind : kind < 3) :
    (s.calGo o kind c a true).cal.session = some ⟨kind, c, a, false, s.clk.time⟩ ∧
      (s.calGo o kind c a true).get CAL_STAT_BUSY = 1 := by
  rw [State.calGo_opened hidle o kind c a hkind, State.calBegun_session, State.calWritten_now,
    decide_eq_false (Nat.not_le.mpr hkind)]
  exact ⟨rfl, State.calBegun_busy _ _ _ _⟩

/-- A session of KIND 3 or 4 begins with its cluster closing. -/
theorem State.calGo_closes (hkind : 3 ≤ kind) :
    (s.calGo o kind c a true).cal.session = some ⟨kind, c, a, true, s.clk.time⟩ ∧
      (s.calGo o kind c a true).get CAL_STAT_BUSY = 1 ∧ (s.calGo o kind c a true).get CAL_STAT_CLOSING = 1 ∧
      (s.calGo o kind c a true).isOpen c = false := by
  rw [State.calGo_closing hidle o kind c a hkind]
  refine ⟨?_, ?_, ?_, State.setOpen_isOpen _ c false⟩
  · rw [State.setOpen, State.set_cal, State.set_cal, State.calBegun_session, State.calWritten_now, decide_eq_true hkind]
  · rw [State.setOpen, State.get_set_reg _ PRM_STATUS_OPEN CAL_STAT_BUSY _ (by decide),
      State.get_set_other _ CAL_STAT_CLOSING CAL_STAT_BUSY _ (by decide) (by decide), State.calBegun_busy]
  · rw [State.setOpen, State.get_set_reg _ PRM_STATUS_OPEN CAL_STAT_CLOSING _ (by decide)]
    exact State.get_set_fits _ CAL_STAT_CLOSING 1 (by decide) (by decide)

/-- A session whose prerequisite is not met does not begin. -/
theorem State.calGo_refused : (s.calGo o kind c a false).cal = s.cal ∧
    (s.calGo o kind c a false).get CAL_STAT_RESULT = 4 := by
  rw [State.calGo_notReady hidle o kind c a, State.set_cal, State.calWritten_cal]
  exact ⟨rfl, State.get_set_fits _ CAL_STAT_RESULT 4 (by decide) (by decide)⟩

end

section
variable {s : State} (hs : s.live = true)
include hs

section
variable (o : Origin) (c : Cluster) (a : Bool) {ready : Bool}

theorem execCalTimebase_live (h : (s.is IMG_STAT_DONE && s.is TOP_CLKSTAT_CALREF_PRESENT) = ready) :
    execCalTimebase o c a s = .next (s.calGo o 1 c a ready) :=
  (s.run_live _ hs).trans (congrArg (fun b => Host.Outcome.next (s.calGo o 1 c a b)) h)

theorem execCalRefdac_live (h : s.is IMG_STAT_DONE = ready) :
    execCalRefdac o c a s = .next (s.calGo o 2 c a ready) :=
  (s.run_live _ hs).trans (congrArg (fun b => Host.Outcome.next (s.calGo o 2 c a b)) h)

theorem execCalAnalog_live (h : s.is CAL_STAT_REFDAC_DONE = ready) :
    execCalAnalog o c a s = .next (s.calGo o 3 c a ready) :=
  (s.run_live _ hs).trans (congrArg (fun b => Host.Outcome.next (s.calGo o 3 c a b)) h)

theorem execCalMedia_live (h : (s.isOpen c && s.writesOk c) = ready) :
    execCalMedia o c a s = .next (s.calGo o 4 c a ready) :=
  (s.run_live _ hs).trans (congrArg (fun b => Host.Outcome.next (s.calGo o 4 c a b)) h)

end

/-! ### STORE (R493) -/

theorem execCalStore_busy (o : Origin) (hbusy : s.is CAL_STAT_BUSY = true) :
    execCalStore o s = .next (s.calBusy o CAL_CMD 1) :=
  (s.run_live _ hs).trans (congrArg Host.Outcome.next (if_pos hbusy))

theorem execCalStore_idle (o : Origin) (hidle : s.is CAL_STAT_BUSY = false) : Answers (execCalStore o s) fun t =>
    t.get CAL_STAT_BUSY = 1 ∧ t.cal = { s.cal with storing := some (storeCopy s.cal.copies) } := by
  rw [execCalStore]
  refine Answers.run hs ?_
  rw [hidle, if_neg Bool.false_ne_true]
  refine ⟨?_, ?_⟩
  · exact (State.get_congr (s := (s.logPriv o CAL_CMD 1 0).set CAL_STAT_BUSY 1) rfl _).trans
      (State.get_set_fits _ CAL_STAT_BUSY 1 (by decide) (by decide))
  · have hcal : ((s.logPriv o CAL_CMD 1 0).set CAL_STAT_BUSY 1).cal = s.cal := by
      rw [State.set_cal, State.logPriv_cal]
    exact congrArg (fun c : Cal => { c with storing := some (storeCopy s.cal.copies) }) hcal

theorem execCalStoreDone_storing (same : Bool) (l : Option CalCopy) {i : Nat} (hi : s.cal.storing = some i) :
    Answers (execCalStoreDone same l s) fun t => t.get CAL_STAT_BUSY = 0 ∧
      t.get CAL_STAT_RESULT = (if same then 0 else 7) ∧ t.cal = { s.cal with
        storing := none
        copies := s.cal.copies.set i (if same then some s.storedCopy else l) } := by
  rw [execCalStoreDone]
  refine Answers.run hs ?_
  rw [hi]
  refine ⟨?_, ?_, rfl⟩
  · rw [State.get_set_other _ CAL_STAT_RESULT CAL_STAT_BUSY _ (by decide) (by decide)]
    exact State.get_set_fits _ CAL_STAT_BUSY 0 (by decide) (by decide)
  · refine State.get_set_fits _ CAL_STAT_RESULT _ (by decide) ?_
    cases same <;> decide

/-! ### The end of a session (R490 to R492) -/

theorem execCalClusterClosed_empty {x : Session} (hx : s.cal.session = some x) (hclosing : x.closing = true)
    (hcells : s.cellsOn x.cluster = false) : Answers (execCalClusterClosed s) fun t =>
      t.cal.session = some { x with closing := false } ∧ t.get CAL_STAT_CLOSING = 0 := by
  rw [execCalClusterClosed]
  refine Answers.run hs ?_
  simp only [hx, hclosing, hcells, Bool.not_false, Bool.and_self, if_true]
  exact ⟨rfl, State.get_set_fits _ CAL_STAT_CLOSING 0 (by decide) (by decide)⟩

end

/-- A session that has ended: its RESULT stands, and none runs. -/
theorem State.calEnd_fields (s : State) {r : Nat} (hr : r < 16) : (s.calEnd r).get CAL_STAT_RESULT = r ∧
    (s.calEnd r).get CAL_STAT_BUSY = 0 ∧ (s.calEnd r).cal = { s.cal with session := none } := by
  refine ⟨State.get_set_fits _ CAL_STAT_RESULT r (by decide) hr, ?_, rfl⟩
  rw [State.calEnd, State.get_set_other _ CAL_STAT_RESULT CAL_STAT_BUSY _ (by decide) (by decide),
    State.get_set_other _ CAL_STAT_CLOSING CAL_STAT_BUSY _ (by decide) (by decide)]
  exact State.get_set_fits _ CAL_STAT_BUSY 0 (by decide) (by decide)

/-- A session of KIND 1 or 2 has closed no cluster. -/
theorem State.calReopen_of_lt (s : State) {x : Session} (hx : x.kind < 3) : s.calReopen x = s := by
  rw [State.calReopen, decide_eq_false (Nat.not_le.mpr hx)]
  simp only [Bool.false_and, Bool.false_eq_true, if_false]

theorem State.calFails_of_lt (s : State) {x : Session} (hx : x.kind < 3) (r : Nat) : s.calFails x r = s.calEnd r :=
  State.calReopen_of_lt _ hx

/-- A session that staged nothing and closed no cluster ends well: it counts. -/
theorem State.calOk_nil (s : State) {x : Session} (hx : x.kind < 3) :
    s.calOk x [] = (s.calEnd 0).count CAL_SESSIONS_COUNT := by
  rw [State.calOk, State.calReopen_of_lt _ hx]
  exact ite_self _

section
variable {s : State} (hs : s.live = true) {x : Session} (hx : s.cal.session = some x) (hopen : x.closing = false)
include hs hx hopen

section
variable (hkind : x.kind = 2)
include hkind

theorem execCalSessionEnd_refdacNone : execCalSessionEnd (.refdac none) s = .next (s.calEnd 1) := by
  rw [execCalSessionEnd, s.run_live _ hs, hx]
  simp only [hopen, Bool.false_eq_true, if_false, hkind]
  rw [State.calFails_of_lt s (by omega)]

theorem execCalSessionEnd_refdacFar (v : BitVec 32) (hv : 200 < v.toInt.natAbs) :
    execCalSessionEnd (.refdac (some v)) s = .next (s.calEnd 2) := by
  rw [execCalSessionEnd, s.run_live _ hs, hx]
  simp only [hopen, Bool.false_eq_true, if_false, hkind, hv, if_true]
  rw [State.calFails_of_lt s (by omega)]

theorem execCalSessionEnd_refdacOk (v : BitVec 32) (hv : v.toInt.natAbs ≤ 200) :
    execCalSessionEnd (.refdac (some v)) s =
      .next (((s.calEnd 0).count CAL_SESSIONS_COUNT).set CAL_STAT_REFDAC_DONE 1) := by
  rw [execCalSessionEnd, s.run_live _ hs, hx]
  simp only [hopen, Bool.false_eq_true, if_false, hkind, Nat.not_lt.mpr hv]
  rw [State.calOk_nil s (by omega)]

end

theorem execCalSessionEnd_timebase (n : BitVec 64) (hkind : x.kind = 1) (hdue : x.since + 10 ^ 9 ≤ s.clk.time) :
    execCalSessionEnd (.timebase n) s = .next (s.calTimebase x n.toNat) := by
  have hover : ¬ s.now < x.since + 10 ^ 9 := Nat.not_lt.mpr hdue
  rw [execCalSessionEnd, s.run_live _ hs, hx]
  simp only [hopen, Bool.false_eq_true, if_false, hkind, hover]

theorem execCalSessionEnd_analog (adc afe : List (List (BitVec 32))) (hkind : x.kind = 3) :
    execCalSessionEnd (.analog adc afe) s =
      .next (s.calTables x [(tblADC x.cluster, natRows adc), (tblAFE x.cluster, natRows afe)]) := by
  rw [execCalSessionEnd, s.run_live _ hs, hx]
  simp only [hopen, Bool.false_eq_true, if_false, hkind]

theorem execCalSessionEnd_media (heat : List (List (BitVec 32))) (ma : List (BitVec 32)) (ka : BitVec 32) (hkind : x.kind = 4) :
    execCalSessionEnd (.media heat ma ka) s = .next (s.calTables x [(tblHEAT x.cluster, natRows heat),
      (tblMA x.cluster, ma.map (fun v => [v.toNat])), (tblVCM x.cluster, [[ka.toNat]])]) := by
  rw [execCalSessionEnd, s.run_live _ hs, hx]
  simp only [hopen, Bool.false_eq_true, if_false, hkind]

end

/-! ### CALREF_CLK -/

section
variable {s : State} (hs : s.live = true)
include hs

theorem execCalrefPresentChange_noSession (p : Bool) (hx : s.cal.session = none) : execCalrefPresentChange p s =
    .next (s.set TOP_CLKSTAT_CALREF_PRESENT (if p then 1 else 0)) := by
  rw [execCalrefPresentChange, s.run_live _ hs]
  simp only [State.set_cal, hx]

theorem execCalrefPresentChange_ceases {x : Session} (hx : s.cal.session = some x) (hkind : x.kind = 1) :
    execCalrefPresentChange false s = .next ((s.set TOP_CLKSTAT_CALREF_PRESENT 0).calEnd 1) := by
  rw [execCalrefPresentChange, s.run_live _ hs]
  simp only [State.set_cal, hx, hkind, decide_true, Bool.not_false, Bool.and_self, if_true, Bool.false_eq_true, if_false]
  rw [State.calFails_of_lt _ (by omega)]

end

end Sys2Proof.Machine

/-! The statement on the calibration commands. -/

namespace Sys2Proof.Proofs

open Sys2Proof.Machine

/-- Settles O33: a session begins by its KIND and whether it is ready, and ends by what it measured. -/
theorem calibrationCommandsComplete : Obligations.CalibrationCommandsComplete := by
  unfold Obligations.CalibrationCommandsComplete
  refine ⟨?_, ?_, ?_, ?_, ?_, ?_, ?_⟩
  · intro o c a s hs hbusy
    have hgo : ∀ kind ready, s.calGo o kind c a ready = s.calBusy o CAL_CTL (calCtl kind c a) := fun kind ready =>
      State.calGo_busy hbusy o kind c a ready
    exact ⟨(execCalTimebase_live hs o c a rfl).trans (congrArg _ (hgo 1 _)),
      (execCalRefdac_live hs o c a rfl).trans (congrArg _ (hgo 2 _)),
      (execCalAnalog_live hs o c a rfl).trans (congrArg _ (hgo 3 _)),
      (execCalMedia_live hs o c a rfl).trans (congrArg _ (hgo 4 _)), execCalStore_busy hs o hbusy⟩
  · intro o c a s hs hidle
    refine ⟨fun hdone hpin => ⟨_, execCalTimebase_live hs o c a ?_, State.calGo_begins hidle o 1 c a (by decide)⟩,
      fun hdone => ⟨_, execCalRefdac_live hs o c a hdone, State.calGo_begins hidle o 2 c a (by decide)⟩,
      fun hdone => ⟨_, execCalAnalog_live hs o c a hdone, State.calGo_closes hidle o 3 c a (by decide)⟩,
      fun hopen hok => ⟨_, execCalMedia_live hs o c a ?_, State.calGo_closes hidle o 4 c a (by decide)⟩,
      fun h => ⟨_, execCalTimebase_live hs o c a ?_, State.calGo_refused hidle o 1 c a⟩,
      fun h => ⟨_, execCalRefdac_live hs o c a h, State.calGo_refused hidle o 2 c a⟩,
      fun h => ⟨_, execCalAnalog_live hs o c a h, State.calGo_refused hidle o 3 c a⟩,
      fun h => ⟨_, execCalMedia_live hs o c a ?_, State.calGo_refused hidle o 4 c a⟩, execCalStore_idle hs o hidle⟩
    · rw [hdone, hpin]
      rfl
    · rw [hopen, hok]
      rfl
    · exact Bool.and_eq_false_iff.mpr h
    · exact Bool.and_eq_false_iff.mpr h
  · intro x s hs hx hclosing hcells
    exact execCalClusterClosed_empty hs hx hclosing hcells
  · intro x s hs hx hkind hopen
    refine ⟨⟨_, execCalSessionEnd_refdacNone hs hx hopen hkind, s.calEnd_fields (by decide)⟩,
      fun v hv => ⟨_, execCalSessionEnd_refdacFar hs hx hopen hkind v hv, s.calEnd_fields (by decide)⟩,
      fun v hv => ⟨_, execCalSessionEnd_refdacOk hs hx hopen hkind v hv, ?_⟩⟩
    obtain ⟨hresult, hbusy, hcal⟩ := s.calEnd_fields (r := 0) (by decide)
    rw [State.get_set_other _ CAL_STAT_REFDAC_DONE CAL_STAT_RESULT _ (by decide) (by decide),
      State.get_set_other _ CAL_STAT_REFDAC_DONE CAL_STAT_BUSY _ (by decide) (by decide),
      State.get_set_fits _ CAL_STAT_REFDAC_DONE 1 (by decide) (by decide),
      State.count_get_other _ _ _ (by decide), State.count_get_other _ _ _ (by decide), State.set_cal, State.count_cal,
      hcal]
    exact ⟨hresult, hbusy, rfl, rfl⟩
  · intro x s hs hx hopen
    exact ⟨fun n => execCalSessionEnd_timebase hs hx hopen n, fun adc afe => execCalSessionEnd_analog hs hx hopen adc afe,
      fun heat ma ka => execCalSessionEnd_media hs hx hopen heat ma ka⟩
  · intro same l i s hs hi
    exact execCalStoreDone_storing hs same l hi
  · intro p s hs
    refine ⟨fun hx => ⟨_, execCalrefPresentChange_noSession hs p hx, ?_⟩,
      fun x hx hkind => ⟨_, execCalrefPresentChange_ceases hs hx hkind, ?_⟩⟩
    · refine State.get_set_fits _ TOP_CLKSTAT_CALREF_PRESENT _ (by decide) ?_
      cases p <;> decide
    · obtain ⟨hresult, -, hcal⟩ := (s.set TOP_CLKSTAT_CALREF_PRESENT 0).calEnd_fields (r := 1) (by decide)
      rw [hcal, hresult, State.calEnd, State.get_set_reg _ CAL_STAT_RESULT _ _ (by decide),
        State.get_set_reg _ CAL_STAT_CLOSING _ _ (by decide), State.get_set_reg _ CAL_STAT_BUSY _ _ (by decide)]
      exact ⟨rfl, rfl, (State.get_congr (s := s.set TOP_CLKSTAT_CALREF_PRESENT 0) rfl _).trans
        (State.get_set_fits _ TOP_CLKSTAT_CALREF_PRESENT 0 (by decide) (by decide))⟩

end Sys2Proof.Proofs

/-! Heartbeats of cores and dies (R451, R454), and the steps of start (R480, R501). -/

namespace Sys2Proof.Machine

/-! ### Heartbeats -/

section
variable {s : State} {i : Nat} (cause : Nat)

theorem State.staffLost_again (hlost : (s.core i).lost = true) : s.staffLost i cause = s := if_pos hlost

section
variable (hfirst : (s.core i).lost = false) {t u : State}
  (ht : t = ((s.raise (srcSTAFF i) cause (orgInt 3 (i / 2) i)).interruption (15 * 16 ^ (i / 2)) 1356).blockReset (.staff i))
  (hu : u = t.setCore i { t.core i with mode := if (s.core i).lostOnce then .fenced else .booting
                                        lostOnce := true
                                        takenOver := false })
include hfirst ht hu

/-- The second core of a die is lost, and the die with it. -/
theorem State.staffLost_last (hother : (u.core (otherCore i)).lost = true) :
    s.staffLost i cause = u.dieLost (i / 2) 2 := by
  subst hu ht
  exact (if_neg (ne_true_of_eq_false hfirst)).trans (if_pos hother)

/-- The other core of the die takes over. -/
theorem State.staffLost_takenOver (hother : (u.core (otherCore i)).lost = false) : s.staffLost i cause =
    u.setCore (otherCore i) { u.core (otherCore i) with mode := .inService, takenOver := true } := by
  subst hu ht
  exact (if_neg (ne_true_of_eq_false hfirst)).trans (if_neg (ne_true_of_eq_false hother))

end

theorem State.dieLost_again {d : Nat} (hlost : s.dieIsLost d = true) : s.dieLost d cause = s := if_pos hlost

theorem State.dieLost_first {d : Nat} (hfirst : s.dieIsLost d = false) {u : State}
    (hu : u = s.raise (srcDIE d) cause (orgInt 3 d 0)) : s.dieLost d cause =
      State.each ((u.set FLT_STAT_DIE_LOST (putBit (u.get FLT_STAT_DIE_LOST) d true)).loseDie d)
        (fun n v => if (v.hlaneOf n).held then v else v.loseLane n true 1) ((List.range 10).map (· + 10 * d)) := by
  subst hu
  exact if_neg (ne_true_of_eq_false hfirst)

theorem execStaffBootDone_booting {i : Fin 4} (hs : s.live = true) (hmode : (s.core i).mode = .booting)
    (hover : s.resetting.contains (.staff i) = false) :
    execStaffBootDone i s = .next (s.setCore i { s.core i with mode := .standby }) := by
  rw [execStaffBootDone, s.run_live _ hs]
  simp only [hmode, hover, Bool.false_eq_true, if_false]

end

/-! ### Steps of start -/

/-- Start stands at the step of a finding that ends no cluster's own step. -/
theorem State.atStep_whole {s : State} {f : Found} (hf : f.cluster? = none) (hdone : s.is IMG_STAT_DONE = false)
    (hstep : s.get IMG_STAT_STEP = f.step) (hhold : s.start.pfHold = false) (hin : s.get IMG_OUT_CLUSTERS ≠ 0xFF) :
    s.atStep f = true := by
  rw [State.atStep, hf, hdone, hhold, hstep]
  simpa using hin

section
variable {s : State} (hs : s.live = true)
include hs

theorem execStartStepDone_live (f : Found) :
    execStartStepDone f s = .next (if s.atStep f then s.startStep f else s) := s.run_live _ hs

theorem execStartStepDone_atStep {f : Found} (hat : s.atStep f = true) :
    execStartStepDone f s = .next (s.startStep f) :=
  (execStartStepDone_live hs f).trans (congrArg Host.Outcome.next (if_pos hat))

theorem execStartPfailHoldEnd_due (hhold : s.start.pfHold = true) (hdue : s.pf.lowAt + 1000000 ≤ s.clk.time) :
    execStartPfailHoldEnd s = .next (State.enterSpinup
      { s with start := { s.start with pfHold := false }, pf := { s.pf with low := false } }) :=
  (s.run_live _ hs).trans (congrArg Host.Outcome.next (if_pos ⟨hhold, hdue⟩))

end

/-- Step 1 shows the straps and the test mode. -/
theorem State.startStep_straps (s : State) (p : Fin 16) (t : Bool) :
    (s.startStep (.straps p t)).get TOP_PERSONA_STRAPS = p.val ∧ (s.startStep (.straps p t)).is TOP_PERSONA_TEST_MODE = t ∧
      (s.startStep (.straps p t)).get IMG_STAT_STEP = 2 := by
  refine ⟨?_, ?_, State.get_set_fits _ IMG_STAT_STEP 2 (by decide) (by decide)⟩
  · rw [State.startStep, State.get_set_reg _ IMG_STAT_STEP TOP_PERSONA_STRAPS _ (by decide),
      State.get_set_other _ TOP_PERSONA_TEST_MODE TOP_PERSONA_STRAPS _ (by decide) (by decide)]
    exact State.get_set_fits _ TOP_PERSONA_STRAPS _ (by decide) p.isLt
  · rw [State.startStep, State.is, State.get_set_reg _ IMG_STAT_STEP TOP_PERSONA_TEST_MODE _ (by decide),
      State.get_set_same _ TOP_PERSONA_TEST_MODE _ (by decide)]
    cases t <;> rfl

/-- Step 2 with the root PLL locked. -/
theorem State.startStep_root (s : State) : (s.startStep (.root true)).get TOP_CLKSTAT_ROOT_LOCK = 1 ∧
    (s.startStep (.root true)).get TOP_CLKSTAT_HOLDOVER = 0 ∧ (s.startStep (.root true)).clk.counting = true ∧
      (s.startStep (.root true)).get IMG_STAT_STEP = 3 := by
  rw [State.startStep, State.stepRoot, if_pos rfl]
  refine ⟨?_, ?_, rfl, State.get_set_fits _ IMG_STAT_STEP 3 (by decide) (by decide)⟩
  · rw [State.get_set_reg _ IMG_STAT_STEP TOP_CLKSTAT_ROOT_LOCK _ (by decide),
      State.get_set_other _ TOP_CLKSTAT_HOLDOVER TOP_CLKSTAT_ROOT_LOCK _ (by decide) (by decide)]
    exact State.get_set_fits _ TOP_CLKSTAT_ROOT_LOCK 1 (by decide) (by decide)
  · rw [State.get_set_reg _ IMG_STAT_STEP TOP_CLKSTAT_HOLDOVER _ (by decide)]
    exact State.get_set_fits _ TOP_CLKSTAT_HOLDOVER 0 (by decide) (by decide)

theorem State.startStep_spinup {s : State} (hlock : s.is LOOP_STAT_SPEED_LOCK = true) :
    (s.startStep .spinup).get IMG_STAT_STEP = 9 := by
  rw [State.startStep, State.stepSpinup, if_pos hlock]
  exact State.get_set_fits _ IMG_STAT_STEP 9 (by decide) (by decide)

/-- Step 8 begins with both spindle loops watching; the hold and PFAIL_N stay as they stand. -/
theorem State.enterSpinup_fields (s : State) : s.enterSpinup.get IMG_STAT_STEP = 8 ∧ s.enterSpinup.start = s.start ∧
    s.enterSpinup.pf = s.pf ∧ ∀ d : Die, (s.enterSpinup.spinOf d).watching = true := by
  refine ⟨State.get_set_fits _ IMG_STAT_STEP 8 (by decide) (by decide), rfl, rfl, fun d => ?_⟩
  rw [State.enterSpinup, State.spinOf, State.set_spin, ← State.spinOf, State.queueSpmode_spinOf, State.spinBoth_spinOf]

end Sys2Proof.Machine

/-! The statements on heartbeats and on the steps of start. -/

namespace Sys2Proof.Proofs

open Sys2Proof.Machine

/-- Settles O31: a core or a die is lost once, and its die by whether the other core still runs. -/
theorem heartbeatCommandsComplete : Obligations.HeartbeatCommandsComplete := by
  unfold Obligations.HeartbeatCommandsComplete
  refine ⟨?_, ?_, ?_⟩
  · intro i s t u hs
    have hrun : execStaffHeartbeatTimeout i s = .next (s.staffLost i 1) := s.run_live _ hs
    exact ⟨fun hlost => hrun.trans (congrArg _ (State.staffLost_again 1 hlost)), fun hfirst ht hu =>
      ⟨fun hother => hrun.trans (congrArg _ (State.staffLost_last 1 hfirst ht hu hother)),
        fun hother => hrun.trans (congrArg _ (State.staffLost_takenOver 1 hfirst ht hu hother))⟩⟩
  · intro i s hs hmode hover
    exact execStaffBootDone_booting hs hmode hover
  · intro d s hs
    have hrun : execDieHeartbeatTimeout d s = .next (s.dieLost d 1) := s.run_live _ hs
    exact ⟨fun hlost => hrun.trans (congrArg _ (State.dieLost_again 1 hlost)),
      fun u hfirst hu => hrun.trans (congrArg _ (State.dieLost_first 1 hfirst hu))⟩

/-- Settles O29: a finding is carried out in the step that it belongs to, and the hold ends in step 8. -/
theorem startStepsComplete : Obligations.StartStepsComplete := by
  unfold Obligations.StartStepsComplete
  refine ⟨?_, ?_, ?_, ?_, ?_⟩
  · intro f s hs
    exact execStartStepDone_live hs f
  · intro p t s hs hdone hstep hhold hin
    exact ⟨_, execStartStepDone_atStep hs (State.atStep_whole rfl hdone hstep hhold hin), s.startStep_straps p t⟩
  · intro s hs hdone hstep hhold hin
    exact ⟨_, execStartStepDone_atStep hs (State.atStep_whole rfl hdone hstep hhold hin), s.startStep_root⟩
  · intro s hs hdone hstep hhold hin hlock
    exact ⟨_, execStartStepDone_atStep hs (State.atStep_whole rfl hdone hstep hhold hin),
      State.startStep_spinup hlock⟩
  · intro s hs hhold hdue
    obtain ⟨hstep, hstart, hpf, hwatch⟩ := State.enterSpinup_fields
      { s with start := { s.start with pfHold := false }, pf := { s.pf with low := false } }
    exact ⟨_, execStartPfailHoldEnd_due hs hhold hdue, hstep, congrArg Start.pfHold hstart, congrArg PowerFail.low hpf,
      hwatch⟩

end Sys2Proof.Proofs

/-! What the resets leave of the first-error latch and of the recorder (R34, R449, R465). -/

namespace Sys2Proof.Machine

/-! ### A package reset -/

theorem RegsBut.logReset {L : List Nat} {s t : State} (h : RegsBut L s t) (hctl : LOG_CTL ∈ L) (hstat : LOG_STAT ∈ L) :
    RegsBut L s t.logReset :=
  (RegsBut.ite (h.thaw _ hctl hstat) h).putLog _

theorem State.logReset_ring (s : State) : s.logReset.log.ring = s.log.ring := by
  rw [State.logReset]
  split
  · rfl
  · rfl

theorem State.packageReset_ring (s : State) : s.packageReset.log.ring = s.log.ring := s.logReset_ring

/-- The registers of the TOP and LOG blocks that a package reset writes all the same. -/
def writtenAtReset : List Nat := [LOG_RSTAT, LOG_CTL, LOG_STAT, TOP_RSTCAUSE]

section
variable (s : State) {a : Nat} (hkept : keptReg a = true) (ha : a ∉ writtenAtReset)
include hkept ha

theorem State.packageReset_kept : s.packageReset.rd a = s.rd a := by
  have hreset : RegsBut writtenAtReset s s.logReset := (RegsBut.refl _ s).logReset (by decide) (by decide)
  have hstat : a ≠ LOG_RSTAT := fun he => ha (he ▸ (List.mem_cons_self : LOG_RSTAT ∈ writtenAtReset))
  rw [s.packageReset_rd hstat, if_pos hkept]
  exact hreset a ha

theorem State.heldInReset_kept : s.heldInReset.rd a = s.rd a := by
  have hcause : RegsBut writtenAtReset s.packageReset s.heldInReset := by
    have hpin := RegsBut.set ((RegsBut.refl writtenAtReset s.packageReset).of_regs (u := { s.packageReset with
      clk := { s.packageReset.clk with resetLow := true, rootStopped := false, monErr := false } }) rfl)
      (x := TOP_RSTCAUSE_PIN) 1 (by decide)
    exact RegsBut.ite (hpin.set (x := TOP_RSTCAUSE_ROOTSTOP) 1 (by decide)) hpin
  exact (hcause a ha).trans (s.packageReset_kept hkept ha)

end

theorem State.heldInReset_ring (s : State) : s.heldInReset.log.ring = s.log.ring := by
  rw [State.heldInReset]
  split
  · exact s.packageReset_ring
  · exact s.packageReset_ring

/-- RESET_N leaves the ring and the kept registers. -/
theorem execResetNAssert_kept (s : State) : Answers (execResetNAssert s) fun t => t.log.ring = s.log.ring ∧
    ∀ a, keptReg a = true → a ∉ writtenAtReset → t.rd a = s.rd a := by
  rw [execResetNAssert]
  refine Answers.next ?_
  split
  · exact ⟨rfl, fun _ _ _ => rfl⟩
  · exact ⟨s.heldInReset_ring, fun _ => s.heldInReset_kept⟩

/-- CHIP_RESET leaves the ring and the kept registers, and shows itself in TOP.RSTCAUSE. -/
theorem execChipReset_kept {s : State} (hs : s.live = true) (hreq : s.clk.chipResetReq = true)
    (hstored : s.log.intake = []) : Answers (execChipReset s) fun t => t.log.ring = s.log.ring ∧
      (∀ a, keptReg a = true → a ∉ writtenAtReset → t.rd a = s.rd a) ∧ t.is TOP_RSTCAUSE_CHIP = true := by
  refine ⟨_, (s.run_live _ hs).trans (congrArg Host.Outcome.next (if_pos ⟨hreq, hstored⟩)), s.packageReset_ring,
    fun a hkept ha => ?_, State.is_of_get_one (State.get_set_fits _ TOP_RSTCAUSE_CHIP 1 (by decide) (by decide))⟩
  exact ((RegsBut.refl writtenAtReset s.packageReset).set (x := TOP_RSTCAUSE_CHIP) 1 (by decide) a ha).trans
    (s.packageReset_kept hkept ha)

/-! ### Power-on -/

/-- What the power-on detector writes of the registers that loss of power put at their reset values. -/
def writtenAtPowerOn : List Nat := [LOG_STAT, LOG_PCYCLE, LOG_OPSEC, LOG_NEXT, TOP_RSTCAUSE]

theorem RegsBut.resume {s t : State} (h : RegsBut writtenAtPowerOn s t) : RegsBut writtenAtPowerOn s t.resume := by
  rw [State.resume]
  split
  · exact (h.set (x := LOG_PCYCLE_PCYCLE) 1 (by decide)).putLog _
  · have hcounts := fun n m => (h.set (x := LOG_PCYCLE_PCYCLE) n (by decide)).set (x := LOG_OPSEC_OPSEC) m (by decide)
    split
    · exact ((hcounts _ _).set (x := LOG_NEXT_EVSEQ) _ (by decide)).putLog _
    · exact (RegsBut.set ((hcounts _ _).putLog _) (x := LOG_NEXT_EVSEQ) _ (by decide)).putLog _

theorem State.lifeEntry_ring (s : State) (k : LifeKind) : (s.lifeEntry k).log.ring = s.log.ring := rfl

theorem State.resume_ring (s : State) : s.resume.log.ring = s.log.ring := by
  rw [State.resume]
  split
  · rw [State.lifeEntry_ring, State.set_log]
  · split
    · rw [State.lifeEntry_ring, State.set_log, State.set_log, State.set_log]
    · rw [State.lifeEntry_ring, State.set_log]
      simp only [State.set_log]

theorem State.firstDone_ring (s : State) : s.firstDone.log.ring = s.log.ring := by
  rw [State.firstDone]
  split
  · rfl
  · rfl

/-- The power-on detector empties the ring; what it does not write stands as loss of power left it. -/
theorem execPowerOnDetect_starts (s : State) : Answers (execPowerOnDetect s) fun t => t.log.ring = [] ∧
    ∀ a ∉ writtenAtPowerOn, t.rd a = State.reset.rd a := by
  refine Answers.next ⟨?_, fun a ha => ?_⟩
  · rw [State.set_log, State.resume_ring, State.firstDone_ring]
    rfl
  · have hdone : RegsBut writtenAtPowerOn State.reset s.coldState.firstDone :=
      have hcold := (RegsBut.refl writtenAtPowerOn State.reset).of_regs (u := s.coldState) rfl
      RegsBut.ite (hcold.set (x := LOG_STAT_FIRST_DONE) 1 (by decide)) hcold
    exact hdone.resume.set (x := TOP_RSTCAUSE_POR) 1 (by decide) a ha

/-! ### The registers of the latch and of the recorder -/

/-- The latch is kept by a package reset, written by neither reset, and 0 at reset. -/
theorem latch_kept {a : Nat} (ha : a ∈ [FLT_FIRST, FLT_FIRST_TLO, FLT_FIRST_THI, FLT_FIRST_INFO, FLT_FIRST_ORIGIN]) :
    keptReg a = true ∧ a ∉ writtenAtReset ∧ a ∉ writtenAtPowerOn ∧ State.reset.rd a = 0 := by
  revert a
  decide +kernel

/-- The recorder's numbers, and how far each media log is written, are kept by a package reset. -/
theorem recorder_kept {a : Nat} (ha : a ∈ LOG_NEXT :: LOG_OPSEC :: LOG_PCYCLE :: (List.range 8).map LOG_FLUSH) :
    keptReg a = true ∧ a ∉ writtenAtReset := by
  revert a
  decide +kernel

end Sys2Proof.Machine

/-! The statements on what outlives a package reset. -/

namespace Sys2Proof.Proofs

open Sys2Proof.Machine

/-- Settles O55: the latch is among the registers that a package reset keeps. -/
theorem firstErrorLatchSurvives : Obligations.FirstErrorLatchSurvives := by
  unfold Obligations.FirstErrorLatchSurvives
  intro s a ha
  obtain ⟨hkept, hreset, hpower, hzero⟩ := latch_kept ha
  exact ⟨(execResetNAssert_kept s).imp fun t ⟨_, hregs⟩ => hregs a hkept hreset,
    fun hs hreq hstored => (execChipReset_kept hs hreq hstored).imp fun t ⟨_, hregs, hcause⟩ =>
      ⟨hregs a hkept hreset, hcause⟩,
    (execPowerOnDetect_starts s).imp fun t ⟨_, hregs⟩ => (hregs a hpower).trans hzero⟩

/-- Settles O57: the ring is part of what a package reset keeps, and the recorder's numbers are kept registers. -/
theorem recorderSurvivesPackageReset : Obligations.RecorderSurvivesPackageReset := by
  unfold Obligations.RecorderSurvivesPackageReset
  intro s
  have hnumbers : ∀ t : State, (∀ a, keptReg a = true → a ∉ writtenAtReset → t.rd a = s.rd a) →
      t.rd LOG_NEXT = s.rd LOG_NEXT ∧ t.rd LOG_OPSEC = s.rd LOG_OPSEC ∧ t.rd LOG_PCYCLE = s.rd LOG_PCYCLE ∧
        ∀ c : Cluster, t.rd (LOG_FLUSH c) = s.rd (LOG_FLUSH c) := by
    intro t hregs
    have hkeeps : ∀ a ∈ LOG_NEXT :: LOG_OPSEC :: LOG_PCYCLE :: (List.range 8).map LOG_FLUSH, t.rd a = s.rd a :=
      fun a ha => hregs a (recorder_kept ha).1 (recorder_kept ha).2
    refine ⟨hkeeps _ (by simp), hkeeps _ (by simp), hkeeps _ (by simp), fun c => hkeeps _ ?_⟩
    simp only [List.mem_cons, List.mem_map, List.mem_range]
    exact Or.inr (Or.inr (Or.inr ⟨c, c.isLt, rfl⟩))
  exact ⟨(execResetNAssert_kept s).imp fun t ⟨hring, hregs⟩ => ⟨hring, hnumbers t hregs⟩,
    fun hs hreq hstored => (execChipReset_kept hs hreq hstored).imp fun t ⟨hring, hregs, _⟩ =>
      ⟨hring, hnumbers t hregs⟩,
    (execPowerOnDetect_starts s).imp fun t ⟨hring, _⟩ => hring⟩

end Sys2Proof.Proofs

/-! The timeline as a wedge retires: the POS of a slot, and what an ended slot leaves (R54 to R56). -/

namespace Sys2Proof.Machine

/-! ### POS over slots listed in rising order (R56) -/

section
variable {t : Tab WSlot} {n : Nat}

/-- Slots that lie past a wedge leave the POS at its end alone. -/
theorem posAtEnd_of_above (h : Tab.above n t = true) (p : Nat) : posAtEnd t n p = p := by
  cases t with
  | nil => rfl
  | cons x t =>
    simp only [Tab.above, List.all_cons, Bool.and_eq_true, decide_eq_true_eq] at h
    exact if_neg (Nat.not_le_of_lt h.1)

/-- A wedge without a slot of its own ends at the POS of the wedge before it. -/
theorem posAtEnd_succ_of_unlisted (h : ∀ x ∈ t, x.1 ≠ n + 1) (p : Nat) : posAtEnd t (n + 1) p = posAtEnd t n p := by
  induction t generalizing p with
  | nil => rfl
  | cons x t ih =>
    have hx : x.1 ≤ n + 1 ↔ x.1 ≤ n := by
      have := h x List.mem_cons_self
      omega
    simp only [posAtEnd, hx, ih fun y hy => h y (List.mem_cons_of_mem x hy)]

variable (hwf : Tab.wf (fun _ => WSlot.init) t = true)
include hwf

/-- The slot of a wedge that moves the arm gives the POS at its end. -/
theorem posAtEnd_of_listed {x : Nat × WSlot} (hx : t.find? (fun q => q.1 == n) = some x) (harm : x.2.arm ≠ .free)
    (p : Nat) : posAtEnd t n p = x.2.pos := by
  induction t generalizing p with
  | nil => cases hx
  | cons y t ih =>
    simp only [Tab.wf, Bool.and_eq_true] at hwf
    obtain ⟨⟨-, habove⟩, hrest⟩ := hwf
    by_cases hy : y.1 = n
    · obtain rfl : y = x := by simpa [hy] using hx
      rw [posAtEnd, if_pos hy.le, if_neg harm]
      exact posAtEnd_of_above (hy ▸ habove) _
    · have hx' : t.find? (fun q => q.1 == n) = some x := by simpa [hy] using hx
      have hlt : y.1 < n := by
        have hkey : x.1 = n := by simpa using List.find?_some hx'
        have := List.all_eq_true.mp habove x (List.mem_of_find?_eq_some hx')
        simpa [hkey] using this
      rw [posAtEnd, if_pos hlt.le]
      exact ih hrest hx' _

/-- What the slots up to a wedge say of POS can be kept as the POS that the later slots start from. -/
theorem posAtEnd_filter {m : Nat} (hnm : n ≤ m) (p : Nat) :
    posAtEnd (t.filter fun x => decide (n < x.1)) m (posAtEnd t n p) = posAtEnd t m p := by
  induction t generalizing p with
  | nil => rfl
  | cons x t ih =>
    have hcons := hwf
    simp only [Tab.wf, Bool.and_eq_true] at hwf
    obtain ⟨⟨-, habove⟩, hrest⟩ := hwf
    by_cases hx : x.1 ≤ n
    · rw [List.filter_cons_of_neg (by simpa using hx)]
      simp only [posAtEnd, hx, hx.trans hnm, if_true]
      exact ih hrest _
    · have hall : Tab.above n (x :: t) = true := by
        simp only [Tab.above, List.all_cons, Bool.and_eq_true, decide_eq_true_eq]
        exact ⟨Nat.lt_of_not_le hx, Tab.above_mono t habove (Nat.le_of_not_le hx)⟩
      rw [posAtEnd_of_above hall, List.filter_eq_self.mpr (List.all_eq_true.mp hall)]

end

section
variable {t u : Timeline} (hwf : Tab.wf (fun _ => WSlot.init) t.slots = true) {n : Nat}

theorem Timeline.slotAt_unlisted (h : ∀ p ∈ t.slots, p.1 ≠ n) : t.slotAt n = { WSlot.init with pos := t.posAt n } := by
  have hnone : t.slots.find? (fun p => p.1 == n) = none := by simpa using h
  simp only [Timeline.slotAt, hnone]

include hwf

/-- A slot holds the POS at the end of its wedge. -/
theorem Timeline.slotAt_pos (n : Nat) : (t.slotAt n).pos = t.posAt n := by
  unfold Timeline.slotAt
  split
  · next p hp =>
    split
    · rfl
    · next harm => exact (posAtEnd_of_listed hwf hp harm _).symm
  · rfl

/-- A timeline without its slots up to wedge `n`, started from the POS of `n`, has the later slots it had. -/
theorem Timeline.slotAt_retired (hslots : u.slots = t.slots.filter fun p => decide (n < p.1))
    (hpos : u.pos0 = (t.slotAt n).pos) {m : Nat} (hm : n < m) : u.slotAt m = t.slotAt m := by
  have hat : u.posAt m = t.posAt m := by
    unfold Timeline.posAt
    rw [hslots, hpos, Timeline.slotAt_pos hwf, Timeline.posAt, posAtEnd_filter hwf hm.le]
  have hfind : u.slots.find? (fun p => p.1 == m) = t.slots.find? (fun p => p.1 == m) := by
    rw [hslots, List.find?_filter]
    congr 1
    funext p
    by_cases hp : p.1 = m
    · simp [hp, hm]
    · simp [hp]
  simp only [Timeline.slotAt, hat, hfind]

end

/-! ### The wedge in progress retires (R56) -/

/-- Counting cells for a row leaves the slots. -/
theorem State.bookRow_slots (s : State) (c h spent retired : Nat) :
    ((s.bookRow c h spent retired).tlOf c).slots = (s.tlOf c).slots := by
  unfold State.bookRow
  split
  · rfl
  · simp only
    split
    · rw [State.setTl_tlOf_same]
    · rfl

theorem State.bookRows_slots (s : State) (c : Nat) (cells : Tab TCell) :
    ((cells.foldl (fun s p => if p.2.kind = .free then s else s.bookRow c p.2.owner 0 1) s).tlOf c).slots =
      (s.tlOf c).slots := by
  induction cells generalizing s with
  | nil => rfl
  | cons p cells ih =>
    rw [List.foldl_cons, ih]
    split
    · rfl
    · exact s.bookRow_slots c _ 0 1

theorem State.retire_now (s : State) (c : Nat) : ((s.retire c).tlOf c).now = (s.tlOf c).now + 1 := by
  unfold State.retire
  rw [State.setTl_tlOf_same]

theorem State.retire_pos0 (s : State) (c : Nat) :
    ((s.retire c).tlOf c).pos0 = ((s.tlOf c).slotAt (s.tlOf c).now).pos := by
  unfold State.retire
  rw [State.setTl_tlOf_same]

theorem State.retire_slots (s : State) (c : Nat) :
    ((s.retire c).tlOf c).slots = (s.tlOf c).slots.filter fun p => decide ((s.tlOf c).now < p.1) := by
  unfold State.retire
  rw [State.setTl_tlOf_same]
  exact congrArg (List.filter _) (s.bookRows_slots c _)

end Sys2Proof.Machine

namespace Sys2Proof.Proofs

open Sys2Proof.Machine

/-- Settles O53: the later slots and their POS are what they were, and of the far end nothing was listed. -/
theorem boundaryReopensSlot : Obligations.BoundaryReopensSlot := by
  unfold Obligations.BoundaryReopensSlot
  rintro c n s rfl hwpr hlisted hwf
  have hlater : ∀ m, (s.tlOf c).now < m → ((s.retire c).tlOf c).slotAt m = (s.tlOf c).slotAt m := fun m hm =>
    Timeline.slotAt_retired hwf (s.retire_slots c) (s.retire_pos0 c) hm
  obtain ⟨k, hk⟩ : ∃ k, (s.tlOf c).now + 64 * s.wpr = k + 1 := ⟨(s.tlOf c).now + 64 * s.wpr - 1, by omega⟩
  rw [hk] at hlisted ⊢
  have hfar : ∀ p ∈ (s.tlOf c).slots, p.1 ≠ k + 1 := fun p hp => (hlisted p hp).2.ne
  refine ⟨s.retire_now c, fun p hp => ?_, ?_, ?_, hlater⟩
  · rw [State.retire_slots, List.mem_filter, decide_eq_true_eq] at hp
    exact hp.symm
  · rw [hlater _ (by omega), Timeline.slotAt_unlisted hfar]
    rfl
  · rw [Nat.add_sub_cancel, hlater _ (by omega), hlater _ (by omega), Timeline.slotAt_pos hwf, Timeline.slotAt_pos hwf]
    exact posAtEnd_succ_of_unlisted hfar _

end Sys2Proof.Proofs

/-! What a budget command does, and which registers the budget, rights, grant, injection and ALU commands may change
(R89, R90, R147, R154, R307, R379). -/

namespace Sys2Proof.Machine

/-! ### What a budget command does at its start and at its end (R89, R90) -/

/-- A budget command set running. -/
def State.budgetBegun (s : State) (o : Origin) (op : Nat) : State :=
  State.set { s with ports := { s.ports with bcmd := some ⟨op, 0, orgOf o⟩ } } PRM_BSTAT_BUSY 1

/-- The running budget command ended, before its effect. -/
def State.budgetEnded (s : State) : State :=
  State.set { s with ports := { s.ports with bcmd := none } } PRM_BSTAT_BUSY 0

/-- A budget row shown in the registers. -/
def State.showRow (s : State) (r : Row) : State :=
  ((((s.set PRM_BVAL_SHARE r.share).set PRM_BVAL_CEILING r.ceiling).set PRM_BDEPTH_DEPTH r.depth).set PRM_BBAL_BALANCE
    (unsign 32 r.balance)).set PRM_BBOR_BORROWED r.borrowed

/-- The values in the registers accepted for row `k` of the cluster that PRM.BSEL names. -/
def State.stageRow (s : State) (k : Nat) : State :=
  let t := s.tlOf (s.get PRM_BSEL_CLUSTER)
  s.setTl (s.get PRM_BSEL_CLUSTER) { t with rows := tset Row.init t.rows k { tget Row.init t.rows k with
    used := true, staged := some (s.get PRM_BVAL_SHARE, s.get PRM_BVAL_CEILING, s.get PRM_BDEPTH_DEPTH) } }

/-- The error of a row write on the row that PRM.BSEL names. -/
abbrev State.selError (s : State) : Nat := s.rowError (s.tlOf (s.get PRM_BSEL_CLUSTER)) s.selRow

/-- A budget READ on the row that PRM.BSEL names. -/
def State.readRow (s : State) : State :=
  match s.selRow with
  | none => s.set PRM_BSTAT_ERR 4
  | some k => (s.showRow (tget Row.init (s.tlOf (s.get PRM_BSEL_CLUSTER)).rows k)).set PRM_BSTAT_ERR 0

/-- The values accepted for that row, or nothing where the write is in error. -/
def State.maybeStaged (s : State) : State := if s.selError = 0 then s.stageRow (s.selRow.getD 0) else s

/-- A budget WRITE on that row. -/
def State.writeRow (s : State) (origin : Nat) : State :=
  (s.maybeStaged.set PRM_BSTAT_ERR s.selError).budgetEvent origin s.selError

theorem execBcmdComplete_running {s : State} {q : Running} (hs : s.live = true) (hq : s.ports.bcmd = some q) :
    execBcmdComplete s = .next (if q.op = 1 then s.budgetEnded.readRow else s.budgetEnded.writeRow q.origin) := by
  unfold execBcmdComplete
  rw [State.run_live s _ hs]
  simp only [hq]
  rfl

section
variable {L : List Nat} {s t : State} (h : RegsBut L s t)
include h

/-! ### Budgets, rights and grants (R89, R147, R154) -/

theorem RegsBut.putPorts (p : Ports) : RegsBut L s { t with ports := p } := h.of_regs rfl

theorem RegsBut.putWin (w : Window) : RegsBut L s { t with win := w } := h.of_regs rfl

theorem RegsBut.putMemu (u : MemUnit) : RegsBut L s { t with memu := u } := h.of_regs rfl

theorem RegsBut.setTl (c : Nat) (x : Timeline) : RegsBut L s (t.setTl c x) := h.of_regs rfl

theorem RegsBut.readRow (hregs : [PRM_BSTAT, PRM_BVAL, PRM_BDEPTH, PRM_BBAL, PRM_BBOR] ⊆ L) :
    RegsBut L s t.readRow := by
  unfold State.readRow
  split
  · exact h.set 4 (x := PRM_BSTAT_ERR) (hregs (by decide))
  · exact (((((h.set _ (x := PRM_BVAL_SHARE) (hregs (by decide))).set _ (x := PRM_BVAL_CEILING)
      (hregs (by decide))).set _ (x := PRM_BDEPTH_DEPTH) (hregs (by decide))).set _ (x := PRM_BBAL_BALANCE) (hregs (by decide))).set _
      (x := PRM_BBOR_BORROWED) (hregs (by decide))).set 0 (x := PRM_BSTAT_ERR) (hregs (by decide))

theorem RegsBut.showRights (e : Rights) (hregs : [TPT_RBASE_LO, TPT_RBASE_HI, TPT_RCNT_LO, TPT_RCNT_HI, TPT_ROWN] ⊆ L) :
    RegsBut L s (t.showRights e) :=
  ((((((h.set _ (x := TPT_RBASE_LO_BASE_LO) (hregs (by decide))).set _ (x := TPT_RBASE_HI_BASE_HI)
    (hregs (by decide))).set _ (x := TPT_RCNT_LO_CNT_LO) (hregs (by decide))).set _ (x := TPT_RCNT_HI_CNT_HI)
    (hregs (by decide))).set _ (x := TPT_ROWN_BURGEE) (hregs (by decide))).set _ (x := TPT_ROWN_READ)
    (hregs (by decide))).set _ (x := TPT_ROWN_WRITE) (hregs (by decide))

theorem RegsBut.showGrant (g : Grant) (hregs : [WIN_GBASE, WIN_GCNT, WIN_GOWN] ⊆ L) : RegsBut L s (t.showGrant g) :=
  (((h.set _ (x := WIN_GBASE_BASE) (hregs (by decide))).set _ (x := WIN_GCNT_NUM) (hregs (by decide))).set _
    (x := WIN_GOWN_BURGEE) (hregs (by decide))).set _ (x := WIN_GOWN_VALID) (hregs (by decide))

/-- SET and REVOKE change the window alone. -/
theorem RegsBut.grantAnswer (op : Nat) : RegsBut L s (t.grantAnswer op).1 := by
  refine h.of_regs (same_of_hide (m := fun p => decide (p = .win)) ?_ .regs rfl)
  unfold State.grantAnswer
  split
  · exact State.grantSet_frame rfl _ _ _
  · exact State.grantRevoke_frame rfl _ _

section
variable (hev : [LOG_FRZLOST, LOG_INLOST] ⊆ L)
include hev

theorem RegsBut.budgetCmd (o : Origin) (op : Nat) (hstat : PRM_BSTAT ∈ L) : RegsBut L s (t.budgetCmd o op) := by
  have hbegun : RegsBut L s (t.budgetBegun o op) := RegsBut.set (h.putPorts _) (x := PRM_BSTAT_BUSY) 1 hstat
  exact RegsBut.ite (h.arrive hev _) (RegsBut.ite (h.logPriv hev _ _ _ _) (RegsBut.ite (hbegun.logPriv hev _ _ _ _)
    hbegun))

theorem RegsBut.rightsCmd (o : Origin) (op : Nat) (hstat : TPT_RSTAT ∈ L) : RegsBut L s (t.rightsCmd o op) := by
  have hbegun : RegsBut L s (t.rightsBegun o op) := RegsBut.set (h.putPorts _) (x := TPT_RSTAT_BUSY) 1 hstat
  exact RegsBut.ite (h.arrive hev _) (RegsBut.ite (h.logPriv hev _ _ _ _) (RegsBut.ite (hbegun.logPriv hev _ _ _ _)
    hbegun))

theorem RegsBut.grantCmd (o : Origin) (op : Nat) (hstat : WIN_GSTAT ∈ L) : RegsBut L s (t.grantCmd o op) := by
  have hbegun : RegsBut L s (t.grantBegun o op) := RegsBut.set (h.putWin _) (x := WIN_GSTAT_BUSY) 1 hstat
  exact RegsBut.ite (h.arrive hev _) (RegsBut.ite (h.logPriv hev _ _ _ _) (RegsBut.ite (hbegun.logPriv hev _ _ _ _)
    hbegun))

theorem RegsBut.writeRow (origin : Nat) (hstat : PRM_BSTAT ∈ L) : RegsBut L s (t.writeRow origin) := by
  have hstaged : RegsBut L s t.maybeStaged := RegsBut.ite (h.setTl _ _) h
  exact (hstaged.set _ (x := PRM_BSTAT_ERR) hstat).arrive hev _

theorem RegsBut.rightsEffect (r : Running)
    (hregs : [TPT_RSTAT, TPT_RBASE_LO, TPT_RBASE_HI, TPT_RCNT_LO, TPT_RCNT_HI, TPT_ROWN] ⊆ L) :
    RegsBut L s (t.rightsEffect r) := by
  have hstat : TPT_RSTAT_ERR.addr ∈ L := hregs List.mem_cons_self
  have hput : ∀ i e, RegsBut L s (t.putRights i e) := fun _ _ => h.putPorts _
  exact RegsBut.ite ((h.showRights _ fun _ ha => hregs (List.mem_cons_of_mem _ ha)).set 0 hstat)
    (RegsBut.ite (((RegsBut.ite h (hput _ _)).set _ hstat).arrive hev _) (((hput _ _).set 0 hstat).arrive hev _))

theorem RegsBut.grantEffect (r : Running) (hregs : [WIN_GSTAT, WIN_GBASE, WIN_GCNT, WIN_GOWN] ⊆ L) :
    RegsBut L s (t.grantEffect r) := by
  have hstat : WIN_GSTAT_ERR.addr ∈ L := hregs List.mem_cons_self
  exact RegsBut.ite ((h.showGrant _ fun _ ha => hregs (List.mem_cons_of_mem _ ha)).set 0 hstat)
    (((h.grantAnswer r.op).set _ hstat).arrive hev _)

/-! ### Injected faults and stored words (R359, R379) -/

theorem RegsBut.injEvent (org status : Nat) : RegsBut L s (t.injEvent org status) := h.arrive hev _

/-- Storing a word changes no register, unless it fires the armed injection. -/
theorem RegsBut.putReq (org k : Nat) (w : Stored) (hctl : MEM_INJ_CTL ∈ L) : RegsBut L s (t.putReq org k w) := by
  have hput : ∀ w, RegsBut L s (t.putStored k w) := fun _ => h.of_regs rfl
  have hdone := ((hput (w.flip t.injMask)).set 0 (x := MEM_INJ_CTL_ARM) hctl).set 1 (x := MEM_INJ_CTL_DONE) hctl
  unfold State.putReq
  split
  · exact RegsBut.injEvent (hdone.putMemu _) hev _ _
  · exact hput w

theorem RegsBut.writeWord (org : Nat) (m : MemAt) (v : Nat) (hctl : MEM_INJ_CTL ∈ L) :
    RegsBut L s (t.writeWord org m v) :=
  (h.of_regs (t.memBurst_same m (p := .regs) (by decide))).putReq hev org _ _ hctl

theorem RegsBut.requestWrite (org : Nat) (m : MemAt) (v : Nat) (hctl : MEM_INJ_CTL ∈ L) :
    RegsBut L s (t.request (.write org m v)) :=
  RegsBut.ite (h.of_regs rfl) (RegsBut.ite h (h.writeWord hev org m v hctl))

end

/-! ### The ALU (R307) -/

theorem RegsBut.alu (c : Cluster) (op : Nat) (dst a : Fin 16) (b : AluB) (hdst : SEQ_GREG c dst ∈ L) :
    RegsBut L s (t.alu c op dst a b) := by
  have hset : ∀ v, RegsBut L s (t.setG c dst v) := fun v =>
    h.set (x := SEQ_GREG_G c (dst % 16)) v (by rwa [Nat.mod_eq_of_lt dst.isLt])
  exact RegsBut.ite h ((hset _).of_regs rfl)

end

/-! ### The commands -/

section
variable {s t : State}

theorem execBcmdComplete_regs (h : execBcmdComplete s = .next t) :
    RegsBut (PRM_BSTAT :: PRM_BVAL :: PRM_BDEPTH :: PRM_BBAL :: PRM_BBOR :: [LOG_FRZLOST, LOG_INLOST]) s t := by
  refine RegsBut.of_run h ?_
  split
  · exact RegsBut.refl _ s
  · next q hq =>
    have hended : RegsBut (PRM_BSTAT :: PRM_BVAL :: PRM_BDEPTH :: PRM_BBAL :: PRM_BBOR :: [LOG_FRZLOST, LOG_INLOST]) s
        s.budgetEnded := RegsBut.set ((RegsBut.refl _ s).putPorts _) (x := PRM_BSTAT_BUSY) 0 (by decide)
    exact RegsBut.ite (hended.readRow (by decide)) (hended.writeRow (by decide) q.origin (by decide))

theorem execRightsCmdComplete_regs (h : execRightsCmdComplete s = .next t) : RegsBut (TPT_RSTAT :: TPT_RBASE_LO ::
    TPT_RBASE_HI :: TPT_RCNT_LO :: TPT_RCNT_HI :: TPT_ROWN :: [LOG_FRZLOST, LOG_INLOST]) s t := by
  refine RegsBut.of_run h ?_
  split
  · exact RegsBut.refl _ s
  · next r hr =>
    have hended : RegsBut (TPT_RSTAT :: TPT_RBASE_LO :: TPT_RBASE_HI :: TPT_RCNT_LO :: TPT_RCNT_HI :: TPT_ROWN ::
        [LOG_FRZLOST, LOG_INLOST]) s s.rightsEnded :=
      RegsBut.set ((RegsBut.refl _ s).putPorts _) (x := TPT_RSTAT_BUSY) 0 (by decide)
    exact hended.rightsEffect (by decide) r (by decide)

theorem execGrantCmdComplete_regs (h : execGrantCmdComplete s = .next t) :
    RegsBut (WIN_GSTAT :: WIN_GBASE :: WIN_GCNT :: WIN_GOWN :: [LOG_FRZLOST, LOG_INLOST]) s t := by
  refine RegsBut.of_run h ?_
  split
  · exact RegsBut.refl _ s
  · next r hr =>
    have hended : RegsBut (WIN_GSTAT :: WIN_GBASE :: WIN_GCNT :: WIN_GOWN :: [LOG_FRZLOST, LOG_INLOST]) s
        s.grantEnded := RegsBut.set ((RegsBut.refl _ s).putWin _) (x := WIN_GSTAT_BUSY) 0 (by decide)
    exact hended.grantEffect (by decide) r (by decide)

theorem execInjectArm_regs (o : Origin) (h : execInjectArm o s = .next t) :
    RegsBut (MEM_INJ_CTL :: [LOG_FRZLOST, LOG_INLOST]) s t := by
  have harmed := (RegsBut.refl (MEM_INJ_CTL :: [LOG_FRZLOST, LOG_INLOST]) s).set 1 (x := MEM_INJ_CTL_ARM) (by decide)
  exact RegsBut.of_run h (RegsBut.ite ((RegsBut.refl _ s).logPriv (by decide) _ _ _ _)
    (RegsBut.injEvent (harmed.putMemu _) (by decide) _ _))

theorem execInjectDisarm_regs (o : Origin) (h : execInjectDisarm o s = .next t) :
    RegsBut (MEM_INJ_CTL :: [LOG_FRZLOST, LOG_INLOST]) s t :=
  RegsBut.of_run h (RegsBut.ite (((RegsBut.refl _ s).set 0 (x := MEM_INJ_CTL_ARM) (by decide)).injEvent (by decide) _ _)
    ((RegsBut.refl _ s).logPriv (by decide) _ _ _ _))

theorem execMemoryWrite_regs (o : Origin) (m : MemAt) (v : Word) (h : execMemoryWrite o m v s = .next t) :
    RegsBut (MEM_INJ_CTL :: [LOG_FRZLOST, LOG_INLOST]) s t := by
  cases hm : m.exists? with
  | false =>
    rw [execMemoryWrite, onWord_none hm] at h
    cases h
  | true =>
    rw [execMemoryWrite, onWord, if_pos hm] at h
    exact RegsBut.of_run h ((RegsBut.refl _ s).requestWrite (by decide) _ m _ (by decide))

theorem State.aluCmd_regs {c : Cluster} {op : Nat} {dst a : Fin 16} {b : AluB} (h : s.aluCmd c op dst a b = .next t) :
    RegsBut [SEQ_GREG c dst] s t :=
  RegsBut.of_run h (RegsBut.ite ((RegsBut.refl _ s).alu c op dst a b List.mem_cons_self) (RegsBut.refl _ s))

end

end Sys2Proof.Machine

/-! The statement on the registers that the budget, rights, grant, injection and ALU commands may change. -/

namespace Sys2Proof.Proofs

open Sys2Proof.Machine

/-- Settles O59: each command is followed through the functions that it runs. -/
theorem commandRegisterFrames : Obligations.CommandRegisterFrames := by
  unfold Obligations.CommandRegisterFrames
  rintro o c dst x b m v s t ev rfl
  have hbudget : ∀ op, s.run (fun s => s.budgetCmd o op) = .next t →
      RegsBut (PRM_BSTAT :: [LOG_FRZLOST, LOG_INLOST]) s t := fun op h => RegsBut.of_run h
    ((RegsBut.refl _ s).budgetCmd (by decide) o op (by decide))
  have hrights : ∀ op, s.run (fun s => s.rightsCmd o op) = .next t →
      RegsBut (TPT_RSTAT :: [LOG_FRZLOST, LOG_INLOST]) s t := fun op h => RegsBut.of_run h
    ((RegsBut.refl _ s).rightsCmd (by decide) o op (by decide))
  have hgrant : ∀ op, s.run (fun s => s.grantCmd o op) = .next t →
      RegsBut (WIN_GSTAT :: [LOG_FRZLOST, LOG_INLOST]) s t := fun op h => RegsBut.of_run h
    ((RegsBut.refl _ s).grantCmd (by decide) o op (by decide))
  exact ⟨hbudget 1, hbudget 2, execBcmdComplete_regs, hrights 1, hrights 2, hrights 3, execRightsCmdComplete_regs,
    hgrant 1, hgrant 2, hgrant 3, execGrantCmdComplete_regs, execInjectArm_regs o, execInjectDisarm_regs o,
    execMemoryWrite_regs o m v, State.aluCmd_regs, State.aluCmd_regs, State.aluCmd_regs⟩

end Sys2Proof.Proofs

/-! A privileged write to the budget registers while a budget command runs (R89, R108). -/

namespace Sys2Proof.Machine

/-- The registers that a running budget command holds. -/
abbrev budgetRegs : List Nat := [PRM_BSEL, PRM_BVAL, PRM_BDEPTH, PRM_BCMD]

/-- Their rows in the register table. -/
abbrev budgetIds : List RegId := [.PRM_BSEL, .PRM_BVAL, .PRM_BDEPTH, .PRM_BCMD]

section
variable {a : Nat} (ha : a ∈ budgetRegs)
include ha

theorem findReg_budget : ∃ r ix, findReg a = some (r, ix) ∧ r.id ∈ budgetIds := by
  have hany : ∀ b ∈ budgetRegs, (findReg b).any (fun x => decide (x.1.id ∈ budgetIds)) = true := by
    decide
  have hhere := hany a ha
  cases hr : findReg a with
  | none =>
    rw [hr] at hhere
    cases hhere
  | some x =>
    rw [hr] at hhere
    exact ⟨x.1, x.2, rfl, of_decide_eq_true hhere⟩

/-- They lie among the registers whose writes `coreWrite` takes, on neither logic die. -/
theorem budgetRegs_core : 0x600000 ≤ a ∧ a < 0x700000 := by
  revert a
  decide

theorem State.regLost_budget (s : State) (ix : List Nat) : s.regLost a ix = false := by
  obtain ⟨hlow, hhigh⟩ := budgetRegs_core ha
  have hdie : dieOfReg a ix = none := by
    unfold dieOfReg
    repeat rw [if_neg (by omega)]
  rw [State.regLost, hdie]

/-- A write by a privileged agent to one of them is a core write. -/
theorem State.writeAt_budget (s : State) {o : Origin} (ho : tenantOf o = none) {r : RegDef} {ix : List Nat}
    (hr : findReg a = some (r, ix)) (v : Nat) : s.writeAt o a v = s.coreWrite o r (ix.headD 0) a v := by
  obtain ⟨hlow, hhigh⟩ := budgetRegs_core ha
  unfold State.writeAt
  simp only [hr, s.regLost_budget ha, ho, Bool.false_eq_true, if_false]
  rw [if_neg (by omega), if_neg (by omega), if_neg (by omega)]

end

/-- While a budget command runs, a core write to one of them is logged as BUSY and does nothing else. -/
theorem State.coreWrite_budget_busy (s : State) (hbusy : s.is PRM_BSTAT_BUSY = true) (o : Origin) {r : RegDef}
    (hid : r.id ∈ budgetIds) (i a v : Nat) : s.coreWrite o r i a v = s.budgetEvent (orgOf o) 5 := by
  simp only [budgetIds, List.mem_cons, List.not_mem_nil, or_false] at hid
  unfold State.coreWrite
  rcases hid with hid | hid | hid | hid <;> rw [hid] <;> exact if_pos hbusy

end Sys2Proof.Machine

namespace Sys2Proof.Proofs

open Sys2Proof.Machine

/-- Settles O56: each of the four registers is written by a core write, which a running command turns away. -/
theorem busyBudgetWritesDropped : Obligations.BusyBudgetWritesDropped := by
  unfold Obligations.BusyBudgetWritesDropped
  intro o a v s hs hview hpriv hbusy ha
  obtain ⟨r, ix, hr, hid⟩ := findReg_budget ha
  have hwrite : s.writeReg o a.toNat v.toNat = s.budgetEvent (orgOf o) 5 := by
    rw [s.writeReg_inside _ hview, s.writeAt_budget ha hpriv hr, s.coreWrite_budget_busy hbusy o hid]
  rw [registerWrite_eq, s.run_live _ hs, hwrite]
  rfl

end Sys2Proof.Proofs

/-! The budget commands and the wedge boundary (R56, R89, R90, R92, R247). -/

namespace Sys2Proof.Machine

/-! ### Starting a budget command (R89, R108) -/

theorem State.budgetCmd_busy (s : State) (o : Origin) (op : Nat) (hbusy : s.is PRM_BSTAT_BUSY = true) :
    s.budgetCmd o op = s.budgetEvent (orgOf o) 5 := if_pos hbusy

theorem State.budgetCmd_idle (s : State) (o : Origin) {op : Nat} (hbusy : s.is PRM_BSTAT_BUSY = false)
    (hop : ¬ (op = 0 ∨ op = 3)) : s.budgetCmd o op =
      if op = 1 then (s.budgetBegun o op).logPriv o PRM_BCMD 1 0 else s.budgetBegun o op := by
  unfold State.budgetCmd
  rw [if_neg (ne_true_of_eq_false hbusy), if_neg hop]
  rfl

theorem State.budgetBegun_fields (s : State) (o : Origin) (op : Nat) :
    (s.budgetBegun o op).get PRM_BSTAT_BUSY = 1 ∧ (s.budgetBegun o op).ports.bcmd = some ⟨op, 0, orgOf o⟩ :=
  ⟨State.get_set_fits _ _ 1 (by decide) (by decide), congrArg Ports.bcmd (State.set_ports _ _ _)⟩

theorem State.budgetCmd_begins (s : State) (o : Origin) {op : Nat} (hbusy : s.is PRM_BSTAT_BUSY = false)
    (hop : ¬ (op = 0 ∨ op = 3)) : (s.budgetCmd o op).get PRM_BSTAT_BUSY = 1 ∧
      (s.budgetCmd o op).ports.bcmd = some ⟨op, 0, orgOf o⟩ := by
  rw [s.budgetCmd_idle o hbusy hop]
  split
  · rw [State.logPriv_get _ _ _ _ _ _ (by decide) (by decide), State.logPriv_ports]
    exact s.budgetBegun_fields o op
  · exact s.budgetBegun_fields o op

/-! ### The end of a budget command (R89, R90) -/

section
variable (s : State)

theorem State.budgetEnded_get {x : Fld} (h : PRM_BSTAT_BUSY.apart x) : s.budgetEnded.get x = s.get x :=
  State.get_set_other _ _ _ _ (by decide) h

theorem State.budgetEnded_tl : s.budgetEnded.tl = s.tl := State.set_tl _ _ _

theorem State.budgetEnded_tlOf (c : Nat) : s.budgetEnded.tlOf c = s.tlOf c :=
  congrArg (tget Timeline.init · c) s.budgetEnded_tl

theorem State.budgetEnded_selRow : s.budgetEnded.selRow = s.selRow := by
  simp (disch := decide) only [State.selRow, State.budgetEnded_get]

theorem State.budgetEnded_selError : s.budgetEnded.selError = s.selError := by
  unfold State.selError State.rowError State.capOf State.wpr
  simp (disch := decide) only [State.budgetEnded_get, s.budgetEnded_selRow, s.budgetEnded_tlOf]

theorem State.budgetEnded_idle : s.budgetEnded.get PRM_BSTAT_BUSY = 0 ∧ s.budgetEnded.ports.bcmd = none :=
  ⟨State.get_set_fits _ _ 0 (by decide) (by decide), congrArg Ports.bcmd (State.set_ports _ _ _)⟩

theorem State.rowError_lt (t : Timeline) (k : Option Nat) : s.rowError t k < 2 ^ 3 := by
  cases k with
  | none => exact show 4 < 2 ^ 3 by decide
  | some k =>
    unfold State.rowError
    simp only
    repeat' split
    all_goals decide

theorem State.showRow_ports (r : Row) : (s.showRow r).ports = s.ports := by
  simp only [State.showRow, State.set_ports]

theorem State.showRow_get_other {r : Row} {x : Fld} (hx : x.addr ∉ [PRM_BVAL, PRM_BDEPTH, PRM_BBAL, PRM_BBOR]) :
    (s.showRow r).get x = s.get x := by
  have hne : ∀ y : Fld, y.addr ∈ [PRM_BVAL, PRM_BDEPTH, PRM_BBAL, PRM_BBOR] → x.addr ≠ y.addr := fun y hy he =>
    hx (he ▸ hy)
  unfold State.showRow
  repeat rw [State.get_set_reg _ _ _ _ (hne _ (by decide))]

theorem State.showRow_fields {r : Row} (hshare : r.share < 2 ^ 16) (hceiling : r.ceiling < 2 ^ 16)
    (hdepth : r.depth < 2 ^ 7) (hborrowed : r.borrowed < 2 ^ 16) :
    (s.showRow r).get PRM_BVAL_SHARE = r.share ∧ (s.showRow r).get PRM_BVAL_CEILING = r.ceiling ∧
      (s.showRow r).get PRM_BDEPTH_DEPTH = r.depth ∧ (s.showRow r).get PRM_BBAL_BALANCE = unsign 32 r.balance ∧
      (s.showRow r).get PRM_BBOR_BORROWED = r.borrowed := by
  have hbalance : unsign 32 r.balance < 2 ^ 32 := by
    unfold unsign
    omega
  unfold State.showRow
  refine ⟨?_, ?_, ?_, ?_, ?_⟩
  · repeat rw [State.get_set_other _ _ PRM_BVAL_SHARE _ (by decide) (by decide)]
    exact State.get_set_fits _ _ _ (by decide) hshare
  · repeat rw [State.get_set_other _ _ PRM_BVAL_CEILING _ (by decide) (by decide)]
    exact State.get_set_fits _ _ _ (by decide) hceiling
  · repeat rw [State.get_set_other _ _ PRM_BDEPTH_DEPTH _ (by decide) (by decide)]
    exact State.get_set_fits _ _ _ (by decide) hdepth
  · rw [State.get_set_other _ _ PRM_BBAL_BALANCE _ (by decide) (by decide)]
    exact State.get_set_fits _ _ _ (by decide) hbalance
  · exact State.get_set_fits _ _ _ (by decide) hborrowed

/-! #### READ and WRITE of the row that PRM.BSEL names -/

theorem State.readRow_shows {k : Nat} {r : Row} (hsel : s.selRow = some k)
    (hr : r = tget Row.init (s.tlOf (s.get PRM_BSEL_CLUSTER)).rows k) :
    s.readRow = (s.showRow r).set PRM_BSTAT_ERR 0 := by
  unfold State.readRow
  simp only [hsel, hr]

theorem State.readRow_none (hsel : s.selRow = none) : s.readRow = s.set PRM_BSTAT_ERR 4 := by
  unfold State.readRow
  simp only [hsel]

theorem State.maybeStaged_get (x : Fld) : s.maybeStaged.get x = s.get x := by
  unfold State.maybeStaged
  split <;> rfl

theorem State.maybeStaged_ports : s.maybeStaged.ports = s.ports := by
  unfold State.maybeStaged
  split <;> rfl

theorem State.writeRow_get {x : Fld} (hfrz : x.addr ≠ LOG_FRZLOST) (hlog : x.addr ≠ LOG_INLOST) (origin : Nat) :
    (s.writeRow origin).get x = (s.maybeStaged.set PRM_BSTAT_ERR s.selError).get x :=
  State.event_get _ _ _ _ x hfrz hlog

theorem State.writeRow_err (origin : Nat) : (s.writeRow origin).get PRM_BSTAT_ERR = s.selError := by
  rw [s.writeRow_get (by decide) (by decide)]
  exact State.get_set_fits _ _ _ (by decide) (s.rowError_lt _ _)

theorem State.writeRow_busy (origin : Nat) : (s.writeRow origin).get PRM_BSTAT_BUSY = s.get PRM_BSTAT_BUSY := by
  rw [s.writeRow_get (by decide) (by decide), State.get_set_other _ _ _ _ (by decide) (by decide), s.maybeStaged_get]

theorem State.writeRow_ports (origin : Nat) : (s.writeRow origin).ports = s.ports := by
  unfold State.writeRow State.budgetEvent
  rw [State.event_ports, State.set_ports, s.maybeStaged_ports]

theorem State.writeRow_tl (origin : Nat) : (s.writeRow origin).tl = s.maybeStaged.tl := by
  unfold State.writeRow State.budgetEvent
  rw [State.event_tl, State.set_tl]

/-- A row write in error leaves the timelines. -/
theorem State.writeRow_refused (h : s.selError ≠ 0) (origin : Nat) : (s.writeRow origin).tl = s.tl := by
  rw [s.writeRow_tl, State.maybeStaged, if_neg h]

/-- An accepted row write stages the three values. -/
theorem State.writeRow_staged (h : s.selError = 0) {k : Nat} (hsel : s.selRow = some k) (origin : Nat) :
    (tget Row.init ((s.writeRow origin).tlOf (s.get PRM_BSEL_CLUSTER)).rows k).staged =
      some (s.get PRM_BVAL_SHARE, s.get PRM_BVAL_CEILING, s.get PRM_BDEPTH_DEPTH) := by
  rw [State.tlOf, s.writeRow_tl, State.maybeStaged, if_pos h, hsel, ← State.tlOf]
  unfold State.stageRow
  simp only [State.setTl_tlOf_same, Option.getD_some, tget_tset_same]

end

section
variable {s : State} {q : Running} (hs : s.live = true) (hq : s.ports.bcmd = some q)
include hs hq

theorem execBcmdComplete_shows {k : Nat} {r : Row} (hop : q.op = 1) (hsel : s.selRow = some k)
    (hr : r = tget Row.init (s.tlOf (s.get PRM_BSEL_CLUSTER)).rows k) : execBcmdComplete s =
      .next ((s.budgetEnded.showRow r).set PRM_BSTAT_ERR 0) := by
  rw [execBcmdComplete_running hs hq, if_pos hop, State.readRow_shows _ (s.budgetEnded_selRow.trans hsel)]
  rw [s.budgetEnded_tlOf, s.budgetEnded_get (by decide)]
  exact hr

theorem execBcmdComplete_noRow (hop : q.op = 1) (hsel : s.selRow = none) : execBcmdComplete s =
    .next (s.budgetEnded.set PRM_BSTAT_ERR 4) := by
  rw [execBcmdComplete_running hs hq, if_pos hop, State.readRow_none _ (s.budgetEnded_selRow.trans hsel)]

theorem execBcmdComplete_writes (hop : q.op = 2) : execBcmdComplete s = .next (s.budgetEnded.writeRow q.origin) := by
  rw [execBcmdComplete_running hs hq, if_neg (by omega)]

end

/-! ### The wedge boundary (R56) -/

section
variable (c : Cluster) (b : Boundary) {s : State} (hs : s.live = true)
include hs

theorem execWedgeBoundary_unanchored (h : ((s.pcbWedge c).servoOf c).anchored = false) :
    execWedgeBoundary c b s = .next (s.pcbWedge c) := by
  unfold execWedgeBoundary
  rw [s.run_live _ hs]
  simp only [h, Bool.not_false, if_true]

theorem execWedgeBoundary_anchored (h : ((s.pcbWedge c).servoOf c).anchored = true) {t u : State}
    (ht : t = ((s.pcbWedge c).retire c).deferWrites c) (hu : u = (t.beginStripes c (t.tlOf c).now).clrLate c) :
    execWedgeBoundary c b s = .next (State.tidy (State.beginCells
      (if u.indexOf c (t.tlOf c).now = 0 then u.revolution c b else u) c)) := by
  unfold execWedgeBoundary
  rw [s.run_live _ hs, hu, ht]
  simp only [h, Bool.not_true, Bool.false_eq_true, if_false]

end

end Sys2Proof.Machine

/-! The statement on the wedge boundary and the budget commands. -/

namespace Sys2Proof.Proofs

open Sys2Proof.Machine

/-- Settles O30: a boundary by whether its wedge is the index, a budget command's end by its operation and its row. -/
theorem boundaryAndBudgetComplete : Obligations.BoundaryAndBudgetComplete := by
  unfold Obligations.BoundaryAndBudgetComplete
  refine ⟨fun c b s hs h => execWedgeBoundary_unanchored c b hs h, fun c b s t u hs h ht hu => ?_, fun o s hs => ?_,
    fun s q hs hq => ⟨fun k r hop hsel hr hshare hceiling hdepth hborrowed => ?_, fun hop hsel => ?_, fun hop => ?_⟩⟩
  · have hrun : exec (.wedgeBoundary c b) s = _ := execWedgeBoundary_anchored c b hs h ht hu
    exact ⟨fun hindex => by rw [hrun, if_neg hindex], fun hindex => by rw [hrun, if_pos hindex]⟩
  · have hcmd : ∀ op, s.run (fun s => s.budgetCmd o op) = .next (s.budgetCmd o op) := fun op => s.run_live _ hs
    refine ⟨fun hbusy => ⟨(hcmd 1).trans ?_, (hcmd 2).trans ?_⟩, fun hbusy => ⟨⟨_, hcmd 1, ?_⟩, ⟨_, hcmd 2, ?_⟩⟩⟩
    · rw [s.budgetCmd_busy o 1 hbusy]
    · rw [s.budgetCmd_busy o 2 hbusy]
    · exact s.budgetCmd_begins o hbusy (by decide)
    · exact s.budgetCmd_begins o hbusy (by decide)
  · obtain ⟨hidle, hnone⟩ := s.budgetEnded_idle
    obtain ⟨hS, hC, hD, hBal, hBor⟩ := s.budgetEnded.showRow_fields hshare hceiling hdepth hborrowed
    refine ⟨_, execBcmdComplete_shows hs hq hop hsel hr, ?_, ?_, ?_, ?_, ?_, ?_, ?_, ?_⟩
    · rw [State.get_set_other _ _ _ _ (by decide) (by decide), State.showRow_get_other _ (by decide), hidle]
    · rw [State.set_ports, State.showRow_ports, hnone]
    · rw [State.get_set_reg _ _ _ _ (by decide), hS]
    · rw [State.get_set_reg _ _ _ _ (by decide), hC]
    · rw [State.get_set_reg _ _ _ _ (by decide), hD]
    · rw [State.get_set_reg _ _ _ _ (by decide), hBal]
    · rw [State.get_set_reg _ _ _ _ (by decide), hBor]
    · exact State.get_set_fits _ _ 0 (by decide) (by decide)
  · obtain ⟨hidle, hnone⟩ := s.budgetEnded_idle
    refine ⟨_, execBcmdComplete_noRow hs hq hop hsel, ?_, ?_, State.get_set_fits _ _ 4 (by decide) (by decide)⟩
    · rw [State.get_set_other _ _ _ _ (by decide) (by decide), hidle]
    · rw [State.set_ports, hnone]
  · obtain ⟨hidle, hnone⟩ := s.budgetEnded_idle
    have hget : ∀ x : Fld, PRM_BSTAT_BUSY.apart x → s.budgetEnded.get x = s.get x := fun x hx => s.budgetEnded_get hx
    have herr := s.budgetEnded.writeRow_err q.origin
    refine ⟨_, execBcmdComplete_writes hs hq hop, ?_, ?_, ?_, fun k hsel hok => ?_, fun hbad => ?_⟩
    · rw [State.writeRow_busy, hidle]
    · rw [State.writeRow_ports, hnone]
    · rw [herr, s.budgetEnded_selError]
    · have hstaged := s.budgetEnded.writeRow_staged (herr.symm.trans hok) (s.budgetEnded_selRow.trans hsel) q.origin
      rwa [hget _ (by decide), hget _ (by decide), hget _ (by decide), hget _ (by decide)] at hstaged
    · rw [State.writeRow_refused _ (fun h => hbad (herr.trans h)), s.budgetEnded_tl]

end Sys2Proof.Proofs

/-! The commands of a lane: arms, write starts, its loss and its write inhibit (R92, R164 to R170, R310 to R314). -/

namespace Sys2Proof.Machine

/-! ### Arms (R310, R312, R313) -/

theorem setBits_lane (f : Surface) : setBits 32 (1#32 <<< f.val).toNat = [f.val] := by
  revert f
  decide

/-- A lane in service whose cell has no live owner takes an arm before a power failure. -/
theorem State.armLane_unowned {s : State} {c f : Nat} (hlost : s.laneIsLost c f = false)
    (hreset : s.resetting.contains (.lane c f) = false)
    (hown : s.cmdByHandle? ((s.tlOf c).cellAt (s.tlOf c).now f).owner = none) (hpf : s.is LOOP_PF_STAT_PHASE = false)
    (slot : Nat) (write : Bool) : s.armLane c slot write f = s.setLane c f { s.lane c f with
      arm := some ⟨write, slot, ((s.tlOf c).cellAt (s.tlOf c).now f).owner⟩, ended := false } := by
  unfold State.armLane
  simp only [hlost, hreset, hown, hpf, Option.bind_none, Option.map_none, Option.getD_none, reduceCtorEq, decide_false,
    Bool.and_false, Bool.false_and, Bool.or_self, Bool.false_eq_true, if_false]

section
variable {s : State} (hs : s.live = true) (c : Cluster)
include hs

theorem execLaneArmRead_live (mask slot : BitVec 32) :
    execLaneArmRead c mask slot s = .next (s.armMask c slot.toNat mask.toNat false) := s.run_live _ hs

theorem execLaneArmWrite_live (mask slot : BitVec 32) :
    execLaneArmWrite c mask slot s = .next (s.armMask c slot.toNat mask.toNat true) := s.run_live _ hs

theorem execLaneDisarm_live (mask : BitVec 32) : execLaneDisarm c mask s =
    .next (State.each s (fun f s => s.disarm c f) (setBits 32 mask.toNat)) := s.run_live _ hs

end

theorem State.armMask_lane (s : State) (c slot : Nat) (write : Bool) (f : Surface) :
    s.armMask c slot (1#32 <<< f.val).toNat write = (s.armLane c slot write f).seqEvent c 10 := by
  rw [State.armMask, setBits_lane]
  rfl

/-! ### Write starts (R165 to R168, R180) -/

/-- The bit period of a write is that of its zone's entry. -/
theorem State.loadWriteZone_rate (s : State) (c : Cluster) (f : Surface) (slot : Nat) :
    (s.loadWriteZone c f slot).get (LAN_WRATE_WRATE c f) =
      s.get (RCH_ZTAB_WORD c f (16 * s.slotZone c slot + 2)) % 2 ^ (LAN_WRATE_WRATE c f).w := by
  have hdelays : ∀ t : State, ∀ d : Nat → Nat, RegsBut ((List.range 8).map (LAN_PRECOMP c f)) t
      (State.each t (fun i s => s.set (LAN_PRECOMP_DELAY c f i) (d i)) (List.range 8)) := fun t d =>
    (RegsBut.refl _ t).each fun i hi u hu => hu.set (x := LAN_PRECOMP_DELAY c f i) _ (List.mem_map_of_mem hi)
  have hother : LAN_WRATE c f ∉ (List.range 8).map (LAN_PRECOMP c f) := by
    simp only [List.mem_map, not_exists, not_and, LAN_WRATE, LAN_PRECOMP]
    omega
  unfold State.loadWriteZone
  rw [State.get_of_rd (x := LAN_WRATE_WRATE c f) (hdelays _ _ _ hother)]
  exact State.get_set_same _ _ _ (Nat.le_refl 32)

section
variable {c : Cluster} {f : Surface} {s : State} {a : LaneArm} (hs : s.live = true) (harm : (s.lane c f).arm = some a)
  (hwrite : a.write = true) (hended : (s.lane c f).ended = false) (hidle : (s.lane c f).writing = false)
  (hmode : s.get (LAN_STAT_MODE c f) = 3)
include hs harm hwrite hended hidle hmode

theorem execFragmentWriteStart_starts (hpf : s.get LOOP_PF_STAT_PHASE < 2) (hwinh : s.is (LAN_STAT_WINH c f) = false)
    (hreset : (s.lane c f).idle = false) (hheld : (s.lane c f).held = false) (hlost : s.laneIsLost c f = false) :
    execFragmentWriteStart c f true s = .next ((s.loadWriteZone c f a.slot).setLane c f
      { s.lane c f with writing := true, out := s.writeBits c f a.slot }) := by
  unfold execFragmentWriteStart
  rw [s.run_live _ hs]
  simp only [harm, hwrite, hended, hidle, hpf, hmode, hwinh, hreset, hheld, hlost, decide_true, beq_self_eq_true,
    Bool.not_true, Bool.not_false, Bool.or_self, Bool.and_self, Bool.false_eq_true, if_false, if_true]

theorem execFragmentWriteStart_inhibited (hwinh : s.is (LAN_STAT_WINH c f) = true) {x : Stripes} (hx : x = s.strOf c) :
    execFragmentWriteStart c f true s = .next ((((s.setStr c { x with opened := markCut a.slot f x.opened }).setLane c f
      { s.lane c f with ended := true }).count (LAN_WCUT_COUNT c f)).fragEnd c) := by
  unfold execFragmentWriteStart
  rw [s.run_live _ hs, hx]
  simp only [harm, hwrite, hended, hidle, hmode, hwinh, beq_self_eq_true, Bool.not_true, Bool.and_false,
    Bool.false_and, Bool.or_self, Bool.and_self, Bool.false_eq_true, if_false, if_true]

end

/-! ### Loss and inhibit (R164, R169, R170) -/

theorem execAdcStuck_reading {c : Cluster} {f : Surface} {s : State} (hs : s.live = true)
    (hread : (s.lane c f).read.isSome = true) :
    execAdcStuck c f s = .next ((s.set (LAN_FAULT_ADC_STUCK c f) 1).surfaceLost c f) := by
  unfold execAdcStuck
  rw [s.run_live _ hs, if_pos hread]

section
variable {s : State} {c : Cluster} (hs : s.live = true) (hdie : bitAt (s.get FLT_STAT_DIE_LOST) (dieOf c) = false)
  (o : Origin) (f : Surface)
include hs hdie

theorem execHostWinhWrite_live (b : Bool) : execHostWinhWrite o c f b s =
    .next (((s.set (LAN_CTL_HOST_WINH c f) (if b then 1 else 0)).setWhy c f 3 b).logPriv o (LAN_CTL c f)
      (if b then 1 else 0) 0) := by
  rw [execHostWinhWrite, s.runOn_live _ _ hs hdie]
  cases b <;> rfl

/-- RETIRE is written with HOST_WINH as it was, which is 0 or 1. -/
theorem execLaneRetire_live : execLaneRetire o c f s = .next ((State.set ((State.setWhy (s.set (LAN_CTL_HOST_WINH c f)
    (s.get (LAN_CTL_HOST_WINH c f))) c f 3 (s.is (LAN_CTL_HOST_WINH c f))).logPriv o (LAN_CTL c f)
    (2 + s.get (LAN_CTL_HOST_WINH c f)) 0) (LAN_CTL_RETIRE c f) 1).surfaceLost c f) := by
  have hbit : s.get (LAN_CTL_HOST_WINH c f) < 2 := s.get_lt _
  rw [execLaneRetire, s.runOn_live _ _ hs hdie, State.is]
  generalize s.get (LAN_CTL_HOST_WINH c f) = v at hbit ⊢
  obtain rfl | rfl : v = 0 ∨ v = 1 := by omega
  · rfl
  · rfl

end

end Sys2Proof.Machine

/-! The statement on the commands of a lane. -/

namespace Sys2Proof.Proofs

open Sys2Proof.Machine

/-- Settles O13: an arm of one lane by the lane it names, a write start by the lane's inhibit, the rest by what is
written to LANs.CTL. -/
theorem laneCommandsComplete : Obligations.LaneCommandsComplete := by
  unfold Obligations.LaneCommandsComplete
  refine ⟨?_, fun c mask slot s hs => ⟨execLaneArmRead_live hs c mask slot, execLaneArmWrite_live hs c mask slot,
    execLaneDisarm_live hs c mask⟩, ?_, ?_, fun c f s hs hread => execAdcStuck_reading hs hread,
    fun o c f b s hs hdie => execHostWinhWrite_live hs hdie o f b,
    fun o c f s hs hdie => execLaneRetire_live hs hdie o f⟩
  · rintro c f slot s hs hlost hreset hown hpf t rfl
    have hread := execLaneArmRead_live hs c (1#32 <<< f.val) slot
    have hwrite := execLaneArmWrite_live hs c (1#32 <<< f.val) slot
    rw [State.armMask_lane, State.armLane_unowned hlost hreset hown hpf] at hread hwrite
    exact ⟨hread, hwrite⟩
  · intro c f s a hs harm hwrite hended hidle hpf hmode hwinh hreset hheld hlost
    exact ⟨execFragmentWriteStart_starts hs harm hwrite hended hidle hmode hpf hwinh hreset hheld hlost,
      s.loadWriteZone_rate c f a.slot⟩
  · intro c f s a hs harm hwrite hended hidle hwinh hmode x hx
    exact execFragmentWriteStart_inhibited hs harm hwrite hended hidle hmode hwinh hx

end Sys2Proof.Proofs

/-! The task ports: hoists and their latch, the take of the admission unit, the TERMINAL of a BUFFERED write, pops and
prefetches (R52, R115, R117, R122, R136, R253, R395). -/

namespace Sys2Proof.Machine

/-! ### Hoists (R50, R113, R115, R117) -/

/-- A hoist kept at its port until LIVE is below DEPTH. -/
def State.holdHoist (s : State) (o : Origin) (n : Nat) : State :=
  State.set { s with ports := { s.ports with held := s.ports.held ++ [(n, originSource o)] } } (TP_HOIST_HOIST n) 1

theorem State.hoist_free {s : State} {n : Nat} (henabled : s.is (TPT_PORT_CFG_ENABLE n) = true)
    (hfree : s.is (TP_HOIST_HOIST n) = false) (o : Origin) :
    s.hoist o n = if s.liveCount n < s.depthOf n then s.latch n (originSource o) else s.holdHoist o n := by
  unfold State.hoist
  simp only [henabled, hfree, Bool.not_true, Bool.or_self, Bool.false_eq_true, if_false]
  by_cases hroom : s.liveCount n < s.depthOf n
  · rw [if_neg (Nat.not_le_of_lt hroom), if_pos hroom]
  · rw [if_pos (Nat.le_of_not_lt hroom), if_neg hroom]
    rfl

theorem State.hoist_dropped {s : State} {n : Nat}
    (h : s.is (TPT_PORT_CFG_ENABLE n) = false ∨ s.is (TP_HOIST_HOIST n) = true) (o : Origin) :
    s.hoist o n = s.countSat (TP_DROPS_DROPS n) := by
  refine if_pos ?_
  rcases h with h | h
  · rw [h]
    rfl
  · rw [h, Bool.or_true]

section
variable {s : State} {n : TaskPort} (hs : s.live = true) (hdie : bitAt (s.get FLT_STAT_DIE_LOST) (portDie n) = false)
  (o : Origin)
include hs hdie

/-- A hoist whose OPCODE is the one its command is for. -/
theorem State.run_hoistRow {p : Nat → Bool} (hp : p (s.get (TP_CMD_OPCODE n)) = true) :
    (s.runOn (portDie n) fun s => s.hoistRow o n p) = .next (s.hoist o n) := by
  rw [s.runOn_live _ _ hs hdie, State.hoistRow, if_pos hp]

/-- Each of the four hoists does what a hoist does, for its OPCODE. -/
theorem exec_hoists {t : State} (ht : s.hoist o n = t) :
    (s.get (TP_CMD_OPCODE n) = 1 → exec (.hoistRead o n) s = .next t) ∧
    (s.get (TP_CMD_OPCODE n) = 2 → exec (.hoistWrite o n) s = .next t) ∧
    (s.get (TP_CMD_OPCODE n) = 3 → exec (.hoistAbort o n) s = .next t) ∧
    (s.get (TP_CMD_OPCODE n) ∉ [1, 2, 3] → exec (.hoistBadOpcode o n) s = .next t) := by
  subst ht
  refine ⟨fun h => s.run_hoistRow hs hdie o (beq_of_eq h), fun h => s.run_hoistRow hs hdie o (beq_of_eq h),
    fun h => s.run_hoistRow hs hdie o (beq_of_eq h), fun h => s.run_hoistRow hs hdie o ?_⟩
  simpa [and_assoc] using h

end

/-! ### Pops (R136) -/

theorem State.pop_empty {s : State} {n : Nat} (h : s.queueOf n = []) : s.pop n = s := by
  unfold State.pop
  simp only [h]

/-! ### Held hoists (R117) -/

section
variable {s : State} (hs : s.live = true)
include hs

theorem execHeldHoistLatch_room {n : TaskPort} {src : Option (Nat × Nat)}
    (hheld : s.ports.held.find? (fun p => p.1 == n.val) = some (n.val, src)) (hroom : s.liveCount n < s.depthOf n) :
    execHeldHoistLatch n s = .next (State.latch
      { s with ports := { s.ports with held := s.ports.held.filter (fun q => q.1 != n.val) } } n src) := by
  unfold execHeldHoistLatch
  rw [s.run_live _ hs]
  simp only [hheld, hroom, if_true]

/-! ### The admission unit (R52, R103, R104, R122) -/

theorem execAdmissionUnitTake_head {d : Die} (h : Fin 16384) (unit : Fin 4) {met edge : BitVec 8} {u : State} {id : Nat}
    {ids : List Nat} {c : Cmd} (hu : u = (s.refillAhead edge.toNat).meeting met.toNat) (hhead : u.adq d = id :: ids)
    (hc : u.cmd? id = some c) (hwaited : c.th + 8 ≤ u.clk.time)
    (hplaced : (u.predsOf c).any (fun p => p.phase = .queued) = false) :
    execAdmissionUnitTake d h unit met edge s = .next (u.weigh c h unit) := by
  have hready : ¬ (u.now < c.th + 8 ∨ (u.predsOf c).any (fun p => p.phase = .queued) = true) := by
    rintro (hearly | hqueued)
    · exact absurd hearly (Nat.not_lt.mpr hwaited)
    · exact absurd hqueued (ne_true_of_eq_false hplaced)
  unfold execAdmissionUnitTake
  rw [s.run_live _ hs, ← hu]
  simp only [hhead, hc, if_neg hready]

/-! ### The TERMINAL of a BUFFERED write (R253) -/

theorem execBufferedTerminal_due {n : TaskPort} {tag : BitVec 16} {c : Cmd} (hc : (s.liveOf n).find?
    (fun c => c.tag == tag.toNat && c.writes && c.buffered && c.phase = .promised) = some c) (hdue : c.tp ≤ s.clk.time) :
    execBufferedTerminal n tag s = .next (if c.mediaDone = true then (s.endCmd c.id).tidy else
      { s.endCmd c.id with bufRecs := (s.endCmd c.id).bufRecs ++ [⟨c.id, c.burgee, c.lba, c.count⟩] }) := by
  unfold execBufferedTerminal
  rw [s.run_live _ hs]
  simp only [hc, State.now, Nat.not_lt.mpr hdue, if_false]

/-! ### Prefetches (R395) -/

theorem execPrefetchIssue_places {d : Die} {i : Fin 64} {k : Fin 16} {h : Fin 16384} {e : Stream} {x : Nat}
    (he : (s.cacheOf d).streams[i.val]? = some e) (hmay : s.mayPrefetch d (k.val + 1) e = true) {c : Cmd}
    (hc : c = s.prefetchCmd d (k.val + 1) e) (hok : s.prefetchOk c = true)
    (habsent : (List.range c.count).all (fun j => s.present (c.lba + j)) = false) (hx : s.freeHandle h = some x) :
    execPrefetchIssue d i k h s = .next (s.placePrefetch d i { c with handle := x }) := by
  unfold execPrefetchIssue
  rw [s.run_live _ hs]
  simp only [he, ← hc, hmay, hok, habsent, hx, Bool.not_true, Bool.and_false, Bool.false_eq_true, if_false]

end

end Sys2Proof.Machine

/-! The statement on the task ports. -/

namespace Sys2Proof.Proofs

open Sys2Proof.Machine

/-- Settles O8: the four hoists are one, taken or dropped by the state of the port; the other commands have what they
wait for. -/
theorem taskPortsComplete : Obligations.TaskPortsComplete := by
  unfold Obligations.TaskPortsComplete
  refine ⟨?_, fun o n s hs hdie h => exec_hoists hs hdie o (State.hoist_dropped h o),
    fun n s src hs hheld hroom => execHeldHoistLatch_room hs hheld hroom, ?_,
    fun n tag s c hs hc hdue => execBufferedTerminal_due hs hc hdue, fun n s hs hdie => ?_, ?_⟩
  · rintro o n s hs hdie henabled hfree t rfl
    exact exec_hoists hs hdie o (State.hoist_free henabled hfree o)
  · intro d h unit met edge s u id ids c hs hu hhead hc hwaited hplaced
    exact execAdmissionUnitTake_head hs h unit hu hhead hc hwaited hplaced
  · have hpop : execCqPop n s = .next (s.pop n) := s.runOn_live _ _ hs hdie
    refine ⟨hpop, fun hempty => ?_⟩
    rw [State.pop_empty hempty] at hpop
    exact hpop
  · intro d i k h s e x hs he hmay c hc hok habsent hx
    exact execPrefetchIssue_places hs he hmay hc hok habsent hx

end Sys2Proof.Proofs
